-- ==== Sys2Proof/Word.lean ====
section
/-! DEFINITION. The word types of the HB4820: registers are 32 bits wide (R11), memory is byte-addressed (R5). -/

namespace Sys2Proof

/-- A 32-bit register word (R11). -/
abbrev Word := BitVec 32

/-- One byte of memory (R5). -/
abbrev Byte := BitVec 8

end Sys2Proof
end

