-- ==== Sys2Proof/Syntax.lean ====
section
/-! DEFINITION. The commands of the block: one constructor of `Instr` per row of the table of operations and events,
with the operands each row takes. Operands a row's rule measures or receives from outside the part (an edge's instant,
a measured offset, a received frame, a microphone's bits) come with the command.
(DESIGN CHOICE, log entries 11 and 63). -/

namespace Sys2Proof

/-- Where a Denrek command came from: the mailbox of a host port, or a ring pair (R421). -/
inductive Src where
  | mbox (port : Nat)
  | ring (r : Nat)
deriving DecidableEq, Repr

/-- One Denrek command: its origin, the SEQ its completion will carry on a ring (R477; 0 on a mailbox) and the 64
bytes of its descriptor, byte 0 in bits [7:0] (R414's table). -/
structure Desc where
  src : Src
  seq : Nat
  raw : BitVec 512
deriving DecidableEq, Repr

/-- An initiator of register accesses, each with its own pair latch (R14): a host port, the Sett controller, a Marten
core, or the debug port. -/
inductive Initiator where
  | port (p : Nat)
  | sett
  | marten (n : Nat)
  | debug
deriving DecidableEq, Repr

/-- One output element of a Lynx tile (R335, R336): activations, weights, bias, multiplier, shift, output zero point,
whether the output is int16, and the activation table it passes (empty: none). -/
structure TileElem where
  xs : List Int
  ws : List Int
  bias : Int
  mult : Nat
  shift : Nat
  zp : Int
  wide : Bool
  lut : List Int
deriving DecidableEq, Repr

/-- The commands: one constructor per row of the table of operations and events. -/
inductive Instr where
  /-- PAIR_LO_READ (R14). -/
  | pairLoRead (ini : Initiator) (addr : Nat)
  /-- PAIR_LO_WRITE (R23). -/
  | pairLoWrite (ini : Initiator) (addr : Nat) (v : Word)
  /-- PAIR_HI_WRITE (R23). -/
  | pairHiWrite (ini : Initiator) (addr : Nat) (v : Word)
  /-- REGISTER_WRITE (R12). -/
  | registerWrite (ini : Initiator) (addr size : Nat) (v : Word)
  /-- REGISTER_READ_CLEAR (R12). -/
  | registerReadClear (ini : Initiator) (addr size : Nat)
  /-- HOP_BOUNDARY (R451). -/
  | hopBoundary
  /-- SYNC_OVERFLOW_APPLY (R483). -/
  | syncOverflowApply
  /-- REF_LOST (R48). -/
  | refLost (src edge : Nat) (band : Option Int) (freq : Int) (more : Bool)
  /-- REF_INITIAL_QUALIFY (R49). -/
  | refInitialQualify (src : Nat) (edges : List Nat) (ofs freq : Int) (more : Bool)
  /-- REF_REQUALIFY (R49). -/
  | refRequalify (src : Nat) (edges : List Nat) (ofs freq : Int) (more : Bool)
  /-- REF_SWITCH_DONE (R52). -/
  | refSwitchDone
  /-- XTAL_LOST (R44). -/
  | xtalLost
  /-- AUDIO_PLL_LOCK (R56). -/
  | audioPllLock
  /-- FAST_COUNT_HANDOVER (R56). -/
  | fastCountHandover
  /-- CLK_ALARM (R60). -/
  | clkAlarm
  /-- SENSE_SYNC_PULSE (R239). -/
  | senseSyncPulse (n : Nat)
  /-- WAKE_HOLD_END (R78). -/
  | wakeHoldEnd
  /-- LYNX_IDLE_GATE (R79). -/
  | lynxIdleGate (n : Nat)
  /-- DRAIN_DONE (R80). -/
  | drainDone
  /-- DRAIN_TIMEOUT (R80). -/
  | drainTimeout
  /-- LYNX_UNGATE (R83). -/
  | lynxUngate (railMv : Nat)
  /-- PARK_COMMIT (R81). -/
  | parkCommit
  /-- WAKE_DETECT (R85). -/
  | wakeDetect (pins : Nat) (wakeIn : List Bool) (wheel : List Nat)
  /-- WAKE_COMPLETE (R87). -/
  | wakeComplete (digestsOk : Bool)
  /-- THERMAL_SAMPLE (R88). -/
  | thermalSample (sensors : List Int)
  /-- KWS_FRAME (R89). -/
  | kwsFrame (scores : List Nat) (lastSample : Nat) (audio : List (BitVec 16))
  /-- DORMOUSE_HIT_VALID_WRITE (R90). -/
  | dormouseHitValidWrite
  /-- WAKE_OUT_RELEASE (R86). -/
  | wakeOutRelease
  /-- POR_ASSERT (R104). -/
  | porAssert
  /-- POR_RELEASE (R108). -/
  | porRelease (straps : Nat) (vio33 : Bool)
  /-- AON_BROWNOUT (R607). -/
  | aonBrownout
  /-- RESET_N_PULSE (R104). -/
  | resetNPulse (lowNs : Nat)
  /-- CORE_RST_WRITE (R102). -/
  | coreRstWrite
  /-- SRAM_FILL_DONE (R103). -/
  | sramFillDone
  /-- BOOT_SOURCE_VERIFY (R113). -/
  | bootSourceVerify (bundle : List Byte) (otpFail eccFail : Bool)
  /-- SYS_DL_GO (R111). -/
  | sysDlGo (port : Nat)
  /-- BOOT_READY (R123). -/
  | bootReady
  /-- WATCHDOG_KICK (R121). -/
  | watchdogKick (key : Nat)
  /-- WATCHDOG_EXPIRE (R121). -/
  | watchdogExpire
  /-- PERST_N_ASSERT (R107). -/
  | perstNAssert
  /-- DEC_OUTPUT_STROBE (R133). -/
  | decOutputStrobe (ch preset : Nat) (bits : List Bool)
  /-- DEC_STUCK_DETECT (R146). -/
  | decStuckDetect (ch : Nat) (level : Bool)
  /-- DEC_BLOCK_COMPLETE (R141). -/
  | decBlockComplete (ch : Nat)
  /-- SYNC_IN_EDGE (R135). -/
  | syncInEdge (rising : Bool)
  /-- DEC_SYNC_GO (R135). -/
  | decSyncGo
  /-- DEC_SYNC_RESET (R136). -/
  | decSyncReset
  /-- DEC_SWAP_REQUEST (R138). -/
  | decSwapRequest (p : Nat)
  /-- DEC_BANK_SWAP (R138). -/
  | decBankSwap (p : Nat)
  /-- DEC_SET_CLOCKS (R150). -/
  | decSetClocks (d : Desc)
  /-- DEC_OPEN_CHANNEL (R149). -/
  | decOpenChannel (d : Desc)
  /-- DEC_CLOSE_CHANNEL (R149). -/
  | decCloseChannel (d : Desc)
  /-- DEC_SET_BUFFER (R140). -/
  | decSetBuffer (d : Desc)
  /-- DEC_SET_DETECTOR (R145). -/
  | decSetDetector (d : Desc)
  /-- DEC_READ_DETECTORS (R144). -/
  | decReadDetectors (d : Desc)
  /-- DEC_LOAD_COEF (R138). -/
  | decLoadCoef (d : Desc)
  /-- DEC_SWAP_BANK (R154). -/
  | decSwapBank (d : Desc)
  /-- DEC_SYNC (R135). -/
  | decSync (d : Desc)
  /-- DEC_STATUS (R447). -/
  | decStatus (d : Desc)
  /-- TDM_SLAVE_FS_EDGE (R164). -/
  | tdmSlaveFsEdge (g pos period : Nat)
  /-- TDM_FS_MISSING (R176). -/
  | tdmFsMissing (g : Nat)
  /-- TDM_CLK_LOST (R177). -/
  | tdmClkLost (g pos : Nat)
  /-- TX_SLOT_FETCH (R168). -/
  | txSlotFetch (n l k : Nat)
  /-- RX_FRAME_RECEIVE (R166). -/
  | rxFrameReceive (n l : Nat) (stamp : Nat) (words : List Nat)
  /-- TDM_FIFO_REFILL (R166). -/
  | tdmFifoRefill (n l : Nat)
  /-- TDM_FIFO_DRAIN (R166). -/
  | tdmFifoDrain (n l : Nat)
  /-- TDM_TRIG_GO (R170). -/
  | tdmTrigGo
  /-- START_IN_EDGE (R170). -/
  | startInEdge (rising : Bool)
  /-- TDM_TRIGGER (R170). -/
  | tdmTrigger
  /-- TDM_GO_LIVE (R170). -/
  | tdmGoLive (n d : Nat)
  /-- TDM_CTRL_STOP (R171). -/
  | tdmCtrlStop (n d : Nat)
  /-- TDM_TAIL_END (R171). -/
  | tdmTailEnd (n d : Nat)
  /-- TDM_SILENT_CHANGE (R172). -/
  | tdmSilentChange (n l k : Nat)
  /-- TDM_ZC_TIMEOUT (R172). -/
  | tdmZcTimeout (n l k : Nat)
  /-- MUTE_N_CHANGE (R226). -/
  | muteNChange (high : Bool)
  /-- TDM_CONFIG_CLOCK (R179). -/
  | tdmConfigClock (d : Desc)
  /-- TDM_CONFIG_DIR (R180). -/
  | tdmConfigDir (d : Desc)
  /-- TDM_SET_SLOTS (R182). -/
  | tdmSetSlots (d : Desc)
  /-- TDM_SET_RING (R165). -/
  | tdmSetRing (d : Desc)
  /-- TDM_START (R170). -/
  | tdmStart (d : Desc)
  /-- TDM_STOP (R171). -/
  | tdmStop (d : Desc)
  /-- TDM_SET_MUTE (R173). -/
  | tdmSetMute (d : Desc)
  /-- TDM_STATUS (R447). -/
  | tdmStatus (d : Desc)
  /-- ASRC_TRACK_UPDATE (R195). -/
  | asrcTrackUpdate (n r stamp : Nat)
  /-- ASRC_OUTPUT_SAMPLE (R197). -/
  | asrcOutputSample (n : Nat)
  /-- ASRC_OUTWARD_READ (R198). -/
  | asrcOutwardRead (n : Nat)
  /-- SPDIF_FRAME_RECEIVE (R201). -/
  | spdifFrameReceive (a b : Nat) (stamp period : Nat) (blockStart biphaseErr : Bool)
  /-- SPDIF_LOCK_LOSS (R200). -/
  | spdifLockLoss
  /-- GUARD_FRAME_RELEASE (R203). -/
  | guardFrameRelease (g : Nat)
  /-- GUARD_RELEASE (R204). -/
  | guardRelease (g : Nat)
  /-- ASRC_OPEN (R208). -/
  | asrcOpen (d : Desc)
  /-- ASRC_CLOSE (R207). -/
  | asrcClose (d : Desc)
  /-- ASRC_STATUS (R447). -/
  | asrcStatus (d : Desc)
  /-- SPDIF_CONFIG (R207). -/
  | spdifConfig (d : Desc)
  /-- SPDIF_STATUS (R447). -/
  | spdifStatus (d : Desc)
  /-- GUARD_CONFIG (R208). -/
  | guardConfig (d : Desc)
  /-- GUST_WORD_READY (R218). -/
  | gustWordReady
  /-- GUST_MONITOR_WINDOW (R228). -/
  | gustMonitorWindow (o : Nat)
  /-- GUST_TRIP_CLEAR (R228). -/
  | gustTripClear (mask : Nat)
  /-- GUST_SWAP_REQUEST (R221). -/
  | gustSwapRequest
  /-- GUST_BANK_SWAP (R221). -/
  | gustBankSwap
  /-- GUST_COPY_DONE (R222). -/
  | gustCopyDone
  /-- GUST_COEF_WRITE (R221). -/
  | gustCoefWrite (ini : Initiator) (v : Word)
  /-- GUST_PATH_WRITE (R219). -/
  | gustPathWrite (ini : Initiator) (p : Nat) (v : Word)
  /-- GUST_LOAD_GO (R223). -/
  | gustLoadGo (ini : Initiator)
  /-- GUST_LOAD_DONE (R223). -/
  | gustLoadDone
  /-- GUST_CONFIG (R230). -/
  | gustConfig (d : Desc)
  /-- GUST_SET_PATHS (R219). -/
  | gustSetPaths (d : Desc)
  /-- GUST_LOAD_COEF (R223). -/
  | gustLoadCoef (d : Desc)
  /-- GUST_SWAP (R233). -/
  | gustSwap (d : Desc)
  /-- GUST_BIND_MARTEN (R225). -/
  | gustBindMarten (d : Desc)
  /-- GUST_SET_MONITOR (R228). -/
  | gustSetMonitor (d : Desc)
  /-- GUST_CLEAR_TRIP (R228). -/
  | gustClearTrip (d : Desc)
  /-- GUST_SET_MUTE (R226). -/
  | gustSetMute (d : Desc)
  /-- GUST_STATUS (R447). -/
  | gustStatus (d : Desc)
  /-- SPORT_BLOCK_COMPLETE (R242). -/
  | sportBlockComplete (n : Nat) (frames : List (List Int))
  /-- SPI_IMU_INT_EDGE (R243). -/
  | spiImuIntEdge (rising : Bool)
  /-- IMU_READ_START (R243). -/
  | imuReadStart
  /-- IMU_READ_DONE (R244). -/
  | imuReadDone (bytes : List Byte)
  /-- WHEEL_TICK_EDGE (R245). -/
  | wheelTickEdge (w : Nat) (rising : Bool)
  /-- WHEEL_EDGE_ACCEPT (R245). -/
  | wheelEdgeAccept (w : Nat)
  /-- EGO_FILTER_STEP (R246). -/
  | egoFilterStep
  /-- DOA_PUSH (R254). -/
  | doaPush (core sw : Nat)
  /-- FOX_PUBLISH (R265). -/
  | foxPublish
  /-- FOX_CONFIG (R270). -/
  | foxConfig (d : Desc)
  /-- SENSE_SET_SYNC (R239). -/
  | senseSetSync (d : Desc)
  /-- SENSE_SET_SPORT (R240). -/
  | senseSetSport (d : Desc)
  /-- SENSE_SET_IMU (R243). -/
  | senseSetImu (d : Desc)
  /-- SENSE_SET_WHEEL (R245). -/
  | senseSetWheel (d : Desc)
  /-- FOX_SET_EGO (R246). -/
  | foxSetEgo (d : Desc)
  /-- FOX_SET_XFORM (R272). -/
  | foxSetXform (d : Desc)
  /-- FOX_SET_FRAMES (R272). -/
  | foxSetFrames (d : Desc)
  /-- FOX_SET_TRACKER (R272). -/
  | foxSetTracker (d : Desc)
  /-- FOX_SENSOR_EN (R268). -/
  | foxSensorEn (d : Desc)
  /-- FOX_GRANT (R270). -/
  | foxGrant (d : Desc)
  /-- FOX_OBSERVE (R255). -/
  | foxObserve (d : Desc)
  /-- FOX_MEASURE (R257). -/
  | foxMeasure (d : Desc)
  /-- FOX_SUBSCRIBE (R270). -/
  | foxSubscribe (d : Desc)
  /-- FOX_READ_TRACKS (R447). -/
  | foxReadTracks (d : Desc)
  /-- FOX_STATUS (R447). -/
  | foxStatus (d : Desc)
  /-- MARTEN_TIMER (R297). -/
  | martenTimer (n : Nat)
  /-- MARTEN_INTERRUPT_ACCEPT (R298). -/
  | martenInterruptAccept (n : Nat)
  /-- FAR_ACCESS_RETURN (R301). -/
  | farAccessReturn (n : Nat)
  /-- MARTEN_DMA_GO (R288). -/
  | martenDmaGo (n c : Nat)
  /-- MARTEN_DMA_END (R288). -/
  | martenDmaEnd (n c : Nat)
  /-- MARTEN_CTRL_RUN (R306). -/
  | martenCtrlRun (n : Nat)
  /-- MARTEN_CTRL_STOP (R306). -/
  | martenCtrlStop (n : Nat)
  /-- MARTEN_SIGNAL_RAISE (R297). -/
  | martenSignalRaise (n : Nat) (v : Word)
  /-- MARTEN_XCORE_RAISE (R297). -/
  | martenXcoreRaise (mask : Nat)
  /-- MARTEN_OPEN (R305). -/
  | martenOpen (d : Desc)
  /-- MARTEN_LOAD_CODE (R304). -/
  | martenLoadCode (d : Desc)
  /-- MARTEN_START (R306). -/
  | martenStart (d : Desc)
  /-- MARTEN_STOP (R306). -/
  | martenStop (d : Desc)
  /-- MARTEN_SIGNAL (R297). -/
  | martenSignal (d : Desc)
  /-- MARTEN_BIND_EVENT (R297). -/
  | martenBindEvent (d : Desc)
  /-- MARTEN_DMA (R288). -/
  | martenDma (d : Desc)
  /-- MARTEN_STATUS (R447). -/
  | martenStatus (d : Desc)
  /-- MARTEN_CLOSE (R303). -/
  | martenClose (d : Desc)
  /-- MPY (R318). -/
  | mMpy (n : Nat) (b : BitVec 128)
  /-- MAC (R318). -/
  | mMac (n : Nat) (b : BitVec 128)
  /-- MSU (R318). -/
  | mMsu (n : Nat) (b : BitVec 128)
  /-- MPYI (R318). -/
  | mMpyi (n : Nat) (b : BitVec 128)
  /-- MACI (R318). -/
  | mMaci (n : Nat) (b : BitVec 128)
  /-- MSUI (R318). -/
  | mMsui (n : Nat) (b : BitVec 128)
  /-- ADDA (R318). -/
  | mAdda (n : Nat) (b : BitVec 128)
  /-- SUBA (R318). -/
  | mSuba (n : Nat) (b : BitVec 128)
  /-- CLRA (R318). -/
  | mClra (n : Nat) (b : BitVec 128)
  /-- MOVA (R283). -/
  | mMova (n : Nat) (b : BitVec 128)
  /-- ASRA (R318). -/
  | mAsra (n : Nat) (b : BitVec 128)
  /-- ASLA (R318). -/
  | mAsla (n : Nat) (b : BitVec 128)
  /-- NEGA (R318). -/
  | mNega (n : Nat) (b : BitVec 128)
  /-- ABSA (R318). -/
  | mAbsa (n : Nat) (b : BitVec 128)
  /-- MOVR (R284). -/
  | mMovr (n : Nat) (b : BitVec 128)
  /-- VADD (R318). -/
  | mVadd (n : Nat) (b : BitVec 128)
  /-- VSUB (R318). -/
  | mVsub (n : Nat) (b : BitVec 128)
  /-- VMAX (R317). -/
  | mVmax (n : Nat) (b : BitVec 128)
  /-- VMIN (R317). -/
  | mVmin (n : Nat) (b : BitVec 128)
  /-- VABS (R318). -/
  | mVabs (n : Nat) (b : BitVec 128)
  /-- VNEG (R318). -/
  | mVneg (n : Nat) (b : BitVec 128)
  /-- VMOV (R317). -/
  | mVmov (n : Nat) (b : BitVec 128)
  /-- VAND (R317). -/
  | mVand (n : Nat) (b : BitVec 128)
  /-- VOR (R317). -/
  | mVor (n : Nat) (b : BitVec 128)
  /-- VXOR (R317). -/
  | mVxor (n : Nat) (b : BitVec 128)
  /-- VMAXI (R320). -/
  | mVmaxi (n : Nat) (b : BitVec 128)
  /-- VMINI (R320). -/
  | mVmini (n : Nat) (b : BitVec 128)
  /-- LD (R321). -/
  | mLd (n : Nat) (b : BitVec 128)
  /-- LDB (R321). -/
  | mLdb (n : Nat) (b : BitVec 128)
  /-- ST (R321). -/
  | mSt (n : Nat) (b : BitVec 128)
  /-- STA (R284). -/
  | mSta (n : Nat) (b : BitVec 128)
  /-- UPD (R321). -/
  | mUpd (n : Nat) (b : BitVec 128)
  /-- LDA (R321). -/
  | mLda (n : Nat) (b : BitVec 128)
  /-- MOVI (R323). -/
  | mMovi (n : Nat) (b : BitVec 128)
  /-- ADDI (R323). -/
  | mAddi (n : Nat) (b : BitVec 128)
  /-- CMPI (R323). -/
  | mCmpi (n : Nat) (b : BitVec 128)
  /-- FAHI (R323). -/
  | mFahi (n : Nat) (b : BitVec 128)
  /-- MOVC (R322). -/
  | mMovc (n : Nat) (b : BitVec 128)
  /-- ADD (R323). -/
  | mAdd (n : Nat) (b : BitVec 128)
  /-- SUB (R323). -/
  | mSub (n : Nat) (b : BitVec 128)
  /-- CMP (R323). -/
  | mCmp (n : Nat) (b : BitVec 128)
  /-- AND (R323). -/
  | mAnd (n : Nat) (b : BitVec 128)
  /-- OR (R323). -/
  | mOr (n : Nat) (b : BitVec 128)
  /-- XOR (R323). -/
  | mXor (n : Nat) (b : BitVec 128)
  /-- MVVC (R322). -/
  | mMvvc (n : Nat) (b : BitVec 128)
  /-- MVCV (R322). -/
  | mMvcv (n : Nat) (b : BitVec 128)
  /-- CMPV (R323). -/
  | mCmpv (n : Nat) (b : BitVec 128)
  /-- CMPVI (R323). -/
  | mCmpvi (n : Nat) (b : BitVec 128)
  /-- BRA (R324). -/
  | mBra (n : Nat) (b : BitVec 128)
  /-- JSR (R324). -/
  | mJsr (n : Nat) (b : BitVec 128)
  /-- RTS (R324). -/
  | mRts (n : Nat) (b : BitVec 128)
  /-- RTI (R298). -/
  | mRti (n : Nat) (b : BitVec 128)
  /-- DO (R291). -/
  | mDo (n : Nat) (b : BitVec 128)
  /-- DOV (R325). -/
  | mDov (n : Nat) (b : BitVec 128)
  /-- REP (R292). -/
  | mRep (n : Nat) (b : BitVec 128)
  /-- REPC (R325). -/
  | mRepc (n : Nat) (b : BitVec 128)
  /-- LEAVE (R291). -/
  | mLeave (n : Nat) (b : BitVec 128)
  /-- LDF (R326). -/
  | mLdf (n : Nat) (b : BitVec 128)
  /-- STF (R326). -/
  | mStf (n : Nat) (b : BitVec 128)
  /-- WAIT (R299). -/
  | mWait (n : Nat) (b : BitVec 128)
  /-- ICLR (R297). -/
  | mIclr (n : Nat) (b : BitVec 128)
  /-- SETIPL (R298). -/
  | mSetipl (n : Nat) (b : BitVec 128)
  /-- SINIT (R320). -/
  | mSinit (n : Nat) (b : BitVec 128)
  /-- SRED (R320). -/
  | mSred (n : Nat) (b : BitVec 128)
  /-- BKPT (R588). -/
  | mBkpt (n : Nat) (b : BitVec 128)
  /-- LYNX_JOB_RELEASE (R342). -/
  | lynxJobRelease
  /-- LYNX_TILE_BOUNDARY (R344). -/
  | lynxTileBoundary (n : Nat) (ends : Bool) (elems : List TileElem) (cyc : Nat) (stalls : List Nat)
  /-- LYNX_JOB_COMPLETE (R342). -/
  | lynxJobComplete (n : Nat) (outputs : List (List Byte)) (newState : List Byte)
  /-- LYNX_JOB_DEADLINE (R346). -/
  | lynxJobDeadline (mix : List (List Rat))
  /-- LYNX_JOB_PUSH (R353). -/
  | lynxJobPush (n : Nat)
  /-- LYNX_LOAD_PROGRAM (R338). -/
  | lynxLoadProgram (d : Desc)
  /-- LYNX_UNLOAD (R348). -/
  | lynxUnload (d : Desc)
  /-- LYNX_STREAM_BIND (R351). -/
  | lynxStreamBind (d : Desc)
  /-- LYNX_STREAM_RESET (R341). -/
  | lynxStreamReset (d : Desc)
  /-- LYNX_STREAM_BIND_EVENTS (R346). -/
  | lynxStreamBindEvents (d : Desc)
  /-- LYNX_RUN (R352). -/
  | lynxRun (d : Desc)
  /-- LYNX_STATUS (R447). -/
  | lynxStatus (d : Desc)
  /-- FOG_OP_ADMIT (R372). -/
  | fogOpAdmit
  /-- FOG_OP_END (R372). -/
  | fogOpEnd (op : Nat)
  /-- FOG_EXCHANGE_TIMEOUT (R370). -/
  | fogExchangeTimeout (op : Nat)
  /-- LOAD (R365). -/
  | fLoad (op : Nat)
  /-- STORE (R365). -/
  | fStore (op : Nat)
  /-- ENCENC (R368). -/
  | fEncenc (op : Nat)
  /-- FOG_ADD (R366). -/
  | fAdd (op : Nat)
  /-- FOG_SUB (R366). -/
  | fSub (op : Nat)
  /-- MULP (R367). -/
  | fMulp (op : Nat)
  /-- MULC (R367). -/
  | fMulc (op : Nat)
  /-- ADDC (R366). -/
  | fAddc (op : Nat)
  /-- MUL (R367). -/
  | fMul (op : Nat)
  /-- RELIN (R364). -/
  | fRelin (op : Nat)
  /-- RESCALE (R367). -/
  | fRescale (op : Nat)
  /-- MODSW (R366). -/
  | fModsw (op : Nat)
  /-- ROT (R367). -/
  | fRot (op : Nat)
  /-- CONJ (R367). -/
  | fConj (op : Nat)
  /-- LEVEL (R366). -/
  | fLevel (op : Nat)
  /-- POLY (R369). -/
  | fPoly (op : Nat)
  /-- EXCHANGE (R370). -/
  | fExchange (op : Nat)
  /-- FOG_OP_PUSH (R377). -/
  | fogOpPush
  /-- FOG_KS_REGISTER_GO (R362). -/
  | fogKsRegisterGo
  /-- FOG_KS_RELEASE_GO (R380). -/
  | fogKsReleaseGo
  /-- FOG_RET_GO (R370). -/
  | fogRetGo
  /-- FOG_KEYSET_REGISTER (R362). -/
  | fogKeysetRegister (d : Desc)
  /-- FOG_KEYSET_RELEASE (R380). -/
  | fogKeysetRelease (d : Desc)
  /-- FOG_EXCHANGE_RING (R370). -/
  | fogExchangeRing (d : Desc)
  /-- FOG_EVAL (R366). -/
  | fogEval (d : Desc)
  /-- FOG_EXCHANGE_RETURN (R370). -/
  | fogExchangeReturn (d : Desc)
  /-- FOG_STATUS (R447). -/
  | fogStatus (d : Desc)
  /-- MEMC_SCRUB (R391). -/
  | memcScrub (word : Nat)
  /-- MEMC_TRAIN (R395). -/
  | memcTrain
  /-- MEMC_TRAIN_DONE (R395). -/
  | memcTrainDone (ok : Bool)
  /-- MEM_ALLOC (R402). -/
  | memAlloc (d : Desc)
  /-- MEM_HOST_DECLARE (R456). -/
  | memHostDeclare (d : Desc)
  /-- MEM_SHARE (R402). -/
  | memShare (d : Desc)
  /-- MEM_UNSHARE (R404). -/
  | memUnshare (d : Desc)
  /-- MEM_FREE (R404). -/
  | memFree (d : Desc)
  /-- MEM_COPY (R399). -/
  | memCopy (d : Desc)
  /-- MEM_STATUS (R447). -/
  | memStatus (d : Desc)
  /-- MBOX_IN_TAIL_WRITE (R417). -/
  | mboxInTailWrite (p : Nat) (v : Nat)
  /-- MBOX_OUT_HEAD_WRITE (R419). -/
  | mboxOutHeadWrite (p : Nat) (v : Nat)
  /-- MBOX_DESCRIPTOR_TAKE (R418). -/
  | mboxDescriptorTake (p : Nat)
  /-- NOTICE_WRITE (R420). -/
  | noticeWrite (p : Nat)
  /-- RING_SQ_TAIL_WRITE (R429). -/
  | ringSqTailWrite (p r v : Nat)
  /-- RING_CQ_HEAD_WRITE (R429). -/
  | ringCqHeadWrite (p r v : Nat)
  /-- RING_FETCH (R431). -/
  | ringFetch (r : Nat)
  /-- COMPLETION_WRITE (R416). -/
  | completionWrite (src : Src)
  /-- RING_COAL_TIMEOUT (R433). -/
  | ringCoalTimeout (r : Nat)
  /-- RING_IRQ_PEND_CLEAR (R433). -/
  | ringIrqPendClear (p r : Nat)
  /-- MBOX_WAIT_TIMEOUT (R481). -/
  | mboxWaitTimeout (p : Nat)
  /-- SESSION_OPEN (R422). -/
  | sessionOpen (d : Desc)
  /-- SESSION_CLOSE (R424). -/
  | sessionClose (d : Desc)
  /-- SESSION_INFO (R422). -/
  | sessionInfo (d : Desc)
  /-- RING_CREATE (R426). -/
  | ringCreate (d : Desc)
  /-- RING_DESTROY (R428). -/
  | ringDestroy (d : Desc)
  /-- RING_CONFIG (R435). -/
  | ringConfig (d : Desc)
  /-- RING_RESUME (R490). -/
  | ringResume (d : Desc)
  /-- RING_STATUS (R447). -/
  | ringStatus (d : Desc)
  /-- STREAM_OPEN (R458). -/
  | streamOpen (d : Desc)
  /-- STREAM_CLOSE (R458). -/
  | streamClose (d : Desc)
  /-- STREAM_ROUTE (R29). -/
  | streamRoute (d : Desc)
  /-- ROUTE_GLOBAL_MUTE (R226). -/
  | routeGlobalMute (d : Desc)
  /-- STREAM_STATUS (R447). -/
  | streamStatus (d : Desc)
  /-- SYNC_ALLOC (R467). -/
  | syncAlloc (d : Desc)
  /-- SYNC_FREE (R467). -/
  | syncFree (d : Desc)
  /-- SYNC_SIGNAL (R482). -/
  | syncSignal (d : Desc)
  /-- SYNC_ADD (R482). -/
  | syncAdd (d : Desc)
  /-- SYNC_READ (R466). -/
  | syncRead (d : Desc)
  /-- SYNC_BIND_EVENT (R452). -/
  | syncBindEvent (d : Desc)
  /-- SYNC_UNBIND_EVENT (R452). -/
  | syncUnbindEvent (d : Desc)
  /-- SYNC_SHARE (R487). -/
  | syncShare (d : Desc)
  /-- SYNC_OBJ_SIGNAL_WRITE (R482). -/
  | syncObjSignalWrite (obj v : Nat)
  /-- SYNC_ADD_DELTA_WRITE (R482). -/
  | syncAddDeltaWrite (delta : Nat)
  /-- SYNC_OWN_FREE_WRITE (R482). -/
  | syncOwnFreeWrite (obj : Nat)
  /-- TWIN_CONFIG (R558). -/
  | twinConfig (d : Desc)
  /-- TWIN_ATTACH (R558). -/
  | twinAttach (d : Desc)
  /-- TWIN_DETACH (R558). -/
  | twinDetach (d : Desc)
  /-- TWIN_ROLE_SWAP (R557). -/
  | twinRoleSwap (d : Desc)
  /-- TWIN_BIND_EVENTS (R558). -/
  | twinBindEvents (d : Desc)
  /-- TWIN_STATUS (R558). -/
  | twinStatus (d : Desc)
  /-- TWIN_CTRL_ATTACH (R558). -/
  | twinCtrlAttach
  /-- TWIN_CTRL_DETACH (R558). -/
  | twinCtrlDetach
  /-- TWIN_SWAP_GO (R557). -/
  | twinSwapGo
  /-- CLOCK_SET_REFS (R61). -/
  | clockSetRefs (d : Desc)
  /-- CLOCK_FORCE_REF (R50). -/
  | clockForceRef (d : Desc)
  /-- CLOCK_STATUS (R447). -/
  | clockStatus (d : Desc)
  /-- CLOCK_SET_MCLK (R63). -/
  | clockSetMclk (d : Desc)
  /-- CLOCK_SET_ALARM (R60). -/
  | clockSetAlarm (d : Desc)
  /-- POWER_SET_STATE (R77). -/
  | powerSetState (d : Desc)
  /-- POWER_SET_CLOCKS (R79). -/
  | powerSetClocks (d : Desc)
  /-- POWER_STATUS (R447). -/
  | powerStatus (d : Desc)
  /-- POWER_SET_WAKE (R93). -/
  | powerSetWake (d : Desc)
  /-- DORMOUSE_LOAD_MODEL (R92). -/
  | dormouseLoadModel (d : Desc)
  /-- DORMOUSE_SET_VOCAB (R89). -/
  | dormouseSetVocab (d : Desc)
  /-- DORMOUSE_CONFIG (R90). -/
  | dormouseConfig (d : Desc)
  /-- DORMOUSE_READ (R469). -/
  | dormouseRead (d : Desc)
  /-- DEVICE_INFO (R470). -/
  | deviceInfo (d : Desc)
  /-- DEVICE_RESET (R102). -/
  | deviceReset (d : Desc)
  /-- ROLLBACK_ADVANCE (R120). -/
  | rollbackAdvance (d : Desc)
  /-- KEY_REVOKE (R120). -/
  | keyRevoke (d : Desc)
  /-- IMAGE_LOAD (R120). -/
  | imageLoad (d : Desc)
  /-- WATCHDOG_SET (R121). -/
  | watchdogSet (d : Desc)
  /-- NOTICE_MASK (R453). -/
  | noticeMask (d : Desc)
  /-- NOP (R470). -/
  | nop (d : Desc)
  /-- BAR2_ACCESS (R507). -/
  | bar2Access (f offset len : Nat) (wr : Bool) (data : List Byte)
  /-- XLAT_WRITE (R505). -/
  | xlatWrite (f : Nat) (hi : Bool) (v : Word)
  /-- PCIE_POWER_STATE_CHANGE (R509). -/
  | pciePowerStateChange (f dstate : Nat) (bme mse : Bool)
  /-- MSIX_UNMASK (R512). -/
  | msixUnmask (f : Nat) (vec : Option Nat)
  /-- HOST_READ_COMPLETION (R511). -/
  | hostReadCompletion (tag : Nat) (ok : Bool) (data : List Byte)
  /-- COMPLETION_TIMEOUT (R511). -/
  | completionTimeout (tag : Nat)
  /-- FUNCTION_LEVEL_RESET (R516). -/
  | functionLevelReset (f : Nat)
  /-- LINK_DOWN (R516). -/
  | linkDown
  /-- HOT_RESET (R516). -/
  | hotReset
  /-- PORT_READY (R518). -/
  | portReady (p : Nat)
  /-- REG_READ (R514). -/
  | regRead (x addr waits : Nat) (early : Bool)
  /-- REG_WRITE (R514). -/
  | regWrite (x addr : Nat) (data : List Byte)
  /-- MEM_READ (R513). -/
  | memRead (x addr len waits : Nat) (early : Bool)
  /-- MEM_WRITE (R513). -/
  | memWrite (x addr len : Nat) (data : List Byte)
  /-- STATUS (R513). -/
  | status (x : Nat)
  /-- RESET_EN (R516). -/
  | resetEn (x : Nat)
  /-- RESET (R516). -/
  | reset (x : Nat)
  /-- DIRECT_MODE_OPEN (R522). -/
  | directModeOpen (ini : Initiator)
  /-- DIRECT_MODE_CLOSE (R522). -/
  | directModeClose (ini : Initiator) (key : Word)
  /-- TWIN_BEAT_SEND (R539). -/
  | twinBeatSend
  /-- TWIN_LIVE_TOGGLE (R539). -/
  | twinLiveToggle
  /-- TWIN_BEAT_RECEIVE (R540). -/
  | twinBeatReceive (boundary role state ack flags : Nat)
  /-- TWIN_BEAT_JUDGE (R540). -/
  | twinBeatJudge (liveAt : Nat)
  /-- TWIN_FRAME_RECEIVE (R538). -/
  | twinFrameReceive (fseq : Nat) (crcOk : Bool)
  /-- LINK_FAULT (R538). -/
  | linkFault
  /-- MIRROR (R546). -/
  | mirror (src : Src) (seq written : Nat) (record : List Byte)
  /-- FINISH (R546). -/
  | finish (src : Src) (seq : Nat)
  /-- DIGEST (R548). -/
  | digest (hop partner verdicts : Nat)
  /-- SNAPSHOT (R552). -/
  | snapshot (addr : Nat) (data : List Byte) (last : Bool)
  /-- CONTROL (R551). -/
  | control (versions : List Nat) (pref : Nat)
  /-- TWIN_DIGEST_SEND (R548). -/
  | twinDigestSend (hop : Nat)
  /-- ACK_TIMEOUT (R547). -/
  | ackTimeout
  /-- JOURNAL_COMMAND (R543). -/
  | journalCommand (jseq apply : Nat) (src : Src) (descs : List (BitVec 512)) (fseq : Nat)
  /-- JOURNAL_START (R543). -/
  | journalStart (jseq apply : Nat) (src : Src) (seq : Nat)
  /-- JOURNAL_INDEX (R543). -/
  | journalIndex (jseq apply : Nat) (addr : Nat) (v : Nat)
  /-- JOURNAL_HOST_WRITE (R543). -/
  | journalHostWrite (jseq apply : Nat) (addr : Nat) (data : List Byte)
  /-- JOURNAL_HOST_READ (R543). -/
  | journalHostRead (jseq apply : Nat) (addr : Nat) (data : List Byte)
  /-- JOURNAL_PORT_EVENT (R543). -/
  | journalPortEvent (jseq apply : Nat) (p : Nat)
  /-- JOURNAL_RANDOM (R543). -/
  | journalRandom (jseq apply : Nat) (op : Nat) (data : List Nat)
  /-- JOURNAL_SWAP (R557). -/
  | journalSwap (jseq apply : Nat) (t : Nat)
  /-- ROLE_SWAP_EXECUTE (R557). -/
  | roleSwapExecute
  /-- TAKEOVER (R554). -/
  | takeover
  /-- TWIN_SYNC_EDGE (R534). -/
  | twinSyncEdge
  /-- TWIN_SYNC_RELEASE (R534). -/
  | twinSyncRelease
  /-- TWIN_TIME_ADOPT (R551). -/
  | twinTimeAdopt (t : Nat)
  /-- PAIRING_DONE (R551). -/
  | pairingDone
  /-- CATCHUP_SNAPSHOT (R552). -/
  | catchupSnapshot
  /-- CATCHUP_JOIN (R552). -/
  | catchupJoin
  /-- CATCHUP_TIMEOUT (R553). -/
  | catchupTimeout (full : Bool)
  /-- LINE_RESET (R578). -/
  | lineReset (periods select : Nat)
  /-- READ (R579). -/
  | read (hdr addr : Nat) (parity : Bool)
  /-- WRITE (R579). -/
  | write (hdr addr : Nat) (parity : Bool) (words : List Word) (parities : List Bool)
  /-- RDBUF (R579). -/
  | rdbuf (hdr : Nat)
  /-- DEBUG_STATUS (R579). -/
  | debugStatus (hdr : Nat)
  /-- ABORT (R579). -/
  | abort (hdr : Nat)
  /-- DBG_ACCESS_DONE (R582). -/
  | dbgAccessDone
  /-- DBG_CHALLENGE_NEW (R584). -/
  | dbgChallengeNew
  /-- DBG_UNLOCK_GO (R584). -/
  | dbgUnlockGo
  /-- DBG_TOKEN_VERIFY_DONE (R584). -/
  | dbgTokenVerifyDone
  /-- DBG_RELOCK (R585). -/
  | dbgRelock
  /-- DBG_HALT (R586). -/
  | dbgHalt (c : Nat)
  /-- DBG_HALT_COMPLETE (R586). -/
  | dbgHaltComplete (c : Nat)
  /-- DBG_RESUME (R587). -/
  | dbgResume (c : Nat)
  /-- DBG_STEP (R587). -/
  | dbgStep (c : Nat)
  /-- DBG_REGDATA_ACCESS (R589). -/
  | dbgRegdataAccess (c : Nat) (w : Option Word)
  /-- TRST_N_ASSERT (R591). -/
  | trstNAssert
  /-- EXTEST (R592). -/
  | tapExtest (captured shifted : List Bool)
  /-- IDCODE (R592). -/
  | tapIdcode
  /-- SAMPLE_PRELOAD (R592). -/
  | tapSamplePreload (captured shifted : List Bool)
  /-- CLAMP (R591). -/
  | tapClamp
  /-- HIGHZ (R591). -/
  | tapHighz
  /-- MBIST (R591). -/
  | tapMbist
  /-- BYPASS (R591). -/
  | tapBypass
  /-- VDD_LYNX_CHECK (R608). -/
  | vddLynxCheck (railMv : Nat)
  /-- REQUALIFICATION_RESTART (R49). -/
  | requalificationRestart (src edge : Nat) (ofs : Int)
  /-- DEVICE_RESET_DELAY_END (R102). -/
  | deviceResetDelayEnd
  /-- MEM_COPY_END (R402). -/
  | memCopyEnd (src : Src) (seq : Nat)
  /-- SYSTEM_PLL_LOCK (R103). -/
  | systemPllLock
  /-- DETACH_RECORD_APPLY (R550). -/
  | detachRecordApply (jseq apply : Nat)
deriving DecidableEq, Repr

end Sys2Proof
end

