-- ==== Sys2Proof/WellFormed.lean ====
section
/-! DEFINITION. Which commands are well formed: every index names a unit that exists, and a Denrek command carries the
opcode of its row (R443). -/

namespace Sys2Proof

/-- A host port is 0 to 9 and a ring 0 to 63 (R413). -/
def Src.wf : Src → Bool
  | .mbox p => decide (p < 10)
  | .ring r => decide (r < 64)

/-- An initiator that exists (R14). -/
def Initiator.wf : Initiator → Bool
  | .port p => decide (p < 10)
  | .sett => true
  | .marten n => decide (n < 4)
  | .debug => true

/-- The descriptor of a row carries the row's opcode. -/
def Desc.wf (op : Nat) (d : Desc) : Bool := d.src.wf && d.raw.toNat % 65536 == op

/-- A 40-bit address that is a multiple of `n` (R10, R11). -/
def addrWf (a n : Nat) : Bool := decide (a < 2 ^ 40) && a % n == 0

/-- A reference source code 1 to 8 (R45). -/
def srcWf (s : Nat) : Bool := decide (1 ≤ s) && decide (s ≤ 8)

/-- The limits of R335 and R336: a weight per activation, an int32 bias, the multiplier and shift ranges, a table of 256
or 257 entries. -/
def TileElem.wf (e : TileElem) : Bool :=
  e.xs.length == e.ws.length && decide (-(2 ^ 31) ≤ e.bias) && decide (e.bias < 2 ^ 31) && decide (2 ^ 30 ≤ e.mult)
    && decide (e.mult < 2 ^ 31) && decide (e.shift < 32)
    && (e.lut.isEmpty || e.lut.length == (if e.wide then 257 else 256))

/-- A command whose operands name things that exist. -/
def Instr.wf : Instr → Bool
  | .pairLoRead ini addr => ini.wf && addrWf addr 4
  | .pairLoWrite ini addr _ => ini.wf && addrWf addr 4
  | .pairHiWrite ini addr _ => ini.wf && addrWf addr 4
  | .registerWrite ini addr _ _ => ini.wf && decide (addr < 2 ^ 40)
  | .registerReadClear ini addr _ => ini.wf && decide (addr < 2 ^ 40)
  | .hopBoundary => true
  | .syncOverflowApply => true
  | .refLost src _ _ _ _ => srcWf src
  | .refInitialQualify src _ _ _ _ => srcWf src
  | .refRequalify src _ _ _ _ => srcWf src
  | .refSwitchDone => true
  | .xtalLost => true
  | .audioPllLock => true
  | .fastCountHandover => true
  | .clkAlarm => true
  | .senseSyncPulse n => decide (n < 2)
  | .wakeHoldEnd => true
  | .lynxIdleGate n => decide (n < 8)
  | .drainDone => true
  | .drainTimeout => true
  | .lynxUngate _ => true
  | .parkCommit => true
  | .wakeDetect pins _ _ => decide (pins < 256)
  | .wakeComplete _ => true
  | .thermalSample sensors => decide (sensors.length = 6)
  | .kwsFrame scores _ audio => decide (scores.length = 64) && decide (audio.length ≤ 640)
  | .dormouseHitValidWrite => true
  | .wakeOutRelease => true
  | .porAssert => true
  | .porRelease straps _ => decide (straps < 8)
  | .aonBrownout => true
  | .resetNPulse _ => true
  | .coreRstWrite => true
  | .sramFillDone => true
  | .bootSourceVerify _ _ _ => true
  | .sysDlGo port => decide (port < 10)
  | .bootReady => true
  | .watchdogKick key => decide (key < 65536)
  | .watchdogExpire => true
  | .perstNAssert => true
  | .decOutputStrobe ch preset bits => decide (ch < 32) && decide (preset < 4) && decide (bits.length ≤ 384)
  | .decStuckDetect ch _ => decide (ch < 32)
  | .decBlockComplete ch => decide (ch < 32)
  | .syncInEdge _ => true
  | .decSyncGo => true
  | .decSyncReset => true
  | .decSwapRequest p => decide (p < 4)
  | .decBankSwap p => decide (p < 4)
  | .decSetClocks d => d.wf 0x0501
  | .decOpenChannel d => d.wf 0x0502
  | .decCloseChannel d => d.wf 0x0503
  | .decSetBuffer d => d.wf 0x0504
  | .decSetDetector d => d.wf 0x0505
  | .decReadDetectors d => d.wf 0x0506
  | .decLoadCoef d => d.wf 0x0507
  | .decSwapBank d => d.wf 0x0508
  | .decSync d => d.wf 0x0509
  | .decStatus d => d.wf 0x050A
  | .tdmSlaveFsEdge g _ _ => decide (g < 4)
  | .tdmFsMissing g => decide (g < 4)
  | .tdmClkLost g pos => decide (g < 4) && decide (pos < 1024)
  | .txSlotFetch n l k => decide (n < 4) && decide (l < 2) && decide (k < 32)
  | .rxFrameReceive n l _ _ => decide (n < 4) && decide (l < 2)
  | .tdmFifoRefill n l => decide (n < 4) && decide (l < 2)
  | .tdmFifoDrain n l => decide (n < 4) && decide (l < 2)
  | .tdmTrigGo => true
  | .startInEdge _ => true
  | .tdmTrigger => true
  | .tdmGoLive n d => decide (n < 4) && decide (d < 2)
  | .tdmCtrlStop n d => decide (n < 4) && decide (d < 2)
  | .tdmTailEnd n d => decide (n < 4) && decide (d < 2)
  | .tdmSilentChange n l k => decide (n < 4) && decide (l < 2) && decide (k < 32)
  | .tdmZcTimeout n l k => decide (n < 4) && decide (l < 2) && decide (k < 32)
  | .muteNChange _ => true
  | .tdmConfigClock d => d.wf 0x0401
  | .tdmConfigDir d => d.wf 0x0402
  | .tdmSetSlots d => d.wf 0x0403
  | .tdmSetRing d => d.wf 0x0404
  | .tdmStart d => d.wf 0x0405
  | .tdmStop d => d.wf 0x0406
  | .tdmSetMute d => d.wf 0x0407
  | .tdmStatus d => d.wf 0x0408
  | .asrcTrackUpdate n _ _ => decide (n < 8)
  | .asrcOutputSample n => decide (n < 8)
  | .asrcOutwardRead n => decide (n < 8)
  | .spdifFrameReceive a b _ _ _ _ => decide (a < 2 ^ 32) && decide (b < 2 ^ 32)
  | .spdifLockLoss => true
  | .guardFrameRelease g => decide (g < 9)
  | .guardRelease g => decide (g < 9)
  | .asrcOpen d => d.wf 0x0306
  | .asrcClose d => d.wf 0x0307
  | .asrcStatus d => d.wf 0x0308
  | .spdifConfig d => d.wf 0x0409
  | .spdifStatus d => d.wf 0x040A
  | .guardConfig d => d.wf 0x040B
  | .gustWordReady => true
  | .gustMonitorWindow o => decide (o < 32)
  | .gustTripClear mask => decide (mask < 2 ^ 32)
  | .gustSwapRequest => true
  | .gustBankSwap => true
  | .gustCopyDone => true
  | .gustCoefWrite ini _ => ini.wf
  | .gustPathWrite ini p _ => ini.wf && decide (p < 256)
  | .gustLoadGo ini => ini.wf
  | .gustLoadDone => true
  | .gustConfig d => d.wf 0x0601
  | .gustSetPaths d => d.wf 0x0602
  | .gustLoadCoef d => d.wf 0x0603
  | .gustSwap d => d.wf 0x0604
  | .gustBindMarten d => d.wf 0x0605
  | .gustSetMonitor d => d.wf 0x0606
  | .gustClearTrip d => d.wf 0x0607
  | .gustSetMute d => d.wf 0x0608
  | .gustStatus d => d.wf 0x0609
  | .sportBlockComplete n _ => decide (n < 2)
  | .spiImuIntEdge _ => true
  | .imuReadStart => true
  | .imuReadDone _ => true
  | .wheelTickEdge w _ => decide (w < 4)
  | .wheelEdgeAccept w => decide (w < 4)
  | .egoFilterStep => true
  | .doaPush core _ => decide (core < 4)
  | .foxPublish => true
  | .foxConfig d => d.wf 0x0701
  | .senseSetSync d => d.wf 0x0702
  | .senseSetSport d => d.wf 0x0703
  | .senseSetImu d => d.wf 0x0704
  | .senseSetWheel d => d.wf 0x0705
  | .foxSetEgo d => d.wf 0x0706
  | .foxSetXform d => d.wf 0x0707
  | .foxSetFrames d => d.wf 0x0708
  | .foxSetTracker d => d.wf 0x0709
  | .foxSensorEn d => d.wf 0x070A
  | .foxGrant d => d.wf 0x070B
  | .foxObserve d => d.wf 0x070C
  | .foxMeasure d => d.wf 0x070D
  | .foxSubscribe d => d.wf 0x070E
  | .foxReadTracks d => d.wf 0x070F
  | .foxStatus d => d.wf 0x0710
  | .martenTimer n => decide (n < 4)
  | .martenInterruptAccept n => decide (n < 4)
  | .farAccessReturn n => decide (n < 4)
  | .martenDmaGo n c => decide (n < 4) && decide (c < 4)
  | .martenDmaEnd n c => decide (n < 4) && decide (c < 4)
  | .martenCtrlRun n => decide (n < 4)
  | .martenCtrlStop n => decide (n < 4)
  | .martenSignalRaise n _ => decide (n < 4)
  | .martenXcoreRaise mask => decide (mask < 16)
  | .martenOpen d => d.wf 0x0901
  | .martenLoadCode d => d.wf 0x0902
  | .martenStart d => d.wf 0x0903
  | .martenStop d => d.wf 0x0904
  | .martenSignal d => d.wf 0x0905
  | .martenBindEvent d => d.wf 0x0906
  | .martenDma d => d.wf 0x0907
  | .martenStatus d => d.wf 0x0908
  | .martenClose d => d.wf 0x0909
  | .mMpy n _ => decide (n < 4)
  | .mMac n _ => decide (n < 4)
  | .mMsu n _ => decide (n < 4)
  | .mMpyi n _ => decide (n < 4)
  | .mMaci n _ => decide (n < 4)
  | .mMsui n _ => decide (n < 4)
  | .mAdda n _ => decide (n < 4)
  | .mSuba n _ => decide (n < 4)
  | .mClra n _ => decide (n < 4)
  | .mMova n _ => decide (n < 4)
  | .mAsra n _ => decide (n < 4)
  | .mAsla n _ => decide (n < 4)
  | .mNega n _ => decide (n < 4)
  | .mAbsa n _ => decide (n < 4)
  | .mMovr n _ => decide (n < 4)
  | .mVadd n _ => decide (n < 4)
  | .mVsub n _ => decide (n < 4)
  | .mVmax n _ => decide (n < 4)
  | .mVmin n _ => decide (n < 4)
  | .mVabs n _ => decide (n < 4)
  | .mVneg n _ => decide (n < 4)
  | .mVmov n _ => decide (n < 4)
  | .mVand n _ => decide (n < 4)
  | .mVor n _ => decide (n < 4)
  | .mVxor n _ => decide (n < 4)
  | .mVmaxi n _ => decide (n < 4)
  | .mVmini n _ => decide (n < 4)
  | .mLd n _ => decide (n < 4)
  | .mLdb n _ => decide (n < 4)
  | .mSt n _ => decide (n < 4)
  | .mSta n _ => decide (n < 4)
  | .mUpd n _ => decide (n < 4)
  | .mLda n _ => decide (n < 4)
  | .mMovi n _ => decide (n < 4)
  | .mAddi n _ => decide (n < 4)
  | .mCmpi n _ => decide (n < 4)
  | .mFahi n _ => decide (n < 4)
  | .mMovc n _ => decide (n < 4)
  | .mAdd n _ => decide (n < 4)
  | .mSub n _ => decide (n < 4)
  | .mCmp n _ => decide (n < 4)
  | .mAnd n _ => decide (n < 4)
  | .mOr n _ => decide (n < 4)
  | .mXor n _ => decide (n < 4)
  | .mMvvc n _ => decide (n < 4)
  | .mMvcv n _ => decide (n < 4)
  | .mCmpv n _ => decide (n < 4)
  | .mCmpvi n _ => decide (n < 4)
  | .mBra n _ => decide (n < 4)
  | .mJsr n _ => decide (n < 4)
  | .mRts n _ => decide (n < 4)
  | .mRti n _ => decide (n < 4)
  | .mDo n _ => decide (n < 4)
  | .mDov n _ => decide (n < 4)
  | .mRep n _ => decide (n < 4)
  | .mRepc n _ => decide (n < 4)
  | .mLeave n _ => decide (n < 4)
  | .mLdf n _ => decide (n < 4)
  | .mStf n _ => decide (n < 4)
  | .mWait n _ => decide (n < 4)
  | .mIclr n _ => decide (n < 4)
  | .mSetipl n _ => decide (n < 4)
  | .mSinit n _ => decide (n < 4)
  | .mSred n _ => decide (n < 4)
  | .mBkpt n _ => decide (n < 4)
  | .lynxJobRelease => true
  | .lynxTileBoundary n _ elems cyc stalls => decide (n < 8) && decide (cyc ≤ 16384) && decide (stalls.length = 4) && elems.all TileElem.wf
  | .lynxJobComplete n _ _ => decide (n < 8)
  | .lynxJobDeadline _ => true
  | .lynxJobPush n => decide (n < 8)
  | .lynxLoadProgram d => d.wf 0x0801
  | .lynxUnload d => d.wf 0x0802
  | .lynxStreamBind d => d.wf 0x0803
  | .lynxStreamReset d => d.wf 0x0804
  | .lynxStreamBindEvents d => d.wf 0x0805
  | .lynxRun d => d.wf 0x0806
  | .lynxStatus d => d.wf 0x0807
  | .fogOpAdmit => true
  | .fogOpEnd op => decide (op < 8)
  | .fogExchangeTimeout op => decide (op < 8)
  | .fLoad op => decide (op < 8)
  | .fStore op => decide (op < 8)
  | .fEncenc op => decide (op < 8)
  | .fAdd op => decide (op < 8)
  | .fSub op => decide (op < 8)
  | .fMulp op => decide (op < 8)
  | .fMulc op => decide (op < 8)
  | .fAddc op => decide (op < 8)
  | .fMul op => decide (op < 8)
  | .fRelin op => decide (op < 8)
  | .fRescale op => decide (op < 8)
  | .fModsw op => decide (op < 8)
  | .fRot op => decide (op < 8)
  | .fConj op => decide (op < 8)
  | .fLevel op => decide (op < 8)
  | .fPoly op => decide (op < 8)
  | .fExchange op => decide (op < 8)
  | .fogOpPush => true
  | .fogKsRegisterGo => true
  | .fogKsReleaseGo => true
  | .fogRetGo => true
  | .fogKeysetRegister d => d.wf 0x0A01
  | .fogKeysetRelease d => d.wf 0x0A02
  | .fogExchangeRing d => d.wf 0x0A03
  | .fogEval d => d.wf 0x0A04
  | .fogExchangeReturn d => d.wf 0x0A05
  | .fogStatus d => d.wf 0x0A06
  | .memcScrub _ => true
  | .memcTrain => true
  | .memcTrainDone _ => true
  | .memAlloc d => d.wf 0x0201
  | .memHostDeclare d => d.wf 0x0202
  | .memShare d => d.wf 0x0203
  | .memUnshare d => d.wf 0x0204
  | .memFree d => d.wf 0x0205
  | .memCopy d => d.wf 0x0206
  | .memStatus d => d.wf 0x0207
  | .mboxInTailWrite p v => decide (p < 10) && decide (v < 256)
  | .mboxOutHeadWrite p v => decide (p < 10) && decide (v < 256)
  | .mboxDescriptorTake p => decide (p < 10)
  | .noticeWrite p => decide (p < 10)
  | .ringSqTailWrite p r v => decide (p < 10) && decide (r < 64) && decide (v < 65536)
  | .ringCqHeadWrite p r v => decide (p < 10) && decide (r < 64) && decide (v < 65536)
  | .ringFetch r => decide (r < 64)
  | .completionWrite src => src.wf
  | .ringCoalTimeout r => decide (r < 64)
  | .ringIrqPendClear p r => decide (p < 10) && decide (r < 64)
  | .mboxWaitTimeout p => decide (p < 10)
  | .sessionOpen d => d.wf 0x0101
  | .sessionClose d => d.wf 0x0102
  | .sessionInfo d => d.wf 0x0103
  | .ringCreate d => d.wf 0x0104
  | .ringDestroy d => d.wf 0x0105
  | .ringConfig d => d.wf 0x0106
  | .ringResume d => d.wf 0x0107
  | .ringStatus d => d.wf 0x0108
  | .streamOpen d => d.wf 0x0301
  | .streamClose d => d.wf 0x0302
  | .streamRoute d => d.wf 0x0303
  | .routeGlobalMute d => d.wf 0x0304
  | .streamStatus d => d.wf 0x0305
  | .syncAlloc d => d.wf 0x0B01
  | .syncFree d => d.wf 0x0B02
  | .syncSignal d => d.wf 0x0B03
  | .syncAdd d => d.wf 0x0B04
  | .syncRead d => d.wf 0x0B05
  | .syncBindEvent d => d.wf 0x0B06
  | .syncUnbindEvent d => d.wf 0x0B07
  | .syncShare d => d.wf 0x0B08
  | .syncObjSignalWrite obj v => decide (obj < 4096) && decide (v < 2 ^ 64)
  | .syncAddDeltaWrite delta => decide (delta < 2 ^ 32)
  | .syncOwnFreeWrite obj => decide (obj < 4096)
  | .twinConfig d => d.wf 0x0C01
  | .twinAttach d => d.wf 0x0C02
  | .twinDetach d => d.wf 0x0C03
  | .twinRoleSwap d => d.wf 0x0C04
  | .twinBindEvents d => d.wf 0x0C05
  | .twinStatus d => d.wf 0x0C06
  | .twinCtrlAttach => true
  | .twinCtrlDetach => true
  | .twinSwapGo => true
  | .clockSetRefs d => d.wf 0x0D01
  | .clockForceRef d => d.wf 0x0D02
  | .clockStatus d => d.wf 0x0D03
  | .clockSetMclk d => d.wf 0x0D04
  | .clockSetAlarm d => d.wf 0x0D05
  | .powerSetState d => d.wf 0x0D06
  | .powerSetClocks d => d.wf 0x0D07
  | .powerStatus d => d.wf 0x0D08
  | .powerSetWake d => d.wf 0x0D09
  | .dormouseLoadModel d => d.wf 0x0D0A
  | .dormouseSetVocab d => d.wf 0x0D0B
  | .dormouseConfig d => d.wf 0x0D0C
  | .dormouseRead d => d.wf 0x0D0D
  | .deviceInfo d => d.wf 0x0E01
  | .deviceReset d => d.wf 0x0E02
  | .rollbackAdvance d => d.wf 0x0E03
  | .keyRevoke d => d.wf 0x0E04
  | .imageLoad d => d.wf 0x0E05
  | .watchdogSet d => d.wf 0x0E06
  | .noticeMask d => d.wf 0x0E07
  | .nop d => d.wf 0x0E08
  | .bar2Access f offset len wr data => decide (f < 8) && decide (offset < 2 ^ 25) && (!wr || data.length == len)
  | .xlatWrite f _ _ => decide (f < 8)
  | .pciePowerStateChange f dstate _ _ => decide (f < 8) && (dstate == 0 || dstate == 3)
  | .msixUnmask f vec => decide (f < 8) && (match vec with | some v => decide (v < 64) | none => true)
  | .hostReadCompletion tag _ _ => decide (tag < 256)
  | .completionTimeout tag => decide (tag < 256)
  | .functionLevelReset f => decide (f < 8)
  | .linkDown => true
  | .hotReset => true
  | .portReady p => decide (p < 10)
  | .regRead x _ _ _ => decide (x < 2)
  | .regWrite x _ _ => decide (x < 2)
  | .memRead x _ _ _ _ => decide (x < 2)
  | .memWrite x _ _ _ => decide (x < 2)
  | .status x => decide (x < 2)
  | .resetEn x => decide (x < 2)
  | .reset x => decide (x < 2)
  | .directModeOpen ini => ini.wf
  | .directModeClose ini _ => ini.wf
  | .twinBeatSend => true
  | .twinLiveToggle => true
  | .twinBeatReceive _ _ _ _ _ => true
  | .twinBeatJudge _ => true
  | .twinFrameReceive _ _ => true
  | .linkFault => true
  | .mirror src _ _ _ => src.wf
  | .finish src _ => src.wf
  | .digest _ _ _ => true
  | .snapshot _ _ _ => true
  | .control _ _ => true
  | .twinDigestSend _ => true
  | .ackTimeout => true
  | .journalCommand _ _ src _ _ => src.wf
  | .journalStart _ _ src _ => src.wf
  | .journalIndex _ _ _ _ => true
  | .journalHostWrite _ _ _ _ => true
  | .journalHostRead _ _ _ _ => true
  | .journalPortEvent _ _ p => decide (p < 10)
  | .journalRandom _ _ _ _ => true
  | .journalSwap _ _ _ => true
  | .roleSwapExecute => true
  | .takeover => true
  | .twinSyncEdge => true
  | .twinSyncRelease => true
  | .twinTimeAdopt _ => true
  | .pairingDone => true
  | .catchupSnapshot => true
  | .catchupJoin => true
  | .catchupTimeout _ => true
  | .lineReset _ _ => true
  | .read hdr addr _ => decide (hdr < 256) && decide (addr < 2 ^ 40)
  | .write hdr addr _ words parities => decide (hdr < 256) && decide (addr < 2 ^ 40) && words.length == parities.length
  | .rdbuf hdr => decide (hdr < 256)
  | .debugStatus hdr => decide (hdr < 256)
  | .abort hdr => decide (hdr < 256)
  | .dbgAccessDone => true
  | .dbgChallengeNew => true
  | .dbgUnlockGo => true
  | .dbgTokenVerifyDone => true
  | .dbgRelock => true
  | .dbgHalt c => decide (c < 6)
  | .dbgHaltComplete c => decide (c < 6)
  | .dbgResume c => decide (c < 6)
  | .dbgStep c => decide (c < 6)
  | .dbgRegdataAccess c _ => decide (c < 6)
  | .trstNAssert => true
  | .tapExtest _ _ => true
  | .tapIdcode => true
  | .tapSamplePreload _ _ => true
  | .tapClamp => true
  | .tapHighz => true
  | .tapMbist => true
  | .tapBypass => true
  | .vddLynxCheck _ => true
  | .requalificationRestart src _ _ => srcWf src
  | .deviceResetDelayEnd => true
  | .memCopyEnd src _ => src.wf
  | .systemPllLock => true
  | .detachRecordApply _ _ => true

end Sys2Proof
end

