-- ==== Sys2Proof/Decode.lean ====
section
/-! DEFINITION. The table of operations and events gives no row any bits: a command reaches the part as a register
access, a bus transaction, a pin event or an occurrence inside the part, and its operands are those of its constructor.
So no word spells a command. -/

namespace Sys2Proof

/-- The command a word spells by the table's bits: none, because no row has bits. (DEDUCED, log entry 9). -/
def decodeTableWord (_nbits _w : Nat) : Option Instr := none

end Sys2Proof
end

