-- ==== Sys2Proof/Config.lean ====
section
/-! DEFINITION. What an implementation fixes and the specification leaves open: free values (constants with no body)
and the named outside standards (SHA-256, ECDSA P-256, the DRBG, the elementary functions) that the specification uses
without restating them. (DESIGN CHOICE, log entry 1). -/

namespace Sys2Proof

/-- A value the specification leaves open; `n` is the model's plain counter, so each use may have its own value.
(DESIGN CHOICE, log entry 61). -/
opaque Config.freeValue : Nat → Nat

/-- What an undefined byte of memory holds (R103: Dormouse RAM and 5X memory after a CORE reset), per use and address. -/
opaque Config.freeByte : Nat → Nat → Byte

/-- The image of a PINMUX register in the board configuration of the SETT image with a digest, none where it holds none
(R614). (DESIGN CHOICE, log entry 24). -/
opaque Config.boardPin : Nat → Nat → Option Word

/-- SHA-256 of a byte string, as the number of its 32 bytes, big-endian (R112, R113). (DESIGN CHOICE, log entry 61). -/
opaque Config.sha256 : List Byte → Nat

/-- ECDSA P-256 verification: message digest, public key (X then Y) and signature (r then s) as big-endian numbers
(R113, R584). (DESIGN CHOICE, log entry 61). -/
opaque Config.ecdsaVerify : Nat → Nat → Nat → Bool

/-- The decimation filter of a preset (0 GUST, 1 BREEZE, 2 CALM, 3 STILL) at a PDM rate (true: 3.072 MHz), which the
specification gives by its response only (R139): from a filter state, 0 at mid-scale, and the inputs of one output period,
oldest first, the next state and the FIR's input sample. (DESIGN CHOICE, log entry 26). -/
opaque Config.decFilter : Nat → Bool → Nat → List Int → Nat × Int

/-- The idle level of a stopped MASTER group's BCLK (R171), and the level of a DOUT line, as (port, line), outside the
slots of its frame: no value is stated; none would be high-impedance. (DESIGN CHOICE, log entry 75). -/
opaque Config.bclkIdle : Nat → Bool
/-- Whether the tensor descriptors and tile records of a program meet the limits of R337: their layout is not stated, so
either answer is free. (DESIGN CHOICE, log entry 35). -/
opaque Config.tilesOk : List Byte → Bool

/-- The level of a stopped port's SPORTn_BCLK (R240): none is stated. (DESIGN CHOICE, log entry 77). -/
opaque Config.sportIdle : Nat → Bool

/-- A DOUT line outside the slots of its frame. (DESIGN CHOICE, log entry 75). -/
opaque Config.doutGap : Nat → Nat → Option Bool

/-- The interpolated value of a converter channel (R197, R199): the filter of its band (DIR, BAND) over the source
samples it holds as (instant, value), at an instant. The specification gives the filter by its response only.
(DESIGN CHOICE, log entry 27). -/
opaque Config.resample : Bool → Nat → List (Nat × Int) → Int → Int

/-- A binary32 sum of three or more products, as patterns: the specification states no order of the roundings.
(DESIGN CHOICE, log entry 27). -/
opaque Config.f32Dot : List (Nat × Nat) → Nat

/-- An entry of the binary32 inverse of a matrix of two or more rows: no order of the roundings is stated.
(DESIGN CHOICE, log entry 27). -/
opaque Config.f32Inverse : List (List Nat) → Nat → Nat → Nat

/-- A running mean over at most 1,024 binary32 values (R266): no formula is stated. (DESIGN CHOICE, log entry 27). -/
opaque Config.f32Mean : List Nat → Nat

/-- The binary32 cosine and sine of an angle code of π/32,768 rad (R252): no precision is stated.
(DESIGN CHOICE, log entry 27). -/
opaque Config.cosCode : Int → Nat
/-- Its sine, in the same form. (DESIGN CHOICE, log entry 27). -/
opaque Config.sinCode : Int → Nat

/-- An entry of the binary32 rotation matrix of a quaternion (w, x, y, z in Q2.30), normalised on use (R250): no order of
the roundings is stated. (DESIGN CHOICE, log entry 27). -/
opaque Config.rotation : List Int → Nat → Nat → Nat

/-- The closest points of two lines (R256), binary32 patterns: the two parameters and the midpoint's coordinates.
(DESIGN CHOICE, log entry 27). -/
opaque Config.closest : List Nat → List Nat → List Nat → List Nat → Nat × Nat × List Nat

/-- The distance from a point to a segment (R256), a binary32 pattern. (DESIGN CHOICE, log entry 27). -/
opaque Config.segDistance : Nat × Nat → Nat × Nat → Nat × Nat → Nat

/-- A word that a key switch or a BGV modulus switch gives (R364, R366), of everything it is computed from, before it is
taken modulo its limb: the decomposition and its roundings are not stated. (DESIGN CHOICE, log entry 38). -/
opaque Config.fogWord : List Nat → Nat → Nat

/-- A coefficient of an encoded plaintext (R368), of the parameters and the plain values: binary64 roundings for CKKS, the
root of the batching for BGV are not stated. (DESIGN CHOICE, log entry 38). -/
opaque Config.fogMsg : List Nat → Nat → Int

/-- A draw of the generator of SEED (R368): (SEED, instruction), polynomial, coefficient. The order in which draws are
taken is not stated. (DESIGN CHOICE, log entry 38). -/
opaque Config.fogDraw : Nat × Nat → Nat → Nat → Nat

/-- The scale of a sum of two ciphertexts whose scales agree within 2^-20 but differ (R366). (DESIGN CHOICE, log entry 38). -/
opaque Config.fogScale : Nat → Nat → Nat

/-- A separated sample (R342, R458) of a stream's seed at an acoustic instant: the analysis, beamformer and synthesis
are not stated. -/
opaque Config.separated : Nat → Nat → Int

/-- 2^((code - 255) / 8) of R345 and 10^(-n / 20) of R347: no precision is stated. -/
opaque Config.speechMag : Nat → Rat
opaque Config.attenGain : Nat → Rat

end Sys2Proof
end

