-- ==== Sys2Proof/Machine/Bits.lean ====
section
/-! DEFINITION. Exact integer arithmetic of the specification's pseudocode (R17): floor division, round_even, the
two's-complement reading of a field, saturation and wrapping to a width, and little-endian packing (R5). -/

namespace Sys2Proof.Machine

/-- Bits [lo+n-1:lo] of `v` (R5). -/
def bitsOf (v lo n : Nat) : Nat := v / 2 ^ lo % 2 ^ n

/-- The value read as an `n`-bit two's-complement number. -/
def toSigned (n v : Nat) : Int :=
  let w := v % 2 ^ n
  if 2 * w < 2 ^ n then (w : Int) else (w : Int) - (2 : Int) ^ n

/-- The `n`-bit two's-complement pattern of an integer. -/
def ofSigned (n : Nat) (x : Int) : Nat := (x % (2 : Int) ^ n).toNat

/-- round_even(a / b) for b > 0: nearest integer, half to even (R17). -/
def roundEvenDiv (a : Int) (b : Nat) : Int :=
  let q := a / (b : Int)
  let r := a % (b : Int)
  if 2 * r < b then q
  else if 2 * r > b then q + 1
  else if q % 2 = 0 then q else q + 1

/-- round_even(a / 2^k). -/
def roundEvenShr (a : Int) (k : Nat) : Int := roundEvenDiv a (2 ^ k)

/-- Wrap to `n`-bit two's complement. -/
def wrapS (n : Nat) (x : Int) : Int := toSigned n (ofSigned n x)

/-- Saturate to `n`-bit two's complement. -/
def satS (n : Nat) (x : Int) : Int :=
  if x > (2 : Int) ^ (n - 1) - 1 then (2 : Int) ^ (n - 1) - 1
  else if x < -((2 : Int) ^ (n - 1)) then -((2 : Int) ^ (n - 1)) else x

/-- Whether saturating to `n` bits changes the value. -/
def clipsS (n : Nat) (x : Int) : Bool := decide (satS n x ≠ x)

/-- Add with saturation at `2^n - 1`. -/
def satAdd (n a b : Nat) : Nat := min (a + b) (2 ^ n - 1)

/-- Clamp into [lo, hi]. (DEDUCED, log entry 14). -/
def clampN (lo hi v : Nat) : Nat := if v < lo then lo else if hi < v then hi else v

/-- The `n` little-endian bytes of a number (R5). -/
def leBytes : Nat → Nat → List Byte
  | 0, _ => []
  | n + 1, v => BitVec.ofNat 8 v :: leBytes n (v / 256)

/-- The number whose little-endian bytes are given (R5). -/
def ofLe : List Byte → Nat
  | [] => 0
  | b :: r => b.toNat + 256 * ofLe r

/-- Bytes [off, off+n) of a record, as a number. -/
def recField (bs : List Byte) (off n : Nat) : Nat := ofLe ((bs.drop off).take n)

/-- The low `n` bits of `v`, most significant first. -/
def msbBits : Nat → Nat → List Bool
  | 0, _ => []
  | n + 1, v => (v / 2 ^ n % 2 == 1) :: msbBits n v

/-- Number of ones in the low `n` bits. -/
def popCount : Nat → Nat → Nat
  | 0, _ => 0
  | n + 1, v => v % 2 + popCount n (v / 2)

/-- Bit `i` of `v`. -/
def bitOf (v i : Nat) : Bool := v / 2 ^ i % 2 == 1

/-- A Boolean as a bit. -/
def bit (b : Bool) : Nat := if b then 1 else 0

/-- Floor of log2 (0 for 0). -/
def log2 (n : Nat) : Nat := Nat.log2 n

/-- Ceiling of a / b. -/
def ceilDiv (a b : Nat) : Nat := (a + b - 1) / b

/-- Modular distance `(a - b) mod 2^n` of two free-running indices. -/
def idxDiff (n a b : Nat) : Nat := (a + 2 ^ n - b % 2 ^ n) % 2 ^ n

end Sys2Proof.Machine
end

