-- ==== Sys2Proof/Machine/Regs.lean ====
section
/-! DEFINITION. The register map: every register of every register table of the specification, its fields,
access codes (R12), reset values (R15) and reset domain (R102). Addresses follow R10 (block base plus offset).
One name per register (its address) and one per field. Index letters are those of the tables.
(DESIGN CHOICE, log entry 8). -/

namespace Sys2Proof.Machine

/-- Register access codes (R12). -/
inductive Acc where
  | rw | ro | wo | w1c | w1s | rc
deriving DecidableEq, Repr

/-- Reset domains that hold registers (R102): CORE, AON, DBG and the PCIe link. -/
inductive Domain where
  | core | aon | dbg | link
deriving DecidableEq, Repr

/-- A named field of a register: its register's address and its bits [hi:lo] (R5). -/
structure Fld where
  addr : Nat
  hi : Nat
  lo : Nat
deriving DecidableEq, Repr

/-- One field of a register table: bits, access code and reset value. -/
structure FieldSpec where
  hi : Nat
  lo : Nat
  acc : Acc
  reset : Nat
deriving DecidableEq, Repr

/-- One row group of a register table: first address, the strides and counts of its indices (widest first),
its reset domain, whether it is the low (1) or high (2) half of a pair (R14), and its fields. -/
structure RegSpec where
  base : Nat
  dims : List (Nat × Nat)
  dom : Domain
  pair : Nat
  fields : List FieldSpec
deriving DecidableEq, Repr

/-- The SYS register table (R1, R122), block base 0x20000000. -/
def regsSYS : List RegSpec := [
  ⟨0x20000000, [], .core, 0, [⟨31, 16, .ro, 0x4820⟩, ⟨7, 0, .ro, 0x10⟩]⟩,
  ⟨0x20000004, [], .core, 0, [⟨7, 0, .ro, 1⟩, ⟨10, 8, .ro, 0⟩, ⟨15, 12, .ro, 0⟩, ⟨20, 16, .ro, 0⟩, ⟨31, 24, .ro, 0⟩]⟩,
  ⟨0x20000008, [], .aon, 0, [⟨2, 0, .ro, 0⟩]⟩,
  ⟨0x2000000C, [], .aon, 0, [⟨0, 0, .w1c, 1⟩, ⟨1, 1, .w1c, 0⟩, ⟨2, 2, .w1c, 0⟩, ⟨3, 3, .w1c, 0⟩, ⟨4, 4, .w1c, 0⟩]⟩,
  ⟨0x20000010, [], .core, 0, [⟨0, 0, .w1s, 0⟩]⟩,
  ⟨0x20000014, [], .core, 0, [⟨15, 0, .rw, 0x3E8⟩, ⟨16, 16, .rw, 0⟩]⟩,
  ⟨0x20000018, [], .core, 0, [⟨15, 0, .wo, 0⟩]⟩,
  ⟨0x2000001C, [], .core, 0, [⟨7, 0, .ro, 0⟩]⟩,
  ⟨0x20000020, [], .core, 0, [⟨0, 0, .ro, 0⟩, ⟨5, 4, .ro, 0⟩, ⟨11, 8, .ro, 0⟩]⟩,
  ⟨0x20000024, [], .core, 0, [⟨24, 0, .rw, 0⟩, ⟨31, 31, .w1s, 0⟩]⟩]

/-- The CLK register table (R62), block base 0x20010000. -/
def regsCLK : List RegSpec := [
  ⟨0x20010000, [], .aon, 1, [⟨31, 0, .ro, 0⟩]⟩,
  ⟨0x20010004, [], .aon, 2, [⟨31, 0, .ro, 0⟩]⟩,
  ⟨0x20010008, [], .aon, 0, [⟨2, 0, .ro, 0⟩, ⟨7, 4, .ro, 0⟩, ⟨11, 8, .ro, 0⟩, ⟨16, 16, .ro, 0⟩, ⟨17, 17, .ro, 0⟩, ⟨18, 18, .ro, 0⟩, ⟨19, 19, .ro, 0⟩]⟩,
  ⟨0x2001000C, [], .aon, 0, [⟨31, 0, .rw, 1⟩]⟩,
  ⟨0x20010010, [], .aon, 0, [⟨0, 0, .rw, 1⟩, ⟨1, 1, .rw, 0⟩, ⟨3, 2, .rw, 1⟩, ⟨7, 4, .rw, 1⟩, ⟨17, 8, .rw, 0x14⟩, ⟨25, 18, .rw, 0x64⟩]⟩,
  ⟨0x20010014, [], .aon, 0, [⟨9, 0, .rw, 0x12C⟩]⟩,
  ⟨0x20010018, [], .aon, 0, [⟨24, 0, .rw, 0⟩]⟩,
  ⟨0x2001001C, [], .aon, 0, [⟨8, 1, .ro, 0⟩, ⟨24, 17, .ro, 0⟩]⟩,
  ⟨0x20010020, [], .aon, 0, [⟨8, 1, .w1c, 0⟩, ⟨24, 17, .w1c, 0⟩, ⟨25, 25, .w1c, 0⟩, ⟨26, 26, .w1c, 0⟩, ⟨27, 27, .w1c, 0⟩, ⟨28, 28, .w1c, 0⟩, ⟨29, 29, .w1c, 0⟩]⟩,
  ⟨0x20010024, [], .aon, 0, [⟨29, 1, .rw, 0⟩]⟩,
  ⟨0x20010028, [], .aon, 0, [⟨31, 0, .ro, 0⟩]⟩,
  ⟨0x2001002C, [], .aon, 0, [⟨31, 0, .ro, 0⟩]⟩,
  ⟨0x20010030, [], .aon, 0, [⟨31, 0, .ro, 0x5DC0000⟩]⟩,
  ⟨0x20010034, [], .aon, 0, [⟨0, 0, .rw, 0⟩, ⟨5, 1, .rw, 8⟩]⟩,
  ⟨0x20010040, [(0x4, 8)], .aon, 0, [⟨31, 0, .ro, 0⟩]⟩,
  ⟨0x20010060, [], .aon, 1, [⟨31, 0, .rw, 0⟩]⟩,
  ⟨0x20010064, [], .aon, 2, [⟨31, 0, .rw, 0⟩]⟩,
  ⟨0x20010068, [], .aon, 0, [⟨0, 0, .rw, 0⟩]⟩]

/-- The PWR register table (R94), block base 0x20020000. -/
def regsPWR : List RegSpec := [
  ⟨0x20020000, [], .aon, 0, [⟨2, 0, .ro, 5⟩, ⟨6, 4, .ro, 0⟩, ⟨15, 8, .ro, 0⟩, ⟨16, 16, .ro, 0⟩]⟩,
  ⟨0x20020004, [], .aon, 0, [⟨1, 0, .rw, 3⟩, ⟨2, 2, .rw, 0⟩, ⟨3, 3, .rw, 0⟩, ⟨11, 4, .rw, 0x64⟩, ⟨19, 12, .rw, 0xA⟩, ⟨31, 20, .rw, 0xC8⟩]⟩,
  ⟨0x20020008, [], .aon, 0, [⟨0, 0, .rw, 0⟩, ⟨1, 1, .rw, 0⟩, ⟨2, 2, .rw, 0⟩]⟩,
  ⟨0x2002000C, [], .aon, 0, [⟨7, 0, .rw, 0x1E⟩]⟩,
  ⟨0x20020010, [], .aon, 0, [⟨7, 0, .w1c, 0⟩]⟩,
  ⟨0x20020014, [], .aon, 0, [⟨0, 0, .rw, 0⟩, ⟨1, 1, .rw, 0⟩, ⟨9, 2, .rw, 0x21⟩]⟩,
  ⟨0x20020018, [], .aon, 0, [⟨7, 0, .rw, 4⟩, ⟨15, 8, .rw, 8⟩]⟩,
  ⟨0x2002001C, [], .aon, 0, [⟨0, 0, .w1c, 0⟩, ⟨1, 1, .w1c, 0⟩, ⟨2, 2, .w1c, 0⟩, ⟨3, 3, .w1c, 0⟩, ⟨4, 4, .w1c, 0⟩, ⟨5, 5, .w1c, 0⟩]⟩,
  ⟨0x20020020, [], .aon, 0, [⟨5, 0, .rw, 0⟩]⟩,
  ⟨0x20020024, [], .aon, 0, [⟨8, 0, .ro, 0⟩, ⟨23, 16, .ro, 0x7D⟩]⟩,
  ⟨0x20020028, [], .aon, 0, [⟨7, 0, .rw, 0⟩, ⟨8, 8, .w1c, 0⟩]⟩,
  ⟨0x2002002C, [], .aon, 0, [⟨31, 0, .ro, 0⟩]⟩]

/-- The MBOX register table (R436), block base 0x20030000. -/
def regsMBOX : List RegSpec := [
  ⟨0x20030000, [(0x1000, 10), (0x40, 4), (0x4, 16)], .core, 0, [⟨31, 0, .rw, 0⟩]⟩,
  ⟨0x20030200, [(0x1000, 10), (0x40, 4), (0x4, 16)], .core, 0, [⟨31, 0, .ro, 0⟩]⟩,
  ⟨0x20030400, [(0x1000, 10)], .core, 0, [⟨7, 0, .rw, 0⟩]⟩,
  ⟨0x20030404, [(0x1000, 10)], .core, 0, [⟨7, 0, .ro, 0⟩]⟩,
  ⟨0x20030408, [(0x1000, 10)], .core, 0, [⟨7, 0, .ro, 0⟩]⟩,
  ⟨0x2003040C, [(0x1000, 10)], .core, 0, [⟨7, 0, .rw, 0⟩]⟩,
  ⟨0x20030410, [(0x1000, 10)], .core, 0, [⟨0, 0, .ro, 0⟩, ⟨1, 1, .w1c, 0⟩, ⟨6, 2, .ro, 0⟩, ⟨26, 16, .ro, 0⟩]⟩,
  ⟨0x20030414, [(0x1000, 10)], .core, 0, [⟨0, 0, .w1c, 0⟩, ⟨1, 1, .rw, 0⟩]⟩,
  ⟨0x20030418, [(0x1000, 10)], .core, 1, [⟨31, 0, .ro, 1⟩]⟩,
  ⟨0x2003041C, [(0x1000, 10)], .core, 2, [⟨31, 0, .ro, 0⟩]⟩,
  ⟨0x2003F000, [], .core, 0, [⟨10, 0, .ro, 0x600⟩, ⟨27, 16, .ro, 0⟩]⟩]

/-- The RING register table (R436), block base 0x20040000. -/
def regsRING : List RegSpec := [
  ⟨0x20040000, [(0x400, 64)], .core, 1, [⟨31, 6, .rw, 0⟩]⟩,
  ⟨0x20040004, [(0x400, 64)], .core, 2, [⟨7, 0, .rw, 0⟩]⟩,
  ⟨0x20040008, [(0x400, 64)], .core, 1, [⟨31, 6, .rw, 0⟩]⟩,
  ⟨0x2004000C, [(0x400, 64)], .core, 2, [⟨7, 0, .rw, 0⟩]⟩,
  ⟨0x20040010, [(0x400, 64)], .core, 0, [⟨0, 0, .rw, 0⟩, ⟨1, 1, .rw, 0⟩, ⟨5, 2, .rw, 4⟩, ⟨11, 8, .rw, 0⟩, ⟨25, 16, .rw, 0⟩]⟩,
  ⟨0x20040014, [(0x400, 64)], .core, 0, [⟨8, 0, .rw, 0x100⟩]⟩,
  ⟨0x20040018, [(0x400, 64)], .core, 0, [⟨15, 0, .rw, 0⟩]⟩,
  ⟨0x2004001C, [(0x400, 64)], .core, 0, [⟨15, 0, .ro, 0⟩]⟩,
  ⟨0x20040020, [(0x400, 64)], .core, 0, [⟨15, 0, .ro, 0⟩]⟩,
  ⟨0x20040024, [(0x400, 64)], .core, 0, [⟨15, 0, .rw, 0⟩]⟩,
  ⟨0x20040028, [(0x400, 64)], .core, 0, [⟨2, 0, .ro, 0⟩, ⟨5, 4, .ro, 0⟩, ⟨8, 8, .w1c, 0⟩, ⟨24, 16, .ro, 0⟩]⟩,
  ⟨0x2004002C, [(0x400, 64)], .core, 0, [⟨0, 0, .w1c, 0⟩, ⟨1, 1, .rw, 0⟩, ⟨2, 2, .rw, 1⟩, ⟨15, 8, .rw, 1⟩, ⟨31, 16, .rw, 0⟩]⟩,
  ⟨0x20040030, [(0x400, 64)], .core, 1, [⟨31, 0, .ro, 1⟩]⟩,
  ⟨0x20040034, [(0x400, 64)], .core, 2, [⟨31, 0, .ro, 0⟩]⟩,
  ⟨0x20040038, [(0x400, 64)], .core, 1, [⟨31, 0, .ro, 0⟩]⟩,
  ⟨0x2004003C, [(0x400, 64)], .core, 2, [⟨31, 0, .ro, 0⟩]⟩,
  ⟨0x20040040, [(0x400, 64)], .core, 0, [⟨5, 0, .rw, 0⟩]⟩]

/-- The SYNC register table (R495), block base 0x20050000. -/
def regsSYNC : List RegSpec := [
  ⟨0x20050000, [(0x8, 4096)], .core, 1, [⟨31, 0, .rw, 0⟩]⟩,
  ⟨0x20050004, [(0x8, 4096)], .core, 2, [⟨31, 0, .rw, 0⟩]⟩,
  ⟨0x20058000, [(0x4, 4096)], .core, 0, [⟨9, 0, .rw, 0⟩, ⟨15, 15, .rw, 0⟩, ⟨19, 16, .ro, 0⟩]⟩,
  ⟨0x2005C000, [(0x4, 1024)], .core, 0, [⟨11, 0, .rw, 0⟩, ⟨27, 16, .rw, 0⟩, ⟨31, 31, .rw, 0⟩]⟩,
  ⟨0x2005F000, [], .core, 0, [⟨11, 0, .rw, 0⟩]⟩,
  ⟨0x2005F004, [], .core, 0, [⟨31, 0, .wo, 0⟩]⟩,
  ⟨0x2005F008, [], .core, 0, [⟨15, 0, .rc, 0⟩, ⟨16, 16, .w1c, 0⟩]⟩,
  ⟨0x2005F00C, [], .core, 0, [⟨15, 0, .rw, 0x3E8⟩]⟩]

/-- The DEC register table (R151), block base 0x20060000. -/
def regsDEC : List RegSpec := [
  ⟨0x20060000, [], .core, 0, [⟨0, 0, .rw, 0⟩]⟩,
  ⟨0x20060010, [(0x4, 4)], .core, 0, [⟨0, 0, .rw, 0⟩, ⟨2, 1, .rw, 0⟩]⟩,
  ⟨0x20060020, [], .core, 0, [⟨0, 0, .w1s, 0⟩, ⟨1, 1, .rw, 0⟩, ⟨2, 2, .rw, 1⟩, ⟨3, 3, .rw, 0⟩]⟩,
  ⟨0x20060024, [], .core, 0, [⟨15, 0, .ro, 0⟩, ⟨16, 16, .ro, 0⟩, ⟨17, 17, .ro, 0⟩, ⟨18, 18, .ro, 0⟩, ⟨31, 24, .rc, 0⟩]⟩,
  ⟨0x20060028, [], .core, 1, [⟨31, 0, .rw, 0⟩]⟩,
  ⟨0x2006002C, [], .core, 2, [⟨31, 0, .rw, 0⟩]⟩,
  ⟨0x20060030, [], .core, 1, [⟨31, 0, .ro, 0⟩]⟩,
  ⟨0x20060034, [], .core, 2, [⟨31, 0, .ro, 0⟩]⟩,
  ⟨0x20060040, [(0x4, 4)], .core, 0, [⟨0, 0, .ro, 0⟩, ⟨1, 1, .w1s, 0⟩, ⟨3, 2, .ro, 0⟩]⟩,
  ⟨0x20060050, [(0x4, 4)], .core, 0, [⟨15, 0, .rw, 0⟩, ⟨31, 16, .rw, 0⟩]⟩,
  ⟨0x20060060, [], .core, 0, [⟨0, 0, .w1c, 0⟩, ⟨7, 4, .w1c, 0⟩, ⟨11, 8, .w1c, 0⟩, ⟨15, 12, .w1c, 0⟩, ⟨16, 16, .w1c, 0⟩, ⟨17, 17, .w1c, 0⟩, ⟨18, 18, .w1c, 0⟩, ⟨19, 19, .w1c, 0⟩]⟩,
  ⟨0x20060064, [], .core, 0, [⟨19, 0, .rw, 0⟩]⟩,
  ⟨0x20060068, [], .core, 0, [⟨7, 0, .rw, 0x10⟩]⟩,
  ⟨0x20060070, [(0x4, 2)], .core, 0, [⟨31, 0, .w1c, 0⟩]⟩,
  ⟨0x20060100, [(0x4, 16)], .core, 0, [⟨1, 0, .rw, 0⟩, ⟨2, 2, .rw, 0⟩, ⟨3, 3, .rw, 0⟩]⟩,
  ⟨0x20061000, [(0x40, 32)], .core, 0, [⟨0, 0, .rw, 0⟩, ⟨2, 1, .rw, 0⟩, ⟨3, 3, .rw, 0⟩, ⟨4, 4, .rw, 0⟩, ⟨15, 8, .rw, 0⟩]⟩,
  ⟨0x20061004, [(0x40, 32)], .core, 0, [⟨15, 0, .rw, 0⟩]⟩,
  ⟨0x20061008, [(0x40, 32)], .core, 1, [⟨31, 6, .rw, 0⟩]⟩,
  ⟨0x2006100C, [(0x40, 32)], .core, 2, [⟨7, 0, .rw, 0⟩]⟩,
  ⟨0x20061010, [(0x40, 32)], .core, 0, [⟨10, 0, .rw, 0x18⟩, ⟨19, 16, .rw, 3⟩, ⟨20, 20, .rw, 0⟩, ⟨21, 21, .rw, 0⟩]⟩,
  ⟨0x20061014, [(0x40, 32)], .core, 0, [⟨3, 0, .ro, 0⟩, ⟨31, 8, .ro, 0⟩]⟩,
  ⟨0x20061018, [(0x40, 32)], .core, 0, [⟨23, 0, .rc, 0⟩]⟩,
  ⟨0x2006101C, [(0x40, 32)], .core, 0, [⟨10, 0, .ro, 0x7FF⟩, ⟨19, 16, .rw, 0xA⟩]⟩,
  ⟨0x20061020, [(0x40, 32)], .core, 0, [⟨10, 0, .ro, 0x7FF⟩, ⟨20, 16, .rw, 4⟩, ⟨28, 24, .rw, 0xC⟩]⟩,
  ⟨0x20061024, [(0x40, 32), (0x4, 2)], .core, 0, [⟨1, 0, .rw, 0⟩, ⟨2, 2, .rw, 0⟩, ⟨14, 4, .rw, 0⟩, ⟨23, 16, .rw, 0x18⟩]⟩,
  ⟨0x2006102C, [(0x40, 32)], .core, 0, [⟨0, 0, .w1c, 0⟩, ⟨1, 1, .w1c, 0⟩, ⟨2, 2, .w1c, 0⟩, ⟨9, 8, .ro, 0⟩]⟩,
  ⟨0x20068000, [(0x200, 4), (0x100, 2)], .core, 0, [⟨23, 0, .rw, 0x400000⟩]⟩,
  ⟨0x20068000, [(0x200, 4), (0x100, 2), (0x4, 64)], .core, 0, [⟨23, 0, .rw, 0⟩]⟩]

/-- The TDM register table (R181), block base 0x20070000. -/
def regsTDM0 : List RegSpec := [
  ⟨0x20070000, [(0x1000, 4)], .core, 0, [⟨1, 0, .rw, 0⟩, ⟨2, 2, .rw, 0⟩, ⟨3, 3, .rw, 0⟩, ⟨4, 4, .rw, 0⟩, ⟨15, 5, .rw, 0x40⟩, ⟨28, 16, .rw, 0x40⟩]⟩,
  ⟨0x20070004, [(0x1000, 4)], .core, 0, [⟨0, 0, .ro, 0⟩, ⟨1, 1, .ro, 0⟩]⟩,
  ⟨0x20070008, [(0x1000, 4)], .core, 0, [⟨23, 0, .ro, 0⟩]⟩,
  ⟨0x20070010, [(0x1000, 4)], .core, 1, [⟨31, 0, .ro, 0⟩]⟩,
  ⟨0x20070014, [(0x1000, 4)], .core, 2, [⟨31, 0, .ro, 0⟩]⟩,
  ⟨0x20070018, [(0x1000, 4)], .core, 0, [⟨31, 0, .ro, 0⟩]⟩,
  ⟨0x20071100, [], .core, 0, [⟨1, 0, .rw, 1⟩, ⟨6, 2, .rw, 1⟩, ⟨8, 7, .rw, 3⟩, ⟨13, 9, .rw, 0x17⟩, ⟨18, 14, .rw, 0⟩, ⟨19, 19, .rw, 0⟩, ⟨27, 20, .rw, 0x10⟩, ⟨28, 28, .rw, 0⟩, ⟨29, 29, .rw, 0⟩]⟩,
  ⟨0x20071200, [], .core, 0, [⟨1, 0, .rw, 1⟩, ⟨6, 2, .rw, 1⟩, ⟨8, 7, .rw, 3⟩, ⟨13, 9, .rw, 0x17⟩, ⟨18, 14, .rw, 0⟩, ⟨19, 19, .rw, 0⟩, ⟨27, 20, .rw, 0x10⟩]⟩,
  ⟨0x20072100, [], .core, 0, [⟨1, 0, .rw, 2⟩, ⟨6, 2, .rw, 1⟩, ⟨8, 7, .rw, 3⟩, ⟨13, 9, .rw, 0x17⟩, ⟨18, 14, .rw, 0⟩, ⟨19, 19, .rw, 0⟩, ⟨27, 20, .rw, 0x10⟩, ⟨28, 28, .rw, 0⟩, ⟨29, 29, .rw, 0⟩]⟩,
  ⟨0x20072200, [], .core, 0, [⟨1, 0, .rw, 2⟩, ⟨6, 2, .rw, 1⟩, ⟨8, 7, .rw, 3⟩, ⟨13, 9, .rw, 0x17⟩, ⟨18, 14, .rw, 0⟩, ⟨19, 19, .rw, 0⟩, ⟨27, 20, .rw, 0x10⟩]⟩,
  ⟨0x20073100, [], .core, 0, [⟨1, 0, .rw, 3⟩, ⟨6, 2, .rw, 1⟩, ⟨8, 7, .rw, 3⟩, ⟨13, 9, .rw, 0x17⟩, ⟨18, 14, .rw, 0⟩, ⟨19, 19, .rw, 0⟩, ⟨27, 20, .rw, 0x10⟩, ⟨28, 28, .rw, 0⟩, ⟨29, 29, .rw, 0⟩]⟩,
  ⟨0x20073200, [], .core, 0, [⟨1, 0, .rw, 3⟩, ⟨6, 2, .rw, 1⟩, ⟨8, 7, .rw, 3⟩, ⟨13, 9, .rw, 0x17⟩, ⟨18, 14, .rw, 0⟩, ⟨19, 19, .rw, 0⟩, ⟨27, 20, .rw, 0x10⟩]⟩,
  ⟨0x20070100, [(0x1000, 4)], .core, 0, [⟨1, 0, .rw, 0⟩, ⟨6, 2, .rw, 1⟩, ⟨8, 7, .rw, 3⟩, ⟨13, 9, .rw, 0x17⟩, ⟨18, 14, .rw, 0⟩, ⟨19, 19, .rw, 0⟩, ⟨27, 20, .rw, 0x10⟩, ⟨28, 28, .rw, 0⟩, ⟨29, 29, .rw, 0⟩]⟩,
  ⟨0x20070200, [(0x1000, 4)], .core, 0, [⟨1, 0, .rw, 0⟩, ⟨6, 2, .rw, 1⟩, ⟨8, 7, .rw, 3⟩, ⟨13, 9, .rw, 0x17⟩, ⟨18, 14, .rw, 0⟩, ⟨19, 19, .rw, 0⟩, ⟨27, 20, .rw, 0x10⟩]⟩,
  ⟨0x20070104, [(0x1000, 4), (0x100, 2)], .core, 0, [⟨1, 1, .w1s, 0⟩, ⟨4, 2, .ro, 0⟩]⟩,
  ⟨0x20070108, [(0x1000, 4), (0x100, 2)], .core, 0, [⟨4, 0, .ro, 0⟩, ⟨12, 8, .ro, 0⟩]⟩,
  ⟨0x2007010C, [(0x1000, 4)], .core, 0, [⟨8, 0, .rw, 0x32⟩]⟩,
  ⟨0x2007020C, [(0x1000, 4)], .core, 0, []⟩,
  ⟨0x20070110, [(0x1000, 4), (0x100, 2), (0x4, 2)], .core, 0, [⟨31, 0, .ro, 0⟩]⟩,
  ⟨0x20070120, [(0x1000, 4), (0x100, 2), (0x10, 2)], .core, 1, [⟨31, 6, .rw, 0⟩]⟩,
  ⟨0x20070124, [(0x1000, 4), (0x100, 2), (0x10, 2)], .core, 2, [⟨7, 0, .rw, 0⟩]⟩,
  ⟨0x20070128, [(0x1000, 4), (0x100, 2), (0x10, 2)], .core, 0, [⟨3, 0, .rw, 6⟩, ⟨4, 4, .rw, 0⟩, ⟨15, 8, .rw, 4⟩]⟩,
  ⟨0x2007012C, [(0x1000, 4), (0x100, 2), (0x10, 2)], .core, 0, [⟨15, 0, .ro, 0⟩, ⟨31, 16, .rw, 0⟩]⟩,
  ⟨0x20070140, [(0x1000, 4)], .core, 0, [⟨0, 0, .rw, 0⟩]⟩,
  ⟨0x20070240, [(0x1000, 4)], .core, 1, [⟨31, 0, .ro, 0⟩]⟩,
  ⟨0x20070244, [(0x1000, 4)], .core, 2, [⟨31, 0, .ro, 0⟩]⟩,
  ⟨0x20070248, [(0x1000, 4)], .core, 0, [⟨15, 0, .ro, 0⟩]⟩,
  ⟨0x20070400, [(0x1000, 4), (0x80, 2), (0x4, 32)], .core, 0, [⟨1, 0, .rw, 0⟩, ⟨6, 2, .rw, 0⟩, ⟨7, 7, .rw, 0⟩, ⟨15, 8, .rw, 0⟩, ⟨17, 16, .rw, 0⟩, ⟨18, 18, .ro, 0⟩]⟩,
  ⟨0x20070600, [(0x1000, 4), (0x80, 2), (0x4, 32)], .core, 0, [⟨0, 0, .rw, 0⟩]⟩,
  ⟨0x2007F000, [], .core, 0, [⟨7, 0, .rw, 0⟩, ⟨9, 8, .rw, 0⟩, ⟨10, 10, .w1s, 0⟩, ⟨11, 11, .rw, 0⟩, ⟨12, 12, .ro, 0⟩]⟩,
  ⟨0x2007F004, [], .core, 1, [⟨31, 0, .rw, 0⟩]⟩,
  ⟨0x2007F008, [], .core, 2, [⟨31, 0, .rw, 0⟩]⟩,
  ⟨0x2007F00C, [], .core, 1, [⟨31, 0, .ro, 0⟩]⟩,
  ⟨0x2007F010, [], .core, 2, [⟨31, 0, .ro, 0⟩]⟩,
  ⟨0x2007F020, [], .core, 0, [⟨3, 0, .w1c, 0⟩, ⟨7, 4, .w1c, 0⟩, ⟨11, 8, .w1c, 0⟩, ⟨15, 12, .w1c, 0⟩, ⟨19, 16, .w1c, 0⟩, ⟨20, 20, .w1c, 0⟩, ⟨24, 21, .w1c, 0⟩]⟩]

/-- The TDM register table (R181), block base 0x20070000. -/
def regsTDM1 : List RegSpec := [
  ⟨0x2007F024, [], .core, 0, [⟨24, 0, .rw, 0⟩]⟩]

/-- The SPDIF register table (R209), block base 0x20080000. -/
def regsSPDIF : List RegSpec := [
  ⟨0x20080000, [], .core, 0, [⟨0, 0, .rw, 0⟩, ⟨1, 1, .rw, 1⟩, ⟨2, 2, .rw, 0⟩]⟩,
  ⟨0x20080004, [], .core, 0, [⟨0, 0, .ro, 0⟩, ⟨6, 4, .ro, 0⟩]⟩,
  ⟨0x20080008, [], .core, 1, [⟨31, 0, .ro, 0⟩]⟩,
  ⟨0x2008000C, [], .core, 2, [⟨31, 0, .ro, 0⟩]⟩,
  ⟨0x20080010, [], .core, 0, [⟨23, 0, .ro, 0⟩]⟩,
  ⟨0x20080014, [], .core, 0, [⟨15, 0, .rc, 0⟩, ⟨31, 16, .rc, 0⟩]⟩,
  ⟨0x20080020, [(0x4, 6)], .core, 0, [⟨31, 0, .ro, 0⟩]⟩,
  ⟨0x20080038, [], .core, 0, [⟨0, 0, .ro, 0⟩]⟩,
  ⟨0x20080040, [], .core, 1, [⟨31, 6, .rw, 0⟩]⟩,
  ⟨0x20080044, [], .core, 2, [⟨7, 0, .rw, 0⟩]⟩,
  ⟨0x20080048, [], .core, 0, [⟨3, 0, .rw, 6⟩, ⟨4, 4, .rw, 0⟩, ⟨15, 8, .rw, 4⟩]⟩,
  ⟨0x2008004C, [], .core, 0, [⟨15, 0, .ro, 0⟩, ⟨31, 16, .rw, 0⟩]⟩,
  ⟨0x20080060, [], .core, 0, [⟨0, 0, .w1c, 0⟩, ⟨1, 1, .w1c, 0⟩, ⟨2, 2, .w1c, 0⟩, ⟨3, 3, .w1c, 0⟩]⟩,
  ⟨0x20080064, [], .core, 0, [⟨3, 0, .rw, 0⟩]⟩,
  ⟨0x20080100, [], .core, 0, [⟨0, 0, .rw, 1⟩, ⟨1, 1, .rw, 1⟩, ⟨2, 2, .rw, 1⟩, ⟨9, 3, .rw, 0x31⟩, ⟨25, 16, .rw, 0xFA⟩]⟩,
  ⟨0x20080100, [(0x20, 9)], .core, 0, [⟨0, 0, .rw, 1⟩, ⟨2, 2, .rw, 1⟩, ⟨9, 3, .rw, 2⟩, ⟨25, 16, .rw, 0xFA⟩]⟩,
  ⟨0x20080104, [], .core, 0, [⟨0, 0, .rw, 1⟩]⟩,
  ⟨0x20080104, [(0x20, 9)], .core, 0, [⟨15, 0, .rw, 0xFFFF⟩]⟩,
  ⟨0x20080108, [(0x20, 9)], .core, 0, [⟨0, 0, .ro, 0⟩, ⟨2, 1, .ro, 0⟩, ⟨31, 16, .ro, 0⟩]⟩,
  ⟨0x2008010C, [(0x20, 9)], .core, 1, [⟨31, 0, .ro, 0⟩]⟩,
  ⟨0x20080110, [(0x20, 9)], .core, 2, [⟨31, 0, .ro, 0⟩]⟩,
  ⟨0x20080300, [], .core, 0, [⟨8, 0, .w1c, 0⟩, ⟨24, 16, .w1c, 0⟩]⟩,
  ⟨0x20080304, [], .core, 0, [⟨24, 0, .rw, 0⟩]⟩]

/-- The ASRC register table (R209), block base 0x20090000. -/
def regsASRC : List RegSpec := [
  ⟨0x20090000, [(0x100, 8)], .core, 0, [⟨0, 0, .rw, 0⟩, ⟨1, 1, .rw, 0⟩, ⟨4, 2, .rw, 0⟩, ⟨5, 5, .rw, 0⟩, ⟨7, 6, .rw, 1⟩, ⟨10, 8, .rw, 1⟩, ⟨13, 12, .rw, 1⟩]⟩,
  ⟨0x20090004, [(0x100, 8)], .core, 0, [⟨4, 0, .rw, 0⟩, ⟨12, 8, .rw, 1⟩, ⟨20, 16, .rw, 2⟩, ⟨28, 24, .rw, 3⟩]⟩,
  ⟨0x20090004, [(0x100, 8), (0x4, 2)], .core, 0, [⟨4, 0, .rw, 4⟩, ⟨12, 8, .rw, 5⟩, ⟨20, 16, .rw, 6⟩, ⟨28, 24, .rw, 7⟩]⟩,
  ⟨0x2009000C, [(0x100, 8)], .core, 0, [⟨1, 0, .ro, 0⟩, ⟨3, 2, .ro, 0⟩, ⟨4, 4, .w1c, 0⟩, ⟨5, 5, .ro, 0⟩]⟩,
  ⟨0x20090010, [(0x100, 8)], .core, 0, [⟨31, 0, .ro, 0⟩]⟩,
  ⟨0x20090014, [(0x100, 8)], .core, 0, [⟨31, 0, .ro, 0⟩]⟩,
  ⟨0x20090018, [(0x100, 8)], .core, 1, [⟨31, 6, .rw, 0⟩]⟩,
  ⟨0x2009001C, [(0x100, 8)], .core, 2, [⟨7, 0, .rw, 0⟩]⟩,
  ⟨0x20090020, [(0x100, 8)], .core, 0, [⟨10, 0, .rw, 0x18⟩, ⟨15, 12, .rw, 3⟩, ⟨19, 16, .rw, 0xA⟩]⟩,
  ⟨0x20090024, [(0x100, 8)], .core, 0, [⟨15, 0, .ro, 0⟩, ⟨31, 16, .rw, 0⟩]⟩,
  ⟨0x20090028, [(0x100, 8)], .core, 1, [⟨31, 0, .ro, 0⟩]⟩,
  ⟨0x2009002C, [(0x100, 8)], .core, 2, [⟨31, 0, .ro, 0⟩]⟩,
  ⟨0x2009F000, [], .core, 0, [⟨7, 0, .w1c, 0⟩, ⟨15, 8, .w1c, 0⟩, ⟨23, 16, .w1c, 0⟩, ⟨31, 24, .w1c, 0⟩]⟩,
  ⟨0x2009F004, [], .core, 0, [⟨31, 0, .rw, 0⟩]⟩]

/-- The GUST register table (R232), block base 0x200A0000. -/
def regsGUST0 : List RegSpec := [
  ⟨0x200A0000, [], .core, 0, [⟨0, 0, .rw, 0⟩, ⟨1, 1, .w1s, 0⟩, ⟨2, 2, .rw, 1⟩, ⟨14, 4, .rw, 0x100⟩]⟩,
  ⟨0x200A0004, [], .core, 0, [⟨0, 0, .ro, 0⟩, ⟨2, 1, .ro, 0⟩, ⟨3, 3, .ro, 0⟩, ⟨4, 4, .ro, 0⟩]⟩,
  ⟨0x200A0008, [], .core, 0, [⟨0, 0, .rw, 1⟩, ⟨1, 1, .ro, 0⟩]⟩,
  ⟨0x200A000C, [], .core, 0, [⟨31, 0, .rw, 0⟩]⟩,
  ⟨0x200A0010, [], .core, 0, [⟨3, 0, .rw, 0⟩]⟩,
  ⟨0x200A0014, [], .core, 1, [⟨31, 4, .rw, 0⟩]⟩,
  ⟨0x200A0018, [], .core, 2, [⟨7, 0, .rw, 0⟩]⟩,
  ⟨0x200A001C, [], .core, 0, [⟨7, 0, .rw, 0⟩, ⟨16, 8, .rw, 1⟩, ⟨31, 31, .w1s, 0⟩]⟩,
  ⟨0x200A0020, [], .core, 0, [⟨7, 0, .rw, 0⟩, ⟨13, 8, .rw, 0⟩]⟩,
  ⟨0x200A0024, [], .core, 0, [⟨23, 0, .rw, 0⟩]⟩,
  ⟨0x200A0030, [], .core, 0, [⟨0, 0, .w1c, 0⟩, ⟨1, 1, .w1c, 0⟩, ⟨2, 2, .w1c, 0⟩, ⟨3, 3, .w1c, 0⟩, ⟨4, 4, .w1c, 0⟩, ⟨5, 5, .w1c, 0⟩, ⟨6, 6, .w1c, 0⟩]⟩,
  ⟨0x200A0034, [], .core, 0, [⟨6, 0, .rw, 0⟩]⟩,
  ⟨0x200A0038, [], .core, 1, [⟨31, 0, .ro, 0⟩]⟩,
  ⟨0x200A003C, [], .core, 2, [⟨31, 0, .ro, 0⟩]⟩,
  ⟨0x200A0040, [], .core, 0, [⟨31, 0, .w1c, 0⟩]⟩,
  ⟨0x200A0044, [], .core, 0, [⟨31, 0, .w1c, 0⟩]⟩,
  ⟨0x200A0100, [], .core, 0, [⟨4, 0, .rw, 0⟩, ⟨5, 5, .rw, 0⟩, ⟨6, 6, .ro, 0⟩]⟩,
  ⟨0x200A0104, [], .core, 0, [⟨4, 0, .rw, 1⟩, ⟨5, 5, .rw, 0⟩, ⟨6, 6, .ro, 0⟩]⟩,
  ⟨0x200A0108, [], .core, 0, [⟨4, 0, .rw, 2⟩, ⟨5, 5, .rw, 0⟩, ⟨6, 6, .ro, 0⟩]⟩,
  ⟨0x200A010C, [], .core, 0, [⟨4, 0, .rw, 3⟩, ⟨5, 5, .rw, 0⟩, ⟨6, 6, .ro, 0⟩]⟩,
  ⟨0x200A0110, [], .core, 0, [⟨4, 0, .rw, 4⟩, ⟨5, 5, .rw, 0⟩, ⟨6, 6, .ro, 0⟩]⟩,
  ⟨0x200A0114, [], .core, 0, [⟨4, 0, .rw, 5⟩, ⟨5, 5, .rw, 0⟩, ⟨6, 6, .ro, 0⟩]⟩,
  ⟨0x200A0118, [], .core, 0, [⟨4, 0, .rw, 6⟩, ⟨5, 5, .rw, 0⟩, ⟨6, 6, .ro, 0⟩]⟩,
  ⟨0x200A011C, [], .core, 0, [⟨4, 0, .rw, 7⟩, ⟨5, 5, .rw, 0⟩, ⟨6, 6, .ro, 0⟩]⟩,
  ⟨0x200A0120, [], .core, 0, [⟨4, 0, .rw, 8⟩, ⟨5, 5, .rw, 0⟩, ⟨6, 6, .ro, 0⟩]⟩,
  ⟨0x200A0124, [], .core, 0, [⟨4, 0, .rw, 9⟩, ⟨5, 5, .rw, 0⟩, ⟨6, 6, .ro, 0⟩]⟩,
  ⟨0x200A0128, [], .core, 0, [⟨4, 0, .rw, 0xA⟩, ⟨5, 5, .rw, 0⟩, ⟨6, 6, .ro, 0⟩]⟩,
  ⟨0x200A012C, [], .core, 0, [⟨4, 0, .rw, 0xB⟩, ⟨5, 5, .rw, 0⟩, ⟨6, 6, .ro, 0⟩]⟩,
  ⟨0x200A0130, [], .core, 0, [⟨4, 0, .rw, 0xC⟩, ⟨5, 5, .rw, 0⟩, ⟨6, 6, .ro, 0⟩]⟩,
  ⟨0x200A0134, [], .core, 0, [⟨4, 0, .rw, 0xD⟩, ⟨5, 5, .rw, 0⟩, ⟨6, 6, .ro, 0⟩]⟩]

/-- The GUST register table (R232), block base 0x200A0000. -/
def regsGUST1 : List RegSpec := [
  ⟨0x200A0138, [], .core, 0, [⟨4, 0, .rw, 0xE⟩, ⟨5, 5, .rw, 0⟩, ⟨6, 6, .ro, 0⟩]⟩,
  ⟨0x200A013C, [], .core, 0, [⟨4, 0, .rw, 0xF⟩, ⟨5, 5, .rw, 0⟩, ⟨6, 6, .ro, 0⟩]⟩,
  ⟨0x200A0200, [(0x8, 32)], .core, 0, [⟨10, 0, .rw, 0⟩, ⟨19, 16, .rw, 0xA⟩, ⟨24, 24, .rw, 0⟩]⟩,
  ⟨0x200A0204, [(0x8, 32)], .core, 0, [⟨10, 0, .ro, 0x7FF⟩]⟩,
  ⟨0x200A0400, [(0x4, 256)], .core, 0, [⟨0, 0, .rw, 0⟩, ⟨4, 1, .rw, 0⟩, ⟨9, 5, .rw, 0⟩, ⟨14, 10, .rw, 0⟩, ⟨18, 16, .rw, 0⟩]⟩]

/-- The FOX register table (R273), block base 0x200B0000. -/
def regsFOX0 : List RegSpec := [
  ⟨0x200B0000, [], .core, 0, [⟨0, 0, .rw, 0⟩, ⟨1, 1, .rw, 0⟩, ⟨2, 2, .rw, 0⟩]⟩,
  ⟨0x200B0004, [], .core, 0, [⟨29, 0, .rw, 0x3FFFFFFF⟩]⟩,
  ⟨0x200B0008, [], .core, 0, [⟨3, 0, .rw, 0⟩]⟩,
  ⟨0x200B000C, [], .core, 0, [⟨15, 0, .ro, 0⟩, ⟨31, 16, .rw, 0⟩]⟩,
  ⟨0x200B0010, [], .core, 0, [⟨3, 0, .rw, 0xF⟩, ⟨4, 4, .rw, 0⟩, ⟨15, 8, .rw, 0xC8⟩, ⟨23, 16, .rw, 0x14⟩]⟩,
  ⟨0x200B0020, [(0x8, 4)], .core, 0, [⟨11, 0, .rw, 0x60⟩]⟩,
  ⟨0x200B0024, [(0x8, 4)], .core, 0, [⟨31, 0, .rw, 0x1E8480⟩]⟩,
  ⟨0x200B0040, [], .core, 0, [⟨31, 0, .rw, 0x40800000⟩]⟩,
  ⟨0x200B0044, [], .core, 0, [⟨31, 0, .rw, 0x3C23D70A⟩]⟩,
  ⟨0x200B0048, [], .core, 0, [⟨31, 0, .rw, 0x358637BD⟩]⟩,
  ⟨0x200B004C, [], .core, 0, [⟨31, 0, .rw, 0x3C23D70A⟩]⟩,
  ⟨0x200B0050, [], .core, 0, [⟨31, 0, .rw, 0x3D4CCCCD⟩]⟩,
  ⟨0x200B0054, [], .core, 0, [⟨31, 0, .rw, 0x38D1B717⟩]⟩,
  ⟨0x200B0060, [(0x4, 8)], .core, 0, [⟨31, 0, .rw, 0⟩]⟩,
  ⟨0x200B0080, [], .core, 0, [⟨31, 0, .rw, 0x3F000000⟩]⟩,
  ⟨0x200B0090, [(0x4, 4)], .core, 0, [⟨31, 0, .ro, 0⟩]⟩,
  ⟨0x200B00A0, [], .core, 1, [⟨31, 0, .ro, 0⟩]⟩,
  ⟨0x200B00A4, [], .core, 2, [⟨31, 0, .ro, 0⟩]⟩,
  ⟨0x200B00A8, [], .core, 0, [⟨3, 0, .ro, 0⟩, ⟨11, 8, .ro, 0⟩]⟩,
  ⟨0x200B00B0, [], .core, 1, [⟨31, 6, .rw, 0⟩]⟩,
  ⟨0x200B00B4, [], .core, 2, [⟨7, 0, .rw, 0⟩]⟩,
  ⟨0x200B00B8, [], .core, 0, [⟨3, 0, .rw, 8⟩, ⟨4, 4, .rw, 0⟩]⟩,
  ⟨0x200B0100, [], .core, 0, [⟨3, 0, .rw, 3⟩, ⟨11, 4, .rw, 0xC8⟩, ⟨13, 12, .rw, 1⟩, ⟨17, 14, .rw, 4⟩, ⟨20, 18, .rw, 5⟩, ⟨24, 21, .rw, 3⟩, ⟨28, 25, .rw, 6⟩]⟩,
  ⟨0x200B0104, [], .core, 0, [⟨11, 0, .rw, 0x64⟩, ⟨27, 12, .rw, 0xFA0⟩]⟩,
  ⟨0x200B0108, [], .core, 0, [⟨7, 0, .rw, 0x80⟩, ⟨15, 8, .rw, 0x40⟩, ⟨23, 16, .rw, 8⟩]⟩,
  ⟨0x200B0110, [], .core, 0, [⟨31, 0, .rw, 0x3F000000⟩]⟩,
  ⟨0x200B0114, [], .core, 0, [⟨31, 0, .rw, 0x413570A4⟩]⟩,
  ⟨0x200B0118, [], .core, 0, [⟨31, 0, .rw, 0x3F800000⟩]⟩,
  ⟨0x200B011C, [], .core, 0, [⟨31, 0, .rw, 0x3CF5C28F⟩]⟩,
  ⟨0x200B0120, [], .core, 0, [⟨31, 0, .rw, 0x3F000000⟩]⟩]

/-- The FOX register table (R273), block base 0x200B0000. -/
def regsFOX1 : List RegSpec := [
  ⟨0x200B0124, [], .core, 0, [⟨31, 0, .rw, 0x3F800000⟩]⟩,
  ⟨0x200B0128, [], .core, 0, [⟨31, 0, .rw, 0x3F000000⟩]⟩,
  ⟨0x200B012C, [], .core, 0, [⟨31, 0, .rw, 0x190000⟩]⟩,
  ⟨0x200B0130, [], .core, 1, [⟨31, 0, .ro, 0⟩]⟩,
  ⟨0x200B0134, [], .core, 2, [⟨31, 0, .ro, 0⟩]⟩,
  ⟨0x200B0138, [], .core, 0, [⟨31, 0, .ro, 0⟩]⟩,
  ⟨0x200B0140, [], .core, 0, [⟨9, 0, .w1c, 0⟩]⟩,
  ⟨0x200B0144, [], .core, 0, [⟨9, 0, .rw, 0⟩]⟩,
  ⟨0x200B0200, [(0x10, 8)], .core, 1, [⟨31, 6, .rw, 0⟩]⟩,
  ⟨0x200B0204, [(0x10, 8)], .core, 2, [⟨7, 0, .rw, 0⟩]⟩,
  ⟨0x200B0208, [(0x10, 8)], .core, 0, [⟨2, 0, .rw, 0⟩, ⟨3, 3, .rw, 0⟩, ⟨25, 16, .ro, 0⟩]⟩]

/-- The LYNX register table (R353), block base 0x200C0000. -/
def regsLYNX : List RegSpec := [
  ⟨0x200C0000, [(0x1000, 8)], .core, 0, [⟨0, 0, .rw, 0⟩, ⟨6, 4, .ro, 0⟩]⟩,
  ⟨0x200C0004, [(0x1000, 8)], .core, 1, [⟨31, 6, .rw, 0⟩]⟩,
  ⟨0x200C0008, [(0x1000, 8)], .core, 2, [⟨7, 0, .rw, 0⟩]⟩,
  ⟨0x200C000C, [(0x1000, 8)], .core, 0, [⟨0, 0, .w1s, 0⟩, ⟨13, 8, .ro, 0⟩]⟩,
  ⟨0x200C0010, [(0x1000, 8)], .core, 0, [⟨4, 0, .ro, 0⟩, ⟨12, 8, .rc, 0⟩]⟩,
  ⟨0x200C0014, [(0x1000, 8)], .core, 0, [⟨31, 0, .rc, 0⟩]⟩,
  ⟨0x200C0018, [(0x1000, 8), (0x4, 4)], .core, 0, [⟨31, 0, .rc, 0⟩]⟩,
  ⟨0x200C0028, [(0x1000, 8)], .core, 0, [⟨31, 0, .ro, 0⟩]⟩,
  ⟨0x200C002C, [(0x1000, 8)], .core, 0, [⟨3, 0, .ro, 0⟩]⟩,
  ⟨0x200C0030, [(0x1000, 8)], .core, 1, [⟨31, 0, .ro, 0⟩]⟩,
  ⟨0x200C0034, [(0x1000, 8)], .core, 2, [⟨7, 0, .ro, 0⟩]⟩,
  ⟨0x200C0038, [(0x1000, 8)], .core, 0, [⟨21, 0, .ro, 0x200000⟩]⟩,
  ⟨0x200CF000, [], .core, 0, [⟨7, 0, .w1c, 0⟩, ⟨15, 8, .w1c, 0⟩, ⟨16, 16, .w1c, 0⟩, ⟨17, 17, .w1c, 0⟩, ⟨18, 18, .w1c, 0⟩]⟩,
  ⟨0x200CF004, [], .core, 0, [⟨18, 0, .rw, 0⟩]⟩,
  ⟨0x200CF100, [(0x10, 24)], .core, 0, [⟨0, 0, .rw, 0⟩, ⟨3, 1, .rw, 0⟩, ⟨5, 4, .rw, 0⟩, ⟨6, 6, .rw, 1⟩, ⟨9, 8, .rw, 1⟩, ⟨15, 10, .rw, 0xC⟩, ⟨23, 16, .rw, 0x80⟩]⟩,
  ⟨0x200CF104, [(0x10, 24)], .core, 0, [⟨3, 0, .rw, 3⟩, ⟨8, 4, .rw, 0x10⟩, ⟨23, 16, .rw, 0x10⟩]⟩,
  ⟨0x200CF108, [(0x10, 24)], .core, 0, [⟨1, 0, .ro, 0⟩, ⟨3, 2, .ro, 0⟩, ⟨8, 4, .ro, 0⟩, ⟨31, 16, .rc, 0⟩]⟩]

/-- The FOG register table (R377), block base 0x200D0000. -/
def regsFOG : List RegSpec := [
  ⟨0x200D0000, [], .core, 0, [⟨0, 0, .rw, 0⟩]⟩,
  ⟨0x200D0004, [], .core, 0, [⟨1, 0, .ro, 0⟩, ⟨7, 4, .ro, 0⟩, ⟨12, 8, .ro, 0⟩, ⟨19, 16, .ro, 0⟩, ⟨25, 24, .ro, 0⟩]⟩,
  ⟨0x200D0008, [], .core, 1, [⟨31, 6, .rw, 0⟩]⟩,
  ⟨0x200D000C, [], .core, 2, [⟨7, 0, .rw, 0⟩]⟩,
  ⟨0x200D0010, [], .core, 0, [⟨4, 0, .rw, 0⟩, ⟨13, 8, .ro, 0⟩, ⟨31, 31, .w1s, 0⟩]⟩,
  ⟨0x200D0014, [], .core, 1, [⟨31, 6, .rw, 0⟩]⟩,
  ⟨0x200D0018, [], .core, 2, [⟨7, 0, .rw, 0⟩]⟩,
  ⟨0x200D001C, [], .core, 0, [⟨4, 0, .rw, 0⟩, ⟨9, 8, .rw, 0⟩, ⟨16, 16, .w1s, 0⟩, ⟨31, 24, .ro, 0⟩]⟩,
  ⟨0x200D0020, [], .core, 1, [⟨31, 6, .rw, 0⟩]⟩,
  ⟨0x200D0024, [], .core, 2, [⟨7, 0, .rw, 0⟩]⟩,
  ⟨0x200D0028, [], .core, 0, [⟨6, 0, .rw, 8⟩, ⟨31, 8, .rw, 0⟩]⟩,
  ⟨0x200D002C, [], .core, 1, [⟨31, 6, .rw, 0⟩]⟩,
  ⟨0x200D0030, [], .core, 2, [⟨7, 0, .rw, 0⟩]⟩,
  ⟨0x200D0034, [], .core, 1, [⟨31, 0, .rw, 0⟩]⟩,
  ⟨0x200D0038, [], .core, 2, [⟨31, 0, .rw, 0⟩]⟩,
  ⟨0x200D003C, [], .core, 1, [⟨31, 6, .rw, 0⟩]⟩,
  ⟨0x200D0040, [], .core, 2, [⟨7, 0, .rw, 0⟩]⟩,
  ⟨0x200D0044, [], .core, 0, [⟨0, 0, .w1s, 0⟩, ⟨15, 8, .ro, 0⟩]⟩,
  ⟨0x200D0048, [(0x4, 3)], .core, 0, [⟨31, 0, .rc, 0⟩]⟩,
  ⟨0x200D0054, [], .core, 0, [⟨31, 0, .rc, 0⟩]⟩,
  ⟨0x200D0058, [], .core, 0, [⟨31, 0, .rc, 0⟩]⟩,
  ⟨0x200D005C, [], .core, 0, [⟨3, 0, .ro, 0⟩]⟩,
  ⟨0x200D0060, [], .core, 1, [⟨31, 0, .ro, 0⟩]⟩,
  ⟨0x200D0064, [], .core, 2, [⟨7, 0, .ro, 0⟩]⟩,
  ⟨0x200D0100, [], .core, 0, [⟨0, 0, .w1c, 0⟩, ⟨1, 1, .w1c, 0⟩, ⟨2, 2, .w1c, 0⟩, ⟨3, 3, .w1c, 0⟩, ⟨4, 4, .w1c, 0⟩]⟩,
  ⟨0x200D0104, [], .core, 0, [⟨4, 0, .rw, 0⟩]⟩]

/-- The MARTEN register table (R307), block base 0x200E0000. -/
def regsMARTEN : List RegSpec := [
  ⟨0x200E0000, [(0x1000, 4)], .core, 0, [⟨0, 0, .w1s, 0⟩, ⟨1, 1, .w1s, 0⟩, ⟨6, 4, .ro, 0⟩]⟩,
  ⟨0x200E0004, [(0x1000, 4)], .core, 0, [⟨13, 0, .rw, 0⟩]⟩,
  ⟨0x200E0008, [(0x1000, 4)], .core, 0, [⟨13, 0, .ro, 0⟩]⟩,
  ⟨0x200E000C, [(0x1000, 4)], .core, 0, [⟨3, 0, .ro, 0⟩, ⟨4, 4, .ro, 0⟩, ⟨29, 16, .ro, 0⟩]⟩,
  ⟨0x200E0010, [(0x1000, 4)], .core, 1, [⟨31, 0, .ro, 0⟩]⟩,
  ⟨0x200E0014, [(0x1000, 4)], .core, 2, [⟨7, 0, .ro, 0⟩]⟩,
  ⟨0x200E0018, [(0x1000, 4)], .core, 0, [⟨9, 0, .rw, 0⟩, ⟨16, 16, .rw, 0⟩]⟩,
  ⟨0x200E001C, [(0x1000, 4)], .core, 0, [⟨0, 0, .w1s, 0⟩, ⟨31, 8, .rw, 0⟩]⟩,
  ⟨0x200E0020, [(0x1000, 4)], .core, 1, [⟨31, 0, .rw, 0⟩]⟩,
  ⟨0x200E0024, [(0x1000, 4)], .core, 2, [⟨31, 0, .rw, 0⟩]⟩,
  ⟨0x200E0028, [(0x1000, 4)], .core, 0, [⟨0, 0, .rw, 0⟩]⟩,
  ⟨0x200E0030, [(0x1000, 4)], .core, 0, [⟨31, 0, .ro, 0⟩]⟩,
  ⟨0x200E0034, [(0x1000, 4)], .core, 0, [⟨31, 0, .rc, 0⟩]⟩,
  ⟨0x200E0038, [(0x1000, 4)], .core, 0, [⟨31, 0, .rc, 0⟩]⟩,
  ⟨0x200E003C, [(0x1000, 4)], .core, 0, [⟨31, 0, .ro, 0⟩]⟩,
  ⟨0x200E0040, [(0x1000, 4)], .core, 0, [⟨31, 0, .rc, 0⟩]⟩,
  ⟨0x200E0044, [(0x1000, 4)], .core, 0, [⟨15, 0, .rc, 0⟩]⟩,
  ⟨0x200E0048, [(0x1000, 4)], .core, 0, [⟨5, 0, .ro, 0⟩, ⟨13, 8, .rc, 0⟩]⟩,
  ⟨0x200E0100, [(0x1000, 4), (0x4, 16)], .core, 0, [⟨11, 0, .rw, 0⟩, ⟨15, 15, .rw, 0⟩]⟩,
  ⟨0x200E0200, [(0x1000, 4), (0x20, 4)], .core, 1, [⟨31, 2, .rw, 0⟩]⟩,
  ⟨0x200E0204, [(0x1000, 4), (0x20, 4)], .core, 2, [⟨7, 0, .rw, 0⟩]⟩,
  ⟨0x200E0208, [(0x1000, 4), (0x20, 4)], .core, 1, [⟨31, 2, .rw, 0⟩]⟩,
  ⟨0x200E020C, [(0x1000, 4), (0x20, 4)], .core, 2, [⟨7, 0, .rw, 0⟩]⟩,
  ⟨0x200E0210, [(0x1000, 4), (0x20, 4)], .core, 0, [⟨18, 2, .rw, 0⟩]⟩,
  ⟨0x200E0214, [(0x1000, 4), (0x20, 4)], .core, 0, [⟨0, 0, .w1s, 0⟩, ⟨1, 1, .ro, 0⟩, ⟨2, 2, .w1c, 0⟩]⟩,
  ⟨0x200EF000, [], .core, 0, [⟨3, 0, .w1c, 0⟩, ⟨7, 4, .w1c, 0⟩, ⟨11, 8, .w1c, 0⟩, ⟨15, 12, .w1c, 0⟩]⟩,
  ⟨0x200EF004, [], .core, 0, [⟨15, 0, .rw, 0⟩]⟩,
  ⟨0x200EF008, [], .core, 0, [⟨3, 0, .w1s, 0⟩]⟩]

/-- The MEMC register table (R405), block base 0x200F0000. -/
def regsMEMC : List RegSpec := [
  ⟨0x200F0000, [], .core, 0, [⟨2, 0, .rw, 2⟩, ⟨5, 4, .rw, 2⟩, ⟨8, 8, .rw, 0⟩]⟩,
  ⟨0x200F0004, [], .core, 0, [⟨0, 0, .ro, 0⟩, ⟨1, 1, .ro, 0⟩, ⟨2, 2, .ro, 0⟩]⟩,
  ⟨0x200F0008, [], .core, 0, [⟨15, 0, .ro, 0⟩]⟩,
  ⟨0x200F000C, [], .core, 0, [⟨0, 0, .w1s, 0⟩]⟩,
  ⟨0x200F0010, [(0x4, 3)], .core, 0, [⟨9, 0, .rw, 0⟩]⟩,
  ⟨0x200F0020, [], .core, 0, [⟨3, 0, .rw, 0xF⟩]⟩,
  ⟨0x200F0030, [(0x4, 4)], .core, 0, [⟨31, 0, .rc, 0⟩]⟩,
  ⟨0x200F0040, [(0x4, 2)], .core, 0, [⟨7, 0, .ro, 0⟩, ⟨15, 8, .rc, 0⟩]⟩,
  ⟨0x200F0050, [], .core, 0, [⟨0, 0, .rw, 1⟩, ⟨15, 8, .rw, 0xA⟩]⟩,
  ⟨0x200F0060, [(0x4, 8)], .core, 0, [⟨15, 0, .rc, 0⟩, ⟨31, 16, .rc, 0⟩]⟩,
  ⟨0x200F0080, [], .core, 1, [⟨31, 0, .ro, 0⟩]⟩,
  ⟨0x200F0084, [], .core, 2, [⟨7, 0, .ro, 0⟩]⟩,
  ⟨0x200F0088, [], .core, 0, [⟨2, 0, .ro, 0⟩, ⟨7, 4, .ro, 0⟩, ⟨8, 8, .ro, 0⟩, ⟨25, 16, .ro, 0⟩]⟩,
  ⟨0x200F0090, [], .core, 0, [⟨0, 0, .w1c, 0⟩, ⟨1, 1, .w1c, 0⟩, ⟨2, 2, .w1c, 0⟩]⟩,
  ⟨0x200F0094, [], .core, 0, [⟨2, 0, .rw, 0⟩]⟩]

/-- The MPU register table (R405), block base 0x20100000. -/
def regsMPU : List RegSpec := [
  ⟨0x20100000, [], .core, 0, [⟨0, 0, .rw, 1⟩]⟩,
  ⟨0x20100004, [], .core, 0, [⟨0, 0, .w1c, 0⟩, ⟨1, 1, .ro, 0⟩, ⟨2, 2, .ro, 0⟩, ⟨3, 3, .ro, 0⟩, ⟨7, 4, .ro, 0⟩, ⟨25, 16, .ro, 0⟩]⟩,
  ⟨0x20100008, [], .core, 1, [⟨31, 0, .ro, 0⟩]⟩,
  ⟨0x2010000C, [], .core, 2, [⟨7, 0, .ro, 0⟩]⟩,
  ⟨0x20100010, [], .core, 0, [⟨31, 0, .rc, 0⟩]⟩,
  ⟨0x20100100, [(0x10, 256)], .core, 0, [⟨27, 0, .rw, 0⟩]⟩,
  ⟨0x20100104, [(0x10, 256)], .core, 0, [⟨27, 0, .rw, 0⟩]⟩,
  ⟨0x20100108, [(0x10, 256)], .core, 0, [⟨0, 0, .rw, 0⟩, ⟨1, 1, .rw, 0⟩, ⟨2, 2, .rw, 0⟩, ⟨3, 3, .rw, 0⟩, ⟨4, 4, .rw, 0⟩, ⟨15, 8, .rw, 0⟩, ⟨25, 16, .rw, 0⟩]⟩]

/-- The TWIN register table (R559), block base 0x20110000. -/
def regsTWIN : List RegSpec := [
  ⟨0x20110000, [], .core, 0, [⟨1, 0, .rw, 0⟩, ⟨2, 2, .rw, 0⟩, ⟨15, 4, .rw, 0x7D0⟩, ⟨23, 16, .rw, 4⟩]⟩,
  ⟨0x20110004, [], .core, 0, [⟨2, 0, .ro, 0⟩, ⟨5, 4, .ro, 0⟩, ⟨6, 6, .ro, 0⟩, ⟨7, 7, .ro, 0⟩, ⟨8, 8, .ro, 0⟩, ⟨14, 12, .ro, 0⟩]⟩,
  ⟨0x20110008, [], .core, 0, [⟨0, 0, .w1s, 0⟩, ⟨1, 1, .w1s, 0⟩]⟩,
  ⟨0x2011000C, [], .core, 1, [⟨31, 0, .rw, 0⟩]⟩,
  ⟨0x20110010, [], .core, 2, [⟨31, 0, .rw, 0⟩]⟩,
  ⟨0x20110014, [], .core, 0, [⟨0, 0, .w1s, 0⟩, ⟨1, 1, .ro, 0⟩]⟩,
  ⟨0x20110018, [], .core, 1, [⟨31, 0, .ro, 0⟩]⟩,
  ⟨0x2011001C, [], .core, 2, [⟨31, 0, .ro, 0⟩]⟩,
  ⟨0x20110020, [], .core, 0, [⟨15, 0, .rc, 0⟩, ⟨31, 16, .rc, 0⟩]⟩,
  ⟨0x20110024, [], .core, 0, [⟨15, 0, .rc, 0⟩, ⟨31, 16, .rc, 0⟩]⟩,
  ⟨0x20110028, [], .core, 1, [⟨31, 0, .ro, 0⟩]⟩,
  ⟨0x2011002C, [], .core, 2, [⟨31, 0, .ro, 0⟩]⟩,
  ⟨0x20110030, [], .core, 0, [⟨2, 0, .ro, 0⟩, ⟨27, 16, .ro, 0⟩]⟩,
  ⟨0x20110034, [], .core, 1, [⟨31, 0, .ro, 0⟩]⟩,
  ⟨0x20110038, [], .core, 2, [⟨31, 0, .ro, 0⟩]⟩,
  ⟨0x2011003C, [], .core, 0, [⟨15, 0, .ro, 0⟩, ⟨31, 16, .ro, 0⟩]⟩,
  ⟨0x20110040, [], .core, 0, [⟨10, 0, .w1c, 0⟩]⟩,
  ⟨0x20110044, [], .core, 0, [⟨10, 0, .rw, 0⟩]⟩,
  ⟨0x20110048, [], .core, 1, [⟨31, 0, .ro, 0⟩]⟩,
  ⟨0x2011004C, [], .core, 2, [⟨31, 0, .ro, 0⟩]⟩]

/-- The HOSTIF register table (R525), block base 0x20120000. -/
def regsHOSTIF : List RegSpec := [
  ⟨0x20120000, [], .link, 0, [⟨2, 0, .ro, 0⟩, ⟨6, 4, .ro, 0⟩, ⟨9, 8, .ro, 0⟩]⟩,
  ⟨0x20120004, [], .core, 0, [⟨8, 0, .ro, 0⟩, ⟨24, 16, .rc, 0⟩]⟩,
  ⟨0x20120008, [], .core, 0, [⟨7, 0, .rw, 0x20⟩]⟩,
  ⟨0x2012000C, [], .core, 0, [⟨31, 0, .rc, 0⟩]⟩,
  ⟨0x20120010, [], .core, 0, [⟨7, 0, .w1c, 0⟩, ⟨8, 8, .w1c, 0⟩, ⟨9, 9, .w1c, 0⟩, ⟨10, 10, .w1c, 0⟩, ⟨12, 11, .w1c, 0⟩, ⟨13, 13, .w1c, 0⟩]⟩,
  ⟨0x20120014, [], .core, 0, [⟨13, 0, .rw, 0⟩]⟩,
  ⟨0x20120100, [(0x40, 8)], .core, 0, [⟨1, 0, .ro, 0⟩, ⟨2, 2, .ro, 0⟩, ⟨3, 3, .ro, 0⟩, ⟨4, 4, .ro, 0⟩, ⟨5, 5, .ro, 0⟩]⟩,
  ⟨0x20120104, [(0x40, 8)], .core, 1, [⟨0, 0, .ro, 0⟩, ⟨31, 12, .ro, 0⟩]⟩,
  ⟨0x20120108, [(0x40, 8)], .core, 2, [⟨31, 0, .ro, 0⟩]⟩,
  ⟨0x2012010C, [(0x40, 8)], .core, 0, [⟨31, 0, .rc, 0⟩]⟩,
  ⟨0x20120110, [(0x40, 8)], .core, 0, [⟨15, 0, .ro, 0⟩]⟩,
  ⟨0x20120400, [(0x40, 2)], .core, 0, [⟨0, 0, .rw, 0⟩, ⟨1, 1, .rw, 0⟩, ⟨9, 4, .rw, 0x20⟩]⟩,
  ⟨0x20120404, [(0x40, 2)], .core, 0, [⟨7, 0, .ro, 0⟩, ⟨8, 8, .ro, 0⟩]⟩,
  ⟨0x20120408, [(0x40, 2)], .core, 0, [⟨15, 0, .rc, 0⟩, ⟨31, 16, .rc, 0⟩]⟩,
  ⟨0x20120600, [], .core, 0, [⟨31, 0, .wo, 0⟩]⟩,
  ⟨0x20120604, [], .core, 0, [⟨0, 0, .ro, 0⟩]⟩]

/-- The DBG register table (R593), block base 0x20130000. -/
def regsDBG : List RegSpec := [
  ⟨0x20130000, [], .dbg, 0, [⟨7, 0, .ro, 1⟩, ⟨11, 8, .ro, 4⟩, ⟨15, 12, .ro, 2⟩]⟩,
  ⟨0x20130004, [], .dbg, 0, [⟨0, 0, .ro, 0⟩, ⟨2, 1, .ro, 0⟩, ⟨3, 3, .ro, 1⟩, ⟨9, 4, .ro, 0x3F⟩, ⟨12, 12, .w1c, 0⟩, ⟨15, 13, .ro, 0⟩, ⟨16, 16, .w1c, 0⟩, ⟨17, 17, .w1c, 0⟩, ⟨18, 18, .ro, 0⟩, ⟨23, 20, .ro, 0⟩]⟩,
  ⟨0x20130008, [], .dbg, 1, [⟨31, 0, .ro, 0⟩]⟩,
  ⟨0x2013000C, [], .dbg, 2, [⟨7, 0, .ro, 0⟩]⟩,
  ⟨0x20130010, [], .dbg, 0, [⟨0, 0, .w1s, 0⟩, ⟨1, 1, .ro, 0⟩]⟩,
  ⟨0x20130020, [(0x4, 8)], .dbg, 0, [⟨31, 0, .ro, 0⟩]⟩,
  ⟨0x20130040, [(0x4, 16)], .dbg, 0, [⟨31, 0, .wo, 0⟩]⟩,
  ⟨0x20130080, [], .dbg, 0, [⟨5, 0, .rw, 0⟩, ⟨8, 8, .w1s, 0⟩, ⟨9, 9, .w1s, 0⟩, ⟨13, 12, .ro, 0⟩]⟩,
  ⟨0x20130100, [(0x40, 6)], .dbg, 0, [⟨0, 0, .w1s, 0⟩, ⟨1, 1, .w1s, 0⟩, ⟨2, 2, .w1s, 0⟩, ⟨3, 3, .rw, 0⟩, ⟨5, 4, .ro, 0⟩, ⟨10, 8, .ro, 0⟩, ⟨13, 12, .ro, 0⟩, ⟨16, 16, .rw, 0⟩]⟩,
  ⟨0x20130104, [(0x40, 6)], .dbg, 0, [⟨7, 0, .rw, 0⟩, ⟨10, 8, .rw, 0⟩, ⟨13, 12, .rw, 0⟩]⟩,
  ⟨0x20130108, [(0x40, 6)], .dbg, 0, [⟨31, 0, .rw, 0⟩]⟩,
  ⟨0x20130110, [(0x40, 4), (0x4, 4)], .dbg, 0, [⟨13, 0, .rw, 0⟩, ⟨31, 31, .rw, 0⟩]⟩,
  ⟨0x20130120, [(0x40, 4), (0x8, 2)], .dbg, 1, [⟨31, 2, .rw, 0⟩]⟩,
  ⟨0x20130124, [(0x40, 4), (0x8, 2)], .dbg, 0, [⟨7, 0, .rw, 0⟩, ⟨20, 16, .rw, 0⟩, ⟨25, 24, .rw, 0⟩, ⟨31, 31, .rw, 0⟩]⟩,
  ⟨0x20130130, [(0x40, 6)], .dbg, 1, [⟨31, 0, .ro, 0⟩]⟩,
  ⟨0x20130134, [(0x40, 6)], .dbg, 2, [⟨7, 0, .ro, 0⟩]⟩,
  ⟨0x20130300, [], .dbg, 0, [⟨5, 0, .w1c, 0⟩, ⟨13, 8, .w1c, 0⟩]⟩]

/-- The DORMOUSE register table (R94), block base 0x20140000. -/
def regsDORMOUSE : List RegSpec := [
  ⟨0x20140000, [], .aon, 0, [⟨0, 0, .rw, 0⟩, ⟨4, 1, .rw, 3⟩, ⟨5, 5, .rw, 0⟩, ⟨18, 8, .rw, 0⟩]⟩,
  ⟨0x20140004, [], .aon, 0, [⟨0, 0, .ro, 0⟩, ⟨1, 1, .ro, 0⟩, ⟨2, 2, .ro, 0⟩]⟩,
  ⟨0x20140008, [], .aon, 0, [⟨6, 0, .rw, 0⟩, ⟨14, 8, .rw, 0⟩, ⟨22, 16, .rw, 0⟩]⟩,
  ⟨0x2014000C, [], .aon, 0, [⟨5, 0, .ro, 0⟩, ⟨15, 8, .ro, 0⟩, ⟨31, 31, .w1c, 0⟩]⟩,
  ⟨0x20140010, [], .aon, 1, [⟨31, 0, .ro, 0⟩]⟩,
  ⟨0x20140014, [], .aon, 2, [⟨31, 0, .ro, 0⟩]⟩,
  ⟨0x20140018, [], .aon, 0, [⟨18, 0, .ro, 0⟩]⟩,
  ⟨0x20140100, [(0x4, 64)], .aon, 0, [⟨7, 0, .rw, 0xFF⟩, ⟨8, 8, .rw, 0⟩]⟩]

/-- The SENSE register table (R273), block base 0x20150000. -/
def regsSENSE : List RegSpec := [
  ⟨0x20150000, [(0x20, 2)], .core, 0, [⟨0, 0, .rw, 0⟩, ⟨1, 1, .rw, 0⟩, ⟨31, 16, .rw, 0x62⟩]⟩,
  ⟨0x20150004, [(0x20, 2)], .core, 0, [⟨31, 0, .rw, 0x320000⟩]⟩,
  ⟨0x20150008, [(0x20, 2)], .core, 1, [⟨31, 0, .rw, 0⟩]⟩,
  ⟨0x2015000C, [(0x20, 2)], .core, 2, [⟨31, 0, .rw, 0⟩]⟩,
  ⟨0x20150010, [(0x20, 2)], .core, 0, [⟨31, 0, .ro, 0⟩]⟩,
  ⟨0x20150014, [(0x20, 2)], .core, 1, [⟨31, 0, .ro, 0⟩]⟩,
  ⟨0x20150018, [(0x20, 2)], .core, 2, [⟨31, 0, .ro, 0⟩]⟩,
  ⟨0x20150100, [(0x40, 2)], .core, 0, [⟨0, 0, .rw, 0⟩, ⟨3, 1, .rw, 0⟩, ⟨9, 4, .rw, 0x30⟩, ⟨13, 10, .rw, 0xF⟩, ⟨15, 14, .rw, 0⟩, ⟨20, 16, .rw, 0xF⟩, ⟨25, 21, .rw, 0⟩]⟩,
  ⟨0x20150104, [(0x40, 2)], .core, 0, [⟨15, 0, .rw, 0⟩]⟩,
  ⟨0x20150108, [(0x40, 2)], .core, 1, [⟨31, 6, .rw, 0⟩]⟩,
  ⟨0x2015010C, [(0x40, 2)], .core, 2, [⟨7, 0, .rw, 0⟩]⟩,
  ⟨0x20150110, [(0x40, 2)], .core, 0, [⟨7, 0, .rw, 0x17⟩, ⟨11, 8, .rw, 3⟩, ⟨12, 12, .rw, 0⟩]⟩,
  ⟨0x20150114, [(0x40, 2)], .core, 0, [⟨31, 0, .ro, 0⟩]⟩,
  ⟨0x20150200, [], .core, 0, [⟨0, 0, .rw, 0⟩, ⟨1, 1, .rw, 0⟩, ⟨2, 2, .rw, 1⟩, ⟨3, 3, .rw, 0⟩, ⟨4, 4, .rw, 1⟩, ⟨7, 5, .rw, 1⟩, ⟨12, 8, .rw, 0xE⟩, ⟨15, 13, .rw, 2⟩, ⟨23, 16, .rw, 8⟩, ⟨24, 24, .rw, 1⟩]⟩,
  ⟨0x20150204, [], .core, 0, [⟨31, 0, .rw, 0⟩]⟩,
  ⟨0x20150208, [], .core, 0, [⟨15, 0, .rw, 0⟩]⟩,
  ⟨0x2015020C, [], .core, 0, [⟨15, 0, .rw, 0⟩]⟩,
  ⟨0x20150210, [], .core, 0, [⟨31, 0, .rw, 0⟩]⟩,
  ⟨0x20150214, [], .core, 0, [⟨31, 0, .rw, 0⟩]⟩,
  ⟨0x20150220, [(0x4, 3)], .core, 0, [⟨31, 0, .ro, 0⟩]⟩,
  ⟨0x20150230, [], .core, 1, [⟨31, 0, .ro, 0⟩]⟩,
  ⟨0x20150234, [], .core, 2, [⟨31, 0, .ro, 0⟩]⟩,
  ⟨0x20150300, [(0x10, 4)], .core, 0, [⟨0, 0, .rw, 0⟩, ⟨2, 1, .rw, 1⟩, ⟨31, 16, .rw, 0x3D7⟩]⟩,
  ⟨0x20150304, [(0x10, 4)], .core, 0, [⟨31, 0, .ro, 0⟩]⟩,
  ⟨0x20150308, [(0x10, 4)], .core, 1, [⟨31, 0, .ro, 0⟩]⟩,
  ⟨0x2015030C, [(0x10, 4)], .core, 2, [⟨31, 0, .ro, 0⟩]⟩,
  ⟨0x201503F0, [], .core, 0, [⟨11, 0, .w1c, 0⟩]⟩,
  ⟨0x201503F4, [], .core, 0, [⟨11, 0, .rw, 0⟩]⟩]

/-- The ERR register table (R495), block base 0x20160000. -/
def regsERR : List RegSpec := [
  ⟨0x20160000, [], .core, 0, [⟨3, 0, .w1c, 0⟩]⟩,
  ⟨0x20160004, [], .core, 0, [⟨12, 0, .w1c, 0⟩]⟩,
  ⟨0x20160008, [], .core, 0, [⟨4, 0, .w1c, 0⟩]⟩,
  ⟨0x2016000C, [], .core, 0, [⟨5, 0, .w1c, 0⟩]⟩,
  ⟨0x20160010, [], .core, 0, [⟨31, 0, .rw, 3⟩]⟩,
  ⟨0x20160014, [], .core, 0, [⟨31, 0, .rw, 0x1FF0⟩]⟩,
  ⟨0x20160018, [(0x4, 2)], .core, 0, [⟨31, 0, .rw, 0⟩]⟩,
  ⟨0x20160020, [(0x4, 4)], .core, 0, [⟨31, 0, .rw, 0⟩]⟩,
  ⟨0x20160030, [], .core, 0, [⟨15, 0, .ro, 0⟩]⟩,
  ⟨0x20160034, [], .core, 0, [⟨15, 0, .rw, 0⟩]⟩,
  ⟨0x20160038, [], .core, 0, [⟨15, 0, .rc, 0⟩]⟩,
  ⟨0x2016003C, [], .core, 0, [⟨31, 0, .rc, 0⟩]⟩,
  ⟨0x20160040, [(0x4, 8)], .core, 0, [⟨31, 0, .ro, 0⟩]⟩]

/-- The PINMUX register table (R615), block base 0x20170000. -/
def regsPINMUX : List RegSpec := [
  ⟨0x20170000, [], .aon, 0, [⟨0, 0, .ro, 0⟩]⟩,
  ⟨0x20170004, [], .core, 0, [⟨0, 0, .rw, 0⟩, ⟨1, 1, .ro, 0⟩]⟩,
  ⟨0x20170008, [], .core, 0, [⟨15, 0, .ro, 0⟩]⟩,
  ⟨0x2017000C, [], .core, 0, [⟨0, 0, .rw, 0⟩, ⟨2, 1, .rw, 1⟩]⟩,
  ⟨0x20170040, [(0x4, 7)], .core, 0, [⟨1, 0, .rw, 1⟩, ⟨2, 2, .rw, 0⟩]⟩,
  ⟨0x20170100, [(0x4, 16)], .core, 0, [⟨1, 0, .rw, 0⟩, ⟨2, 2, .rw, 0⟩, ⟨3, 3, .rw, 0⟩, ⟨5, 4, .rw, 1⟩]⟩]

/-- The register table of a 64 KiB block, by address [31:16] (R385). -/
def regBlock (blk : Nat) : List RegSpec :=
  match blk with
  | 0x2000 => regsSYS
  | 0x2001 => regsCLK
  | 0x2002 => regsPWR
  | 0x2003 => regsMBOX
  | 0x2004 => regsRING
  | 0x2005 => regsSYNC
  | 0x2006 => regsDEC
  | 0x2007 => regsTDM0 ++ regsTDM1
  | 0x2008 => regsSPDIF
  | 0x2009 => regsASRC
  | 0x200A => regsGUST0 ++ regsGUST1
  | 0x200B => regsFOX0 ++ regsFOX1
  | 0x200C => regsLYNX
  | 0x200D => regsFOG
  | 0x200E => regsMARTEN
  | 0x200F => regsMEMC
  | 0x2010 => regsMPU
  | 0x2011 => regsTWIN
  | 0x2012 => regsHOSTIF
  | 0x2013 => regsDBG
  | 0x2014 => regsDORMOUSE
  | 0x2015 => regsSENSE
  | 0x2016 => regsERR
  | 0x2017 => regsPINMUX
  | _ => []

def SYS_ID : Nat := 0x20000000
def SYS_ID_PART : Fld := ⟨SYS_ID, 31, 16⟩
def SYS_ID_REV : Fld := ⟨SYS_ID, 7, 0⟩
def SYS_BOOT_STATUS : Nat := 0x20000004
def SYS_BOOT_STATUS_CODE : Fld := ⟨SYS_BOOT_STATUS, 7, 0⟩
def SYS_BOOT_STATUS_SOURCE : Fld := ⟨SYS_BOOT_STATUS, 10, 8⟩
def SYS_BOOT_STATUS_IMAGE : Fld := ⟨SYS_BOOT_STATUS, 15, 12⟩
def SYS_BOOT_STATUS_TRIED : Fld := ⟨SYS_BOOT_STATUS, 20, 16⟩
def SYS_BOOT_STATUS_LAST_ERR : Fld := ⟨SYS_BOOT_STATUS, 31, 24⟩
def SYS_STRAP : Nat := 0x20000008
def SYS_STRAP_BOOT_SEL : Fld := ⟨SYS_STRAP, 2, 0⟩
def SYS_RST_CAUSE : Nat := 0x2000000C
def SYS_RST_CAUSE_POR : Fld := ⟨SYS_RST_CAUSE, 0, 0⟩
def SYS_RST_CAUSE_PIN : Fld := ⟨SYS_RST_CAUSE, 1, 1⟩
def SYS_RST_CAUSE_WDOG : Fld := ⟨SYS_RST_CAUSE, 2, 2⟩
def SYS_RST_CAUSE_SW : Fld := ⟨SYS_RST_CAUSE, 3, 3⟩
def SYS_RST_CAUSE_RESUME_FAIL : Fld := ⟨SYS_RST_CAUSE, 4, 4⟩
def SYS_RST_CTRL : Nat := 0x20000010
def SYS_RST_CTRL_CORE_RST : Fld := ⟨SYS_RST_CTRL, 0, 0⟩
def SYS_WDOG : Nat := 0x20000014
def SYS_WDOG_TIMEOUT : Fld := ⟨SYS_WDOG, 15, 0⟩
def SYS_WDOG_EN : Fld := ⟨SYS_WDOG, 16, 16⟩
def SYS_WDOG_KICK : Nat := 0x20000018
def SYS_WDOG_KICK_KEY : Fld := ⟨SYS_WDOG_KICK, 15, 0⟩
def SYS_ROLLBACK : Nat := 0x2000001C
def SYS_ROLLBACK_COUNT : Fld := ⟨SYS_ROLLBACK, 7, 0⟩
def SYS_LIFECYCLE : Nat := 0x20000020
def SYS_LIFECYCLE_SECURE : Fld := ⟨SYS_LIFECYCLE, 0, 0⟩
def SYS_LIFECYCLE_SLOT : Fld := ⟨SYS_LIFECYCLE, 5, 4⟩
def SYS_LIFECYCLE_REVOKED : Fld := ⟨SYS_LIFECYCLE, 11, 8⟩
def SYS_DL : Nat := 0x20000024
def SYS_DL_LEN : Fld := ⟨SYS_DL, 24, 0⟩
def SYS_DL_GO : Fld := ⟨SYS_DL, 31, 31⟩
def CLK_TIME_LO : Nat := 0x20010000
def CLK_TIME_LO_V : Fld := ⟨CLK_TIME_LO, 31, 0⟩
def CLK_TIME_HI : Nat := 0x20010004
def CLK_TIME_HI_V : Fld := ⟨CLK_TIME_HI, 31, 0⟩
def CLK_STATUS : Nat := 0x20010008
def CLK_STATUS_STATE : Fld := ⟨CLK_STATUS, 2, 0⟩
def CLK_STATUS_SEL : Fld := ⟨CLK_STATUS, 7, 4⟩
def CLK_STATUS_FROM : Fld := ⟨CLK_STATUS, 11, 8⟩
def CLK_STATUS_XTAL_OK : Fld := ⟨CLK_STATUS, 16, 16⟩
def CLK_STATUS_SYS_LOCK : Fld := ⟨CLK_STATUS, 17, 17⟩
def CLK_STATUS_MEM_LOCK : Fld := ⟨CLK_STATUS, 18, 18⟩
def CLK_STATUS_SLOW_OK : Fld := ⟨CLK_STATUS, 19, 19⟩
def CLK_REF_PRIO : Nat := 0x2001000C
def CLK_REF_PRIO_ALL : Fld := ⟨CLK_REF_PRIO, 31, 0⟩
def CLK_REF_CTRL : Nat := 0x20010010
def CLK_REF_CTRL_REVERT : Fld := ⟨CLK_REF_CTRL, 0, 0⟩
def CLK_REF_CTRL_FORCE_EN : Fld := ⟨CLK_REF_CTRL, 1, 1⟩
def CLK_REF_CTRL_BW : Fld := ⟨CLK_REF_CTRL, 3, 2⟩
def CLK_REF_CTRL_FORCE_SRC : Fld := ⟨CLK_REF_CTRL, 7, 4⟩
def CLK_REF_CTRL_REQUAL : Fld := ⟨CLK_REF_CTRL, 17, 8⟩
def CLK_REF_CTRL_SLEW : Fld := ⟨CLK_REF_CTRL, 25, 18⟩
def CLK_REF_TOL : Nat := 0x20010014
def CLK_REF_TOL_TOL : Fld := ⟨CLK_REF_TOL, 9, 0⟩
def CLK_REFIN_NOM : Nat := 0x20010018
def CLK_REFIN_NOM_FREQ : Fld := ⟨CLK_REFIN_NOM, 24, 0⟩
def CLK_REF_QUAL : Nat := 0x2001001C
def CLK_REF_QUAL_QUAL : Fld := ⟨CLK_REF_QUAL, 8, 1⟩
def CLK_REF_QUAL_REQ : Fld := ⟨CLK_REF_QUAL, 24, 17⟩
def CLK_EVT : Nat := 0x20010020
def CLK_EVT_LOST : Fld := ⟨CLK_EVT, 8, 1⟩
def CLK_EVT_RETURN : Fld := ⟨CLK_EVT, 24, 17⟩
def CLK_EVT_SWITCH_START : Fld := ⟨CLK_EVT, 25, 25⟩
def CLK_EVT_SWITCH_DONE : Fld := ⟨CLK_EVT, 26, 26⟩
def CLK_EVT_HOLD_ENTER : Fld := ⟨CLK_EVT, 27, 27⟩
def CLK_EVT_XTAL_LOST : Fld := ⟨CLK_EVT, 28, 28⟩
def CLK_EVT_ALARM : Fld := ⟨CLK_EVT, 29, 29⟩
def CLK_INT_EN : Nat := 0x20010024
def CLK_INT_EN_EN : Fld := ⟨CLK_INT_EN, 29, 1⟩
def CLK_FREQ : Nat := 0x20010028
def CLK_FREQ_OFS : Fld := ⟨CLK_FREQ, 31, 0⟩
def CLK_HOLD_FREQ : Nat := 0x2001002C
def CLK_HOLD_FREQ_OFS : Fld := ⟨CLK_HOLD_FREQ, 31, 0⟩
def CLK_SLOW_CNT : Nat := 0x20010030
def CLK_SLOW_CNT_TICKS : Fld := ⟨CLK_SLOW_CNT, 31, 0⟩
def CLK_MCLK : Nat := 0x20010034
def CLK_MCLK_EN : Fld := ⟨CLK_MCLK, 0, 0⟩
def CLK_MCLK_DIV : Fld := ⟨CLK_MCLK, 5, 1⟩
/-- The table of R62 would put n = 8 on CLK_ALARM_LO: source 8 has the free word at 0x0040. (DESIGN CHOICE, log entry 8). -/
def CLK_REF_OFS (n : Nat) : Nat := 0x20010040 + 0x4 * (n % 8)
def CLK_REF_OFS_OFS (n : Nat) : Fld := ⟨CLK_REF_OFS n, 31, 0⟩
def CLK_ALARM_LO : Nat := 0x20010060
def CLK_ALARM_LO_V : Fld := ⟨CLK_ALARM_LO, 31, 0⟩
def CLK_ALARM_HI : Nat := 0x20010064
def CLK_ALARM_HI_V : Fld := ⟨CLK_ALARM_HI, 31, 0⟩
def CLK_ALARM_CTRL : Nat := 0x20010068
def CLK_ALARM_CTRL_EN : Fld := ⟨CLK_ALARM_CTRL, 0, 0⟩
def PWR_STATUS : Nat := 0x20020000
def PWR_STATUS_STATE : Fld := ⟨PWR_STATUS, 2, 0⟩
def PWR_STATUS_STEP : Fld := ⟨PWR_STATUS, 6, 4⟩
def PWR_STATUS_LYNX_ON : Fld := ⟨PWR_STATUS, 15, 8⟩
def PWR_STATUS_FOG_ON : Fld := ⟨PWR_STATUS, 16, 16⟩
def PWR_CTRL : Nat := 0x20020004
def PWR_CTRL_REQ : Fld := ⟨PWR_CTRL, 1, 0⟩
def PWR_CTRL_HOLD_CLK : Fld := ⟨PWR_CTRL, 2, 2⟩
def PWR_CTRL_WAKE_TARGET : Fld := ⟨PWR_CTRL, 3, 3⟩
def PWR_CTRL_GATE_IDLE : Fld := ⟨PWR_CTRL, 11, 4⟩
def PWR_CTRL_DRAIN_TO : Fld := ⟨PWR_CTRL, 19, 12⟩
def PWR_CTRL_WAKE_HOLD : Fld := ⟨PWR_CTRL, 31, 20⟩
def PWR_PARK_CFG : Nat := 0x20020008
def PWR_PARK_CFG_XTAL_ON : Fld := ⟨PWR_PARK_CFG, 0, 0⟩
def PWR_PARK_CFG_LYNX_OFF_PARK : Fld := ⟨PWR_PARK_CFG, 1, 1⟩
def PWR_PARK_CFG_LYNX_OFF_DOZE : Fld := ⟨PWR_PARK_CFG, 2, 2⟩
def PWR_WAKE_EN : Nat := 0x2002000C
def PWR_WAKE_EN_EN : Fld := ⟨PWR_WAKE_EN, 7, 0⟩
def PWR_WAKE_SRC : Nat := 0x20020010
def PWR_WAKE_SRC_SRC : Fld := ⟨PWR_WAKE_SRC, 7, 0⟩
def PWR_WAKE_IN_CFG : Nat := 0x20020014
def PWR_WAKE_IN_CFG_POL : Fld := ⟨PWR_WAKE_IN_CFG, 0, 0⟩
def PWR_WAKE_IN_CFG_EDGE : Fld := ⟨PWR_WAKE_IN_CFG, 1, 1⟩
def PWR_WAKE_IN_CFG_DEBOUNCE : Fld := ⟨PWR_WAKE_IN_CFG, 9, 2⟩
def PWR_WHEEL_CFG : Nat := 0x20020018
def PWR_WHEEL_CFG_COUNT : Fld := ⟨PWR_WHEEL_CFG, 7, 0⟩
def PWR_WHEEL_CFG_WINDOW : Fld := ⟨PWR_WHEEL_CFG, 15, 8⟩
def PWR_EVT : Nat := 0x2002001C
def PWR_EVT_ENTERED_PARK : Fld := ⟨PWR_EVT, 0, 0⟩
def PWR_EVT_LEFT_PARK : Fld := ⟨PWR_EVT, 1, 1⟩
def PWR_EVT_ENTRY_UNDONE : Fld := ⟨PWR_EVT, 2, 2⟩
def PWR_EVT_STEP_CHANGE : Fld := ⟨PWR_EVT, 3, 3⟩
def PWR_EVT_CRIT : Fld := ⟨PWR_EVT, 4, 4⟩
def PWR_EVT_DRAIN_ABORT : Fld := ⟨PWR_EVT, 5, 5⟩
def PWR_INT_EN : Nat := 0x20020020
def PWR_INT_EN_EN : Fld := ⟨PWR_INT_EN, 5, 0⟩
def PWR_THERM : Nat := 0x20020024
def PWR_THERM_TJ : Fld := ⟨PWR_THERM, 8, 0⟩
def PWR_THERM_LIMIT : Fld := ⟨PWR_THERM, 23, 16⟩
def PWR_WAKE_OUT : Nat := 0x20020028
def PWR_WAKE_OUT_SRC : Fld := ⟨PWR_WAKE_OUT, 7, 0⟩
def PWR_WAKE_OUT_ACTIVE : Fld := ⟨PWR_WAKE_OUT, 8, 8⟩
def PWR_WAKE_LAT : Nat := 0x2002002C
def PWR_WAKE_LAT_TICKS : Fld := ⟨PWR_WAKE_LAT, 31, 0⟩
def MBOX_IN (p : Nat) (s : Nat) (j : Nat) : Nat := 0x20030000 + 0x1000 * p + 0x40 * s + 0x4 * j
def MBOX_IN_DATA (p : Nat) (s : Nat) (j : Nat) : Fld := ⟨MBOX_IN p s j, 31, 0⟩
def MBOX_OUT (p : Nat) (s : Nat) (j : Nat) : Nat := 0x20030200 + 0x1000 * p + 0x40 * s + 0x4 * j
def MBOX_OUT_DATA (p : Nat) (s : Nat) (j : Nat) : Fld := ⟨MBOX_OUT p s j, 31, 0⟩
def MBOX_IN_TAIL (p : Nat) : Nat := 0x20030400 + 0x1000 * p
def MBOX_IN_TAIL_TAIL (p : Nat) : Fld := ⟨MBOX_IN_TAIL p, 7, 0⟩
def MBOX_IN_HEAD (p : Nat) : Nat := 0x20030404 + 0x1000 * p
def MBOX_IN_HEAD_HEAD (p : Nat) : Fld := ⟨MBOX_IN_HEAD p, 7, 0⟩
def MBOX_OUT_TAIL (p : Nat) : Nat := 0x20030408 + 0x1000 * p
def MBOX_OUT_TAIL_TAIL (p : Nat) : Fld := ⟨MBOX_OUT_TAIL p, 7, 0⟩
def MBOX_OUT_HEAD (p : Nat) : Nat := 0x2003040C + 0x1000 * p
def MBOX_OUT_HEAD_HEAD (p : Nat) : Fld := ⟨MBOX_OUT_HEAD p, 7, 0⟩
def MBOX_STAT (p : Nat) : Nat := 0x20030410 + 0x1000 * p
def MBOX_STAT_READY (p : Nat) : Fld := ⟨MBOX_STAT p, 0, 0⟩
def MBOX_STAT_PROTO_ERR (p : Nat) : Fld := ⟨MBOX_STAT p, 1, 1⟩
def MBOX_STAT_NOTICES (p : Nat) : Fld := ⟨MBOX_STAT p, 6, 2⟩
def MBOX_STAT_SESSIONS (p : Nat) : Fld := ⟨MBOX_STAT p, 26, 16⟩
def MBOX_IRQ (p : Nat) : Nat := 0x20030414 + 0x1000 * p
def MBOX_IRQ_PEND (p : Nat) : Fld := ⟨MBOX_IRQ p, 0, 0⟩
def MBOX_IRQ_EN (p : Nat) : Fld := ⟨MBOX_IRQ p, 1, 1⟩
def MBOX_SEQ_LO (p : Nat) : Nat := 0x20030418 + 0x1000 * p
def MBOX_SEQ_LO_V (p : Nat) : Fld := ⟨MBOX_SEQ_LO p, 31, 0⟩
def MBOX_SEQ_HI (p : Nat) : Nat := 0x2003041C + 0x1000 * p
def MBOX_SEQ_HI_V (p : Nat) : Fld := ⟨MBOX_SEQ_HI p, 31, 0⟩
def RING_CMDTAB : Nat := 0x2003F000
def RING_CMDTAB_SHARED_FREE : Fld := ⟨RING_CMDTAB, 10, 0⟩
def RING_CMDTAB_USED : Fld := ⟨RING_CMDTAB, 27, 16⟩
def RING_SQ_LO (r : Nat) : Nat := 0x20040000 + 0x400 * r
def RING_SQ_LO_BASE (r : Nat) : Fld := ⟨RING_SQ_LO r, 31, 6⟩
def RING_SQ_HI (r : Nat) : Nat := 0x20040004 + 0x400 * r
def RING_SQ_HI_BASE (r : Nat) : Fld := ⟨RING_SQ_HI r, 7, 0⟩
def RING_CQ_LO (r : Nat) : Nat := 0x20040008 + 0x400 * r
def RING_CQ_LO_BASE (r : Nat) : Fld := ⟨RING_CQ_LO r, 31, 6⟩
def RING_CQ_HI (r : Nat) : Nat := 0x2004000C + 0x400 * r
def RING_CQ_HI_BASE (r : Nat) : Fld := ⟨RING_CQ_HI r, 7, 0⟩
def RING_CFG (r : Nat) : Nat := 0x20040010 + 0x400 * r
def RING_CFG_EN (r : Nat) : Fld := ⟨RING_CFG r, 0, 0⟩
def RING_CFG_ERR_MODE (r : Nat) : Fld := ⟨RING_CFG r, 1, 1⟩
def RING_CFG_DEPTH (r : Nat) : Fld := ⟨RING_CFG r, 5, 2⟩
def RING_CFG_PORT (r : Nat) : Fld := ⟨RING_CFG r, 11, 8⟩
def RING_CFG_SESSION (r : Nat) : Fld := ⟨RING_CFG r, 25, 16⟩
def RING_LIMIT (r : Nat) : Nat := 0x20040014 + 0x400 * r
def RING_LIMIT_MAXINF (r : Nat) : Fld := ⟨RING_LIMIT r, 8, 0⟩
def RING_SQ_TAIL (r : Nat) : Nat := 0x20040018 + 0x400 * r
def RING_SQ_TAIL_TAIL (r : Nat) : Fld := ⟨RING_SQ_TAIL r, 15, 0⟩
def RING_SQ_HEAD (r : Nat) : Nat := 0x2004001C + 0x400 * r
def RING_SQ_HEAD_HEAD (r : Nat) : Fld := ⟨RING_SQ_HEAD r, 15, 0⟩
def RING_CQ_TAIL (r : Nat) : Nat := 0x20040020 + 0x400 * r
def RING_CQ_TAIL_TAIL (r : Nat) : Fld := ⟨RING_CQ_TAIL r, 15, 0⟩
def RING_CQ_HEAD (r : Nat) : Nat := 0x20040024 + 0x400 * r
def RING_CQ_HEAD_HEAD (r : Nat) : Fld := ⟨RING_CQ_HEAD r, 15, 0⟩
def RING_STAT (r : Nat) : Nat := 0x20040028 + 0x400 * r
def RING_STAT_STATE (r : Nat) : Fld := ⟨RING_STAT r, 2, 0⟩
def RING_STAT_FAULT (r : Nat) : Fld := ⟨RING_STAT r, 5, 4⟩
def RING_STAT_DB_ERR (r : Nat) : Fld := ⟨RING_STAT r, 8, 8⟩
def RING_STAT_INTABLE (r : Nat) : Fld := ⟨RING_STAT r, 24, 16⟩
def RING_IRQ (r : Nat) : Nat := 0x2004002C + 0x400 * r
def RING_IRQ_PEND (r : Nat) : Fld := ⟨RING_IRQ r, 0, 0⟩
def RING_IRQ_EN (r : Nat) : Fld := ⟨RING_IRQ r, 1, 1⟩
def RING_IRQ_ERR_IRQ (r : Nat) : Fld := ⟨RING_IRQ r, 2, 2⟩
def RING_IRQ_COAL_CNT (r : Nat) : Fld := ⟨RING_IRQ r, 15, 8⟩
def RING_IRQ_COAL_TIME (r : Nat) : Fld := ⟨RING_IRQ r, 31, 16⟩
def RING_SEQ_LO (r : Nat) : Nat := 0x20040030 + 0x400 * r
def RING_SEQ_LO_V (r : Nat) : Fld := ⟨RING_SEQ_LO r, 31, 0⟩
def RING_SEQ_HI (r : Nat) : Nat := 0x20040034 + 0x400 * r
def RING_SEQ_HI_V (r : Nat) : Fld := ⟨RING_SEQ_HI r, 31, 0⟩
def RING_HALT_LO (r : Nat) : Nat := 0x20040038 + 0x400 * r
def RING_HALT_LO_V (r : Nat) : Fld := ⟨RING_HALT_LO r, 31, 0⟩
def RING_HALT_HI (r : Nat) : Nat := 0x2004003C + 0x400 * r
def RING_HALT_HI_V (r : Nat) : Fld := ⟨RING_HALT_HI r, 31, 0⟩
def RING_VEC (r : Nat) : Nat := 0x20040040 + 0x400 * r
def RING_VEC_VEC (r : Nat) : Fld := ⟨RING_VEC r, 5, 0⟩
def SYNC_OBJ_LO (i : Nat) : Nat := 0x20050000 + 0x8 * i
def SYNC_OBJ_LO_V (i : Nat) : Fld := ⟨SYNC_OBJ_LO i, 31, 0⟩
def SYNC_OBJ_HI (i : Nat) : Nat := 0x20050004 + 0x8 * i
def SYNC_OBJ_HI_V (i : Nat) : Fld := ⟨SYNC_OBJ_HI i, 31, 0⟩
def SYNC_OWN (i : Nat) : Nat := 0x20058000 + 0x4 * i
def SYNC_OWN_SESSION (i : Nat) : Fld := ⟨SYNC_OWN i, 9, 0⟩
def SYNC_OWN_VALID (i : Nat) : Fld := ⟨SYNC_OWN i, 15, 15⟩
def SYNC_OWN_WAITERS (i : Nat) : Fld := ⟨SYNC_OWN i, 19, 16⟩
def SYNC_BIND (e : Nat) : Nat := 0x2005C000 + 0x4 * e
def SYNC_BIND_EVENT (e : Nat) : Fld := ⟨SYNC_BIND e, 11, 0⟩
def SYNC_BIND_OBJ (e : Nat) : Fld := ⟨SYNC_BIND e, 27, 16⟩
def SYNC_BIND_EN (e : Nat) : Fld := ⟨SYNC_BIND e, 31, 31⟩
def SYNC_ADD_ID : Nat := 0x2005F000
def SYNC_ADD_ID_ID : Fld := ⟨SYNC_ADD_ID, 11, 0⟩
def SYNC_ADD_DELTA : Nat := 0x2005F004
def SYNC_ADD_DELTA_DELTA : Fld := ⟨SYNC_ADD_DELTA, 31, 0⟩
def SYNC_STAT : Nat := 0x2005F008
def SYNC_STAT_OVF : Fld := ⟨SYNC_STAT, 15, 0⟩
def SYNC_STAT_SAT : Fld := ⟨SYNC_STAT, 16, 16⟩
def SYNC_MBOX_TO : Nat := 0x2005F00C
def SYNC_MBOX_TO_MS : Fld := ⟨SYNC_MBOX_TO, 15, 0⟩
def DEC_CTRL : Nat := 0x20060000
def DEC_CTRL_EN : Fld := ⟨DEC_CTRL, 0, 0⟩
def DEC_CLK (n : Nat) : Nat := 0x20060010 + 0x4 * n
def DEC_CLK_EN (n : Nat) : Fld := ⟨DEC_CLK n, 0, 0⟩
def DEC_CLK_RATE (n : Nat) : Fld := ⟨DEC_CLK n, 2, 1⟩
def DEC_SYNC_CTRL : Nat := 0x20060020
def DEC_SYNC_CTRL_GO : Fld := ⟨DEC_SYNC_CTRL, 0, 0⟩
def DEC_SYNC_CTRL_AT_EN : Fld := ⟨DEC_SYNC_CTRL, 1, 1⟩
def DEC_SYNC_CTRL_PIN_EN : Fld := ⟨DEC_SYNC_CTRL, 2, 2⟩
def DEC_SYNC_CTRL_EDGE : Fld := ⟨DEC_SYNC_CTRL, 3, 3⟩
def DEC_SYNC_STAT : Nat := 0x20060024
def DEC_SYNC_STAT_COUNT : Fld := ⟨DEC_SYNC_STAT, 15, 0⟩
def DEC_SYNC_STAT_PIN_LAST : Fld := ⟨DEC_SYNC_STAT, 16, 16⟩
def DEC_SYNC_STAT_CMD_LAST : Fld := ⟨DEC_SYNC_STAT, 17, 17⟩
def DEC_SYNC_STAT_PENDING : Fld := ⟨DEC_SYNC_STAT, 18, 18⟩
def DEC_SYNC_STAT_MERGED : Fld := ⟨DEC_SYNC_STAT, 31, 24⟩
def DEC_SYNC_AT_LO : Nat := 0x20060028
def DEC_SYNC_AT_LO_V : Fld := ⟨DEC_SYNC_AT_LO, 31, 0⟩
def DEC_SYNC_AT_HI : Nat := 0x2006002C
def DEC_SYNC_AT_HI_V : Fld := ⟨DEC_SYNC_AT_HI, 31, 0⟩
def DEC_SYNC_TIME_LO : Nat := 0x20060030
def DEC_SYNC_TIME_LO_V : Fld := ⟨DEC_SYNC_TIME_LO, 31, 0⟩
def DEC_SYNC_TIME_HI : Nat := 0x20060034
def DEC_SYNC_TIME_HI_V : Fld := ⟨DEC_SYNC_TIME_HI, 31, 0⟩
def DEC_FIR_CTRL (p : Nat) : Nat := 0x20060040 + 0x4 * p
def DEC_FIR_CTRL_ACTIVE (p : Nat) : Fld := ⟨DEC_FIR_CTRL p, 0, 0⟩
def DEC_FIR_CTRL_SWAP (p : Nat) : Fld := ⟨DEC_FIR_CTRL p, 1, 1⟩
def DEC_FIR_CTRL_PENDING (p : Nat) : Fld := ⟨DEC_FIR_CTRL p, 3, 2⟩
def DEC_FIR_DLY (p : Nat) : Nat := 0x20060050 + 0x4 * p
def DEC_FIR_DLY_DLY_A (p : Nat) : Fld := ⟨DEC_FIR_DLY p, 15, 0⟩
def DEC_FIR_DLY_DLY_B (p : Nat) : Fld := ⟨DEC_FIR_DLY p, 31, 16⟩
def DEC_EVT : Nat := 0x20060060
def DEC_EVT_SYNC_DONE : Fld := ⟨DEC_EVT, 0, 0⟩
def DEC_EVT_SWAP_DONE : Fld := ⟨DEC_EVT, 7, 4⟩
def DEC_EVT_ACTIVE_WR : Fld := ⟨DEC_EVT, 11, 8⟩
def DEC_EVT_SWAP_DROP : Fld := ⟨DEC_EVT, 15, 12⟩
def DEC_EVT_BUF_FAULT : Fld := ⟨DEC_EVT, 16, 16⟩
def DEC_EVT_CLIP : Fld := ⟨DEC_EVT, 17, 17⟩
def DEC_EVT_GAP : Fld := ⟨DEC_EVT, 18, 18⟩
def DEC_EVT_STUCK : Fld := ⟨DEC_EVT, 19, 19⟩
def DEC_INT_EN : Nat := 0x20060064
def DEC_INT_EN_EN : Fld := ⟨DEC_INT_EN, 19, 0⟩
def DEC_TWIN_CFG : Nat := 0x20060068
def DEC_TWIN_CFG_MIC_SETTLE : Fld := ⟨DEC_TWIN_CFG, 7, 0⟩
def DEC_DET_EVT (j : Nat) : Nat := 0x20060070 + 0x4 * j
def DEC_DET_EVT_CH (j : Nat) : Fld := ⟨DEC_DET_EVT j, 31, 0⟩
def DEC_LINE (k : Nat) : Nat := 0x20060100 + 0x4 * k
def DEC_LINE_CLK (k : Nat) : Fld := ⟨DEC_LINE k, 1, 0⟩
def DEC_LINE_EN_R (k : Nat) : Fld := ⟨DEC_LINE k, 2, 2⟩
def DEC_LINE_EN_F (k : Nat) : Fld := ⟨DEC_LINE k, 3, 3⟩
def DEC_CH_CFG (n : Nat) : Nat := 0x20061000 + 0x40 * n
def DEC_CH_CFG_GUST_EN (n : Nat) : Fld := ⟨DEC_CH_CFG n, 0, 0⟩
def DEC_CH_CFG_SEC (n : Nat) : Fld := ⟨DEC_CH_CFG n, 2, 1⟩
def DEC_CH_CFG_DET_SRC (n : Nat) : Fld := ⟨DEC_CH_CFG n, 3, 3⟩
def DEC_CH_CFG_INVERT (n : Nat) : Fld := ⟨DEC_CH_CFG n, 4, 4⟩
def DEC_CH_CFG_GAIN (n : Nat) : Fld := ⟨DEC_CH_CFG n, 15, 8⟩
def DEC_CH_ADJ (n : Nat) : Nat := 0x20061004 + 0x40 * n
def DEC_CH_ADJ_STAMP_ADJ (n : Nat) : Fld := ⟨DEC_CH_ADJ n, 15, 0⟩
def DEC_CH_BUF_LO (n : Nat) : Nat := 0x20061008 + 0x40 * n
def DEC_CH_BUF_LO_BASE (n : Nat) : Fld := ⟨DEC_CH_BUF_LO n, 31, 6⟩
def DEC_CH_BUF_HI (n : Nat) : Nat := 0x2006100C + 0x40 * n
def DEC_CH_BUF_HI_BASE (n : Nat) : Fld := ⟨DEC_CH_BUF_HI n, 7, 0⟩
def DEC_CH_BUF_CFG (n : Nat) : Nat := 0x20061010 + 0x40 * n
def DEC_CH_BUF_CFG_BLOCK (n : Nat) : Fld := ⟨DEC_CH_BUF_CFG n, 10, 0⟩
def DEC_CH_BUF_CFG_NBLK (n : Nat) : Fld := ⟨DEC_CH_BUF_CFG n, 19, 16⟩
def DEC_CH_BUF_CFG_SRC (n : Nat) : Fld := ⟨DEC_CH_BUF_CFG n, 20, 20⟩
def DEC_CH_BUF_CFG_EN (n : Nat) : Fld := ⟨DEC_CH_BUF_CFG n, 21, 21⟩
def DEC_CH_BUF_STAT (n : Nat) : Nat := 0x20061014 + 0x40 * n
def DEC_CH_BUF_STAT_SLOT (n : Nat) : Fld := ⟨DEC_CH_BUF_STAT n, 3, 0⟩
def DEC_CH_BUF_STAT_SEQ (n : Nat) : Fld := ⟨DEC_CH_BUF_STAT n, 31, 8⟩
def DEC_CH_PEAK (n : Nat) : Nat := 0x20061018 + 0x40 * n
def DEC_CH_PEAK_MAG (n : Nat) : Fld := ⟨DEC_CH_PEAK n, 23, 0⟩
def DEC_CH_RMS (n : Nat) : Nat := 0x2006101C + 0x40 * n
def DEC_CH_RMS_LEVEL (n : Nat) : Fld := ⟨DEC_CH_RMS n, 10, 0⟩
def DEC_CH_RMS_WIN (n : Nat) : Fld := ⟨DEC_CH_RMS n, 19, 16⟩
def DEC_CH_ENV (n : Nat) : Nat := 0x20061020 + 0x40 * n
def DEC_CH_ENV_LEVEL (n : Nat) : Fld := ⟨DEC_CH_ENV n, 10, 0⟩
def DEC_CH_ENV_ATT (n : Nat) : Fld := ⟨DEC_CH_ENV n, 20, 16⟩
def DEC_CH_ENV_REL (n : Nat) : Fld := ⟨DEC_CH_ENV n, 28, 24⟩
def DEC_CH_THR (n : Nat) (j : Nat) : Nat := 0x20061024 + 0x40 * n + 0x4 * j
def DEC_CH_THR_DET (n : Nat) (j : Nat) : Fld := ⟨DEC_CH_THR n j, 1, 0⟩
def DEC_CH_THR_DIR (n : Nat) (j : Nat) : Fld := ⟨DEC_CH_THR n j, 2, 2⟩
def DEC_CH_THR_LEVEL (n : Nat) (j : Nat) : Fld := ⟨DEC_CH_THR n j, 14, 4⟩
def DEC_CH_THR_HYST (n : Nat) (j : Nat) : Fld := ⟨DEC_CH_THR n j, 23, 16⟩
def DEC_CH_STAT (n : Nat) : Nat := 0x2006102C + 0x40 * n
def DEC_CH_STAT_CLIP (n : Nat) : Fld := ⟨DEC_CH_STAT n, 0, 0⟩
def DEC_CH_STAT_GAP (n : Nat) : Fld := ⟨DEC_CH_STAT n, 1, 1⟩
def DEC_CH_STAT_STUCK (n : Nat) : Fld := ⟨DEC_CH_STAT n, 2, 2⟩
def DEC_CH_STAT_COND (n : Nat) : Fld := ⟨DEC_CH_STAT n, 9, 8⟩
def DEC_COEF (p : Nat) (b : Nat) (i : Nat) : Nat := 0x20068000 + 0x200 * p + 0x100 * b + 0x4 * i
def DEC_COEF_C (p : Nat) (b : Nat) (i : Nat) : Fld := ⟨DEC_COEF p b i, 23, 0⟩
def TDM_CLK (n : Nat) : Nat := 0x20070000 + 0x1000 * n
def TDM_CLK_ROLE (n : Nat) : Fld := ⟨TDM_CLK n, 1, 0⟩
def TDM_CLK_BCLK_POL (n : Nat) : Fld := ⟨TDM_CLK n, 2, 2⟩
def TDM_CLK_FS_POL (n : Nat) : Fld := ⟨TDM_CLK n, 3, 3⟩
def TDM_CLK_FS_FORM (n : Nat) : Fld := ⟨TDM_CLK n, 4, 4⟩
def TDM_CLK_FRAME_LEN (n : Nat) : Fld := ⟨TDM_CLK n, 15, 5⟩
def TDM_CLK_DIV (n : Nat) : Fld := ⟨TDM_CLK n, 28, 16⟩
def TDM_CLK_STAT (n : Nat) : Nat := 0x20070004 + 0x1000 * n
def TDM_CLK_STAT_RUN (n : Nat) : Fld := ⟨TDM_CLK_STAT n, 0, 0⟩
def TDM_CLK_STAT_LOST (n : Nat) : Fld := ⟨TDM_CLK_STAT n, 1, 1⟩
def TDM_BCLK_PER (n : Nat) : Nat := 0x20070008 + 0x1000 * n
def TDM_BCLK_PER_PER (n : Nat) : Fld := ⟨TDM_BCLK_PER n, 23, 0⟩
def TDM_FS_TIME_LO (n : Nat) : Nat := 0x20070010 + 0x1000 * n
def TDM_FS_TIME_LO_V (n : Nat) : Fld := ⟨TDM_FS_TIME_LO n, 31, 0⟩
def TDM_FS_TIME_HI (n : Nat) : Nat := 0x20070014 + 0x1000 * n
def TDM_FS_TIME_HI_V (n : Nat) : Fld := ⟨TDM_FS_TIME_HI n, 31, 0⟩
def TDM_FRAME_CNT (n : Nat) : Nat := 0x20070018 + 0x1000 * n
def TDM_FRAME_CNT_CNT (n : Nat) : Fld := ⟨TDM_FRAME_CNT n, 31, 0⟩
def TDM_CFG (n : Nat) (d : Nat) : Nat := 0x20070100 + 0x1000 * n + 0x100 * d
def TDM_CFG_CLK_SEL (n : Nat) (d : Nat) : Fld := ⟨TDM_CFG n d, 1, 0⟩
def TDM_CFG_SLOTS (n : Nat) (d : Nat) : Fld := ⟨TDM_CFG n d, 6, 2⟩
def TDM_CFG_WIDTH (n : Nat) (d : Nat) : Fld := ⟨TDM_CFG n d, 8, 7⟩
def TDM_CFG_DATA (n : Nat) (d : Nat) : Fld := ⟨TDM_CFG n d, 13, 9⟩
def TDM_CFG_OFFSET (n : Nat) (d : Nat) : Fld := ⟨TDM_CFG n d, 18, 14⟩
def TDM_CFG_FAULT_MODE (n : Nat) (d : Nat) : Fld := ⟨TDM_CFG n d, 19, 19⟩
def TDM_CFG_LEAD (n : Nat) (d : Nat) : Fld := ⟨TDM_CFG n d, 27, 20⟩
def TDM_CFG_SIL_MODE (n : Nat) (d : Nat) : Fld := ⟨TDM_CFG n d, 28, 28⟩
def TDM_CFG_HIZ_UNUSED (n : Nat) (d : Nat) : Fld := ⟨TDM_CFG n d, 29, 29⟩
def TDM_CTRL (n : Nat) (d : Nat) : Nat := 0x20070104 + 0x1000 * n + 0x100 * d
def TDM_CTRL_STOP (n : Nat) (d : Nat) : Fld := ⟨TDM_CTRL n d, 1, 1⟩
def TDM_CTRL_STATE (n : Nat) (d : Nat) : Fld := ⟨TDM_CTRL n d, 4, 2⟩
def TDM_STAT (n : Nat) (d : Nat) : Nat := 0x20070108 + 0x1000 * n + 0x100 * d
def TDM_STAT_ROT_0 (n : Nat) (d : Nat) : Fld := ⟨TDM_STAT n d, 4, 0⟩
def TDM_STAT_ROT_1 (n : Nat) (d : Nat) : Fld := ⟨TDM_STAT n d, 12, 8⟩
def TDM_ZC (n : Nat) (d : Nat) : Nat := 0x2007010C + 0x1000 * n + 0x100 * d
def TDM_ZC_TO (n : Nat) (d : Nat) : Fld := ⟨TDM_ZC n d, 8, 0⟩
def TDM_MISS (n : Nat) (d : Nat) (l : Nat) : Nat := 0x20070110 + 0x1000 * n + 0x100 * d + 0x4 * l
def TDM_MISS_COUNT (n : Nat) (d : Nat) (l : Nat) : Fld := ⟨TDM_MISS n d l, 31, 0⟩
def TDM_RING_LO (n : Nat) (d : Nat) (l : Nat) : Nat := 0x20070120 + 0x1000 * n + 0x100 * d + 0x10 * l
def TDM_RING_LO_BASE (n : Nat) (d : Nat) (l : Nat) : Fld := ⟨TDM_RING_LO n d l, 31, 6⟩
def TDM_RING_HI (n : Nat) (d : Nat) (l : Nat) : Nat := 0x20070124 + 0x1000 * n + 0x100 * d + 0x10 * l
def TDM_RING_HI_BASE (n : Nat) (d : Nat) (l : Nat) : Fld := ⟨TDM_RING_HI n d l, 7, 0⟩
def TDM_RING_CFG (n : Nat) (d : Nat) (l : Nat) : Nat := 0x20070128 + 0x1000 * n + 0x100 * d + 0x10 * l
def TDM_RING_CFG_SIZE (n : Nat) (d : Nat) (l : Nat) : Fld := ⟨TDM_RING_CFG n d l, 3, 0⟩
def TDM_RING_CFG_EN (n : Nat) (d : Nat) (l : Nat) : Fld := ⟨TDM_RING_CFG n d l, 4, 4⟩
def TDM_RING_CFG_WM (n : Nat) (d : Nat) (l : Nat) : Fld := ⟨TDM_RING_CFG n d l, 15, 8⟩
def TDM_RING_PTR (n : Nat) (d : Nat) (l : Nat) : Nat := 0x2007012C + 0x1000 * n + 0x100 * d + 0x10 * l
def TDM_RING_PTR_HW (n : Nat) (d : Nat) (l : Nat) : Fld := ⟨TDM_RING_PTR n d l, 15, 0⟩
def TDM_RING_PTR_SW (n : Nat) (d : Nat) (l : Nat) : Fld := ⟨TDM_RING_PTR n d l, 31, 16⟩
def TDM_TX_TOUT_VOTE (n : Nat) : Nat := 0x20070140 + 0x1000 * n
def TDM_TX_TOUT_VOTE_MUTE (n : Nat) : Fld := ⟨TDM_TX_TOUT_VOTE n, 0, 0⟩
def TDM_RX_MARK_LO (n : Nat) : Nat := 0x20070240 + 0x1000 * n
def TDM_RX_MARK_LO_V (n : Nat) : Fld := ⟨TDM_RX_MARK_LO n, 31, 0⟩
def TDM_RX_MARK_HI (n : Nat) : Nat := 0x20070244 + 0x1000 * n
def TDM_RX_MARK_HI_V (n : Nat) : Fld := ⟨TDM_RX_MARK_HI n, 31, 0⟩
def TDM_RX_MARK_IDX (n : Nat) : Nat := 0x20070248 + 0x1000 * n
def TDM_RX_MARK_IDX_IDX (n : Nat) : Fld := ⟨TDM_RX_MARK_IDX n, 15, 0⟩
def TDM_TX_SLOT (n : Nat) (l : Nat) (s : Nat) : Nat := 0x20070400 + 0x1000 * n + 0x80 * l + 0x4 * s
def TDM_TX_SLOT_SRC (n : Nat) (l : Nat) (s : Nat) : Fld := ⟨TDM_TX_SLOT n l s, 1, 0⟩
def TDM_TX_SLOT_GUST_OUT (n : Nat) (l : Nat) (s : Nat) : Fld := ⟨TDM_TX_SLOT n l s, 6, 2⟩
def TDM_TX_SLOT_MUTE (n : Nat) (l : Nat) (s : Nat) : Fld := ⟨TDM_TX_SLOT n l s, 7, 7⟩
def TDM_TX_SLOT_GAIN (n : Nat) (l : Nat) (s : Nat) : Fld := ⟨TDM_TX_SLOT n l s, 15, 8⟩
def TDM_TX_SLOT_SIL (n : Nat) (l : Nat) (s : Nat) : Fld := ⟨TDM_TX_SLOT n l s, 17, 16⟩
def TDM_TX_SLOT_PEND (n : Nat) (l : Nat) (s : Nat) : Fld := ⟨TDM_TX_SLOT n l s, 18, 18⟩
def TDM_RX_SLOT (n : Nat) (l : Nat) (s : Nat) : Nat := 0x20070600 + 0x1000 * n + 0x80 * l + 0x4 * s
def TDM_RX_SLOT_EN (n : Nat) (l : Nat) (s : Nat) : Fld := ⟨TDM_RX_SLOT n l s, 0, 0⟩
def TDM_TRIG_CTRL : Nat := 0x2007F000
def TDM_TRIG_CTRL_ARM_MASK : Fld := ⟨TDM_TRIG_CTRL, 7, 0⟩
def TDM_TRIG_CTRL_SRC : Fld := ⟨TDM_TRIG_CTRL, 9, 8⟩
def TDM_TRIG_CTRL_GO : Fld := ⟨TDM_TRIG_CTRL, 10, 10⟩
def TDM_TRIG_CTRL_EDGE : Fld := ⟨TDM_TRIG_CTRL, 11, 11⟩
def TDM_TRIG_CTRL_PENDING : Fld := ⟨TDM_TRIG_CTRL, 12, 12⟩
def TDM_TRIG_TIME_LO : Nat := 0x2007F004
def TDM_TRIG_TIME_LO_V : Fld := ⟨TDM_TRIG_TIME_LO, 31, 0⟩
def TDM_TRIG_TIME_HI : Nat := 0x2007F008
def TDM_TRIG_TIME_HI_V : Fld := ⟨TDM_TRIG_TIME_HI, 31, 0⟩
def TDM_TRIG_LAST_LO : Nat := 0x2007F00C
def TDM_TRIG_LAST_LO_V : Fld := ⟨TDM_TRIG_LAST_LO, 31, 0⟩
def TDM_TRIG_LAST_HI : Nat := 0x2007F010
def TDM_TRIG_LAST_HI_V : Fld := ⟨TDM_TRIG_LAST_HI, 31, 0⟩
def TDM_EVT : Nat := 0x2007F020
def TDM_EVT_UNDERRUN : Fld := ⟨TDM_EVT, 3, 0⟩
def TDM_EVT_OVERRUN : Fld := ⟨TDM_EVT, 7, 4⟩
def TDM_EVT_FRAME_ERR : Fld := ⟨TDM_EVT, 11, 8⟩
def TDM_EVT_CLK_LOST : Fld := ⟨TDM_EVT, 15, 12⟩
def TDM_EVT_ZC_TIMEOUT : Fld := ⟨TDM_EVT, 19, 16⟩
def TDM_EVT_TRIG_DONE : Fld := ⟨TDM_EVT, 20, 20⟩
def TDM_EVT_RING_FAULT : Fld := ⟨TDM_EVT, 24, 21⟩
def TDM_INT_EN : Nat := 0x2007F024
def TDM_INT_EN_EN : Fld := ⟨TDM_INT_EN, 24, 0⟩
def SPDIF_CTRL : Nat := 0x20080000
def SPDIF_CTRL_EN : Fld := ⟨SPDIF_CTRL, 0, 0⟩
def SPDIF_CTRL_VALID_MUTE : Fld := ⟨SPDIF_CTRL, 1, 1⟩
def SPDIF_CTRL_RING_EN : Fld := ⟨SPDIF_CTRL, 2, 2⟩
def SPDIF_STAT : Nat := 0x20080004
def SPDIF_STAT_LOCK : Fld := ⟨SPDIF_STAT, 0, 0⟩
def SPDIF_STAT_RATE : Fld := ⟨SPDIF_STAT, 6, 4⟩
def SPDIF_FS_TIME_LO : Nat := 0x20080008
def SPDIF_FS_TIME_LO_V : Fld := ⟨SPDIF_FS_TIME_LO, 31, 0⟩
def SPDIF_FS_TIME_HI : Nat := 0x2008000C
def SPDIF_FS_TIME_HI_V : Fld := ⟨SPDIF_FS_TIME_HI, 31, 0⟩
def SPDIF_PERIOD : Nat := 0x20080010
def SPDIF_PERIOD_PER : Fld := ⟨SPDIF_PERIOD, 23, 0⟩
def SPDIF_ERR : Nat := 0x20080014
def SPDIF_ERR_PARITY : Fld := ⟨SPDIF_ERR, 15, 0⟩
def SPDIF_ERR_BIPHASE : Fld := ⟨SPDIF_ERR, 31, 16⟩
def SPDIF_CS (k : Nat) : Nat := 0x20080020 + 0x4 * k
def SPDIF_CS_BYTES (k : Nat) : Fld := ⟨SPDIF_CS k, 31, 0⟩
def SPDIF_CS_DIFF : Nat := 0x20080038
def SPDIF_CS_DIFF_DIFF : Fld := ⟨SPDIF_CS_DIFF, 0, 0⟩
def SPDIF_RING_LO : Nat := 0x20080040
def SPDIF_RING_LO_BASE : Fld := ⟨SPDIF_RING_LO, 31, 6⟩
def SPDIF_RING_HI : Nat := 0x20080044
def SPDIF_RING_HI_BASE : Fld := ⟨SPDIF_RING_HI, 7, 0⟩
def SPDIF_RING_CFG : Nat := 0x20080048
def SPDIF_RING_CFG_SIZE : Fld := ⟨SPDIF_RING_CFG, 3, 0⟩
def SPDIF_RING_CFG_EN : Fld := ⟨SPDIF_RING_CFG, 4, 4⟩
def SPDIF_RING_CFG_WM : Fld := ⟨SPDIF_RING_CFG, 15, 8⟩
def SPDIF_RING_PTR : Nat := 0x2008004C
def SPDIF_RING_PTR_HW : Fld := ⟨SPDIF_RING_PTR, 15, 0⟩
def SPDIF_RING_PTR_SW : Fld := ⟨SPDIF_RING_PTR, 31, 16⟩
def SPDIF_EVT : Nat := 0x20080060
def SPDIF_EVT_LOCK : Fld := ⟨SPDIF_EVT, 0, 0⟩
def SPDIF_EVT_UNLOCK : Fld := ⟨SPDIF_EVT, 1, 1⟩
def SPDIF_EVT_CS_CHANGE : Fld := ⟨SPDIF_EVT, 2, 2⟩
def SPDIF_EVT_PARITY : Fld := ⟨SPDIF_EVT, 3, 3⟩
def SPDIF_INT_EN : Nat := 0x20080064
def SPDIF_INT_EN_EN : Fld := ⟨SPDIF_INT_EN, 3, 0⟩
def GUARD_CFG (g : Nat) : Nat := 0x20080100 + 0x20 * g
def GUARD_CFG_EN (g : Nat) : Fld := ⟨GUARD_CFG g, 0, 0⟩
def GUARD_CFG_DET_CS (g : Nat) : Fld := ⟨GUARD_CFG g, 1, 1⟩
def GUARD_CFG_DET_BURST (g : Nat) : Fld := ⟨GUARD_CFG g, 2, 2⟩
def GUARD_CFG_PREVIEW (g : Nat) : Fld := ⟨GUARD_CFG g, 9, 3⟩
def GUARD_CFG_HOLD (g : Nat) : Fld := ⟨GUARD_CFG g, 25, 16⟩
def GUARD_PAIRS (g : Nat) : Nat := 0x20080104 + 0x20 * g
def GUARD_PAIRS_EN (g : Nat) : Fld := ⟨GUARD_PAIRS g, 15, 0⟩
def GUARD_STAT (g : Nat) : Nat := 0x20080108 + 0x20 * g
def GUARD_STAT_MUTED (g : Nat) : Fld := ⟨GUARD_STAT g, 0, 0⟩
def GUARD_STAT_CAUSE (g : Nat) : Fld := ⟨GUARD_STAT g, 2, 1⟩
def GUARD_STAT_PC (g : Nat) : Fld := ⟨GUARD_STAT g, 31, 16⟩
def GUARD_LAST_LO (g : Nat) : Nat := 0x2008010C + 0x20 * g
def GUARD_LAST_LO_V (g : Nat) : Fld := ⟨GUARD_LAST_LO g, 31, 0⟩
def GUARD_LAST_HI (g : Nat) : Nat := 0x20080110 + 0x20 * g
def GUARD_LAST_HI_V (g : Nat) : Fld := ⟨GUARD_LAST_HI g, 31, 0⟩
def GUARD_EVT : Nat := 0x20080300
def GUARD_EVT_DETECT : Fld := ⟨GUARD_EVT, 8, 0⟩
def GUARD_EVT_RELEASE : Fld := ⟨GUARD_EVT, 24, 16⟩
def GUARD_INT_EN : Nat := 0x20080304
def GUARD_INT_EN_EN : Fld := ⟨GUARD_INT_EN, 24, 0⟩
def ASRC_CFG (n : Nat) : Nat := 0x20090000 + 0x100 * n
def ASRC_CFG_EN (n : Nat) : Fld := ⟨ASRC_CFG n, 0, 0⟩
def ASRC_CFG_DIR (n : Nat) : Fld := ⟨ASRC_CFG n, 1, 1⟩
def ASRC_CFG_EXT (n : Nat) : Fld := ⟨ASRC_CFG n, 4, 2⟩
def ASRC_CFG_LINE (n : Nat) : Fld := ⟨ASRC_CFG n, 5, 5⟩
def ASRC_CFG_INT_RATE (n : Nat) : Fld := ⟨ASRC_CFG n, 7, 6⟩
def ASRC_CFG_CH (n : Nat) : Fld := ⟨ASRC_CFG n, 10, 8⟩
def ASRC_CFG_TRACK_BW (n : Nat) : Fld := ⟨ASRC_CFG n, 13, 12⟩
def ASRC_MAP (n : Nat) (k : Nat) : Nat := 0x20090004 + 0x100 * n + 0x4 * k
def ASRC_MAP_POS0 (n : Nat) (k : Nat) : Fld := ⟨ASRC_MAP n k, 4, 0⟩
def ASRC_MAP_POS1 (n : Nat) (k : Nat) : Fld := ⟨ASRC_MAP n k, 12, 8⟩
def ASRC_MAP_POS2 (n : Nat) (k : Nat) : Fld := ⟨ASRC_MAP n k, 20, 16⟩
def ASRC_MAP_POS3 (n : Nat) (k : Nat) : Fld := ⟨ASRC_MAP n k, 28, 24⟩
def ASRC_STAT (n : Nat) : Nat := 0x2009000C + 0x100 * n
def ASRC_STAT_STATE (n : Nat) : Fld := ⟨ASRC_STAT n, 1, 0⟩
def ASRC_STAT_BAND (n : Nat) : Fld := ⟨ASRC_STAT n, 3, 2⟩
def ASRC_STAT_CLIP (n : Nat) : Fld := ⟨ASRC_STAT n, 4, 4⟩
def ASRC_STAT_RANGE (n : Nat) : Fld := ⟨ASRC_STAT n, 5, 5⟩
def ASRC_RATIO (n : Nat) : Nat := 0x20090010 + 0x100 * n
def ASRC_RATIO_RATIO (n : Nat) : Fld := ⟨ASRC_RATIO n, 31, 0⟩
def ASRC_LAT (n : Nat) : Nat := 0x20090014 + 0x100 * n
def ASRC_LAT_D (n : Nat) : Fld := ⟨ASRC_LAT n, 31, 0⟩
def ASRC_RING_LO (n : Nat) : Nat := 0x20090018 + 0x100 * n
def ASRC_RING_LO_BASE (n : Nat) : Fld := ⟨ASRC_RING_LO n, 31, 6⟩
def ASRC_RING_HI (n : Nat) : Nat := 0x2009001C + 0x100 * n
def ASRC_RING_HI_BASE (n : Nat) : Fld := ⟨ASRC_RING_HI n, 7, 0⟩
def ASRC_RING_CFG (n : Nat) : Nat := 0x20090020 + 0x100 * n
def ASRC_RING_CFG_BLOCK (n : Nat) : Fld := ⟨ASRC_RING_CFG n, 10, 0⟩
def ASRC_RING_CFG_NBLK (n : Nat) : Fld := ⟨ASRC_RING_CFG n, 15, 12⟩
def ASRC_RING_CFG_SIZE (n : Nat) : Fld := ⟨ASRC_RING_CFG n, 19, 16⟩
def ASRC_RING_PTR (n : Nat) : Nat := 0x20090024 + 0x100 * n
def ASRC_RING_PTR_HW (n : Nat) : Fld := ⟨ASRC_RING_PTR n, 15, 0⟩
def ASRC_RING_PTR_SW (n : Nat) : Fld := ⟨ASRC_RING_PTR n, 31, 16⟩
def ASRC_T0_LO (n : Nat) : Nat := 0x20090028 + 0x100 * n
def ASRC_T0_LO_V (n : Nat) : Fld := ⟨ASRC_T0_LO n, 31, 0⟩
def ASRC_T0_HI (n : Nat) : Nat := 0x2009002C + 0x100 * n
def ASRC_T0_HI_V (n : Nat) : Fld := ⟨ASRC_T0_HI n, 31, 0⟩
def ASRC_EVT : Nat := 0x2009F000
def ASRC_EVT_LOCK : Fld := ⟨ASRC_EVT, 7, 0⟩
def ASRC_EVT_UNLOCK : Fld := ⟨ASRC_EVT, 15, 8⟩
def ASRC_EVT_UNDERRUN : Fld := ⟨ASRC_EVT, 23, 16⟩
def ASRC_EVT_RING_FAULT : Fld := ⟨ASRC_EVT, 31, 24⟩
def ASRC_INT_EN : Nat := 0x2009F004
def ASRC_INT_EN_EN : Fld := ⟨ASRC_INT_EN, 31, 0⟩
def GUST_CTRL : Nat := 0x200A0000
def GUST_CTRL_EN : Fld := ⟨GUST_CTRL, 0, 0⟩
def GUST_CTRL_SWAP : Fld := ⟨GUST_CTRL, 1, 1⟩
def GUST_CTRL_COPY_EN : Fld := ⟨GUST_CTRL, 2, 2⟩
def GUST_CTRL_RAMP : Fld := ⟨GUST_CTRL, 14, 4⟩
def GUST_STAT : Nat := 0x200A0004
def GUST_STAT_ACTIVE : Fld := ⟨GUST_STAT, 0, 0⟩
def GUST_STAT_PENDING : Fld := ⟨GUST_STAT, 2, 1⟩
def GUST_STAT_COPYING : Fld := ⟨GUST_STAT, 3, 3⟩
def GUST_STAT_LOAD_BUSY : Fld := ⟨GUST_STAT, 4, 4⟩
def GUST_MUTE : Nat := 0x200A0008
def GUST_MUTE_GLOBAL : Fld := ⟨GUST_MUTE, 0, 0⟩
def GUST_MUTE_PIN : Fld := ⟨GUST_MUTE, 1, 1⟩
def GUST_OUT_MUTE : Nat := 0x200A000C
def GUST_OUT_MUTE_MASK : Fld := ⟨GUST_OUT_MUTE, 31, 0⟩
def GUST_MARTEN : Nat := 0x200A0010
def GUST_MARTEN_CORE_MASK : Fld := ⟨GUST_MARTEN, 3, 0⟩
def GUST_LOAD_LO : Nat := 0x200A0014
def GUST_LOAD_LO_ADDR : Fld := ⟨GUST_LOAD_LO, 31, 4⟩
def GUST_LOAD_HI : Nat := 0x200A0018
def GUST_LOAD_HI_ADDR : Fld := ⟨GUST_LOAD_HI, 7, 0⟩
def GUST_LOAD_CTRL : Nat := 0x200A001C
def GUST_LOAD_CTRL_FIRST : Fld := ⟨GUST_LOAD_CTRL, 7, 0⟩
def GUST_LOAD_CTRL_COUNT : Fld := ⟨GUST_LOAD_CTRL, 16, 8⟩
def GUST_LOAD_CTRL_GO : Fld := ⟨GUST_LOAD_CTRL, 31, 31⟩
def GUST_COEF_ADDR : Nat := 0x200A0020
def GUST_COEF_ADDR_PATH : Fld := ⟨GUST_COEF_ADDR, 7, 0⟩
def GUST_COEF_ADDR_WORD : Fld := ⟨GUST_COEF_ADDR, 13, 8⟩
def GUST_COEF_DATA : Nat := 0x200A0024
def GUST_COEF_DATA_C : Fld := ⟨GUST_COEF_DATA, 23, 0⟩
def GUST_EVT : Nat := 0x200A0030
def GUST_EVT_SWAP_DONE : Fld := ⟨GUST_EVT, 0, 0⟩
def GUST_EVT_SWAP_DROP : Fld := ⟨GUST_EVT, 1, 1⟩
def GUST_EVT_COPY_DONE : Fld := ⟨GUST_EVT, 2, 2⟩
def GUST_EVT_LOAD_DONE : Fld := ⟨GUST_EVT, 3, 3⟩
def GUST_EVT_LOAD_FAULT : Fld := ⟨GUST_EVT, 4, 4⟩
def GUST_EVT_CLIP : Fld := ⟨GUST_EVT, 5, 5⟩
def GUST_EVT_DIVERGE : Fld := ⟨GUST_EVT, 6, 6⟩
def GUST_INT_EN : Nat := 0x200A0034
def GUST_INT_EN_EN : Fld := ⟨GUST_INT_EN, 6, 0⟩
def GUST_SWAP_TIME_LO : Nat := 0x200A0038
def GUST_SWAP_TIME_LO_V : Fld := ⟨GUST_SWAP_TIME_LO, 31, 0⟩
def GUST_SWAP_TIME_HI : Nat := 0x200A003C
def GUST_SWAP_TIME_HI_V : Fld := ⟨GUST_SWAP_TIME_HI, 31, 0⟩
def GUST_DIV_STAT : Nat := 0x200A0040
def GUST_DIV_STAT_TRIP : Fld := ⟨GUST_DIV_STAT, 31, 0⟩
def GUST_CLIP : Nat := 0x200A0044
def GUST_CLIP_OUT : Fld := ⟨GUST_CLIP, 31, 0⟩
def GUST_IN (i : Nat) : Nat := 0x200A0100 + 0x4 * i
def GUST_IN_CH (i : Nat) : Fld := ⟨GUST_IN i, 4, 0⟩
def GUST_IN_EN (i : Nat) : Fld := ⟨GUST_IN i, 5, 5⟩
def GUST_IN_DEAD (i : Nat) : Fld := ⟨GUST_IN i, 6, 6⟩
def GUST_OUT_MON (o : Nat) : Nat := 0x200A0200 + 0x8 * o
def GUST_OUT_MON_LIMIT (o : Nat) : Fld := ⟨GUST_OUT_MON o, 10, 0⟩
def GUST_OUT_MON_WIN (o : Nat) : Fld := ⟨GUST_OUT_MON o, 19, 16⟩
def GUST_OUT_MON_EN (o : Nat) : Fld := ⟨GUST_OUT_MON o, 24, 24⟩
def GUST_OUT_LVL (o : Nat) : Nat := 0x200A0204 + 0x8 * o
def GUST_OUT_LVL_LEVEL (o : Nat) : Fld := ⟨GUST_OUT_LVL o, 10, 0⟩
def GUST_PATH (p : Nat) : Nat := 0x200A0400 + 0x4 * p
def GUST_PATH_EN (p : Nat) : Fld := ⟨GUST_PATH p, 0, 0⟩
def GUST_PATH_IN (p : Nat) : Fld := ⟨GUST_PATH p, 4, 1⟩
def GUST_PATH_OUT (p : Nat) : Fld := ⟨GUST_PATH p, 9, 5⟩
def GUST_PATH_NTAP (p : Nat) : Fld := ⟨GUST_PATH p, 14, 10⟩
def GUST_PATH_NBQ (p : Nat) : Fld := ⟨GUST_PATH p, 18, 16⟩
def FOX_CTRL : Nat := 0x200B0000
def FOX_CTRL_EN : Fld := ⟨FOX_CTRL, 0, 0⟩
def FOX_CTRL_EGO_EN : Fld := ⟨FOX_CTRL, 1, 1⟩
def FOX_CTRL_TRK_EN : Fld := ⟨FOX_CTRL, 2, 2⟩
def FOX_SENSOR_EN : Nat := 0x200B0004
def FOX_SENSOR_EN_ALL : Fld := ⟨FOX_SENSOR_EN, 29, 0⟩
def FOX_SENSOR_EN_ARRAY : Fld := ⟨FOX_SENSOR_EN, 7, 0⟩
def FOX_SENSOR_EN_CAMERA : Fld := ⟨FOX_SENSOR_EN, 23, 8⟩
def FOX_SENSOR_EN_IMU : Fld := ⟨FOX_SENSOR_EN, 24, 24⟩
def FOX_SENSOR_EN_WHEEL : Fld := ⟨FOX_SENSOR_EN, 28, 25⟩
def FOX_SENSOR_EN_HOST : Fld := ⟨FOX_SENSOR_EN, 29, 29⟩
def FOX_MARTEN : Nat := 0x200B0008
def FOX_MARTEN_CORE_MASK : Fld := ⟨FOX_MARTEN, 3, 0⟩
def FOX_DOA_PTR : Nat := 0x200B000C
def FOX_DOA_PTR_HW : Fld := ⟨FOX_DOA_PTR, 15, 0⟩
def FOX_DOA_PTR_SW : Fld := ⟨FOX_DOA_PTR, 31, 16⟩
def FOX_EGO_CFG : Nat := 0x200B0010
def FOX_EGO_CFG_WHEELS : Fld := ⟨FOX_EGO_CFG, 3, 0⟩
def FOX_EGO_CFG_REVERSE : Fld := ⟨FOX_EGO_CFG, 4, 4⟩
def FOX_EGO_CFG_STOP_MS : Fld := ⟨FOX_EGO_CFG, 15, 8⟩
def FOX_EGO_CFG_WIN_MS : Fld := ⟨FOX_EGO_CFG, 23, 16⟩
def FOX_EGO_WHEEL (w : Nat) : Nat := 0x200B0020 + 0x8 * w
def FOX_EGO_WHEEL_EPR (w : Nat) : Fld := ⟨FOX_EGO_WHEEL w, 11, 0⟩
def FOX_EGO_CIRC (w : Nat) : Nat := 0x200B0024 + 0x8 * w
def FOX_EGO_CIRC_UM (w : Nat) : Fld := ⟨FOX_EGO_CIRC w, 31, 0⟩
def FOX_EGO_QA : Nat := 0x200B0040
def FOX_EGO_QA_F : Fld := ⟨FOX_EGO_QA, 31, 0⟩
def FOX_EGO_QW : Nat := 0x200B0044
def FOX_EGO_QW_F : Fld := ⟨FOX_EGO_QW, 31, 0⟩
def FOX_EGO_QB : Nat := 0x200B0048
def FOX_EGO_QB_F : Fld := ⟨FOX_EGO_QB, 31, 0⟩
def FOX_EGO_RV : Nat := 0x200B004C
def FOX_EGO_RV_F : Fld := ⟨FOX_EGO_RV, 31, 0⟩
def FOX_EGO_RA : Nat := 0x200B0050
def FOX_EGO_RA_F : Fld := ⟨FOX_EGO_RA, 31, 0⟩
def FOX_EGO_RG : Nat := 0x200B0054
def FOX_EGO_RG_F : Fld := ⟨FOX_EGO_RG, 31, 0⟩
def FOX_EGO_BAND (j : Nat) : Nat := 0x200B0060 + 0x4 * j
def FOX_EGO_BAND_F (j : Nat) : Fld := ⟨FOX_EGO_BAND j, 31, 0⟩
def FOX_EGO_HYST : Nat := 0x200B0080
def FOX_EGO_HYST_F : Fld := ⟨FOX_EGO_HYST, 31, 0⟩
def FOX_EGO_OUT (j : Nat) : Nat := 0x200B0090 + 0x4 * j
def FOX_EGO_OUT_F (j : Nat) : Fld := ⟨FOX_EGO_OUT j, 31, 0⟩
def FOX_EGO_TIME_LO : Nat := 0x200B00A0
def FOX_EGO_TIME_LO_V : Fld := ⟨FOX_EGO_TIME_LO, 31, 0⟩
def FOX_EGO_TIME_HI : Nat := 0x200B00A4
def FOX_EGO_TIME_HI_V : Fld := ⟨FOX_EGO_TIME_HI, 31, 0⟩
def FOX_EGO_STAT : Nat := 0x200B00A8
def FOX_EGO_STAT_BAND : Fld := ⟨FOX_EGO_STAT, 3, 0⟩
def FOX_EGO_STAT_FLAGS : Fld := ⟨FOX_EGO_STAT, 11, 8⟩
def FOX_EGO_RING_LO : Nat := 0x200B00B0
def FOX_EGO_RING_LO_BASE : Fld := ⟨FOX_EGO_RING_LO, 31, 6⟩
def FOX_EGO_RING_HI : Nat := 0x200B00B4
def FOX_EGO_RING_HI_BASE : Fld := ⟨FOX_EGO_RING_HI, 7, 0⟩
def FOX_EGO_RING_CFG : Nat := 0x200B00B8
def FOX_EGO_RING_CFG_SIZE : Fld := ⟨FOX_EGO_RING_CFG, 3, 0⟩
def FOX_EGO_RING_CFG_EN : Fld := ⟨FOX_EGO_RING_CFG, 4, 4⟩
def FOX_TRK_CFG : Nat := 0x200B0100
def FOX_TRK_CFG_CONF_M : Fld := ⟨FOX_TRK_CFG, 3, 0⟩
def FOX_TRK_CFG_CONF_N : Fld := ⟨FOX_TRK_CFG, 11, 4⟩
def FOX_TRK_CFG_MODEL : Fld := ⟨FOX_TRK_CFG, 13, 12⟩
def FOX_TRK_CFG_SEAT_HOLD : Fld := ⟨FOX_TRK_CFG, 17, 14⟩
def FOX_TRK_CFG_BIRTH_MASK : Fld := ⟨FOX_TRK_CFG, 20, 18⟩
def FOX_TRK_CFG_SPK_K : Fld := ⟨FOX_TRK_CFG, 24, 21⟩
def FOX_TRK_CFG_SPK_D : Fld := ⟨FOX_TRK_CFG, 28, 25⟩
def FOX_TRK_TIME : Nat := 0x200B0104
def FOX_TRK_TIME_COAST_AFTER : Fld := ⟨FOX_TRK_TIME, 11, 0⟩
def FOX_TRK_TIME_COAST_TO : Fld := ⟨FOX_TRK_TIME, 27, 12⟩
def FOX_TRK_SPK : Nat := 0x200B0108
def FOX_TRK_SPK_ON : Fld := ⟨FOX_TRK_SPK, 7, 0⟩
def FOX_TRK_SPK_OFF : Fld := ⟨FOX_TRK_SPK, 15, 8⟩
def FOX_TRK_SPK_LATE_MAX : Fld := ⟨FOX_TRK_SPK, 23, 16⟩
def FOX_TRK_Q : Nat := 0x200B0110
def FOX_TRK_Q_F : Fld := ⟨FOX_TRK_Q, 31, 0⟩
def FOX_TRK_GATE : Nat := 0x200B0114
def FOX_TRK_GATE_F : Fld := ⟨FOX_TRK_GATE, 31, 0⟩
def FOX_TRK_PMAX : Nat := 0x200B0118
def FOX_TRK_PMAX_F : Fld := ⟨FOX_TRK_PMAX, 31, 0⟩
def FOX_TRK_SIGMA_AV : Nat := 0x200B011C
def FOX_TRK_SIGMA_AV_F : Fld := ⟨FOX_TRK_SIGMA_AV, 31, 0⟩
def FOX_TRK_P0_VEL : Nat := 0x200B0120
def FOX_TRK_P0_VEL_F : Fld := ⟨FOX_TRK_P0_VEL, 31, 0⟩
def FOX_TRK_P0_ACC : Nat := 0x200B0124
def FOX_TRK_P0_ACC_F : Fld := ⟨FOX_TRK_P0_ACC, 31, 0⟩
def FOX_TRK_GATE_L2 : Nat := 0x200B0128
def FOX_TRK_GATE_L2_F : Fld := ⟨FOX_TRK_GATE_L2, 31, 0⟩
def FOX_L2_WIN : Nat := 0x200B012C
def FOX_L2_WIN_TICKS : Fld := ⟨FOX_L2_WIN, 31, 0⟩
def FOX_PUB_TIME_LO : Nat := 0x200B0130
def FOX_PUB_TIME_LO_V : Fld := ⟨FOX_PUB_TIME_LO, 31, 0⟩
def FOX_PUB_TIME_HI : Nat := 0x200B0134
def FOX_PUB_TIME_HI_V : Fld := ⟨FOX_PUB_TIME_HI, 31, 0⟩
def FOX_PUB_SEQ : Nat := 0x200B0138
def FOX_PUB_SEQ_SEQ : Fld := ⟨FOX_PUB_SEQ, 31, 0⟩
def FOX_EVT : Nat := 0x200B0140
def FOX_EVT_ALL : Fld := ⟨FOX_EVT, 9, 0⟩
def FOX_EVT_PUB : Fld := ⟨FOX_EVT, 0, 0⟩
def FOX_EVT_SPEAK : Fld := ⟨FOX_EVT, 1, 1⟩
def FOX_EVT_BAND : Fld := ⟨FOX_EVT, 2, 2⟩
def FOX_EVT_BIRTH : Fld := ⟨FOX_EVT, 3, 3⟩
def FOX_EVT_DELETE : Fld := ⟨FOX_EVT, 4, 4⟩
def FOX_EVT_TRACK_FULL : Fld := ⟨FOX_EVT, 5, 5⟩
def FOX_EVT_PUB_FAULT : Fld := ⟨FOX_EVT, 6, 6⟩
def FOX_EVT_DOA_DROP : Fld := ⟨FOX_EVT, 7, 7⟩
def FOX_EVT_NUMERIC : Fld := ⟨FOX_EVT, 8, 8⟩
def FOX_EVT_EGO : Fld := ⟨FOX_EVT, 9, 9⟩
def FOX_INT_EN : Nat := 0x200B0144
def FOX_INT_EN_EN : Fld := ⟨FOX_INT_EN, 9, 0⟩
def FOX_SUB_LO (k : Nat) : Nat := 0x200B0200 + 0x10 * k
def FOX_SUB_LO_BASE (k : Nat) : Fld := ⟨FOX_SUB_LO k, 31, 6⟩
def FOX_SUB_HI (k : Nat) : Nat := 0x200B0204 + 0x10 * k
def FOX_SUB_HI_BASE (k : Nat) : Fld := ⟨FOX_SUB_HI k, 7, 0⟩
def FOX_SUB_CFG (k : Nat) : Nat := 0x200B0208 + 0x10 * k
def FOX_SUB_CFG_SIZE (k : Nat) : Fld := ⟨FOX_SUB_CFG k, 2, 0⟩
def FOX_SUB_CFG_EN (k : Nat) : Fld := ⟨FOX_SUB_CFG k, 3, 3⟩
def FOX_SUB_CFG_SESSION (k : Nat) : Fld := ⟨FOX_SUB_CFG k, 25, 16⟩
def LYNX_CTRL (n : Nat) : Nat := 0x200C0000 + 0x1000 * n
def LYNX_CTRL_EN (n : Nat) : Fld := ⟨LYNX_CTRL n, 0, 0⟩
def LYNX_CTRL_STATE (n : Nat) : Fld := ⟨LYNX_CTRL n, 6, 4⟩
def LYNX_JOB_LO (n : Nat) : Nat := 0x200C0004 + 0x1000 * n
def LYNX_JOB_LO_BASE (n : Nat) : Fld := ⟨LYNX_JOB_LO n, 31, 6⟩
def LYNX_JOB_HI (n : Nat) : Nat := 0x200C0008 + 0x1000 * n
def LYNX_JOB_HI_BASE (n : Nat) : Fld := ⟨LYNX_JOB_HI n, 7, 0⟩
def LYNX_JOB_PUSH (n : Nat) : Nat := 0x200C000C + 0x1000 * n
def LYNX_JOB_PUSH_PUSH (n : Nat) : Fld := ⟨LYNX_JOB_PUSH n, 0, 0⟩
def LYNX_JOB_PUSH_DEPTH (n : Nat) : Fld := ⟨LYNX_JOB_PUSH n, 13, 8⟩
def LYNX_INFL (n : Nat) : Nat := 0x200C0010 + 0x1000 * n
def LYNX_INFL_NOW (n : Nat) : Fld := ⟨LYNX_INFL n, 4, 0⟩
def LYNX_INFL_MAX (n : Nat) : Fld := ⟨LYNX_INFL n, 12, 8⟩
def LYNX_PERF_MAC (n : Nat) : Nat := 0x200C0014 + 0x1000 * n
def LYNX_PERF_MAC_CYC (n : Nat) : Fld := ⟨LYNX_PERF_MAC n, 31, 0⟩
def LYNX_PERF_STALL (n : Nat) (L : Nat) : Nat := 0x200C0018 + 0x1000 * n + 0x4 * L
def LYNX_PERF_STALL_CYC (n : Nat) (L : Nat) : Fld := ⟨LYNX_PERF_STALL n L, 31, 0⟩
def LYNX_LAST_JOB (n : Nat) : Nat := 0x200C0028 + 0x1000 * n
def LYNX_LAST_JOB_TICKS (n : Nat) : Fld := ⟨LYNX_LAST_JOB n, 31, 0⟩
def LYNX_FAULT (n : Nat) : Nat := 0x200C002C + 0x1000 * n
def LYNX_FAULT_CAUSE (n : Nat) : Fld := ⟨LYNX_FAULT n, 3, 0⟩
def LYNX_FADDR_LO (n : Nat) : Nat := 0x200C0030 + 0x1000 * n
def LYNX_FADDR_LO_ADDR (n : Nat) : Fld := ⟨LYNX_FADDR_LO n, 31, 0⟩
def LYNX_FADDR_HI (n : Nat) : Nat := 0x200C0034 + 0x1000 * n
def LYNX_FADDR_HI_ADDR (n : Nat) : Fld := ⟨LYNX_FADDR_HI n, 7, 0⟩
def LYNX_LOCAL_FREE (n : Nat) : Nat := 0x200C0038 + 0x1000 * n
def LYNX_LOCAL_FREE_BYTES (n : Nat) : Fld := ⟨LYNX_LOCAL_FREE n, 21, 0⟩
def LYNX_EVT : Nat := 0x200CF000
def LYNX_EVT_DONE : Fld := ⟨LYNX_EVT, 7, 0⟩
def LYNX_EVT_FAULT : Fld := ⟨LYNX_EVT, 15, 8⟩
def LYNX_EVT_MISS : Fld := ⟨LYNX_EVT, 16, 16⟩
def LYNX_EVT_DEGRADE : Fld := ⟨LYNX_EVT, 17, 17⟩
def LYNX_EVT_RECOVER : Fld := ⟨LYNX_EVT, 18, 18⟩
def LYNX_INT_EN : Nat := 0x200CF004
def LYNX_INT_EN_EN : Fld := ⟨LYNX_INT_EN, 18, 0⟩
def LYNX_STR_CFG (s : Nat) : Nat := 0x200CF100 + 0x10 * s
def LYNX_STR_CFG_EN (s : Nat) : Fld := ⟨LYNX_STR_CFG s, 0, 0⟩
def LYNX_STR_CFG_ENGINE (s : Nat) : Fld := ⟨LYNX_STR_CFG s, 3, 1⟩
def LYNX_STR_CFG_PROG (s : Nat) : Fld := ⟨LYNX_STR_CFG s, 5, 4⟩
def LYNX_STR_CFG_PRED (s : Nat) : Fld := ⟨LYNX_STR_CFG s, 6, 6⟩
def LYNX_STR_CFG_POLICY (s : Nat) : Fld := ⟨LYNX_STR_CFG s, 9, 8⟩
def LYNX_STR_CFG_ATTEN (s : Nat) : Fld := ⟨LYNX_STR_CFG s, 15, 10⟩
def LYNX_STR_CFG_CORR (s : Nat) : Fld := ⟨LYNX_STR_CFG s, 23, 16⟩
def LYNX_STR_POL (s : Nat) : Nat := 0x200CF104 + 0x10 * s
def LYNX_STR_POL_MISS_N (s : Nat) : Fld := ⟨LYNX_STR_POL s, 3, 0⟩
def LYNX_STR_POL_MISS_W (s : Nat) : Fld := ⟨LYNX_STR_POL s, 8, 4⟩
def LYNX_STR_POL_RECOVER_N (s : Nat) : Fld := ⟨LYNX_STR_POL s, 23, 16⟩
def LYNX_STR_STAT (s : Nat) : Nat := 0x200CF108 + 0x10 * s
def LYNX_STR_STAT_STATE (s : Nat) : Fld := ⟨LYNX_STR_STAT s, 1, 0⟩
def LYNX_STR_STAT_CAUSE (s : Nat) : Fld := ⟨LYNX_STR_STAT s, 3, 2⟩
def LYNX_STR_STAT_WIN (s : Nat) : Fld := ⟨LYNX_STR_STAT s, 8, 4⟩
def LYNX_STR_STAT_MISSES (s : Nat) : Fld := ⟨LYNX_STR_STAT s, 31, 16⟩
def FOG_CTRL : Nat := 0x200D0000
def FOG_CTRL_EN : Fld := ⟨FOG_CTRL, 0, 0⟩
def FOG_STAT : Nat := 0x200D0004
def FOG_STAT_STATE : Fld := ⟨FOG_STAT, 1, 0⟩
def FOG_STAT_OPS : Fld := ⟨FOG_STAT, 7, 4⟩
def FOG_STAT_KEYS : Fld := ⟨FOG_STAT, 12, 8⟩
def FOG_STAT_EXCH : Fld := ⟨FOG_STAT, 19, 16⟩
def FOG_STAT_CLK : Fld := ⟨FOG_STAT, 25, 24⟩
def FOG_OP_LO : Nat := 0x200D0008
def FOG_OP_LO_BASE : Fld := ⟨FOG_OP_LO, 31, 6⟩
def FOG_OP_HI : Nat := 0x200D000C
def FOG_OP_HI_BASE : Fld := ⟨FOG_OP_HI, 7, 0⟩
def FOG_OP_CTRL : Nat := 0x200D0010
def FOG_OP_CTRL_KEYSET : Fld := ⟨FOG_OP_CTRL, 4, 0⟩
def FOG_OP_CTRL_DEPTH : Fld := ⟨FOG_OP_CTRL, 13, 8⟩
def FOG_OP_CTRL_PUSH : Fld := ⟨FOG_OP_CTRL, 31, 31⟩
def FOG_KS_LO : Nat := 0x200D0014
def FOG_KS_LO_BASE : Fld := ⟨FOG_KS_LO, 31, 6⟩
def FOG_KS_HI : Nat := 0x200D0018
def FOG_KS_HI_BASE : Fld := ⟨FOG_KS_HI, 7, 0⟩
def FOG_KS_CTRL : Nat := 0x200D001C
def FOG_KS_CTRL_SLOT : Fld := ⟨FOG_KS_CTRL, 4, 0⟩
def FOG_KS_CTRL_OP : Fld := ⟨FOG_KS_CTRL, 9, 8⟩
def FOG_KS_CTRL_GO : Fld := ⟨FOG_KS_CTRL, 16, 16⟩
def FOG_KS_CTRL_RESULT : Fld := ⟨FOG_KS_CTRL, 31, 24⟩
def FOG_EXR_LO : Nat := 0x200D0020
def FOG_EXR_LO_BASE : Fld := ⟨FOG_EXR_LO, 31, 6⟩
def FOG_EXR_HI : Nat := 0x200D0024
def FOG_EXR_HI_BASE : Fld := ⟨FOG_EXR_HI, 7, 0⟩
def FOG_EXR_CFG : Nat := 0x200D0028
def FOG_EXR_CFG_SIZE : Fld := ⟨FOG_EXR_CFG, 6, 0⟩
def FOG_EXR_CFG_SLOT : Fld := ⟨FOG_EXR_CFG, 31, 8⟩
def FOG_EXB_LO : Nat := 0x200D002C
def FOG_EXB_LO_BASE : Fld := ⟨FOG_EXB_LO, 31, 6⟩
def FOG_EXB_HI : Nat := 0x200D0030
def FOG_EXB_HI_BASE : Fld := ⟨FOG_EXB_HI, 7, 0⟩
def FOG_RET_ID_LO : Nat := 0x200D0034
def FOG_RET_ID_LO_V : Fld := ⟨FOG_RET_ID_LO, 31, 0⟩
def FOG_RET_ID_HI : Nat := 0x200D0038
def FOG_RET_ID_HI_V : Fld := ⟨FOG_RET_ID_HI, 31, 0⟩
def FOG_RET_LO : Nat := 0x200D003C
def FOG_RET_LO_BASE : Fld := ⟨FOG_RET_LO, 31, 6⟩
def FOG_RET_HI : Nat := 0x200D0040
def FOG_RET_HI_BASE : Fld := ⟨FOG_RET_HI, 7, 0⟩
def FOG_RET_CTRL : Nat := 0x200D0044
def FOG_RET_CTRL_GO : Fld := ⟨FOG_RET_CTRL, 0, 0⟩
def FOG_RET_CTRL_STATUS : Fld := ⟨FOG_RET_CTRL, 15, 8⟩
def FOG_PERF_KIB (L : Nat) : Nat := 0x200D0048 + 0x4 * (L - 1)
def FOG_PERF_KIB_KIB (L : Nat) : Fld := ⟨FOG_PERF_KIB L, 31, 0⟩
def FOG_PERF_BUSY : Nat := 0x200D0054
def FOG_PERF_BUSY_CYC : Fld := ⟨FOG_PERF_BUSY, 31, 0⟩
def FOG_PERF_STALL_MEM : Nat := 0x200D0058
def FOG_PERF_STALL_MEM_CYC : Fld := ⟨FOG_PERF_STALL_MEM, 31, 0⟩
def FOG_FAULT : Nat := 0x200D005C
def FOG_FAULT_CAUSE : Fld := ⟨FOG_FAULT, 3, 0⟩
def FOG_FADDR_LO : Nat := 0x200D0060
def FOG_FADDR_LO_ADDR : Fld := ⟨FOG_FADDR_LO, 31, 0⟩
def FOG_FADDR_HI : Nat := 0x200D0064
def FOG_FADDR_HI_ADDR : Fld := ⟨FOG_FADDR_HI, 7, 0⟩
def FOG_EVT : Nat := 0x200D0100
def FOG_EVT_DONE : Fld := ⟨FOG_EVT, 0, 0⟩
def FOG_EVT_FAULT : Fld := ⟨FOG_EVT, 1, 1⟩
def FOG_EVT_EXCH_REQ : Fld := ⟨FOG_EVT, 2, 2⟩
def FOG_EVT_EXCH_TIMEOUT : Fld := ⟨FOG_EVT, 3, 3⟩
def FOG_EVT_ECC : Fld := ⟨FOG_EVT, 4, 4⟩
def FOG_INT_EN : Nat := 0x200D0104
def FOG_INT_EN_EN : Fld := ⟨FOG_INT_EN, 4, 0⟩
def MARTEN_CTRL (n : Nat) : Nat := 0x200E0000 + 0x1000 * n
def MARTEN_CTRL_RUN (n : Nat) : Fld := ⟨MARTEN_CTRL n, 0, 0⟩
def MARTEN_CTRL_STOP (n : Nat) : Fld := ⟨MARTEN_CTRL n, 1, 1⟩
def MARTEN_CTRL_STATE (n : Nat) : Fld := ⟨MARTEN_CTRL n, 6, 4⟩
def MARTEN_ENTRY (n : Nat) : Nat := 0x200E0004 + 0x1000 * n
def MARTEN_ENTRY_BUNDLE (n : Nat) : Fld := ⟨MARTEN_ENTRY n, 13, 0⟩
def MARTEN_PC (n : Nat) : Nat := 0x200E0008 + 0x1000 * n
def MARTEN_PC_BUNDLE (n : Nat) : Fld := ⟨MARTEN_PC n, 13, 0⟩
def MARTEN_FAULT (n : Nat) : Nat := 0x200E000C + 0x1000 * n
def MARTEN_FAULT_CAUSE (n : Nat) : Fld := ⟨MARTEN_FAULT n, 3, 0⟩
def MARTEN_FAULT_IMPRECISE (n : Nat) : Fld := ⟨MARTEN_FAULT n, 4, 4⟩
def MARTEN_FAULT_PC (n : Nat) : Fld := ⟨MARTEN_FAULT n, 29, 16⟩
def MARTEN_FADDR_LO (n : Nat) : Nat := 0x200E0010 + 0x1000 * n
def MARTEN_FADDR_LO_ADDR (n : Nat) : Fld := ⟨MARTEN_FADDR_LO n, 31, 0⟩
def MARTEN_FADDR_HI (n : Nat) : Nat := 0x200E0014 + 0x1000 * n
def MARTEN_FADDR_HI_ADDR (n : Nat) : Fld := ⟨MARTEN_FADDR_HI n, 7, 0⟩
def MARTEN_SESS (n : Nat) : Nat := 0x200E0018 + 0x1000 * n
def MARTEN_SESS_ID (n : Nat) : Fld := ⟨MARTEN_SESS n, 9, 0⟩
def MARTEN_SESS_VALID (n : Nat) : Fld := ⟨MARTEN_SESS n, 16, 16⟩
def MARTEN_SIGNAL (n : Nat) : Nat := 0x200E001C + 0x1000 * n
def MARTEN_SIGNAL_RAISE (n : Nat) : Fld := ⟨MARTEN_SIGNAL n, 0, 0⟩
def MARTEN_SIGNAL_VALUE (n : Nat) : Fld := ⟨MARTEN_SIGNAL n, 31, 8⟩
def MARTEN_TIMER_LO (n : Nat) : Nat := 0x200E0020 + 0x1000 * n
def MARTEN_TIMER_LO_V (n : Nat) : Fld := ⟨MARTEN_TIMER_LO n, 31, 0⟩
def MARTEN_TIMER_HI (n : Nat) : Nat := 0x200E0024 + 0x1000 * n
def MARTEN_TIMER_HI_V (n : Nat) : Fld := ⟨MARTEN_TIMER_HI n, 31, 0⟩
def MARTEN_TIMER_CTRL (n : Nat) : Nat := 0x200E0028 + 0x1000 * n
def MARTEN_TIMER_CTRL_EN (n : Nat) : Fld := ⟨MARTEN_TIMER_CTRL n, 0, 0⟩
def MARTEN_PERF_CYC (n : Nat) : Nat := 0x200E0030 + 0x1000 * n
def MARTEN_PERF_CYC_CYC (n : Nat) : Fld := ⟨MARTEN_PERF_CYC n, 31, 0⟩
def MARTEN_PERF_STALL_INFL (n : Nat) : Nat := 0x200E0034 + 0x1000 * n
def MARTEN_PERF_STALL_INFL_CYC (n : Nat) : Fld := ⟨MARTEN_PERF_STALL_INFL n, 31, 0⟩
def MARTEN_PERF_STALL_BANK (n : Nat) : Nat := 0x200E0038 + 0x1000 * n
def MARTEN_PERF_STALL_BANK_CYC (n : Nat) : Fld := ⟨MARTEN_PERF_STALL_BANK n, 31, 0⟩
def MARTEN_PERF_HOP_BUSY (n : Nat) : Nat := 0x200E003C + 0x1000 * n
def MARTEN_PERF_HOP_BUSY_CYC (n : Nat) : Fld := ⟨MARTEN_PERF_HOP_BUSY n, 31, 0⟩
def MARTEN_PERF_HOP_MAX (n : Nat) : Nat := 0x200E0040 + 0x1000 * n
def MARTEN_PERF_HOP_MAX_CYC (n : Nat) : Fld := ⟨MARTEN_PERF_HOP_MAX n, 31, 0⟩
def MARTEN_PERF_HOP_OVR (n : Nat) : Nat := 0x200E0044 + 0x1000 * n
def MARTEN_PERF_HOP_OVR_COUNT (n : Nat) : Fld := ⟨MARTEN_PERF_HOP_OVR n, 15, 0⟩
def MARTEN_PERF_INFL (n : Nat) : Nat := 0x200E0048 + 0x1000 * n
def MARTEN_PERF_INFL_NOW (n : Nat) : Fld := ⟨MARTEN_PERF_INFL n, 5, 0⟩
def MARTEN_PERF_INFL_MAX (n : Nat) : Fld := ⟨MARTEN_PERF_INFL n, 13, 8⟩
def MARTEN_EVSEL (n : Nat) (s : Nat) : Nat := 0x200E0100 + 0x1000 * n + 0x4 * s
def MARTEN_EVSEL_EVENT (n : Nat) (s : Nat) : Fld := ⟨MARTEN_EVSEL n s, 11, 0⟩
def MARTEN_EVSEL_EN (n : Nat) (s : Nat) : Fld := ⟨MARTEN_EVSEL n s, 15, 15⟩
def MARTEN_DMA_SRC_LO (n : Nat) (c : Nat) : Nat := 0x200E0200 + 0x1000 * n + 0x20 * c
def MARTEN_DMA_SRC_LO_ADDR (n : Nat) (c : Nat) : Fld := ⟨MARTEN_DMA_SRC_LO n c, 31, 2⟩
def MARTEN_DMA_SRC_HI (n : Nat) (c : Nat) : Nat := 0x200E0204 + 0x1000 * n + 0x20 * c
def MARTEN_DMA_SRC_HI_ADDR (n : Nat) (c : Nat) : Fld := ⟨MARTEN_DMA_SRC_HI n c, 7, 0⟩
def MARTEN_DMA_DST_LO (n : Nat) (c : Nat) : Nat := 0x200E0208 + 0x1000 * n + 0x20 * c
def MARTEN_DMA_DST_LO_ADDR (n : Nat) (c : Nat) : Fld := ⟨MARTEN_DMA_DST_LO n c, 31, 2⟩
def MARTEN_DMA_DST_HI (n : Nat) (c : Nat) : Nat := 0x200E020C + 0x1000 * n + 0x20 * c
def MARTEN_DMA_DST_HI_ADDR (n : Nat) (c : Nat) : Fld := ⟨MARTEN_DMA_DST_HI n c, 7, 0⟩
def MARTEN_DMA_LEN (n : Nat) (c : Nat) : Nat := 0x200E0210 + 0x1000 * n + 0x20 * c
def MARTEN_DMA_LEN_BYTES (n : Nat) (c : Nat) : Fld := ⟨MARTEN_DMA_LEN n c, 18, 2⟩
def MARTEN_DMA_CTRL (n : Nat) (c : Nat) : Nat := 0x200E0214 + 0x1000 * n + 0x20 * c
def MARTEN_DMA_CTRL_GO (n : Nat) (c : Nat) : Fld := ⟨MARTEN_DMA_CTRL n c, 0, 0⟩
def MARTEN_DMA_CTRL_BUSY (n : Nat) (c : Nat) : Fld := ⟨MARTEN_DMA_CTRL n c, 1, 1⟩
def MARTEN_DMA_CTRL_ERR (n : Nat) (c : Nat) : Fld := ⟨MARTEN_DMA_CTRL n c, 2, 2⟩
def MARTEN_EVT : Nat := 0x200EF000
def MARTEN_EVT_FAULT : Fld := ⟨MARTEN_EVT, 3, 0⟩
def MARTEN_EVT_RESTART : Fld := ⟨MARTEN_EVT, 7, 4⟩
def MARTEN_EVT_OVERRUN : Fld := ⟨MARTEN_EVT, 11, 8⟩
def MARTEN_EVT_DMA_ERR : Fld := ⟨MARTEN_EVT, 15, 12⟩
def MARTEN_INT_EN : Nat := 0x200EF004
def MARTEN_INT_EN_EN : Fld := ⟨MARTEN_INT_EN, 15, 0⟩
def MARTEN_XCORE : Nat := 0x200EF008
def MARTEN_XCORE_RAISE : Fld := ⟨MARTEN_XCORE, 3, 0⟩
def MEMC_CFG : Nat := 0x200F0000
def MEMC_CFG_CH_SIZE : Fld := ⟨MEMC_CFG, 2, 0⟩
def MEMC_CFG_RATE : Fld := ⟨MEMC_CFG, 5, 4⟩
def MEMC_CFG_INLINE_ECC : Fld := ⟨MEMC_CFG, 8, 8⟩
def MEMC_STAT : Nat := 0x200F0004
def MEMC_STAT_TRAINED : Fld := ⟨MEMC_STAT, 0, 0⟩
def MEMC_STAT_SELF_REFRESH : Fld := ⟨MEMC_STAT, 1, 1⟩
def MEMC_STAT_TRAIN_FAIL : Fld := ⟨MEMC_STAT, 2, 2⟩
def MEMC_USABLE : Nat := 0x200F0008
def MEMC_USABLE_MIB : Fld := ⟨MEMC_USABLE, 15, 0⟩
def MEMC_CTRL : Nat := 0x200F000C
def MEMC_CTRL_TRAIN : Fld := ⟨MEMC_CTRL, 0, 0⟩
def MEMC_QOS_CAP (c : Nat) : Nat := 0x200F0010 + 0x4 * (c - 1)
def MEMC_QOS_CAP_CAP (c : Nat) : Fld := ⟨MEMC_QOS_CAP c, 9, 0⟩
def MEMC_QOS_MAP : Nat := 0x200F0020
def MEMC_QOS_MAP_MARTEN : Fld := ⟨MEMC_QOS_MAP, 3, 0⟩
def MEMC_BW (c : Nat) : Nat := 0x200F0030 + 0x4 * c
def MEMC_BW_KIB (c : Nat) : Fld := ⟨MEMC_BW c, 31, 0⟩
def MEMC_OUTST (ch : Nat) : Nat := 0x200F0040 + 0x4 * ch
def MEMC_OUTST_NOW (ch : Nat) : Fld := ⟨MEMC_OUTST ch, 7, 0⟩
def MEMC_OUTST_MAX (ch : Nat) : Fld := ⟨MEMC_OUTST ch, 15, 8⟩
def MEMC_SCRUB : Nat := 0x200F0050
def MEMC_SCRUB_EN : Fld := ⟨MEMC_SCRUB, 0, 0⟩
def MEMC_SCRUB_PERIOD : Fld := ⟨MEMC_SCRUB, 15, 8⟩
def MEMC_ECC (g : Nat) : Nat := 0x200F0060 + 0x4 * g
def MEMC_ECC_CE (g : Nat) : Fld := ⟨MEMC_ECC g, 15, 0⟩
def MEMC_ECC_UE (g : Nat) : Fld := ⟨MEMC_ECC g, 31, 16⟩
def MEMC_ERR_ADDR_LO : Nat := 0x200F0080
def MEMC_ERR_ADDR_LO_ADDR : Fld := ⟨MEMC_ERR_ADDR_LO, 31, 0⟩
def MEMC_ERR_ADDR_HI : Nat := 0x200F0084
def MEMC_ERR_ADDR_HI_ADDR : Fld := ⟨MEMC_ERR_ADDR_HI, 7, 0⟩
def MEMC_ERR_INFO : Nat := 0x200F0088
def MEMC_ERR_INFO_GROUP : Fld := ⟨MEMC_ERR_INFO, 2, 0⟩
def MEMC_ERR_INFO_INIT : Fld := ⟨MEMC_ERR_INFO, 7, 4⟩
def MEMC_ERR_INFO_SCRUB : Fld := ⟨MEMC_ERR_INFO, 8, 8⟩
def MEMC_ERR_INFO_SESSION : Fld := ⟨MEMC_ERR_INFO, 25, 16⟩
def MEMC_EVT : Nat := 0x200F0090
def MEMC_EVT_CE : Fld := ⟨MEMC_EVT, 0, 0⟩
def MEMC_EVT_UE : Fld := ⟨MEMC_EVT, 1, 1⟩
def MEMC_EVT_TRAIN_FAIL : Fld := ⟨MEMC_EVT, 2, 2⟩
def MEMC_INT_EN : Nat := 0x200F0094
def MEMC_INT_EN_EN : Fld := ⟨MEMC_INT_EN, 2, 0⟩
def MPU_CTRL : Nat := 0x20100000
def MPU_CTRL_EN : Fld := ⟨MPU_CTRL, 0, 0⟩
def MPU_FAULT : Nat := 0x20100004
def MPU_FAULT_VALID : Fld := ⟨MPU_FAULT, 0, 0⟩
def MPU_FAULT_WRITE : Fld := ⟨MPU_FAULT, 1, 1⟩
def MPU_FAULT_WRAP : Fld := ⟨MPU_FAULT, 2, 2⟩
def MPU_FAULT_FW : Fld := ⟨MPU_FAULT, 3, 3⟩
def MPU_FAULT_INIT : Fld := ⟨MPU_FAULT, 7, 4⟩
def MPU_FAULT_SESSION : Fld := ⟨MPU_FAULT, 25, 16⟩
def MPU_FADDR_LO : Nat := 0x20100008
def MPU_FADDR_LO_ADDR : Fld := ⟨MPU_FADDR_LO, 31, 0⟩
def MPU_FADDR_HI : Nat := 0x2010000C
def MPU_FADDR_HI_ADDR : Fld := ⟨MPU_FADDR_HI, 7, 0⟩
def MPU_FAULT_CNT : Nat := 0x20100010
def MPU_FAULT_CNT_COUNT : Fld := ⟨MPU_FAULT_CNT, 31, 0⟩
def MPU_REG_BASE (r : Nat) : Nat := 0x20100100 + 0x10 * r
def MPU_REG_BASE_PAGE (r : Nat) : Fld := ⟨MPU_REG_BASE r, 27, 0⟩
def MPU_REG_LIMIT (r : Nat) : Nat := 0x20100104 + 0x10 * r
def MPU_REG_LIMIT_PAGE (r : Nat) : Fld := ⟨MPU_REG_LIMIT r, 27, 0⟩
def MPU_REG_CFG (r : Nat) : Nat := 0x20100108 + 0x10 * r
def MPU_REG_CFG_EN (r : Nat) : Fld := ⟨MPU_REG_CFG r, 0, 0⟩
def MPU_REG_CFG_R (r : Nat) : Fld := ⟨MPU_REG_CFG r, 1, 1⟩
def MPU_REG_CFG_W (r : Nat) : Fld := ⟨MPU_REG_CFG r, 2, 2⟩
def MPU_REG_CFG_FW (r : Nat) : Fld := ⟨MPU_REG_CFG r, 3, 3⟩
def MPU_REG_CFG_ANY (r : Nat) : Fld := ⟨MPU_REG_CFG r, 4, 4⟩
def MPU_REG_CFG_INIT (r : Nat) : Fld := ⟨MPU_REG_CFG r, 15, 8⟩
def MPU_REG_CFG_SESSION (r : Nat) : Fld := ⟨MPU_REG_CFG r, 25, 16⟩
def TWIN_CFG : Nat := 0x20110000
def TWIN_CFG_PREF : Fld := ⟨TWIN_CFG, 1, 0⟩
def TWIN_CFG_AUTO : Fld := ⟨TWIN_CFG, 2, 2⟩
def TWIN_CFG_CATCHUP_MS : Fld := ⟨TWIN_CFG, 15, 4⟩
def TWIN_CFG_ACK_TO : Fld := ⟨TWIN_CFG, 23, 16⟩
def TWIN_STAT : Nat := 0x20110004
def TWIN_STAT_STATE : Fld := ⟨TWIN_STAT, 2, 0⟩
def TWIN_STAT_ROLE : Fld := ⟨TWIN_STAT, 5, 4⟩
def TWIN_STAT_ELIGIBLE : Fld := ⟨TWIN_STAT, 6, 6⟩
def TWIN_STAT_BEATS_OK : Fld := ⟨TWIN_STAT, 7, 7⟩
def TWIN_STAT_LIVE_OK : Fld := ⟨TWIN_STAT, 8, 8⟩
def TWIN_STAT_CAUSE : Fld := ⟨TWIN_STAT, 14, 12⟩
def TWIN_CTRL : Nat := 0x20110008
def TWIN_CTRL_ATTACH : Fld := ⟨TWIN_CTRL, 0, 0⟩
def TWIN_CTRL_DETACH : Fld := ⟨TWIN_CTRL, 1, 1⟩
def TWIN_SWAP_AT_LO : Nat := 0x2011000C
def TWIN_SWAP_AT_LO_V : Fld := ⟨TWIN_SWAP_AT_LO, 31, 0⟩
def TWIN_SWAP_AT_HI : Nat := 0x20110010
def TWIN_SWAP_AT_HI_V : Fld := ⟨TWIN_SWAP_AT_HI, 31, 0⟩
def TWIN_SWAP_CTRL : Nat := 0x20110014
def TWIN_SWAP_CTRL_GO : Fld := ⟨TWIN_SWAP_CTRL, 0, 0⟩
def TWIN_SWAP_CTRL_PENDING : Fld := ⟨TWIN_SWAP_CTRL, 1, 1⟩
def TWIN_T_LO : Nat := 0x20110018
def TWIN_T_LO_V : Fld := ⟨TWIN_T_LO, 31, 0⟩
def TWIN_T_HI : Nat := 0x2011001C
def TWIN_T_HI_V : Fld := ⟨TWIN_T_HI, 31, 0⟩
def TWIN_MISS : Nat := 0x20110020
def TWIN_MISS_SYMBOL : Fld := ⟨TWIN_MISS, 15, 0⟩
def TWIN_MISS_TOGGLE : Fld := ⟨TWIN_MISS, 31, 16⟩
def TWIN_LINK_ERR : Nat := 0x20110024
def TWIN_LINK_ERR_CRC : Fld := ⟨TWIN_LINK_ERR, 15, 0⟩
def TWIN_LINK_ERR_SEQ : Fld := ⟨TWIN_LINK_ERR, 31, 16⟩
def TWIN_DIV_HOP_LO : Nat := 0x20110028
def TWIN_DIV_HOP_LO_V : Fld := ⟨TWIN_DIV_HOP_LO, 31, 0⟩
def TWIN_DIV_HOP_HI : Nat := 0x2011002C
def TWIN_DIV_HOP_HI_V : Fld := ⟨TWIN_DIV_HOP_HI, 31, 0⟩
def TWIN_CATCHUP : Nat := 0x20110030
def TWIN_CATCHUP_PHASE : Fld := ⟨TWIN_CATCHUP, 2, 0⟩
def TWIN_CATCHUP_ELAPSED : Fld := ⟨TWIN_CATCHUP, 27, 16⟩
def TWIN_SNAP_BYTES_LO : Nat := 0x20110034
def TWIN_SNAP_BYTES_LO_V : Fld := ⟨TWIN_SNAP_BYTES_LO, 31, 0⟩
def TWIN_SNAP_BYTES_HI : Nat := 0x20110038
def TWIN_SNAP_BYTES_HI_V : Fld := ⟨TWIN_SNAP_BYTES_HI, 31, 0⟩
def TWIN_JOURNAL : Nat := 0x2011003C
def TWIN_JOURNAL_PENDING : Fld := ⟨TWIN_JOURNAL, 15, 0⟩
def TWIN_JOURNAL_LEAD : Fld := ⟨TWIN_JOURNAL, 31, 16⟩
def TWIN_EVT : Nat := 0x20110040
def TWIN_EVT_ALL : Fld := ⟨TWIN_EVT, 10, 0⟩
def TWIN_EVT_ROLE : Fld := ⟨TWIN_EVT, 0, 0⟩
def TWIN_EVT_DIVERGE : Fld := ⟨TWIN_EVT, 1, 1⟩
def TWIN_EVT_LINK_FAULT : Fld := ⟨TWIN_EVT, 2, 2⟩
def TWIN_EVT_SIDEBAND_FAULT : Fld := ⟨TWIN_EVT, 3, 3⟩
def TWIN_EVT_PARTNER_DEAD : Fld := ⟨TWIN_EVT, 4, 4⟩
def TWIN_EVT_TAKEOVER : Fld := ⟨TWIN_EVT, 5, 5⟩
def TWIN_EVT_CATCHUP_DONE : Fld := ⟨TWIN_EVT, 6, 6⟩
def TWIN_EVT_CATCHUP_FAIL : Fld := ⟨TWIN_EVT, 7, 7⟩
def TWIN_EVT_ROLE_CLASH : Fld := ⟨TWIN_EVT, 8, 8⟩
def TWIN_EVT_VERSION_MISMATCH : Fld := ⟨TWIN_EVT, 9, 9⟩
def TWIN_EVT_ACK_TIMEOUT : Fld := ⟨TWIN_EVT, 10, 10⟩
def TWIN_INT_EN : Nat := 0x20110044
def TWIN_INT_EN_EN : Fld := ⟨TWIN_INT_EN, 10, 0⟩
def TWIN_LAST_BEAT_LO : Nat := 0x20110048
def TWIN_LAST_BEAT_LO_V : Fld := ⟨TWIN_LAST_BEAT_LO, 31, 0⟩
def TWIN_LAST_BEAT_HI : Nat := 0x2011004C
def TWIN_LAST_BEAT_HI_V : Fld := ⟨TWIN_LAST_BEAT_HI, 31, 0⟩
def HOSTIF_LINK : Nat := 0x20120000
def HOSTIF_LINK_STATE : Fld := ⟨HOSTIF_LINK, 2, 0⟩
def HOSTIF_LINK_SPEED : Fld := ⟨HOSTIF_LINK, 6, 4⟩
def HOSTIF_LINK_WIDTH : Fld := ⟨HOSTIF_LINK, 9, 8⟩
def HOSTIF_TAGS : Nat := 0x20120004
def HOSTIF_TAGS_NOW : Fld := ⟨HOSTIF_TAGS, 8, 0⟩
def HOSTIF_TAGS_MAX : Fld := ⟨HOSTIF_TAGS, 24, 16⟩
def HOSTIF_TAGS_CFG : Nat := 0x20120008
def HOSTIF_TAGS_CFG_AUDIO_RSV : Fld := ⟨HOSTIF_TAGS_CFG, 7, 0⟩
def HOSTIF_TAGS_WAIT : Nat := 0x2012000C
def HOSTIF_TAGS_WAIT_CYC : Fld := ⟨HOSTIF_TAGS_WAIT, 31, 0⟩
def HOSTIF_EVT : Nat := 0x20120010
def HOSTIF_EVT_FLR : Fld := ⟨HOSTIF_EVT, 7, 0⟩
def HOSTIF_EVT_PERST : Fld := ⟨HOSTIF_EVT, 8, 8⟩
def HOSTIF_EVT_LINK_DOWN : Fld := ⟨HOSTIF_EVT, 9, 9⟩
def HOSTIF_EVT_HOT_RESET : Fld := ⟨HOSTIF_EVT, 10, 10⟩
def HOSTIF_EVT_SPI_RESET : Fld := ⟨HOSTIF_EVT, 12, 11⟩
def HOSTIF_EVT_CPL_TIMEOUT : Fld := ⟨HOSTIF_EVT, 13, 13⟩
def HOSTIF_INT_EN : Nat := 0x20120014
def HOSTIF_INT_EN_EN : Fld := ⟨HOSTIF_INT_EN, 13, 0⟩
def HOSTIF_F_STAT (f : Nat) : Nat := 0x20120100 + 0x40 * f
def HOSTIF_F_STAT_DSTATE (f : Nat) : Fld := ⟨HOSTIF_F_STAT f, 1, 0⟩
def HOSTIF_F_STAT_MSE (f : Nat) : Fld := ⟨HOSTIF_F_STAT f, 2, 2⟩
def HOSTIF_F_STAT_BME (f : Nat) : Fld := ⟨HOSTIF_F_STAT f, 3, 3⟩
def HOSTIF_F_STAT_MSIX_EN (f : Nat) : Fld := ⟨HOSTIF_F_STAT f, 4, 4⟩
def HOSTIF_F_STAT_MSIX_MASK (f : Nat) : Fld := ⟨HOSTIF_F_STAT f, 5, 5⟩
def HOSTIF_F_XLAT_LO (f : Nat) : Nat := 0x20120104 + 0x40 * f
def HOSTIF_F_XLAT_LO_EN (f : Nat) : Fld := ⟨HOSTIF_F_XLAT_LO f, 0, 0⟩
def HOSTIF_F_XLAT_LO_BASE (f : Nat) : Fld := ⟨HOSTIF_F_XLAT_LO f, 31, 12⟩
def HOSTIF_F_XLAT_HI (f : Nat) : Nat := 0x20120108 + 0x40 * f
def HOSTIF_F_XLAT_HI_BASE (f : Nat) : Fld := ⟨HOSTIF_F_XLAT_HI f, 31, 0⟩
def HOSTIF_F_REFUSED (f : Nat) : Nat := 0x2012010C + 0x40 * f
def HOSTIF_F_REFUSED_COUNT (f : Nat) : Fld := ⟨HOSTIF_F_REFUSED f, 31, 0⟩
def HOSTIF_F_RST (f : Nat) : Nat := 0x20120110 + 0x40 * f
def HOSTIF_F_RST_COUNT (f : Nat) : Fld := ⟨HOSTIF_F_RST f, 15, 0⟩
def HOSTIF_SPI_CFG (x : Nat) : Nat := 0x20120400 + 0x40 * x
def HOSTIF_SPI_CFG_MODE (x : Nat) : Fld := ⟨HOSTIF_SPI_CFG x, 0, 0⟩
def HOSTIF_SPI_CFG_IRQ_OD (x : Nat) : Fld := ⟨HOSTIF_SPI_CFG x, 1, 1⟩
def HOSTIF_SPI_CFG_WAIT_MAX (x : Nat) : Fld := ⟨HOSTIF_SPI_CFG x, 9, 4⟩
def HOSTIF_SPI_STAT (x : Nat) : Nat := 0x20120404 + 0x40 * x
def HOSTIF_SPI_STAT_LAST (x : Nat) : Fld := ⟨HOSTIF_SPI_STAT x, 7, 0⟩
def HOSTIF_SPI_STAT_BUSY (x : Nat) : Fld := ⟨HOSTIF_SPI_STAT x, 8, 8⟩
def HOSTIF_SPI_ERR (x : Nat) : Nat := 0x20120408 + 0x40 * x
def HOSTIF_SPI_ERR_FRAME (x : Nat) : Fld := ⟨HOSTIF_SPI_ERR x, 15, 0⟩
def HOSTIF_SPI_ERR_REFUSED (x : Nat) : Fld := ⟨HOSTIF_SPI_ERR x, 31, 16⟩
def HOSTIF_DIRECT : Nat := 0x20120600
def HOSTIF_DIRECT_KEY : Fld := ⟨HOSTIF_DIRECT, 31, 0⟩
def HOSTIF_DIRECT_STAT : Nat := 0x20120604
def HOSTIF_DIRECT_STAT_OPEN : Fld := ⟨HOSTIF_DIRECT_STAT, 0, 0⟩
def DBG_ID : Nat := 0x20130000
def DBG_ID_VER : Fld := ⟨DBG_ID, 7, 0⟩
def DBG_ID_NBP : Fld := ⟨DBG_ID, 11, 8⟩
def DBG_ID_NWP : Fld := ⟨DBG_ID, 15, 12⟩
def DBG_STAT : Nat := 0x20130004
def DBG_STAT_ATTACHED : Fld := ⟨DBG_STAT, 0, 0⟩
def DBG_STAT_LOCK : Fld := ⟨DBG_STAT, 2, 1⟩
def DBG_STAT_UNLOCKED : Fld := ⟨DBG_STAT, 3, 3⟩
def DBG_STAT_SCOPE : Fld := ⟨DBG_STAT, 9, 4⟩
def DBG_STAT_FAULT : Fld := ⟨DBG_STAT, 12, 12⟩
def DBG_STAT_CAUSE : Fld := ⟨DBG_STAT, 15, 13⟩
def DBG_STAT_PROTO_ERR : Fld := ⟨DBG_STAT, 16, 16⟩
def DBG_STAT_PARITY_ERR : Fld := ⟨DBG_STAT, 17, 17⟩
def DBG_STAT_BUSY : Fld := ⟨DBG_STAT, 18, 18⟩
def DBG_STAT_TRIES : Fld := ⟨DBG_STAT, 23, 20⟩
def DBG_FADDR_LO : Nat := 0x20130008
def DBG_FADDR_LO_ADDR : Fld := ⟨DBG_FADDR_LO, 31, 0⟩
def DBG_FADDR_HI : Nat := 0x2013000C
def DBG_FADDR_HI_ADDR : Fld := ⟨DBG_FADDR_HI, 7, 0⟩
def DBG_CHAL_CTRL : Nat := 0x20130010
def DBG_CHAL_CTRL_NEW : Fld := ⟨DBG_CHAL_CTRL, 0, 0⟩
def DBG_CHAL_CTRL_VALID : Fld := ⟨DBG_CHAL_CTRL, 1, 1⟩
def DBG_CHAL (j : Nat) : Nat := 0x20130020 + 0x4 * j
def DBG_CHAL_BYTES (j : Nat) : Fld := ⟨DBG_CHAL j, 31, 0⟩
def DBG_TOKEN (j : Nat) : Nat := 0x20130040 + 0x4 * j
def DBG_TOKEN_BYTES (j : Nat) : Fld := ⟨DBG_TOKEN j, 31, 0⟩
def DBG_UNLOCK : Nat := 0x20130080
def DBG_UNLOCK_SCOPE : Fld := ⟨DBG_UNLOCK, 5, 0⟩
def DBG_UNLOCK_GO : Fld := ⟨DBG_UNLOCK, 8, 8⟩
def DBG_UNLOCK_RELOCK : Fld := ⟨DBG_UNLOCK, 9, 9⟩
def DBG_UNLOCK_RESULT : Fld := ⟨DBG_UNLOCK, 13, 12⟩
def DBG_CORE_CTRL (c : Nat) : Nat := 0x20130100 + 0x40 * c
def DBG_CORE_CTRL_HALT (c : Nat) : Fld := ⟨DBG_CORE_CTRL c, 0, 0⟩
def DBG_CORE_CTRL_RESUME (c : Nat) : Fld := ⟨DBG_CORE_CTRL c, 1, 1⟩
def DBG_CORE_CTRL_STEP (c : Nat) : Fld := ⟨DBG_CORE_CTRL c, 2, 2⟩
def DBG_CORE_CTRL_STEP_IRQ (c : Nat) : Fld := ⟨DBG_CORE_CTRL c, 3, 3⟩
def DBG_CORE_CTRL_STATE (c : Nat) : Fld := ⟨DBG_CORE_CTRL c, 5, 4⟩
def DBG_CORE_CTRL_CAUSE (c : Nat) : Fld := ⟨DBG_CORE_CTRL c, 10, 8⟩
def DBG_CORE_CTRL_HIT (c : Nat) : Fld := ⟨DBG_CORE_CTRL c, 13, 12⟩
def DBG_CORE_CTRL_RESET_HALT (c : Nat) : Fld := ⟨DBG_CORE_CTRL c, 16, 16⟩
def DBG_CORE_REGSEL (c : Nat) : Nat := 0x20130104 + 0x40 * c
def DBG_CORE_REGSEL_INDEX (c : Nat) : Fld := ⟨DBG_CORE_REGSEL c, 7, 0⟩
def DBG_CORE_REGSEL_CLASS (c : Nat) : Fld := ⟨DBG_CORE_REGSEL c, 10, 8⟩
def DBG_CORE_REGSEL_LANE (c : Nat) : Fld := ⟨DBG_CORE_REGSEL c, 13, 12⟩
def DBG_CORE_REGDATA (c : Nat) : Nat := 0x20130108 + 0x40 * c
def DBG_CORE_REGDATA_DATA (c : Nat) : Fld := ⟨DBG_CORE_REGDATA c, 31, 0⟩
def DBG_CORE_BP (c : Nat) (k : Nat) : Nat := 0x20130110 + 0x40 * c + 0x4 * k
def DBG_CORE_BP_ADDR (c : Nat) (k : Nat) : Fld := ⟨DBG_CORE_BP c k, 13, 0⟩
def DBG_CORE_BP_EN (c : Nat) (k : Nat) : Fld := ⟨DBG_CORE_BP c k, 31, 31⟩
def DBG_CORE_WP_LO (c : Nat) (k : Nat) : Nat := 0x20130120 + 0x40 * c + 0x8 * k
def DBG_CORE_WP_LO_ADDR (c : Nat) (k : Nat) : Fld := ⟨DBG_CORE_WP_LO c k, 31, 2⟩
def DBG_CORE_WP_CFG (c : Nat) (k : Nat) : Nat := 0x20130124 + 0x40 * c + 0x8 * k
def DBG_CORE_WP_CFG_ADDR_HI (c : Nat) (k : Nat) : Fld := ⟨DBG_CORE_WP_CFG c k, 7, 0⟩
def DBG_CORE_WP_CFG_MASK (c : Nat) (k : Nat) : Fld := ⟨DBG_CORE_WP_CFG c k, 20, 16⟩
def DBG_CORE_WP_CFG_KIND (c : Nat) (k : Nat) : Fld := ⟨DBG_CORE_WP_CFG c k, 25, 24⟩
def DBG_CORE_WP_CFG_EN (c : Nat) (k : Nat) : Fld := ⟨DBG_CORE_WP_CFG c k, 31, 31⟩
def DBG_CORE_HITADDR_LO (c : Nat) : Nat := 0x20130130 + 0x40 * c
def DBG_CORE_HITADDR_LO_ADDR (c : Nat) : Fld := ⟨DBG_CORE_HITADDR_LO c, 31, 0⟩
def DBG_CORE_HITADDR_HI (c : Nat) : Nat := 0x20130134 + 0x40 * c
def DBG_CORE_HITADDR_HI_ADDR (c : Nat) : Fld := ⟨DBG_CORE_HITADDR_HI c, 7, 0⟩
def DBG_EVT : Nat := 0x20130300
def DBG_EVT_HALTED : Fld := ⟨DBG_EVT, 5, 0⟩
def DBG_EVT_RELEASED : Fld := ⟨DBG_EVT, 13, 8⟩
def DORMOUSE_CTRL : Nat := 0x20140000
def DORMOUSE_CTRL_EN : Fld := ⟨DORMOUSE_CTRL, 0, 0⟩
def DORMOUSE_CTRL_MIC_MASK : Fld := ⟨DORMOUSE_CTRL, 4, 1⟩
def DORMOUSE_CTRL_PREROLL_EN : Fld := ⟨DORMOUSE_CTRL, 5, 5⟩
def DORMOUSE_CTRL_PREROLL_MS : Fld := ⟨DORMOUSE_CTRL, 18, 8⟩
def DORMOUSE_STATUS : Nat := 0x20140004
def DORMOUSE_STATUS_FLL_LOCK : Fld := ⟨DORMOUSE_STATUS, 0, 0⟩
def DORMOUSE_STATUS_LISTENING : Fld := ⟨DORMOUSE_STATUS, 1, 1⟩
def DORMOUSE_STATUS_MODEL_OK : Fld := ⟨DORMOUSE_STATUS, 2, 2⟩
def DORMOUSE_MODEL : Nat := 0x20140008
def DORMOUSE_MODEL_BASE : Fld := ⟨DORMOUSE_MODEL, 6, 0⟩
def DORMOUSE_MODEL_SIZE : Fld := ⟨DORMOUSE_MODEL, 14, 8⟩
def DORMOUSE_MODEL_ENTRIES : Fld := ⟨DORMOUSE_MODEL, 22, 16⟩
def DORMOUSE_HIT : Nat := 0x2014000C
def DORMOUSE_HIT_INDEX : Fld := ⟨DORMOUSE_HIT, 5, 0⟩
def DORMOUSE_HIT_SCORE : Fld := ⟨DORMOUSE_HIT, 15, 8⟩
def DORMOUSE_HIT_VALID : Fld := ⟨DORMOUSE_HIT, 31, 31⟩
def DORMOUSE_HIT_TIME_LO : Nat := 0x20140010
def DORMOUSE_HIT_TIME_LO_V : Fld := ⟨DORMOUSE_HIT_TIME_LO, 31, 0⟩
def DORMOUSE_HIT_TIME_HI : Nat := 0x20140014
def DORMOUSE_HIT_TIME_HI_V : Fld := ⟨DORMOUSE_HIT_TIME_HI, 31, 0⟩
def DORMOUSE_PREROLL : Nat := 0x20140018
def DORMOUSE_PREROLL_WR : Fld := ⟨DORMOUSE_PREROLL, 18, 0⟩
def DORMOUSE_THR (n : Nat) : Nat := 0x20140100 + 0x4 * n
def DORMOUSE_THR_THR (n : Nat) : Fld := ⟨DORMOUSE_THR n, 7, 0⟩
def DORMOUSE_THR_EN (n : Nat) : Fld := ⟨DORMOUSE_THR n, 8, 8⟩
def SENSE_SYNC_CTRL (n : Nat) : Nat := 0x20150000 + 0x20 * n
def SENSE_SYNC_CTRL_EN (n : Nat) : Fld := ⟨SENSE_SYNC_CTRL n, 0, 0⟩
def SENSE_SYNC_CTRL_POL (n : Nat) : Fld := ⟨SENSE_SYNC_CTRL n, 1, 1⟩
def SENSE_SYNC_CTRL_WIDTH (n : Nat) : Fld := ⟨SENSE_SYNC_CTRL n, 31, 16⟩
def SENSE_SYNC_PERIOD (n : Nat) : Nat := 0x20150004 + 0x20 * n
def SENSE_SYNC_PERIOD_TICKS (n : Nat) : Fld := ⟨SENSE_SYNC_PERIOD n, 31, 0⟩
def SENSE_SYNC_START_LO (n : Nat) : Nat := 0x20150008 + 0x20 * n
def SENSE_SYNC_START_LO_V (n : Nat) : Fld := ⟨SENSE_SYNC_START_LO n, 31, 0⟩
def SENSE_SYNC_START_HI (n : Nat) : Nat := 0x2015000C + 0x20 * n
def SENSE_SYNC_START_HI_V (n : Nat) : Fld := ⟨SENSE_SYNC_START_HI n, 31, 0⟩
def SENSE_SYNC_COUNT (n : Nat) : Nat := 0x20150010 + 0x20 * n
def SENSE_SYNC_COUNT_K (n : Nat) : Fld := ⟨SENSE_SYNC_COUNT n, 31, 0⟩
def SENSE_SYNC_LAST_LO (n : Nat) : Nat := 0x20150014 + 0x20 * n
def SENSE_SYNC_LAST_LO_V (n : Nat) : Fld := ⟨SENSE_SYNC_LAST_LO n, 31, 0⟩
def SENSE_SYNC_LAST_HI (n : Nat) : Nat := 0x20150018 + 0x20 * n
def SENSE_SYNC_LAST_HI_V (n : Nat) : Fld := ⟨SENSE_SYNC_LAST_HI n, 31, 0⟩
def SENSE_SPORT_CFG (n : Nat) : Nat := 0x20150100 + 0x40 * n
def SENSE_SPORT_CFG_EN (n : Nat) : Fld := ⟨SENSE_SPORT_CFG n, 0, 0⟩
def SENSE_SPORT_CFG_BSEL (n : Nat) : Fld := ⟨SENSE_SPORT_CFG n, 3, 1⟩
def SENSE_SPORT_CFG_RDIV (n : Nat) : Fld := ⟨SENSE_SPORT_CFG n, 9, 4⟩
def SENSE_SPORT_CFG_SLOTS (n : Nat) : Fld := ⟨SENSE_SPORT_CFG n, 13, 10⟩
def SENSE_SPORT_CFG_WIDTH (n : Nat) : Fld := ⟨SENSE_SPORT_CFG n, 15, 14⟩
def SENSE_SPORT_CFG_DATA (n : Nat) : Fld := ⟨SENSE_SPORT_CFG n, 20, 16⟩
def SENSE_SPORT_CFG_OFFSET (n : Nat) : Fld := ⟨SENSE_SPORT_CFG n, 25, 21⟩
def SENSE_SPORT_ADJ (n : Nat) : Nat := 0x20150104 + 0x40 * n
def SENSE_SPORT_ADJ_ADJ (n : Nat) : Fld := ⟨SENSE_SPORT_ADJ n, 15, 0⟩
def SENSE_SPORT_RING_LO (n : Nat) : Nat := 0x20150108 + 0x40 * n
def SENSE_SPORT_RING_LO_BASE (n : Nat) : Fld := ⟨SENSE_SPORT_RING_LO n, 31, 6⟩
def SENSE_SPORT_RING_HI (n : Nat) : Nat := 0x2015010C + 0x40 * n
def SENSE_SPORT_RING_HI_BASE (n : Nat) : Fld := ⟨SENSE_SPORT_RING_HI n, 7, 0⟩
def SENSE_SPORT_RING_CFG (n : Nat) : Nat := 0x20150110 + 0x40 * n
def SENSE_SPORT_RING_CFG_BLOCK (n : Nat) : Fld := ⟨SENSE_SPORT_RING_CFG n, 7, 0⟩
def SENSE_SPORT_RING_CFG_NBLK (n : Nat) : Fld := ⟨SENSE_SPORT_RING_CFG n, 11, 8⟩
def SENSE_SPORT_RING_CFG_EN (n : Nat) : Fld := ⟨SENSE_SPORT_RING_CFG n, 12, 12⟩
def SENSE_SPORT_STAT (n : Nat) : Nat := 0x20150114 + 0x40 * n
def SENSE_SPORT_STAT_SEQ (n : Nat) : Fld := ⟨SENSE_SPORT_STAT n, 31, 0⟩
def SENSE_IMU_CFG : Nat := 0x20150200
def SENSE_IMU_CFG_EN : Fld := ⟨SENSE_IMU_CFG, 0, 0⟩
def SENSE_IMU_CFG_MODE : Fld := ⟨SENSE_IMU_CFG, 1, 1⟩
def SENSE_IMU_CFG_TRIG : Fld := ⟨SENSE_IMU_CFG, 2, 2⟩
def SENSE_IMU_CFG_SPI_MODE : Fld := ⟨SENSE_IMU_CFG, 3, 3⟩
def SENSE_IMU_CFG_BE : Fld := ⟨SENSE_IMU_CFG, 4, 4⟩
def SENSE_IMU_CFG_CMD_LEN : Fld := ⟨SENSE_IMU_CFG, 7, 5⟩
def SENSE_IMU_CFG_READ_LEN : Fld := ⟨SENSE_IMU_CFG, 12, 8⟩
def SENSE_IMU_CFG_DATA_OFS : Fld := ⟨SENSE_IMU_CFG, 15, 13⟩
def SENSE_IMU_CFG_SCK_DIV : Fld := ⟨SENSE_IMU_CFG, 23, 16⟩
def SENSE_IMU_CFG_INT_POL : Fld := ⟨SENSE_IMU_CFG, 24, 24⟩
def SENSE_IMU_CMD : Nat := 0x20150204
def SENSE_IMU_CMD_BYTES : Fld := ⟨SENSE_IMU_CMD, 31, 0⟩
def SENSE_IMU_DELAY : Nat := 0x20150208
def SENSE_IMU_DELAY_TICKS : Fld := ⟨SENSE_IMU_DELAY, 15, 0⟩
def SENSE_IMU_ADJ : Nat := 0x2015020C
def SENSE_IMU_ADJ_ADJ : Fld := ⟨SENSE_IMU_ADJ, 15, 0⟩
def SENSE_IMU_GSCALE : Nat := 0x20150210
def SENSE_IMU_GSCALE_F : Fld := ⟨SENSE_IMU_GSCALE, 31, 0⟩
def SENSE_IMU_ASCALE : Nat := 0x20150214
def SENSE_IMU_ASCALE_F : Fld := ⟨SENSE_IMU_ASCALE, 31, 0⟩
def SENSE_IMU_LAST (j : Nat) : Nat := 0x20150220 + 0x4 * j
def SENSE_IMU_LAST_PAIR (j : Nat) : Fld := ⟨SENSE_IMU_LAST j, 31, 0⟩
def SENSE_IMU_TIME_LO : Nat := 0x20150230
def SENSE_IMU_TIME_LO_V : Fld := ⟨SENSE_IMU_TIME_LO, 31, 0⟩
def SENSE_IMU_TIME_HI : Nat := 0x20150234
def SENSE_IMU_TIME_HI_V : Fld := ⟨SENSE_IMU_TIME_HI, 31, 0⟩
def SENSE_WHEEL_CFG (w : Nat) : Nat := 0x20150300 + 0x10 * w
def SENSE_WHEEL_CFG_EN (w : Nat) : Fld := ⟨SENSE_WHEEL_CFG w, 0, 0⟩
def SENSE_WHEEL_CFG_EDGE (w : Nat) : Fld := ⟨SENSE_WHEEL_CFG w, 2, 1⟩
def SENSE_WHEEL_CFG_MIN_PULSE (w : Nat) : Fld := ⟨SENSE_WHEEL_CFG w, 31, 16⟩
def SENSE_WHEEL_COUNT (w : Nat) : Nat := 0x20150304 + 0x10 * w
def SENSE_WHEEL_COUNT_EDGES (w : Nat) : Fld := ⟨SENSE_WHEEL_COUNT w, 31, 0⟩
def SENSE_WHEEL_LAST_LO (w : Nat) : Nat := 0x20150308 + 0x10 * w
def SENSE_WHEEL_LAST_LO_V (w : Nat) : Fld := ⟨SENSE_WHEEL_LAST_LO w, 31, 0⟩
def SENSE_WHEEL_LAST_HI (w : Nat) : Nat := 0x2015030C + 0x10 * w
def SENSE_WHEEL_LAST_HI_V (w : Nat) : Fld := ⟨SENSE_WHEEL_LAST_HI w, 31, 0⟩
def SENSE_EVT : Nat := 0x201503F0
def SENSE_EVT_ALL : Fld := ⟨SENSE_EVT, 11, 0⟩
def SENSE_EVT_SYNC_PULSE : Fld := ⟨SENSE_EVT, 1, 0⟩
def SENSE_EVT_SPORT_BLOCK : Fld := ⟨SENSE_EVT, 3, 2⟩
def SENSE_EVT_RING_FAULT : Fld := ⟨SENSE_EVT, 5, 4⟩
def SENSE_EVT_IMU_SAMPLE : Fld := ⟨SENSE_EVT, 6, 6⟩
def SENSE_EVT_IMU_SKIP : Fld := ⟨SENSE_EVT, 7, 7⟩
def SENSE_EVT_WHEEL_OVF : Fld := ⟨SENSE_EVT, 11, 8⟩
def SENSE_INT_EN : Nat := 0x201503F4
def SENSE_INT_EN_EN : Fld := ⟨SENSE_INT_EN, 11, 0⟩
def ERR_STAT_0 : Nat := 0x20160000
def ERR_STAT_0_ALL : Fld := ⟨ERR_STAT_0, 3, 0⟩
def ERR_STAT_0_UE_CHIP : Fld := ⟨ERR_STAT_0, 0, 0⟩
def ERR_STAT_0_UE_5X : Fld := ⟨ERR_STAT_0, 1, 1⟩
def ERR_STAT_0_MPU : Fld := ⟨ERR_STAT_0, 2, 2⟩
def ERR_STAT_0_TRAIN_FAIL : Fld := ⟨ERR_STAT_0, 3, 3⟩
def ERR_STAT_1 : Nat := 0x20160004
def ERR_STAT_1_ALL : Fld := ⟨ERR_STAT_1, 12, 0⟩
def ERR_STAT_1_MARTEN : Fld := ⟨ERR_STAT_1, 3, 0⟩
def ERR_STAT_1_LYNX : Fld := ⟨ERR_STAT_1, 11, 4⟩
def ERR_STAT_1_FOG : Fld := ⟨ERR_STAT_1, 12, 12⟩
def ERR_STAT_2 : Nat := 0x20160008
def ERR_STAT_2_ALL : Fld := ⟨ERR_STAT_2, 4, 0⟩
def ERR_STAT_2_RING_HALT : Fld := ⟨ERR_STAT_2, 0, 0⟩
def ERR_STAT_2_RING_FAULT : Fld := ⟨ERR_STAT_2, 1, 1⟩
def ERR_STAT_2_PROTO_ERR : Fld := ⟨ERR_STAT_2, 2, 2⟩
def ERR_STAT_2_DB_ERR : Fld := ⟨ERR_STAT_2, 3, 3⟩
def ERR_STAT_2_PORT_RESET : Fld := ⟨ERR_STAT_2, 4, 4⟩
def ERR_STAT_3 : Nat := 0x2016000C
def ERR_STAT_3_ALL : Fld := ⟨ERR_STAT_3, 5, 0⟩
def ERR_STAT_3_STEP_S4 : Fld := ⟨ERR_STAT_3, 0, 0⟩
def ERR_STAT_3_CRIT : Fld := ⟨ERR_STAT_3, 1, 1⟩
def ERR_STAT_3_WDOG : Fld := ⟨ERR_STAT_3, 2, 2⟩
def ERR_STAT_3_DIVERGE : Fld := ⟨ERR_STAT_3, 3, 3⟩
def ERR_STAT_3_FAILOVER : Fld := ⟨ERR_STAT_3, 4, 4⟩
def ERR_STAT_3_SYNC_SAT : Fld := ⟨ERR_STAT_3, 5, 5⟩
def ERR_FAULT_EN_0 : Nat := 0x20160010
def ERR_FAULT_EN_0_EN : Fld := ⟨ERR_FAULT_EN_0, 31, 0⟩
def ERR_FAULT_EN_1 : Nat := 0x20160014
def ERR_FAULT_EN_1_EN : Fld := ⟨ERR_FAULT_EN_1, 31, 0⟩
def ERR_FAULT_EN_2 (k : Nat) : Nat := 0x20160018 + 0x4 * k
def ERR_FAULT_EN_2_EN (k : Nat) : Fld := ⟨ERR_FAULT_EN_2 k, 31, 0⟩
def ERR_INT_EN (k : Nat) : Nat := 0x20160020 + 0x4 * k
def ERR_INT_EN_EN (k : Nat) : Fld := ⟨ERR_INT_EN k, 31, 0⟩
def ERR_LOG_WR : Nat := 0x20160030
def ERR_LOG_WR_IDX : Fld := ⟨ERR_LOG_WR, 15, 0⟩
def ERR_LOG_RD : Nat := 0x20160034
def ERR_LOG_RD_IDX : Fld := ⟨ERR_LOG_RD, 15, 0⟩
def ERR_LOG_LOST : Nat := 0x20160038
def ERR_LOG_LOST_COUNT : Fld := ⟨ERR_LOG_LOST, 15, 0⟩
def ERR_CMD_CNT : Nat := 0x2016003C
def ERR_CMD_CNT_COUNT : Fld := ⟨ERR_CMD_CNT, 31, 0⟩
def ERR_LOG_REC (j : Nat) : Nat := 0x20160040 + 0x4 * j
def ERR_LOG_REC_DATA (j : Nat) : Fld := ⟨ERR_LOG_REC j, 31, 0⟩
def PINMUX_STAT : Nat := 0x20170000
def PINMUX_STAT_VIOB : Fld := ⟨PINMUX_STAT, 0, 0⟩
def PINMUX_SHARED : Nat := 0x20170004
def PINMUX_SHARED_OE : Fld := ⟨PINMUX_SHARED, 0, 0⟩
def PINMUX_SHARED_LIVE_SEEN : Fld := ⟨PINMUX_SHARED, 1, 1⟩
def PINMUX_GPIO_IN : Nat := 0x20170008
def PINMUX_GPIO_IN_IN : Fld := ⟨PINMUX_GPIO_IN, 15, 0⟩
def PINMUX_I2C : Nat := 0x2017000C
def PINMUX_I2C_EN : Fld := ⟨PINMUX_I2C, 0, 0⟩
def PINMUX_I2C_SPEED : Fld := ⟨PINMUX_I2C, 2, 1⟩
def PINMUX_PAD (g : Nat) : Nat := 0x20170040 + 0x4 * g
def PINMUX_PAD_DRIVE (g : Nat) : Fld := ⟨PINMUX_PAD g, 1, 0⟩
def PINMUX_PAD_SLOW (g : Nat) : Fld := ⟨PINMUX_PAD g, 2, 2⟩
def PINMUX_GPIO (n : Nat) : Nat := 0x20170100 + 0x4 * n
def PINMUX_GPIO_FUNC (n : Nat) : Fld := ⟨PINMUX_GPIO n, 1, 0⟩
def PINMUX_GPIO_OUT (n : Nat) : Fld := ⟨PINMUX_GPIO n, 2, 2⟩
def PINMUX_GPIO_OD (n : Nat) : Fld := ⟨PINMUX_GPIO n, 3, 3⟩
def PINMUX_GPIO_PULL (n : Nat) : Fld := ⟨PINMUX_GPIO n, 5, 4⟩

end Sys2Proof.Machine
end

