-- ==== Sys2Proof/Machine/Tab.lean ====
section
/-! DEFINITION. Sparse tables in one canonical form: (key, value) pairs with strictly rising keys, no entry equal
to what an unlisted key reads as. Memory, the register file and every indexed piece of hidden state are such tables. -/

namespace Sys2Proof.Machine

/-- A sparse table. -/
abbrev Tab (α : Type) := List (Nat × α)

/-- Read key `k`; an unlisted key reads as `d`. -/
def tabGet {α : Type} (d : α) (k : Nat) : Tab α → α
  | [] => d
  | (j, v) :: r => if j = k then v else tabGet d k r

/-- Insert `v` at `k` in key order, replacing an entry of the same key. -/
def tabIns {α : Type} (k : Nat) (v : α) : Tab α → Tab α
  | [] => [(k, v)]
  | (j, w) :: r => if k < j then (k, v) :: (j, w) :: r else if k = j then (k, v) :: r else (j, w) :: tabIns k v r

/-- Remove key `k`. -/
def tabDel {α : Type} (k : Nat) : Tab α → Tab α
  | [] => []
  | (j, w) :: r => if j = k then tabDel k r else (j, w) :: tabDel k r

/-- Write `v` at `k`; the value an unlisted key reads as removes the entry. -/
def tabPut {α : Type} [DecidableEq α] (d : α) (k : Nat) (v : α) (t : Tab α) : Tab α :=
  if v = d then tabDel k t else tabIns k v t

/-- Return every key `k` with `lo ≤ k < hi` to what an unlisted key reads as. -/
def tabClear {α : Type} (lo hi : Nat) (t : Tab α) : Tab α :=
  t.filter (fun e => !(decide (lo ≤ e.1) && decide (e.1 < hi)))

/-- Every key of the table exceeds `b`. -/
def tabAbove {α : Type} (b : Nat) : Tab α → Bool
  | [] => true
  | (j, _) :: r => decide (b < j) && tabAbove b r

/-- The canonical form: keys strictly rise and no entry equals what its key reads as when unlisted. -/
def tabWf {α : Type} [DecidableEq α] (d : Nat → α) : Tab α → Bool
  | [] => true
  | (j, v) :: r => decide (v ≠ d j) && tabAbove j r && tabWf d r

end Sys2Proof.Machine
end

