-- ==== Sys2Proof/Machine/State.lean ====
section
/-! DEFINITION. The state of the HB4820: every register of the register blocks (one sparse file), every memory, and
the state the specification gives each block beside its registers, as plain data; the queue of waiting commands; the
stop reasons; the state after reset. (DESIGN CHOICE, log entry 40). -/

namespace Sys2Proof.Machine

/-! ### Denrek: commands, sessions, ownership, votes, notices -/

/-- Where a command stands (R476): fetched and not started, waiting on its sync object, started, or finished with its
completion not yet written; after a takeover, started before it and to be run again, or to complete with FAILOVER_ABORT
(R555). -/
inductive Phase where
  | fetched | waiting | started | finished | again | lost
deriving DecidableEq, Repr

/-- A command the device holds: an entry of the command table (R431) or the command a mailbox runs (R418), with what
its completion will carry (R415's table). -/
structure Cmd where
  src : Src
  seq : Nat
  raw : BitVec 512
  phase : Phase
  status : Nat
  result : Nat
  ext : List Word
  waited : Bool
  overlapped : Bool
  signalled : Bool
  haltedRing : Bool
  time : Nat
deriving DecidableEq, Repr

/-- What a sync object takes in one fabric cycle (R483): its value when the cycle began, its increment inputs as
(place in the order, weight) in order, and the greatest signal. -/
structure SyncCyc where
  start : Nat
  ins : List (Nat × Nat)
  top : Nat
deriving DecidableEq, Repr

/-- What a started command still waits for before it finishes. -/
inductive Await where
  | decSwap (preset : Nat)
  | decSync (tick : Nat)
  | tdmStart
  | tdmStop (mask : Nat)
  | tdmSlots (port dir line first count : Nat)
  | gustSwap
  | gustPaths
  | gustLoad
  | fogKeys (h : Nat)
  | fogOp (op : Nat)
  | foxTable
  | martenStart (n : Nat)
  | martenStop (n : Nat)
  | martenClose (n : Nat)
  | martenDma (n c : Nat)
  | lynxRun (job : Nat)
  | memCopy (srcA dst len : Nat)
  | memFree (lo hi : Nat)
  | streamClose (slot : Nat)
  | streamRoute (slot mode seat : Nat)
  | ringResume (r last : Nat)
  | ringDestroy (r : Nat)
  | sessionClose (sess : Nat)
  | twinAttach
  | twinSwap
deriving DecidableEq, Repr

/-- The kinds of resource a session holds (R423). -/
inductive Res where
  | clock | wake | dormouse | system | capture
  | channel (n : Nat)
  | tdm (n : Nat)
  | spdif
  | converter (n : Nat)
  | gust | fox
  | subscriber (k : Nat)
  | core (n : Nat)
  | program (h : Nat)
  | stream (s : Nat)
  | keyset (h : Nat)
deriving DecidableEq, Repr

/-- The combined votes (R519): power state, clock demand, a port's TX mute, the Gust output mask, the global mute. -/
inductive Vote where
  | state | clocks
  | txMute (port : Nat)
  | outMute
  | globalMute
deriving DecidableEq, Repr

/-- A session number (R422): state 0 FREE, 1 OPEN, 2 CLOSING; its port and label; when it became FREE. -/
structure Session where
  state : Nat
  port : Nat
  label : Nat
  freedAt : Nat
deriving DecidableEq, Repr

/-- A notice waiting for an outbound slot (R420). -/
structure Notice where
  code : Nat
  detail : Nat
  count : Nat
  time : Nat
deriving DecidableEq, Repr

/-- A range of memory a session owns (R402): kind 0 allocation, 1 host declaration, 2 share given to `target`;
`region` is the MPU region it occupies. -/
structure Range where
  kind : Nat
  base : Nat
  size : Nat
  owner : Nat
  target : Nat
  region : Nat
deriving DecidableEq, Repr

/-- What a host port keeps beside its MBOX page: its notice queue and mask, and whether its last reset still closes
sessions (R518). -/
structure PortSt where
  notices : List Notice
  mask : Nat
  resetBusy : Bool
deriving DecidableEq, Repr

/-- What a ring keeps beside its page: eligible completions since PEND was last set and when the first was written
(R433), the SEQ of the last descriptor fetched (R477), and whether it closes without further completions (R425, R439). -/
structure RingSt where
  elig : Nat
  coalFrom : Option Nat
  fetched : Nat
  quiet : Bool
deriving DecidableEq, Repr

/-- Answers given to an initiator or a host (R11, R506, R513, R580). -/
inductive RespCode where
  | none | ok | accessFault | completerAbort | dropped | notReady | waiting | timeout | badCmd
  | dbgOk | dbgWait | dbgFault | dbgNoAck
deriving DecidableEq, Repr

/-- The last answer an initiator received, with its data bytes. -/
structure Resp where
  code : RespCode
  data : List Byte
deriving DecidableEq, Repr

/-- One record of the error log (R493). -/
structure ErrRec where
  time : Nat
  cls : Nat
  unit : Nat
  status : Nat
  session : Nat
  port : Nat
  seq : Nat
  addr : Nat
deriving DecidableEq, Repr

/-- The protocol engine: the command table, sessions, owners, votes, ranges, who granted sync rights, and the order in
which rings take turns. -/
structure Denrek where
  cmds : List Cmd
  awaits : List (Await × Src × Nat)
  sessions : Tab Session
  freeSeq : Nat
  owners : List (Res × Nat)
  votes : List (Vote × Nat × Nat)
  ranges : List Range
  /-- Freed ranges of closing sessions whose transfers run on, as (session, low, high) (R404). -/
  leaving : List (Nat × Nat × Nat)
  ports : Tab PortSt
  rings : Tab RingSt
  turn : Nat
  /-- (object, session, ACC bits) of R487. -/
  shares : List (Nat × Nat × Nat)
  /-- (binding entry, session that made it, field that made it) of R446 and R452. -/
  binders : List (Nat × Nat × Nat)
  /-- What an object took in this fabric cycle, and the sum waiting for the next (R483). -/
  syncIn : Tab (Option SyncCyc)
  syncOvf : Tab Nat
  /-- Resources whose owner a command changed in this cycle, with that command's origin (R521). -/
  changed : List (Res × Src)
  /-- Fox grants (R270). -/
  grants : List Nat
  /-- Streams of the separation service and the core that serves each (R569). -/
  serving : List (Nat × Nat)
  log : List ErrRec
deriving DecidableEq, Repr

/-! ### Clocks, power, boot -/

/-- Device time and the reference loop beside the CLK registers (R41 to R57). -/
structure Clk where
  time : Nat
  /-- Counting at the 98.304 MHz clock; otherwise 3,000 per slow-clock edge. -/
  fast : Bool
  /-- The loop has locked and the next slow-clock edge hands the counter over (R56). -/
  handover : Bool
  lockedAt : Nat
  slewFrom : Int
  slewAt : Nat
  /-- Sources lost since the last start-up or wake, a bit per code (R49). -/
  lostMask : Nat
  /-- The tick from which a source's count of good periods or its requalification time runs (R49). -/
  reqFrom : Tab Nat
  /-- The system and memory PLLs run from the audio PLL while the crystal is lost (R44). -/
  pllFromAudio : Bool
  /-- CLK_REF_PRIO and CLK_REF_CTRL in force, one tick behind the registers (R64). -/
  prio : Word
  ctrl : Word
  /-- The tick in which the alarm was set up, until it is reached (R60, R73). -/
  alarmFrom : Option Nat
  /-- The target the loop has locked to directly, until the hand-over (R56). -/
  lockSrc : Nat
  /-- The tick in which the target's phase was taken as the loop's zero; none for TWIN, whose offset is zero (R46). -/
  phaseZero : Option Nat
  /-- The tick at which MCLK_OUT started, while it runs (R59). -/
  mclkFrom : Option Nat
  /-- Monitor events or new controls of this tick call for the choice of the target at its end (R68). -/
  choosing : Bool
deriving DecidableEq, Repr

/-- Where a power transition stands (R80, R81, R85). -/
inductive PwrPhase where
  | steady
  | raising
  | drainDoze
  | drainPark
  | parkEntry
  | parked
  | waking
deriving DecidableEq, Repr

/-- Power state beside the PWR and DORMOUSE registers: the phase, the tick its drain began, the state a PARK entry left
and the port directions it stopped (R96), the end of the wake hold (R78), PWR_LYNX_EN with the tick it rose (R83), whether
VDD_LYNX was found in range (R608), PARK held by CRIT (R100), the tick of the wake's detection (R87), whether the pre-roll
ring runs (R90), bytes of island code in Dormouse RAM (R92), and the cores RUNNING or WAITING, and LOADED or FAULTED, at
the commit (R304). -/
structure Pwr where
  phase : PwrPhase
  drainFrom : Nat
  origin : Nat
  stopped : Nat
  holdUntil : Option Nat
  lynxEn : Bool
  lynxEnAt : Nat
  lynxRailOk : Bool
  crit : Bool
  wakeAt : Nat
  preroll : Bool
  islandCode : Nat
  coresRunning : Nat
  coresLoaded : Nat
  /-- Per engine, the tick from which it has been idle without a program (R79). -/
  idleFrom : Tab (Option Nat)
  /-- SPI targets whose chip select caused a wake: the transaction is not executed, a bit per target (R85). -/
  csWake : Nat
  /-- The tick of the commit of PARK, and the tick at which a wake was detected at that edge (R96). -/
  parkedAt : Nat
  wakeDue : Option Nat
deriving DecidableEq, Repr

/-- The one-time-programmable memory (R117, R118, R583). -/
structure Otp where
  lifecycle : Nat
  keyHash : Tab Nat
  revoke : Nat
  rollbackA : Nat
  rollbackB : Nat
  dbgLock : Nat
  uid : Nat
  dbgKey : Nat
  customer : Tab Byte
  /-- A read of OTP fails its ECC (OTP_FAIL). -/
  eccBad : Bool
deriving DecidableEq, Repr

/-- A running firmware image (R111's header table, R120, R470): versions, the key slot that verified it, its load address
and payload bytes, and for MARTEN the cores it loads. -/
structure Image where
  present : Bool
  secVersion : Nat
  build : Nat
  slot : Nat
  addr : Nat
  size : Nat
  mask : Nat
  /-- LOAD_ADDR + ENTRY of a SETT or DORMOUSE image (R116), and the DIGEST of its payload (R114). -/
  entry : Nat
  digest : Nat
deriving DecidableEq, Repr

/-- Reset and boot beside the SYS registers: OTP; grade A (R19), otherwise grade C; a CORE reset until the ROM starts;
whether the on-chip SRAM is filled (R103); the next boot source; running images by TYPE; the tick the watchdog counts from
(R121); when DEVICE_RESET takes effect; bytes of the Lynx runtime pages at the top of the shared pool (R115). -/
structure Boot where
  otp : Otp
  gradeA : Bool
  inReset : Bool
  sramFilled : Bool
  srcIdx : Nat
  images : Tab Image
  wdogFrom : Nat
  resetAt : Option Nat
  lynxPages : Nat
  /-- The address at which Sett firmware started (R116). -/
  start : Option Nat
  /-- The SHA-256 digest of each core's slot in the firmware region, held in Sett RAM (R304). -/
  sums : Tab (Option Nat)
deriving DecidableEq, Repr

/-- Levels at the balls that commands drive or that other commands read; the tick of the last change seen at
TWIN_LIVE_IN (0: none). -/
structure Pins where
  porN : Bool
  muteN : Bool
  startIn : Bool
  syncIn : Bool
  liveInAt : Nat
  liveOut : Bool
  twinSync : Bool
deriving DecidableEq, Repr

/-! ### Memory, hosts, debug -/

/-- Error positions of the ECC words (R389): word addresses holding one wrong bit, and more than one. -/
structure Ecc where
  ce : List Nat
  ue : List Nat
  /-- Bytes of each QoS class not yet a whole KiB of MEMC_BW. -/
  bw : Tab Nat
deriving DecidableEq, Repr

/-- What a read of host memory serves: a ring's fetch, a MEM_COPY, a core's DMA channel or its oldest far access. -/
inductive RdOwner where
  | fetch (r : Nat)
  | copy (src : Src) (seq : Nat)
  | dma (n c : Nat)
  | far (n : Nat)
  | line (n l : Nat)
deriving DecidableEq, Repr

/-- A non-posted request to host memory (R510): tag, address, length and the access it is part of. -/
structure HostRead where
  tag : Nat
  addr : Nat
  len : Nat
  own : RdOwner
deriving DecidableEq, Repr

/-- The host interface beside the HOSTIF registers: MSI-X masks, pending bits and messages sent, keyed 64 f + vector
(R512); per SPI port, RESET_EN armed (R516); requests outstanding and the ranges still to be requested, oldest first
(R510); on a paired primary, reads whose data waits for its APPLY (R543); accesses that ended with ACCESS_FAULT (R511). -/
structure Hostif where
  msixUnmasked : Tab Bool
  msixPend : Tab Bool
  msixSent : Tab Nat
  rstArmed : Tab Bool
  tags : List HostRead
  todo : List (RdOwner × Nat × Nat)
  late : List HostRead
  bad : List RdOwner
  /-- Far loads whose request has been made. -/
  asked : List RdOwner
deriving DecidableEq, Repr

/-- The debug port and the test access port beside the DBG registers. -/
structure Debug where
  /-- The port ignores DBG_IO until the next line reset (R579). -/
  deaf : Bool
  readBuf : List Word
  readDone : Bool
  /-- The outstanding access: write flag, address, the words of a write (none: a word with a parity error). -/
  access : Option (Bool × Nat × List (Option Word))
  readLen : Nat
  /-- A token verification runs: the scope it asks for. -/
  verifying : Option Nat
  /-- Units halted whose operations in flight have not retired, a bit per unit. -/
  halting : Nat
  /-- STEP runs on the unit, a bit per unit. -/
  stepping : Nat
  /-- General registers of the Sett controller and the Dormouse core: 64 unit + INDEX of R589. -/
  gpr : Tab Word
  tapIr : Nat
  boundary : List Bool
  boundaryHold : List Bool
  /-- What the TAP's selected data register captured last. -/
  tapDr : Nat
  /-- The tick the Sett controller's halt was asked for (R590). -/
  settAt : Nat
deriving DecidableEq, Repr

/-! ### Marten cores -/

/-- A far access in flight (R288): store flag, address, vector flag, register, lane, container form, data. -/
structure FarAcc where
  store : Bool
  addr : Nat
  vec : Bool
  reg : Nat
  lane : Nat
  hi : Bool
  data : List Word
deriving DecidableEq, Repr

/-- A DMA transfer in progress (R288), and whether its ranges have been admitted (R400). -/
structure DmaRun where
  srcA : Nat
  dst : Nat
  len : Nat
  admitted : Bool
deriving DecidableEq, Repr

/-- One Marten core (R282's register table): vector lanes keyed 4 r + lane, accumulator lanes keyed 4 a + lane,
control registers keyed by CR code (R322), the loop and return stacks (top first), the search registers, the REP
counter, the rerun buffer's body, far accesses in flight and running DMA transfers. -/
structure Core where
  v : Tab (BitVec 24)
  a : Tab (BitVec 56)
  cr : Tab (BitVec 40)
  sv : Tab (BitVec 24)
  si : Tab (BitVec 16)
  loops : List (Nat × Nat × Nat)
  rets : List (Nat × Nat)
  /-- Repetitions of the bundle at PC still to issue (0: no REP runs). -/
  rep : Nat
  rerun : Option (Nat × Nat)
  far : List FarAcc
  dma : Tab DmaRun
  /-- STOP, a debug HALT, a BKPT or a watchpoint (index, address) met during a REP (R292, R588). -/
  stopReq : Bool
  haltReq : Bool
  bkpt : Bool
  watch : Option (Nat × Nat)
  /-- In WAIT, kept while HALTED. -/
  waiting : Bool
  /-- TIMER was raised for the compare value written last (R297). -/
  timed : Bool
  /-- The hop's busy-cycle count so far. -/
  busy : Nat
deriving DecidableEq, Repr

/-! ### Microphone capture -/

/-- A block of a channel's ring (R140): samples newest first, header flags, and the ring it goes to. -/
structure DecBlock where
  stamp : Nat
  seq : Nat
  samples : List Int
  sync : Bool
  short : Bool
  clip : Bool
  gap : Bool
  bank : Bool
  bankChanged : Bool
  stuck : Bool
  base : Nat
  nblk : Nat
  size : Nat
deriving DecidableEq, Repr

/-- A capture channel beside its registers: FIR input histories by preset (newest first), recent settings with the tick
of each write (R152), the block in progress and blocks ready to be written, SEQ, whether the next block carries SYNC,
the RMS accumulator, the envelope as `envN / 2^envE`, and the newest GUST output. -/
structure DecCh where
  hist : Tab (List Int)
  cfgLog : List (Nat × Word × Word × Nat)
  cur : Option DecBlock
  done : List DecBlock
  seq : Nat
  sync : Bool
  rmsSum : Nat
  rmsCnt : Nat
  envN : Nat
  envE : Nat
  gust : Int
  /-- Decimation filter states by preset (R139); 0 is mid-scale. -/
  filt : Tab Nat
  /-- The tick from which the channel's line is clocked and captured (R158). -/
  heard : Option Nat
  /-- The level of a run of 256 identical bits or more, and the tick it was last seen to go on (R146). -/
  stuck : Option (Bool × Nat)
deriving DecidableEq, Repr

/-- Decimation: channels; the grid start S of GUST and BREEZE (R132); resets scheduled as (S, pin events, commands); swap
requests as (preset, tick landed, waiting command); the boundary after which a preset's next swap falls; the tick from which
PDM bits are substituted and the tick at which a new primary's clocks start (R147). -/
structure Dec where
  chans : Tab DecCh
  gridS : Nat
  sched : List (Nat × Nat × Nat)
  swaps : List (Nat × Nat × Option (Src × Nat))
  nextT : Tab Nat
  gap : Option (Nat × Nat)
  /-- The tick at which decimation last started, while it runs (R132). -/
  startAt : Option Nat
  /-- The tick of the first rising edge of each PDM clock that runs (R129, R91). -/
  clkFrom : Tab (Option Nat)
  /-- The reset tick of the scheduled reset that DEC_SYNC_STAT.PENDING shows (R150). -/
  armed : Option Nat
  /-- DEC_SWAP_BANK commands that wait for a place, as (preset, command), oldest first (R154). -/
  held : List (Nat × Src × Nat)
deriving DecidableEq, Repr

/-! ### Serial audio ports, converters, guards, the Gust lane -/

/-- A direction of a port beside its registers: its trigger's tick, once that is reached; the index of its current frame,
its first being 0; frames begun since its tail was entered; the state it resumes when a lost clock returns; the index of its
first live frame; and the FS stamps from which its data is live and before which it stopped (R166, R170, R171, R177). -/
structure TdmDir where
  armedAt : Option Nat
  frames : Nat
  tail : Nat
  resume : Nat
  lead : Nat
  liveFrom : Option Nat
  stopAt : Option Nat
deriving DecidableEq, Repr

/-- A line: its FIFO, oldest first, each word with the FS stamp when it is the first word of a received frame; words
owed under ZERO; words missed since the start; words of its ring in host memory that are asked for (R166, R174, R175, R571). -/
structure TdmLine where
  fifo : List (Nat × Option Nat)
  owed : Nat
  miss : Nat
  asked : Nat
deriving DecidableEq, Repr

/-- A TX slot: the slot image in force, whether it is muted in force, the tick a waiting change landed, the last source
word; of the last fetch its tick, the frame it was for, whether it took a FIFO word, the word it loaded (none:
high-impedance) and the instant of that word's first bit; and the word sent until then (R168, R172). -/
structure TdmSlot where
  img : Word
  muted : Bool
  since : Option Nat
  last : Option Int
  fetchedAt : Option Nat
  frame : Option Nat
  took : Option Nat
  word : Option Nat
  first : Nat
  prev : Option Nat
deriving DecidableEq, Repr

/-- The ports: directions keyed 2n + d, lines keyed 4n + 2d + l, TX slots keyed 64n + 32l + s, the trigger's tick once
known, the directions it starts, and per group the tick its current frame began, by FS or by its own count. -/
structure Tdm where
  dirs : Tab TdmDir
  lines : Tab TdmLine
  slots : Tab TdmSlot
  trigAt : Option Nat
  trigMask : Nat
  fsAt : Tab Nat
deriving DecidableEq, Repr

/-- A received frame inside a guard: FS stamp, the words of its FIFO positions, zero where a slot was skipped, how many came
before the skipped ones, the muted position pairs (R174, R203). -/
structure GuardFrame where
  stamp : Nat
  words : List Nat
  got : Nat
  mute : Nat
deriving DecidableEq, Repr

/-- A guard: frames not released, oldest first; pairs muted; the tick of the last burst; the pair whose Pc comes next;
detections not complete, as (Td, pairs, cause); and the CFG and PAIRS before each write that no frame has begun after, oldest
first with its tick (R202 to R204, R208). -/
structure GuardSt where
  frames : List GuardFrame
  muted : Nat
  lastBurst : Nat
  pcPair : Option Nat
  due : List (Nat × Nat × Nat)
  was : List (Nat × Word × Word)
deriving DecidableEq, Repr

/-- The IEC 60958 receiver: valid frames in a row, the previous word of each subframe, the channel-status bits
collected of each and their count, and the non-audio bit of the last confirmed block (R200, R201). -/
structure Spdif where
  run : Nat
  prevA : Nat
  prevB : Nat
  csA : Nat
  csB : Nat
  csN : Nat
  nonAudio : Bool
deriving DecidableEq, Repr

/-- A converter: its last stable-test update (tick, r), how many in a row were stable, r and D at the last lock, whether it has locked,
the source frames it holds (stamp, channel words; newest first), the next internal instant, the next destination frame,
the ramp position, blocks as in capture, and SEQ (R194 to R199). -/
structure Asrc where
  testAt : Nat
  testR : Nat
  stable : Nat
  lockR : Nat
  delay : Nat
  everLocked : Bool
  frames : List (Nat × List Int)
  nextT : Nat
  nextF : Nat
  ramp : Nat
  cur : Option DecBlock
  seq : Nat
  sync : Bool
deriving DecidableEq, Repr

/-- Converters, guards and the receiver. -/
structure Rate where
  asrcs : Tab Asrc
  guards : Tab GuardSt
  spdif : Spdif
deriving DecidableEq, Repr

/-- The Gust lane beside its registers: coefficients keyed (256 bank + path) 52 + word; input histories newest first;
biquad states keyed 16 path + 4 stage + (0 u1, 1 u2, 2 v1, 3 v2); path registers in force and writes waiting (path, tick, value);
the instant last computed; the last strobe, as its instant, each input's sample and whether it is DEAD, and RAMP; output words
as they stand; instants ramped since release; the mutes in force; monitor sums and counts; swap requests (tick landed, none
while it waits for a load; waiting command); the earliest next boundary; a running copy's start and the
words written meanwhile; a running load's first path, count, address, start and command (R216 to R228). -/
structure Gust where
  coef : Tab (BitVec 24)
  hist : Tab (List Int)
  bq : Tab Int
  paths : Tab Word
  newPaths : List (Nat × Nat × Word)
  inst : Option Nat
  strobed : Option (Nat × List (Int × Bool) × Nat)
  out : Tab Int
  ramp : Tab Nat
  muted : Nat
  muteNAt : Nat
  monSum : Tab Nat
  monCnt : Tab Nat
  swaps : List (Option Nat × Option (Src × Nat))
  nextT : Nat
  copying : Option (Nat × List Nat)
  load : Option (Nat × Nat × Nat)
deriving DecidableEq, Repr

/-! ### Fox -/

/-- A SPORT port's run (R240 to R242): its CFG, the FS edge of the next block's first frame, whether a block has been
written since the start, and the tick at which the run was stopped. -/
structure SportRun where
  cfg : Word
  next : Nat
  synced : Bool
  stop : Option Nat
deriving DecidableEq, Repr

/-- Capture beside the SENSE registers: per trigger pin k0 and the next k; the ports' runs; the running IMU read's sample
instant and start, reads due as (start, instant), the interrupt level; per wheel the edge under test as (tick, level) and
accepted stamps not drained, oldest first (R239 to R245). -/
structure Sense where
  k0 : Tab Nat
  nextK : Tab Nat
  sport : Tab (Option SportRun)
  imuRun : Option (Nat × Nat)
  imuDue : List (Nat × Nat)
  imuInt : Bool
  wCand : Tab (Option (Nat × Bool))
  wFifo : Tab (List Nat)
deriving DecidableEq, Repr

/-- A measurement (R257): class, statistics sources, stamp, values, covariance, state components selected, activity and
arrival. Values are binary32 patterns. -/
structure FoxMeas where
  cls : Nat
  srcs : List Nat
  stamp : Nat
  z : List Nat
  r : List (List Nat)
  sel : List Nat
  act : Nat
  arrival : Nat
deriving DecidableEq, Repr

/-- A track slot (R259 to R264): its record's fields, the slot's generation, the hop of birth, boundaries at which it was
updated, its candidate seat and how long, the hop of a numeric failure, and whether this batch updated it. -/
structure Track where
  gen : Nat
  state : Nat
  seat : Nat
  act : Nat
  speaking : Bool
  time : Nat
  birth : Nat
  lastUpd : Nat
  x : List Nat
  p : List (List Nat)
  born : Nat
  conf : Nat
  cand : Nat
  candN : Nat
  doomed : Option Nat
  updated : Bool
deriving DecidableEq, Repr

/-- Ego-motion, the tracker and publications beside the FOX registers: the filter's x and P, the last instant, record
SEQ, edges and IMU samples held as (stamp, ax, gz), squared normalised innovations by update; queued observations and
host measurements as (arrival, kind, stamp, bytes); measurements deferred; tracks; table and register writes that wait
for the boundary; the publication not written, as (B, bytes, speaking mask); the speaking mask last published; ARRAY of
each record pushed by ring slot, and ring indices from HW on that are consumed. -/
structure Fox where
  egoX : List Nat
  egoP : List (List Nat)
  egoAt : Nat
  egoSeq : Nat
  wEdges : Tab (List Nat)
  imu : List (Nat × Nat × Nat)
  innov : Tab (List Nat)
  inq : List (Nat × Nat × Nat × List Byte)
  arrivals : Nat
  deferred : List FoxMeas
  tracks : Tab Track
  writes : List (Nat × List Byte)
  regWrites : List (Nat × Word)
  pub : Option (Nat × List Byte × Nat)
  spoke : Nat
  doaArr : Tab Nat
  doaTaken : List Nat
deriving DecidableEq, Repr

/-! ### Lynx and the separation service -/

/-- A loaded program (R337, R338): session, KIND, NTILE, MACS, bytes of local SRAM it takes, STATE_BYTES, streams
declared, inputs and outputs, bytes an invocation moves at levels 0 to 3 (R340), base addresses of the spill at levels 1
to 3, and whether it was unloaded and only serves jobs released before. -/
structure LynxProg where
  sess : Nat
  kind : Nat
  ntile : Nat
  macs : Nat
  sram : Nat
  state : Nat
  nstream : Nat
  nin : Nat
  nout : Nat
  levels : List Nat
  spill : List Nat
  gone : Bool
deriving DecidableEq, Repr

/-- A queued job (R342, R344): identity, engine, stream slot (0xFF for one-shot), program handle, release, deadline (all
ones for none), hop, tensor addresses, record address, the command it serves, tiles issued and retired, SAT, STATE_GAP. -/
structure LynxJob where
  id : Nat
  engine : Nat
  slot : Nat
  prog : Nat
  rel : Nat
  dl : Nat
  hop : Nat
  io : List Nat
  rcd : Nat
  cmd : Option (Src × Nat)
  sess : Nat
  issued : Nat
  done : Nat
  sat : Bool
  gap : Bool
deriving DecidableEq, Repr

/-- A stream's side of Lynx (R341, R345 to R348): the bound program, a bind (program, CFG, POL), an unbind or a reset
waiting for the next release, misses of its last 16 jobs newest first, consecutive jobs in time, whether the last job
missed, the committed recurrent state (empty: zero), outputs 0 and 1 of the newest job in time and of the job before it,
the mask applied last and how it was formed by hop (0 job, 1 previous, 2 HOLD, 3 BYPASS, 4 MUTE), the last hop released,
hops released whose mask is not decided with the verdict once known, records written. -/
structure LynxStr where
  prog : Option Nat
  pend : Option (Option (Nat × Word × Word))
  resetReq : Bool
  hist : List Bool
  good : Nat
  gap : Bool
  state : List Byte
  mask : List Byte
  speech : List Byte
  applied : List Rat
  kinds : List (Nat × Nat)
  hop : Nat
  due : List (Nat × Option Bool)
  records : Nat
deriving DecidableEq, Repr

/-- An open stream of the separation service (R457, R458): the first boundary served, a close that waits for the next
boundary, mode, seat, sink, source, position or ring base, record ring, the free-value seed of its samples, the next
instant of a kind-1 ring and its block in progress with SEQ and SYNC. -/
structure Strm where
  opened : Bool
  first : Nat
  closing : Bool
  mode : Nat
  seat : Nat
  sink : Nat
  src : Nat
  pos : Nat
  rcd : Nat
  rcdN : Nat
  block : Nat
  nblk : Nat
  seed : Nat
  nextT : Nat
  seq : Nat
  sync : Bool
deriving DecidableEq, Repr

/-- Lynx beside its registers: programs by handle, jobs in submission order and the next identity, identities of jobs
whose tiles are in flight per engine (oldest first), results of the tile retired last per engine, streams by slot, and
whether the engines drain (R80), and the primary's verdicts (slot, hop, in time), its own on a primary (R360). -/
structure Lynx where
  progs : Tab LynxProg
  jobs : List LynxJob
  nextId : Nat
  infl : Tab (List Nat)
  tile : Tab (List Int)
  strs : Tab LynxStr
  strms : Tab Strm
  draining : Bool
  verdicts : List (Nat × Nat × Bool)
deriving DecidableEq, Repr

/-! ### Fog -/

/-- A registered key set (R362): session, scheme, LOGN, L1, K, ALPHA, PLAIN_T, TAG, public key address, moduli q then p,
evaluation keys as (GALOIS, address), and whether a release waits. -/
structure FogKeys where
  sess : Nat
  scheme : Nat
  logn : Nat
  l1 : Nat
  k : Nat
  alpha : Nat
  plainT : Nat
  tag : Nat
  pk : Nat
  moduli : List Nat
  keys : List (Nat × Nat)
  pkWords : List Nat
  leaving : Bool
deriving DecidableEq, Repr

/-- A ciphertext register (R364, R365): level, components, scale as a binary64 pattern, words by component, limb and j. -/
structure FogCt where
  level : Nat
  comp : Nat
  scale : Nat
  words : List Nat
deriving DecidableEq, Repr

/-- An instruction of an operation program. -/
structure FogInstr where
  op : Nat
  dst : Nat
  a : Nat
  b : Nat
  imm : Int
  arg : Nat
deriving DecidableEq, Repr

/-- An operation in flight (R370, R372): its command (none: direct mode), session, handle, key set, instructions,
operands as (address, bytes, role), exchange timeout in ms, SEED, next instruction, registers, exchanges made, the
exchange it waits on as (REQ_ID, DEADLINE, ring slot), and how it ended (status, whether the next instruction failed,
refused address). -/
structure FogOp where
  cmd : Option (Src × Nat)
  sess : Nat
  handle : Nat
  keys : FogKeys
  instrs : List FogInstr
  opnds : List (Nat × Nat × Nat)
  exto : Nat
  seed : Nat
  pc : Nat
  regs : Tab FogCt
  exch : Nat
  wait : Option (Nat × Nat × Nat)
  ended : Option (Nat × Bool × Nat)
deriving DecidableEq, Repr

/-- A session's exchange ring (R370): request base, buffer base, entries, slot bytes, requests made. -/
structure FogRing where
  req : Nat
  buf : Nat
  size : Nat
  slot : Nat
  count : Nat
deriving DecidableEq, Repr

/-- Fog beside its registers: key sets by handle, operations by place, exchange rings by session, programs queued in
direct mode as (address, handle), bytes per level not yet a KiB, and whether it drains (R80). -/
structure Fog where
  keys : List (Nat × FogKeys)
  ops : List (Nat × FogOp)
  rings : List (Nat × FogRing)
  queue : List (Nat × Nat)
  kib : Tab Nat
  draining : Bool
deriving DecidableEq, Repr

/-! ### Twin pairing -/

/-- A mirrored completion or message (R546): origin, SEQ, the highest SEQ written by the primary, its bytes, whether the
standby's FINISH has come, and the tick the mirror was sent. -/
structure TwinMirror where
  src : Src
  seq : Nat
  written : Nat
  bytes : List Byte
  finished : Bool
  sentAt : Nat
deriving DecidableEq, Repr

/-- Twin pairing beside the TWIN registers: whether the beat before was missed in symbol and in toggle; the last beat
slot received (boundary / 128, role, state) and when (R540); the last beat slot sent (boundary / 128, role, state,
ACK_FSEQ, flags); the FSEQ of the last frame, that of the last frame received in order, and the tick by which a bad frame
becomes LINK_FAULT (R538); the partner's last ACK_FSEQ and the SQ_HEAD values (ring, head, FSEQ) that wait for it (R546);
JSEQ of the last record; J (R552) and the tick CATCHUP began; the partner's CONTROL record (versions, PREF) and whether the primary's time has been adopted
(R551); the catch-up buffer's address (R552); mirrors; digests by hop of this twin and the partner (R548); T of a pending swap and of a takeover declared; when
TWIN_SYNC was pulled low; commands whose APPLY and starts whose record is awaited (R543); the primary's clock
configuration (CLK_REF_PRIO, CLK_REF_CTRL) on a standby (R535); TX words of the last hops as (first-bit tick, port, line,
slot, word) and publications as (boundary, bytes), for the digests (R548); the last record of a snapshot, which carries what
has no address (R552). -/
structure Twin where
  symMiss : Bool
  togMiss : Bool
  beat : Option (Nat × Nat × Nat)
  beatAt : Nat
  sent : Option (Nat × Nat × Nat × Nat × Nat)
  fseq : Nat
  inOrder : Nat
  ack : Nat
  unacked : List (Nat × Nat × Nat)
  badAt : Option Nat
  jseq : Nat
  j : Nat
  pairFrom : Nat
  ctl : Option (List Nat × Nat)
  adopted : Bool
  buf : Option Nat
  mirrors : List TwinMirror
  own : List (Nat × Nat)
  theirs : List (Nat × Nat)
  swap : Option Nat
  take : Option Nat
  syncLow : Option Nat
  unapplied : List (Src × Nat)
  starts : List (Src × Nat)
  clk : Word × Word
  words : List (Nat × Nat × Nat × Nat × Nat)
  pubs : List (Nat × List Byte)
  snap : List Byte
deriving DecidableEq, Repr


/-! ### One fabric cycle -/

/-- What the fabric cycle in progress has brought so far: for a register in which hardware events set W1C or RC bits, its
value before the first of them (R20); the W1C bits events set, and the W1S bits written while their action still ran
(R20, R21), by register; for a pair, one more than the rank of the last initiator in the order of R24 that committed it; for a
register whose writes serve from the next cycle, what it held before (R404, R437); bindings removed in this cycle, which an
event of the cycle still reaches, as (event, object). -/
structure Cycle where
  was : Tab (Option Word)
  hits : Tab Word
  commits : Tab Nat
  old : Tab (Option Word)
  gone : List (Nat × Nat)
deriving DecidableEq, Repr

/-! ### The whole machine -/

/-- Why a step stops with a fault. No row of the table stops the part, so there is no constructor. -/
inductive Fault where
deriving DecidableEq, Repr

/-- Why a step is refused. -/
inductive Refusal where
  /-- A row whose meaning is not modelled, by its mnemonic; raised by exec's refused arms only. Safe. -/
  | notModelled (mnemonic : String)
deriving DecidableEq, Repr

/-- The machine. -/
structure State where
  pending : List Instr
  regs : Tab Word
  mem : List Host.Cell
  /-- Upper halves captured by reads of a NAME_LO, keyed by initiator and address (R14). -/
  pairRead : Tab (Option Word)
  /-- Lower halves held by writes of a NAME_LO, keyed by initiator and address (R14). -/
  pairWrite : Tab (Option Word)
  /-- The lower half committed last to each pair, keyed by its address (R23). -/
  pairLast : Tab (Option Word)
  cyc : Cycle
  resp : Tab Resp
  clk : Clk
  pwr : Pwr
  boot : Boot
  pins : Pins
  ecc : Ecc
  hostif : Hostif
  denrek : Denrek
  dbg : Debug
  cores : Tab Core
  dec : Dec
  tdm : Tdm
  rate : Rate
  gust : Gust
  sense : Sense
  fox : Fox
  lynx : Lynx
  fog : Fog
  twin : Twin
  /-- The model's own counter of free values used. -/
  freeCtr : Nat
deriving DecidableEq, Repr

/-- A fabric cycle in which nothing has happened. -/
def Cycle.reset : Cycle := ⟨[], [], [], [], []⟩
/-- A session number that was never opened. -/
def Session.reset : Session := ⟨0, 0, 0, 0⟩
def PortSt.reset : PortSt := ⟨[], 0xFFFFFFFF, false⟩
def RingSt.reset : RingSt := ⟨0, none, 0, false⟩
def Resp.reset : Resp := ⟨.none, []⟩
def Image.reset : Image := ⟨false, 0, 0, 0, 0, 0, 0, 0, 0⟩
/-- A core that runs no program: registers zero, stacks empty. (DESIGN CHOICE, log entry 7). -/
def Core.reset : Core := ⟨[], [], [], [], [], [], [], 0, none, [], [], false, false, false, none, false, false, 0⟩
def DmaRun.reset : DmaRun := ⟨0, 0, 0, false⟩
/-- No command held, no session open; the first turn is ring 0's. (DESIGN CHOICE, log entry 5). -/
def Denrek.reset : Denrek := ⟨[], [], [], 1, [], [], [], [], [], [], 0, [], [], [], [], [], [], [], []⟩
def Clk.reset : Clk := ⟨0, false, false, 0, 0, 0, 0, [], false, 1, 0x1901415, none, 0, none, none, false⟩
def Pwr.reset : Pwr := ⟨.steady, 0, 0, 0, none, false, 0, true, false, 0, true, 0, 0, 0, [], 0, 0, none⟩
/-- A part in which nothing is fused. (DESIGN CHOICE, log entry 4). -/
def Otp.blank : Otp := ⟨0, [], 0, 0, 0, 0, 0, 0, [], false⟩
/-- Boot right after POR_N rises. (DESIGN CHOICE, log entry 4). -/
def Boot.reset : Boot := ⟨Otp.blank, true, true, false, 0, [], 0, none, 0, none, []⟩
/-- The levels of the balls. (DESIGN CHOICE, log entry 4). -/
def Pins.reset : Pins := ⟨true, true, false, false, 0, false, true⟩
def Ecc.reset : Ecc := ⟨[], [], []⟩
def Hostif.reset : Hostif := ⟨[], [], [], [], [], [], [], [], []⟩
/-- Nothing attached, every core running. (DESIGN CHOICE, log entry 6). -/
def Debug.reset : Debug := ⟨false, [], false, none, 0, none, 0, 0, [], 1, [], [], 0, 0⟩
def DecCh.reset : DecCh := ⟨[], [], none, [], 0, true, 0, 0, 0, 0, 0, [], none, none⟩
def Dec.reset : Dec := ⟨[], 0, [], [], [], none, none, [], none, []⟩
def TdmDir.reset : TdmDir := ⟨none, 0, 0, 0, 0, none, none⟩
def TdmLine.reset : TdmLine := ⟨[], 0, 0, 0⟩
def TdmSlot.reset : TdmSlot := ⟨0, true, none, none, none, none, none, none, 0, none⟩
def Tdm.reset : Tdm := ⟨[], [], [], none, 0, []⟩
def GuardSt.reset : GuardSt := ⟨[], 0, 0, none, [], []⟩
def Spdif.reset : Spdif := ⟨0, 0, 0, 0, 0, 0, false⟩
def Asrc.reset : Asrc := ⟨0, 0, 0, 0, 0, false, [], 0, 0, 0, none, 0, true⟩
def Rate.reset : Rate := ⟨[], [], Spdif.reset⟩
def Gust.reset : Gust := ⟨[], [], [], [], [], none, none, [], [], 0xFFFFFFFF, 0, [], [], [], 0, none, none⟩
def Sense.reset : Sense := ⟨[], [], [], none, [], false, [], []⟩
def Track.reset : Track := ⟨0, 0, 255, 0, false, 0, 0, 0, [], [], 0, 0, 255, 0, none, false⟩
def Fox.reset : Fox := ⟨[], [], 0, 0, [], [], [], [], 0, [], [], [], [], none, 0, [], []⟩
def LynxStr.reset : LynxStr := ⟨none, none, false, [], 0, false, [], [], [], [], [], 0, [], 0⟩
def Strm.reset : Strm := ⟨false, 0, false, 0, 0, 0, 0, 0, 0, 0, 0, 0, 0, 0, 0, true⟩
def Lynx.reset : Lynx := ⟨[], [], 0, [], [], [], [], false, []⟩
def Fog.reset : Fog := ⟨[], [], [], [], [], false⟩
def Twin.reset : Twin :=
  ⟨true, true, none, 0, none, 0, 0, 0, [], none, 0, 0, 0, none, false, none, [], [], [], none, none, none, [], [],
    (1, 0x1901415), [], [], []⟩

/-- The machine right after POR_N rises on a part with blank OTP, grade A, straps 0b000 and VDDIO_B at 1.8 V: every
register at its Reset value (R15), device time zero (R42), no memory listed. (DESIGN CHOICE, log entry 4). -/
def State.reset : State where
  pending := []
  regs := []
  mem := []
  pairRead := []
  pairWrite := []
  pairLast := []
  cyc := Cycle.reset
  resp := []
  clk := Clk.reset
  pwr := Pwr.reset
  boot := Boot.reset
  pins := Pins.reset
  ecc := Ecc.reset
  hostif := Hostif.reset
  denrek := Denrek.reset
  dbg := Debug.reset
  cores := []
  dec := Dec.reset
  tdm := Tdm.reset
  rate := Rate.reset
  gust := Gust.reset
  sense := Sense.reset
  fox := Fox.reset
  lynx := Lynx.reset
  fog := Fog.reset
  twin := Twin.reset
  freeCtr := 0

end Sys2Proof.Machine
end

