-- ==== Sys2Proof/Machine/Ops.lean ====
section
/-! DEFINITION. The named operations over registers, memory, sync objects, events, notices, the error log, sessions
and ownership. Every meaning reads and writes the machine through these. -/

namespace Sys2Proof.Machine

/-- What a meaning answers. -/
abbrev Out := Host.Outcome State Fault Refusal

/-- Run `f` for 0, …, n-1 in order. -/
def forN (n : Nat) (f : Nat → State → State) (s : State) : State :=
  (List.range n).foldl (fun s i => f i s) s

/-- Apply `f` when the condition holds. -/
def when (c : Bool) (f : State → State) (s : State) : State := if c then f s else s

/-! ### The register file -/

/-- Whether `d` is a combination of the row's indices. -/
def dimsMatch : List (Nat × Nat) → Nat → Bool
  | [], d => d == 0
  | (st, ct) :: r, d => decide (d / st < ct) && dimsMatch r (d - d / st * st)

/-- Whether the row describes the register at `a`. -/
def RegSpec.holds (r : RegSpec) (a : Nat) : Bool := decide (r.base ≤ a) && dimsMatch r.dims (a - r.base)

/-- The table row of the register at `a` (R10). -/
def specOf (a : Nat) : Option RegSpec := (regBlock (a / 65536)).find? (fun r => r.holds a)

/-- The value a field list gives a register at reset. -/
def resetOfFields : List FieldSpec → Nat
  | [] => 0
  | f :: r => f.reset * 2 ^ f.lo + resetOfFields r

/-- The Reset value of the register at `a` (R15); zero where no register is. -/
def resetWord (a : Nat) : Word :=
  match specOf a with
  | some r => BitVec.ofNat 32 (resetOfFields r.fields)
  | none => 0

/-- The stored value of the register at `a`. -/
def State.reg (s : State) (a : Nat) : Word := tabGet (resetWord a) a s.regs

/-- Store a register. -/
def State.setReg (s : State) (a : Nat) (v : Word) : State := { s with regs := tabPut (resetWord a) a v s.regs }

/-- Bits [hi:lo] of a register replaced by `v`. -/
def Fld.insert (f : Fld) (w : Word) (v : Nat) : Word :=
  let n := f.hi - f.lo + 1
  BitVec.ofNat 32 (w.toNat - bitsOf w.toNat f.lo n * 2 ^ f.lo + v % 2 ^ n * 2 ^ f.lo)

/-- The value of a field within a register image. -/
def Fld.of (f : Fld) (w : Word) : Nat := bitsOf w.toNat f.lo (f.hi - f.lo + 1)

/-- Read a field. -/
def State.getF (s : State) (f : Fld) : Nat := f.of (s.reg f.addr)

/-- Write a field. -/
def State.setF (s : State) (f : Fld) (v : Nat) : State := s.setReg f.addr (f.insert (s.reg f.addr) v)

/-- Bit `i` of a field. -/
def State.getB (s : State) (f : Fld) (i : Nat) : Bool := bitOf (s.getF f) i

/-- A one-bit field as a Boolean. -/
def State.isSet (s : State) (f : Fld) : Bool := s.getF f == 1

/-- Set bit `i` of a field. -/
def State.setB (s : State) (f : Fld) (i : Nat) : State := s.setF f (s.getF f ||| 2 ^ i)

/-- Clear bit `i` of a field. -/
def State.clrB (s : State) (f : Fld) (i : Nat) : State := if s.getB f i then s.setF f (s.getF f - 2 ^ i) else s

/-- Set or clear bit `i` of a field. -/
def State.putB (s : State) (f : Fld) (i : Nat) (b : Bool) : State := if b then s.setB f i else s.clrB f i

/-- A hardware event is about to set W1C or RC bits of the register at `a`: what it held before is kept for the cycle (R20). -/
def State.note (s : State) (a : Nat) : State :=
  if (tabGet none a s.cyc.was).isSome then s
  else { s with cyc := { s.cyc with was := tabPut none a (some (s.reg a)) s.cyc.was } }

/-- The bits `m` of the register at `a` are marked for the cycle (R20, R21). -/
def State.mark (s : State) (a m : Nat) : State :=
  { s with cyc := { s.cyc with hits := tabPut 0 a (tabGet 0 a s.cyc.hits ||| BitVec.ofNat 32 m) s.cyc.hits } }

/-- A write of the register at `a` serves from the next cycle: what it held is in force until then (R404, R437). -/
def State.defer (s : State) (a : Nat) (w : Word) : State :=
  if (tabGet none a s.cyc.old).isSome then s else { s with cyc := { s.cyc with old := tabPut none a (some w) s.cyc.old } }

/-- What is in force of a register whose writes serve from the next cycle. -/
def State.inForce (s : State) (f : Fld) : Nat := f.of ((tabGet none f.addr s.cyc.old).getD (s.reg f.addr))

/-- The mark of bit `i` of a field in this cycle. -/
def State.marked (s : State) (f : Fld) (i : Nat) : Bool := bitOf (tabGet 0 f.addr s.cyc.hits).toNat (f.lo + i)

/-- A hardware event sets a W1C field to `v` (R20). -/
def State.hitF (s : State) (f : Fld) (v : Nat) : State := ((s.note f.addr).mark f.addr (v * 2 ^ f.lo)).setF f v

/-- A hardware event sets bit `i` of a W1C field (R20). -/
def State.hitB (s : State) (f : Fld) (i : Nat) : State := ((s.note f.addr).mark f.addr (2 ^ (f.lo + i))).setB f i

/-- A write of 1 clears bit 0 of a W1C field, unless an event of this cycle set it (R12, R20). -/
def State.wipeF (s : State) (f : Fld) : State := if s.marked f 0 then s else s.setF f 0

/-- A hardware event adds to a counter field, saturating (R20). -/
def State.incF (s : State) (f : Fld) (n : Nat) : State :=
  (s.note f.addr).setF f (satAdd (f.hi - f.lo + 1) (s.getF f) n)

/-- A hardware event raises a greatest-since-read field to `v` (R20). -/
def State.maxF (s : State) (f : Fld) (v : Nat) : State :=
  if s.getF f < v then ((s.note f.addr).mark f.addr (2 ^ f.lo)).setF f v else s

/-- Add to a counter field, wrapping. -/
def State.addF (s : State) (f : Fld) (n : Nat) : State := s.setF f (s.getF f + n)

/-- The 64-bit quantity whose low half is at `lo` (R14). -/
def State.r64 (s : State) (lo : Nat) : Nat := (s.reg lo).toNat + 2 ^ 32 * (s.reg (lo + 4)).toNat

/-- Store a 64-bit quantity. -/
def State.set64 (s : State) (lo v : Nat) : State :=
  (s.setReg lo (BitVec.ofNat 32 v)).setReg (lo + 4) (BitVec.ofNat 32 (v / 2 ^ 32))

/-- The shared output balls are driven: OE is 1 and the role is not standby (R535, R604). -/
def sharedOut (s : State) : Bool := s.isSet PINMUX_SHARED_OE && s.getF TWIN_STAT_ROLE != 2

/-- Device time now (R41). -/
def State.now (s : State) : Nat := s.clk.time

/-- CLK_REF_CTRL.SLEW in force: below 1 acts as 1, above 100 as 100. -/
def slewRate (s : State) : Nat := clampN 1 100 (CLK_REF_CTRL_SLEW.of s.clk.ctrl)

/-- A register read as a signed number. -/
def State.regS (s : State) (a : Nat) : Int := toSigned 32 (s.reg a).toNat

/-- The device-time frequency offset now, in ppb: while SWITCHING it slews linearly toward the target (R51). -/
def loopFreq (s : State) : Int :=
  if s.getF CLK_STATUS_STATE = 2 then
    let goal := s.regS (CLK_REF_OFS (s.getF CLK_STATUS_SEL))
    let d := goal - s.clk.slewFrom
    let moved : Int := (slewRate s * 1000 * (s.now - s.clk.slewAt) / 98304000 : Nat)
    if d.natAbs ≤ moved.natAbs then goal else if 0 ≤ d then s.clk.slewFrom + moved else s.clk.slewFrom - moved
  else s.regS CLK_FREQ

/-- The log record ERR_LOG_RD selects, as bytes (R493, R495). -/
def logSelected (s : State) : List Byte :=
  let wr := s.getF ERR_LOG_WR_IDX
  let back := (wr % 64 + 64 - s.getF ERR_LOG_RD_IDX % 64 - 1) % 64
  let l := s.denrek.log
  match (if back < l.length then l[l.length - 1 - back]? else none) with
  | some r => leBytes 8 r.time ++ leBytes 1 r.cls ++ leBytes 1 r.unit ++ leBytes 2 r.status ++ leBytes 2 r.session
      ++ leBytes 1 r.port ++ leBytes 1 0 ++ leBytes 8 r.seq ++ leBytes 8 r.addr
  | none => List.replicate 32 0

/-- The bits of the fields of the register at `a` that have an access code. -/
def accMask (p : Acc → Bool) (a : Nat) : Nat :=
  match specOf a with
  | some r => r.fields.foldl (fun m f => if p f.acc then m ||| ((2 ^ (f.hi - f.lo + 1) - 1) * 2 ^ f.lo) else m) 0
  | none => 0

/-- Reset every register of the blocks [lo, hi) to its Reset value. -/
def State.clearRegs (s : State) (lo hi : Nat) : State := { s with regs := tabClear lo hi s.regs }

/-- GUST_MUTE.PIN reads 1 while MUTE_N is low, whatever a reset makes of the rest (R232). -/
def showMuteN (s : State) : State := s.setF GUST_MUTE_PIN (bit (!s.pins.muteN))

/-- Return every register of a reset domain to its Reset value (R102). -/
def State.resetDomain (s : State) (d : Domain) : State :=
  showMuteN { s with regs := s.regs.filter (fun e => match specOf e.1 with
      | some r => decide (r.dom ≠ d)
      | none => true) }

/-! ### Initiators (R14, R24) -/

/-- The number of an initiator: its answers and latches are keyed by it, and it ascends in the order of R24. -/
def initKey : Initiator → Nat
  | .port p => p
  | .sett => 16
  | .marten n => 20 + n
  | .debug => 30

/-- The latch of an initiator for the pair at `lo`. (DEDUCED, log entry 13). -/
def latchKey (i : Initiator) (lo : Nat) : Nat := initKey i * 2 ^ 40 + lo

/-- The latches of the initiators that `p` names are empty again (R22). -/
def dropLatches (p : Nat → Bool) (s : State) : State :=
  { s with pairRead := s.pairRead.filter (fun e => !p (e.1 / 2 ^ 40)), pairWrite := s.pairWrite.filter (fun e => !p (e.1 / 2 ^ 40)) }

/-! ### Memory -/

/-- What a byte that no entry lists reads as. (DESIGN CHOICE, log entry 2). -/
def memDefault : Byte := 0

/-- One byte of memory. (DESIGN CHOICE, log entry 2). -/
def State.byte (s : State) (a : Nat) : Byte := tabGet memDefault a s.mem

/-- Store one byte. -/
def State.setByte (s : State) (a : Nat) (b : Byte) : State := { s with mem := tabPut memDefault a b s.mem }

/-- `n` bytes from `a`. -/
def State.bytes (s : State) (a : Nat) : Nat → List Byte
  | 0 => []
  | n + 1 => s.byte a :: s.bytes (a + 1) n

/-- Store bytes from `a`. -/
def State.setBytes (s : State) (a : Nat) : List Byte → State
  | [] => s
  | b :: r => (s.setByte a b).setBytes (a + 1) r

/-- The little-endian number of `n` bytes at `a` (R5). -/
def State.le (s : State) (a n : Nat) : Nat := ofLe (s.bytes a n)

/-- Store the `n` little-endian bytes of `v` at `a` (R5). -/
def State.setLe (s : State) (a n v : Nat) : State := s.setBytes a (leBytes n v)

/-- Zero the bytes [lo, hi). (DESIGN CHOICE, log entry 2). -/
def State.zeroMem (s : State) (lo hi : Nat) : State := { s with mem := tabClear lo hi s.mem }

/-- The canonical form of memory. -/
def memWf (m : List Host.Cell) : Bool := tabWf (fun _ => memDefault) m

/-! ### The address map (R385) -/

def poolEnd : Nat := 0x0180_0000
def lynxBase (n : Nat) : Nat := 0x1000_0000 + n * 0x20_0000
def coreP (n : Nat) : Nat := 0x1400_0000 + n * 0x10_0000
def coreX (n : Nat) : Nat := coreP n + 0x4_0000
def coreY (n : Nat) : Nat := coreP n + 0x8_0000
def fogBase : Nat := 0x1800_0000
def foxBase : Nat := 0x1900_0000
def settRam : Nat := 0x1A00_0000
def settRom : Nat := 0x1A80_0000
def dormBase : Nat := 0x1B00_0000
def regBase : Nat := 0x2000_0000
def ddrBase : Nat := 0x1_0000_0000
def ddrFwEnd : Nat := 0x1_0100_0000
def hostBase (f : Nat) : Nat := 0x80_0000_0000 + f * 0x10_0000_0000
def addrTop : Nat := 0x100_0000_0000

/-- The memories of R385's table. -/
inductive MemKind where
  | pool
  | lynx (n : Nat)
  | core (n bank : Nat)
  | fog | fox | settRam | settRom | dorm | regs
  | ddr
  | host (f : Nat)
  | unmapped
deriving DecidableEq, Repr

/-- Installed 5X capacity in bytes (R394). -/
def ddrInstalled (s : State) : Nat :=
  let c := s.getF MEMC_CFG_CH_SIZE
  2 * 2 ^ 30 * (if c < 4 then 2 ^ c else 1)

/-- The first address past the usable end of 5X memory (R394). -/
def ddrEnd (s : State) : Nat :=
  ddrBase + (if s.isSet MEMC_CFG_INLINE_ECC then ddrInstalled s / 8 * 7 else ddrInstalled s)

/-- The memory that holds an address (R385, R387, R394). -/
def kindOf (s : State) (a : Nat) : MemKind :=
  if a < poolEnd then .pool
  else if a < 0x1000_0000 then .unmapped
  else if a < 0x1100_0000 then .lynx ((a - 0x1000_0000) / 0x20_0000)
  else if a < 0x1400_0000 then .unmapped
  else if a < 0x1440_0000 then
    if (a - 0x1400_0000) % 0x10_0000 < 0xC_0000 then
      .core ((a - 0x1400_0000) / 0x10_0000) ((a - 0x1400_0000) % 0x10_0000 / 0x4_0000)
    else .unmapped
  else if a < fogBase then .unmapped
  else if a < 0x1840_0000 then .fog
  else if a < foxBase then .unmapped
  else if a < 0x1908_0000 then .fox
  else if a < Sys2Proof.Machine.settRam then .unmapped
  else if a < 0x1A08_0000 then .settRam
  else if a < Sys2Proof.Machine.settRom then .unmapped
  else if a < 0x1A84_0000 then .settRom
  else if a < dormBase then .unmapped
  else if a < 0x1B08_0000 then .dorm
  else if a < regBase then .unmapped
  else if a < 0x2018_0000 then .regs
  else if a < ddrBase then .unmapped
  else if a < ddrEnd s then .ddr
  else if a < 0x80_0000_0000 then .unmapped
  else if a < addrTop then
    let f := (a - 0x80_0000_0000) / 0x10_0000_0000
    if (a - 0x80_0000_0000) % 0x10_0000_0000 < 2 ^ 36 ∧ s.isSet (HOSTIF_F_XLAT_LO_EN f) then .host f else .unmapped
  else .unmapped

/-! ### The channels of 5X memory (R393, R411) -/

/-- The channel of an address of 5X memory. -/
def ddrChan (a : Nat) : Nat := (a - ddrBase) / 256 % 2

/-- [a, a+n) has bytes in channel `ch`. -/
def onChan (s : State) (ch a n : Nat) : Bool :=
  let lo := max a ddrBase
  let hi := min (a + n) (ddrEnd s)
  decide (lo < hi) && (decide ((lo - ddrBase) / 256 < (hi - 1 - ddrBase) / 256) || ddrChan lo == ch)

/-- A core's traffic is in the audio class (MEMC_QOS_MAP). -/
def coreAudio (s : State) (n : Nat) : Bool := s.getB MEMC_QOS_MAP_MARTEN n

/-- The transfers that several rows make, oldest first: whether in the audio class, and their ranges. Each has one
transaction outstanding on a channel it touches. (DESIGN CHOICE, log entry 78). -/
def underWay (s : State) : List (Bool × List (Nat × Nat)) :=
  (s.denrek.awaits.filterMap (fun e => match e.1 with | .memCopy a b n => some (false, [(a, n), (b, n)]) | _ => none))
    ++ s.cores.flatMap (fun c =>
      (c.2.dma.filter (fun t => t.2.admitted)).map (fun t => (coreAudio s c.1, [(t.2.srcA, t.2.len), (t.2.dst, t.2.len)]))
        ++ c.2.far.map (fun f => (coreAudio s c.1, [(f.addr, if f.vec then 16 else 4)])))

/-- Transfers of one class kind that touch channel `ch`. -/
def onChannel (s : State) (ch : Nat) (audio : Bool) : Nat :=
  (underWay s).countP (fun t => t.1 == audio && t.2.any (fun r => onChan s ch r.1 r.2))

/-- Transactions outstanding on channel `ch`: at most 112 of the other classes, at most 128 together. -/
def outstanding (s : State) (ch : Nat) : Nat := min 128 (min 112 (onChannel s ch false) + onChannel s ch true)

/-- No entry is free for an access of [a, a+n): the other classes leave 16 entries to the audio class (R393, R411). -/
def chanFull (s : State) (audio : Bool) (a n : Nat) : Bool :=
  (List.range 2).any (fun ch => onChan s ch a n
    && (if audio then decide (128 ≤ outstanding s ch) else decide (112 ≤ onChannel s ch false)))

/-- MEMC_OUTST_ch as it reads. -/
def showOutst (s : State) (ch : Nat) : Word :=
  let w := (MEMC_OUTST_NOW ch).insert (s.reg (MEMC_OUTST ch)) (outstanding s ch)
  (MEMC_OUTST_MAX ch).insert w (max ((MEMC_OUTST_MAX ch).of w) (outstanding s ch))

/-- An access of [a, a+n) takes its entry: `more` beside those outstanding (MEMC_OUTST_ch.MAX). -/
def noteOutst (a n more : Nat) (s : State) : State :=
  forN 2 (fun ch s => if onChan s ch a n then s.maxF (MEMC_OUTST_MAX ch) (min 128 (outstanding s ch + more)) else s) s

/-- What a register reads as: device time, the slewing frequency, the selected log record and
the transactions outstanding are computed.
(DEDUCED, log entry 12). -/
def State.look (s : State) (a : Nat) : Word :=
  if a == CLK_TIME_LO then BitVec.ofNat 32 s.now
  else if a == CLK_TIME_HI then BitVec.ofNat 32 (s.now / 2 ^ 32)
  else if a == CLK_FREQ then BitVec.ofNat 32 (ofSigned 32 (loopFreq s))
  else if ERR_LOG_REC 0 ≤ a ∧ a < ERR_LOG_REC 8 then
    BitVec.ofNat 32 (recField (logSelected s) (a - ERR_LOG_REC 0) 4)
  else if a == MEMC_OUTST 0 then showOutst s 0
  else if a == MEMC_OUTST 1 then showOutst s 1
  else s.reg a

/-- What a register access reads: W1C and RC bits as they stood before this cycle's events (R20). -/
def State.cycLook (s : State) (a : Nat) : Word :=
  match tabGet none a s.cyc.was with
  | none => s.look a
  | some w =>
    let m := BitVec.ofNat 32 (accMask (fun c => c == .w1c || c == .rc) a)
    (s.look a &&& ~~~m) ||| (w &&& m)

/-! ### Checked accesses (R388 to R401) -/

/-- Initiator class codes (MPU_REG_r_CFG.INIT bits). -/
def clsHOST : Nat := 0
def clsMARTEN : Nat := 1
def clsLYNX : Nat := 2
def clsFOG : Nat := 3
def clsAUDIO : Nat := 4
def clsFOX : Nat := 5
def clsSETT : Nat := 6
def clsTWIN : Nat := 7

/-- On whose behalf a checked access is made: firmware's rights, or a session (a HOST access: any OPEN session of its
port, R507). -/
inductive Who where
  | fw
  | sess (l : List Nat)
deriving DecidableEq, Repr

/-- A checked access: initiator class, rights, write or read. -/
structure Acq where
  cls : Nat
  who : Who
  write : Bool
deriving DecidableEq, Repr

/-- What checking one byte answers: admitted, refused, or the access waits (R395, R509). -/
inductive Adm where
  | ok | bad | wait
deriving DecidableEq, Repr

/-- Whether MPU region `r`, as it is in force (R404), admits the page for the access (R398). -/
def regionAdmits (s : State) (q : Acq) (page r : Nat) : Bool :=
  s.inForce (MPU_REG_CFG_EN r) == 1
  && decide (s.inForce (MPU_REG_BASE_PAGE r) ≤ page) && decide (page ≤ s.inForce (MPU_REG_LIMIT_PAGE r))
  && s.inForce (if q.write then MPU_REG_CFG_W r else MPU_REG_CFG_R r) == 1
  && bitOf (s.inForce (MPU_REG_CFG_INIT r)) q.cls
  && match q.who with
     | .fw => s.inForce (MPU_REG_CFG_FW r) == 1
     | .sess l => (s.inForce (MPU_REG_CFG_ANY r) == 1 && !l.isEmpty) || l.contains (s.inForce (MPU_REG_CFG_SESSION r))

/-- Whether the MPU admits a byte (R398). -/
def mpuAdmits (s : State) (q : Acq) (a : Nat) : Bool :=
  s.getF MPU_CTRL_EN == 0 || (List.range 256).any (fun r => regionAdmits s q (a / 4096) r)

/-- The state of core `n` (MARTEN_n_CTRL.STATE codes). -/
def coreState (s : State) (n : Nat) : Nat := s.getF (MARTEN_CTRL_STATE n)

/-- Whether function `f`'s requests wait (R509). -/
def hostWaits (s : State) (f : Nat) : Bool :=
  s.getF (HOSTIF_F_STAT_BME f) == 0 || s.getF (HOSTIF_F_STAT_DSTATE f) == 3

/-- The bus address of a window address would pass 2^64 - 1 (R505). -/
def busOverflows (s : State) (f a : Nat) : Bool :=
  let b := s.getF (HOSTIF_F_XLAT_LO_BASE f) * 4096 + 2 ^ 32 * s.getF (HOSTIF_F_XLAT_HI_BASE f)
  decide (2 ^ 64 ≤ b + (a - hostBase f))

/-- The DOA ring in Fox SRAM, which cores of FOX_MARTEN.CORE_MASK reach (R254, R385). -/
def inDoaRing (a : Nat) : Bool := decide (foxBase + 0x2000 ≤ a) && decide (a < foxBase + 0x4000)

/-- Check one byte of a checked access (R385, R386, R387, R395, R398). `core` is the issuing core of a MARTEN access. -/
def admission (s : State) (q : Acq) (core : Option Nat) (a : Nat) : Adm :=
  let mpu : Adm := if mpuAdmits s q a then .ok else .bad
  match kindOf s a with
  | .pool => mpu
  | .lynx n => if q.cls == clsMARTEN && q.who == .fw then .ok else if q.cls == clsLYNX && core == some n then .ok else .bad
  | .core n b =>
      if q.write && b == 0 && (coreState s n == 2 || coreState s n == 3) then .bad else mpu
  | .fog => if q.cls == clsFOG then .ok else .bad
  | .fox =>
      match core with
      | some n => if q.cls == clsMARTEN && inDoaRing a && s.getB FOX_MARTEN_CORE_MASK n then .ok else .bad
      | none => if q.cls == clsFOX then .ok else .bad
  | .ddr =>
      if s.isSet MEMC_STAT_TRAIN_FAIL then .bad
      else if s.getF MEMC_STAT_TRAINED == 0 then .wait
      else if a < ddrFwEnd && q.who != .fw then .bad
      else mpu
  | .host f =>
      if hostWaits s f then .wait else if busOverflows s f a then .bad else mpu
  | _ => .bad

/-- What a checked range answers: admitted, refused at an address, or it waits. -/
inductive Chk where
  | ok
  | bad (a : Nat)
  | wait
deriving DecidableEq, Repr

/-- Check the pages of a range in order; `k` pages remain, the next byte is `a` (R400). -/
def checkPages (s : State) (q : Acq) (core : Option Nat) : Nat → Nat → Chk
  | 0, _ => .ok
  | k + 1, a =>
    match admission s q core a with
    | .bad => .bad a
    | .wait => match checkPages s q core k ((a / 4096 + 1) * 4096) with
      | .bad b => .bad b
      | _ => .wait
    | .ok => checkPages s q core k ((a / 4096 + 1) * 4096)

/-- Check every byte of [a, a+n) before any byte moves (R400). -/
def checkRange (s : State) (q : Acq) (core : Option Nat) (a n : Nat) : Chk :=
  if n = 0 then .ok
  else if addrTop < a + n then .bad 0
  else checkPages s q core ((a + n - 1) / 4096 - a / 4096 + 1) a

/-! ### The error log, error bits and FAULT_N (R492, R493) -/

/-- Append an error-log record (R493). (DEDUCED, log entry 49). -/
def State.errLog (s : State) (cls unit status session port seq addr : Nat) : State :=
  let r : ErrRec := ⟨s.now, cls, unit, status, session, port, seq, addr⟩
  let full := decide (64 ≤ s.denrek.log.length)
  let s := { s with denrek := { s.denrek with log := (if full then s.denrek.log.drop 1 else s.denrek.log) ++ [r] } }
  (when full (fun s => s.incF ERR_LOG_LOST_COUNT 1) s).addF ERR_LOG_WR_IDX 1

/-- FAULT_N is driven low (R492): an enabled ERR_STAT bit, step S4 or CRIT, CRIT not yet cleared (R100), the watchdog
cause (R121), or failed boot (R122). -/
def faultNLow (s : State) : Bool :=
  decide ((s.reg ERR_STAT_0).toNat &&& (s.reg ERR_FAULT_EN_0).toNat ≠ 0)
  || decide ((s.reg ERR_STAT_1).toNat &&& (s.reg ERR_FAULT_EN_1).toNat ≠ 0)
  || decide ((s.reg ERR_STAT_2).toNat &&& (s.reg (ERR_FAULT_EN_2 0)).toNat ≠ 0)
  || decide ((s.reg ERR_STAT_3).toNat &&& (s.reg (ERR_FAULT_EN_2 1)).toNat ≠ 0)
  || decide (4 ≤ s.getF PWR_STATUS_STEP) || s.isSet PWR_EVT_CRIT || s.isSet SYS_RST_CAUSE_WDOG
  || s.getF SYS_BOOT_STATUS_CODE == 0xFF

/-- RESET_OUT_N is high: no CORE reset is in progress and boot has reached READY (R106). -/
def resetOutN (s : State) : Bool := s.pins.porN && !s.boot.inReset && s.getF SYS_BOOT_STATUS_CODE == 5

/-- The watchdog's count restarts when a write of SYS_WDOG enables it; `old` is the state before the write (R121).
(DESIGN CHOICE, log entry 70). -/
def wdogFrom (old s : State) : State :=
  if s.isSet SYS_WDOG_EN && !old.isSet SYS_WDOG_EN then { s with boot := { s.boot with wdogFrom := s.now } } else s

/-- The causes FAULT_PIN reports: [0] thermal, [1] watchdog, [2] engine, [3] memory (R453). -/
def faultCauses (s : State) : Nat :=
  bit (decide (4 ≤ s.getF PWR_STATUS_STEP) || s.isSet PWR_EVT_CRIT)
  + 2 * bit (s.isSet SYS_RST_CAUSE_WDOG)
  + 4 * bit (decide ((s.reg ERR_STAT_1).toNat &&& (s.reg ERR_FAULT_EN_1).toNat ≠ 0))
  + 8 * bit (decide ((s.reg ERR_STAT_0).toNat &&& (s.reg ERR_FAULT_EN_0).toNat ≠ 0))

/-! ### Sessions, owners, votes -/

/-- A session's record. -/
def State.session (s : State) (n : Nat) : Session := tabGet Session.reset n s.denrek.sessions

/-- Store a session's record. -/
def State.setSession (s : State) (n : Nat) (x : Session) : State :=
  { s with denrek := { s.denrek with sessions := tabPut Session.reset n x s.denrek.sessions } }

/-- Session `n` is OPEN. -/
def sessOpen (s : State) (n : Nat) : Bool := (s.session n).state == 1

/-- The OPEN sessions of a port, ascending. -/
def openSessions (s : State) (p : Nat) : List Nat :=
  (s.denrek.sessions.filter (fun e => e.2.state == 1 && e.2.port == p)).map (·.1)

/-- Who holds a resource (R423). -/
def State.owner (s : State) (r : Res) : Option Nat := (s.denrek.owners.find? (fun e => e.1 == r)).map (·.2)

/-- Give a resource to a session. -/
def State.claim (s : State) (r : Res) (n : Nat) : State :=
  { s with denrek := { s.denrek with owners := s.denrek.owners.filter (fun e => !(e.1 == r)) ++ [(r, n)] } }

/-- Release a resource. -/
def State.release (s : State) (r : Res) : State :=
  { s with denrek := { s.denrek with owners := s.denrek.owners.filter (fun e => !(e.1 == r)) } }

/-- The session holds the resource. -/
def owns (s : State) (r : Res) (n : Nat) : Bool := s.owner r == some n

/-- The session holds the resource, or nobody does. -/
def ownsOrFree (s : State) (r : Res) (n : Nat) : Bool := s.owner r == none || s.owner r == some n

/-- A session's vote. -/
def State.vote (s : State) (v : Vote) (n : Nat) : Option Nat :=
  (s.denrek.votes.find? (fun e => e.1 == v && e.2.1 == n)).map (·.2.2)

/-- Replace a session's vote (R519). -/
def State.setVote (s : State) (v : Vote) (n x : Nat) : State :=
  { s with denrek := { s.denrek with
      votes := s.denrek.votes.filter (fun e => !(e.1 == v && e.2.1 == n)) ++ [(v, n, x)] } }

/-- The greatest vote (R519), zero where none is cast. -/
def maxVote (s : State) (v : Vote) : Nat :=
  s.denrek.votes.foldl (fun m e => if e.1 == v then max m e.2.2 else m) 0

/-- The OR of all votes (R519). -/
def orVote (s : State) (v : Vote) : Nat :=
  s.denrek.votes.foldl (fun m e => if e.1 == v then m ||| e.2.2 else m) 0

/-! ### Port state, notices (R420, R453) -/

/-- What port `p` keeps beside its page. -/
def State.port (s : State) (p : Nat) : PortSt := tabGet PortSt.reset p s.denrek.ports

/-- Store a port's state; MBOX_p_STAT.NOTICES follows the queue. -/
def State.setPort (s : State) (p : Nat) (x : PortSt) : State :=
  ({ s with denrek := { s.denrek with ports := tabPut PortSt.reset p x s.denrek.ports } }).setF
    (MBOX_STAT_NOTICES p) x.notices.length

/-- Queue a notice at a port: a code already waiting only counts up and takes the newest detail; a full queue of 16
takes no more (R420). -/
def queueNotice (code detail time : Nat) (q : List Notice) : List Notice :=
  if q.any (fun n => n.code == code) then
    q.map (fun n => if n.code == code then { n with count := satAdd 32 n.count 1, detail := detail } else n)
  else if 16 ≤ q.length then q
  else q ++ [⟨code, detail, 0, time⟩]

/-- Raise a notice at every eligible port (R453). -/
def State.notice (s : State) (code detail : Nat) : State :=
  forN 10 (fun p s =>
    if s.isSet (MBOX_STAT_READY p) && !(openSessions s p).isEmpty
        && (code == 8 || bitOf (s.port p).mask code) then
      s.setPort p { s.port p with notices := queueNotice code detail s.now (s.port p).notices }
    else s) s

/-- Apply `f`; when it drives FAULT_N low anew, raise the FAULT_PIN notice (R453). -/
def withFaultPin (f : State → State) (s : State) : State :=
  let s' := f s
  if faultNLow s' && !faultNLow s then s'.notice 9 (faultCauses s') else s'

/-! ### Sync objects (R482, R483) -/

/-- The value of object `i`. -/
def syncValue (s : State) (i : Nat) : Nat := s.r64 (SYNC_OBJ_LO i)

/-- What an object has taken in this fabric cycle. -/
def syncCyc (s : State) (i : Nat) : SyncCyc := (tabGet none i s.denrek.syncIn).getD ⟨syncValue s i, [], 0⟩

/-- The value at the end of the cycle before, which waits compare (R484). -/
def syncSettled (s : State) (i : Nat) : Nat := (syncCyc s i).start

/-- Insert an input behind those of its place and earlier ones (R483). -/
def insertInput (x : Nat × Nat) : List (Nat × Nat) → List (Nat × Nat)
  | [] => [x]
  | y :: r => if x.1 < y.1 then x :: y :: r else y :: insertInput x r

/-- The total weight of inputs. -/
def weightOf (l : List (Nat × Nat)) : Nat := l.foldl (fun a x => a + x.2) 0

/-- The cycle's first eight inputs and its signals make the value: the greater of the saturating sum and the greatest
signal; the other inputs are summed into the overflow stage (R483). Saturation sets SYNC_STAT.SAT (R482). -/
def syncPut (i : Nat) (e : SyncCyc) (s : State) : State :=
  let sum := e.start + weightOf (e.ins.take 8)
  let s := { s with denrek := { s.denrek with
    syncIn := tabPut none i (some e) s.denrek.syncIn
    syncOvf := tabPut 0 i (weightOf (e.ins.drop 8)) s.denrek.syncOvf } }
  let s := s.set64 (SYNC_OBJ_LO i) (max (min sum (2 ^ 64 - 1)) e.top)
  when (decide (2 ^ 64 ≤ sum)) (fun s => withFaultPin (fun s => s.hitF ERR_STAT_3_SYNC_SAT 1) (s.hitF SYNC_STAT_SAT 1)) s

/-- Places of inputs in a cycle's order (R483): the overflow carried over, occurrences by event number, then adds. -/
def placeEvent (ev : Nat) : Nat := ev + 1
def placeAdd : Nat := 4097

/-- One increment input of weight `w` at a place of the order (R483). -/
def syncInc (place i w : Nat) (s : State) : State :=
  let e := syncCyc s i
  syncPut i { e with ins := insertInput (place, w) e.ins } s

/-- A signal of `v` (R482, R483). -/
def syncSignalNow (i v : Nat) (s : State) : State :=
  let e := syncCyc s i
  syncPut i { e with top := max e.top v } s

/-- A new fabric cycle: the first input of each object is the sum carried over (R483). (DEDUCED, log entry 46). -/
def syncCycle (s : State) : State :=
  let l := s.denrek.syncOvf
  let s := { s with denrek := { s.denrek with syncIn := [], syncOvf := [] }, cyc := Cycle.reset }
  let s := when (!l.isEmpty) (fun s => s.incF SYNC_STAT_OVF 1) s
  l.foldl (fun s e => syncInc 0 e.1 e.2 s) s

/-- The bindings in force, as (entry, event, object) (R452). -/
def bindings (s : State) : List (Nat × Nat × Nat) :=
  s.regs.filterMap (fun e =>
    if SYNC_BIND 0 ≤ e.1 ∧ e.1 < SYNC_BIND 1024 ∧ (SYNC_BIND_EN 0).of e.2 = 1 then
      some ((e.1 - SYNC_BIND 0) / 4, (SYNC_BIND_EVENT 0).of e.2, (SYNC_BIND_OBJ 0).of e.2)
    else none)

/-! ### Marten interrupt sources (R297) -/

/-- A core. -/
def State.core (s : State) (n : Nat) : Core := tabGet Core.reset n s.cores

/-- Store a core. -/
def State.setCore (s : State) (n : Nat) (c : Core) : State := { s with cores := tabPut Core.reset n c s.cores }

/-- A control register of a core, by CR code (R322). -/
def Core.creg (c : Core) (k : Nat) : Nat := (tabGet 0 k c.cr).toNat

/-- Store a control register. -/
def Core.setCreg (c : Core) (k v : Nat) : Core := { c with cr := tabPut 0 k (BitVec.ofNat 40 v) c.cr }

/-- The 32 pending sources. -/
def Core.ipend (c : Core) : Nat := c.creg 0x28 + 65536 * c.creg 0x29

/-- Store the pending sources. -/
def Core.setIpend (c : Core) (v : Nat) : Core := (c.setCreg 0x28 (v % 65536)).setCreg 0x29 (v / 65536 % 65536)

/-- Raise source `k` of core `n`; a HOP raised while pending counts an overrun (R297). -/
def raiseSource (n k : Nat) (s : State) : State :=
  let c := s.core n
  let s' := s.setCore n (c.setIpend (c.ipend ||| 2 ^ k))
  if k == 22 && bitOf c.ipend 22 then
    (s'.hitB MARTEN_EVT_OVERRUN n).incF (MARTEN_PERF_HOP_OVR_COUNT n) 1
  else s'

/-- One occurrence of a hardware event (R451): every object bound in this cycle is incremented (R452, R473), and every EVSEL entry that selects
the event raises its source. In PARK none occurs but the alarm (R82). -/
def State.event (s : State) (ev : Nat) : State :=
  if s.pwr.phase = .parked ∧ ev ≠ 0x001 then s else
  let objs := (bindings s).filterMap (fun b => if b.2.1 == ev then some b.2.2 else none)
  let gone := s.cyc.gone.filterMap (fun b =>
    if b.1 == ev && !objs.contains b.2 && s.isSet (SYNC_OWN_VALID b.2) then some b.2 else none)
  let s := (objs ++ gone).foldl (fun s i => syncInc (placeEvent ev) i 1 s) s
  forN 4 (fun n s => forN 16 (fun k s =>
    if s.isSet (MARTEN_EVSEL_EN n k) && s.getF (MARTEN_EVSEL_EVENT n k) == ev then raiseSource n k s else s) s) s

/-! ### ECC and checked transfers -/

/-- ECC group of an address (MEMC_ECC_g). -/
def eccGroup (s : State) (a : Nat) : Nat :=
  match kindOf s a with
  | .pool => 0
  | .lynx _ => 1
  | .core _ _ => 2
  | .fog => 3
  | .fox => 4
  | .dorm => 6
  | .ddr => 7
  | _ => 5

/-- The session an access carries, as fault records report it: firmware and an empty list as 1,023 (R507). -/
def Who.session : Who → Nat
  | .fw => 1023
  | .sess l => l.headD 1023

/-- Log an uncorrected error of the word at `a` (R389): address, info, count, events, notice. `init` is the class,
0xF for an unchecked initiator. -/
def logUe (a init sess : Nat) (scrub : Bool) (s : State) : State :=
  let g := eccGroup s a
  let s := s.set64 MEMC_ERR_ADDR_LO a
  let s := s.setReg MEMC_ERR_INFO (BitVec.ofNat 32 (g + 16 * init + 256 * bit scrub + 65536 * (sess % 1024)))
  let s := (s.incF (MEMC_ECC_UE g) 1).hitF MEMC_EVT_UE 1
  let s := withFaultPin (fun s => if g == 7 then s.hitF ERR_STAT_0_UE_5X 1 else s.hitF ERR_STAT_0_UE_CHIP 1) s
  let s := s.errLog 5 g 0x0401 (if sess == 1023 then 0xFFFF else sess) 0xFF 0 a
  (s.notice 5 (s.reg MEMC_ERR_INFO).toNat).event 0x230

/-- Words of [a, a+n) that the given error list names, lowest first. -/
def errWords (l : List Nat) (a n : Nat) : List Nat :=
  l.filter (fun w => decide (w < a + n) && decide (a < w + 8))

/-- Correct the single-bit errors of [a, a+n): count each and write the word back (R389). -/
def fixCe (a n : Nat) (s : State) : State :=
  let ws := errWords s.ecc.ce a n
  ws.foldl (fun s w => (s.incF (MEMC_ECC_CE (eccGroup s w)) 1).hitF MEMC_EVT_CE 1)
    { s with ecc := { s.ecc with ce := s.ecc.ce.filter (fun w => !ws.contains w) } }

/-- What a whole write replaces: a word of on-chip SRAM, 64 bytes of 5X memory (R390, R392). -/
def eccUnit (w : Nat) : Nat := if w < ddrBase then 8 else 64

/-- A write of whole units replaces the check bits, so it removes errors of the words it covers so (R390, R392). -/
def coverErr (a n : Nat) (l : List Nat) : List Nat :=
  l.filter (fun w => let u := eccUnit w; !(decide (a ≤ w / u * u) && decide (w / u * u + u ≤ a + n)))

/-- Words in error that a read finds: in 5X memory only with inline ECC (R392). -/
def State.ues (s : State) : List Nat :=
  if s.isSet MEMC_CFG_INLINE_ECC then s.ecc.ue else s.ecc.ue.filter (fun w => decide (w < ddrBase))

/-- Words in error that a write of [a, a+n) must read first: their unit is touched and not covered whole (R390, R392). -/
def rmwErrs (s : State) (a n : Nat) : List Nat :=
  coverErr a n (s.ues.filter (fun w => let u := eccUnit w; decide (w / u * u < a + n) && decide (a < w / u * u + u)))

/-- Record a rejected access (R401) and log it (R493). -/
def rejectAccess (q : Acq) (a : Nat) (wrap : Bool) (s : State) : State :=
  let s := s.hitF ERR_STAT_0_MPU 1
  let s :=
    if s.isSet MPU_FAULT_VALID then s.incF MPU_FAULT_CNT_COUNT 1
    else (((s.note MPU_FAULT).mark MPU_FAULT 1).setReg MPU_FAULT (BitVec.ofNat 32 (1 + 2 * bit q.write + 4 * bit wrap + 8 * bit (q.who == .fw)
            + 16 * q.cls + 65536 * (q.who.session % 1024)))).set64 MPU_FADDR_LO a
  s.errLog 6 0 0x0107 (match q.who with | .fw => 0xFFFF | w => w.session) 0xFF 0 a

/-- What a checked transfer answers. -/
inductive Acc2 where
  | data (bs : List Byte)
  | refused (a : Nat)
  | ecc (a : Nat)
  | wait
deriving DecidableEq, Repr

/-- KiB moved by a QoS class in 5X memory (MEMC_BW_c), counted up to whole KiB. -/
def bwClass (s : State) (q : Acq) (core : Option Nat) : Nat :=
  if q.cls == clsAUDIO || q.cls == clsFOX then 0
  else if q.cls == clsMARTEN then (match core with | some n => if s.getB MEMC_QOS_MAP_MARTEN n then 0 else 3 | none => 3)
  else if q.cls == clsLYNX then 1 else if q.cls == clsFOG then 2 else 3

/-- Count the traffic of a made access of 5X memory. -/
def countBw (q : Acq) (core : Option Nat) (a n : Nat) (s : State) : State :=
  if kindOf s a = .ddr then
    let c := bwClass s q core
    let t := tabGet 0 c s.ecc.bw + n
    { s with ecc := { s.ecc with bw := tabPut 0 c (t % 1024) s.ecc.bw } }.incF (MEMC_BW_KIB c) (t / 1024)
  else s

/-- The entry of one access: a core's is counted since its issue (R393). -/
def takeEntry (core : Option Nat) (a n : Nat) (s : State) : State := noteOutst a n (if core.isSome then 0 else 1) s

/-- Bytes enter memory with fresh check bits (R390). -/
def State.overwrite (s : State) (a : Nat) (bs : List Byte) : State :=
  { s with ecc := { s.ecc with ue := coverErr a bs.length s.ecc.ue, ce := coverErr a bs.length s.ecc.ce } }.setBytes a bs

/-- A checked read of [a, a+n) as one access (R389, R399, R400). (DESIGN CHOICE, log entry 47). -/
def State.readChecked (s : State) (q : Acq) (core : Option Nat) (a n : Nat) : State × Acc2 :=
  match checkRange s q core a n with
  | .wait => (s, .wait)
  | .bad b => (rejectAccess q b (decide (addrTop < a + n)) s, .refused b)
  | .ok =>
    if chanFull s (bwClass s q core == 0) a n then (s, .wait)
    else match errWords s.ues a n with
    | w :: _ => (logUe w q.cls q.who.session false s, .ecc w)
    | [] => (countBw q core a n (takeEntry core a n (fixCe a n s)), .data (s.bytes a n))

/-- A checked write as one access (R390, R399, R400). A partial write of a word holding a UE leaves it unwritten. -/
def State.writeChecked (s : State) (q : Acq) (core : Option Nat) (a : Nat) (bs : List Byte) : State × Acc2 :=
  let n := bs.length
  match checkRange s q core a n with
  | .wait => (s, .wait)
  | .bad b => (rejectAccess q b (decide (addrTop < a + n)) s, .refused b)
  | .ok =>
    if chanFull s (bwClass s q core == 0) a n then (s, .wait)
    else match rmwErrs s a n with
    | w :: _ => (logUe w q.cls q.who.session false s, .ecc w)
    | [] => (countBw q core a n (takeEntry core a n (s.overwrite a bs)), .data [])

/-- The rights of a session's SETT_DMA transfer. -/
def settAcq (sess : Nat) (write : Bool) : Acq := ⟨clsSETT, .sess [sess], write⟩

/-- Take the next free value of the model's counter. (DESIGN CHOICE, log entry 1). -/
def State.fresh (s : State) : State × Nat := ({ s with freeCtr := s.freeCtr + 1 }, Config.freeValue s.freeCtr)

/-! ### Which registers an initiator reaches (R122, R225, R254, R288, R514, R583, R593) -/

/-- The GUST registers a bound core may write (R225). -/
def gustBoundWrite (a : Nat) : Bool :=
  a == GUST_COEF_ADDR || a == GUST_COEF_DATA || a == GUST_LOAD_LO || a == GUST_LOAD_HI || a == GUST_LOAD_CTRL
    || a == GUST_CTRL

/-- The DBG registers and SYS_ID that a locked debug port reaches (R583). -/
def dbgLockedSet (a : Nat) (write : Bool) : Bool :=
  if write then a == DBG_CHAL_CTRL || (decide (DBG_TOKEN 0 ≤ a) && decide (a < DBG_TOKEN 16)) || a == DBG_UNLOCK
  else a / 65536 == 0x2013 || a == SYS_ID

/-- The SYS registers a host port reads at any time (R122). -/
def sysOpen (p a : Nat) : Bool :=
  a == SYS_ID || a == SYS_BOOT_STATUS || a == SYS_RST_CAUSE || ((p == 0 || 8 ≤ p) && a == SYS_DL)

/-- A port's own MBOX page, and the pages of rings assigned to it. -/
def ownPage (s : State) (p a : Nat) : Bool :=
  (decide (MBOX_IN p 0 0 ≤ a) && decide (a < MBOX_IN (p + 1) 0 0))
    || (a / 65536 == 0x2004 && s.isSet (RING_CFG_EN (a % 65536 / 0x400)) && s.getF (RING_CFG_PORT (a % 65536 / 0x400)) == p)

/-- Direct mode is open on this port (R522). -/
def directOn (s : State) (p : Nat) : Bool := p == 8 && s.isSet HOSTIF_DIRECT_STAT_OPEN

/-- Whether an initiator reaches the register at `a`; where it does not, it receives ACCESS_FAULT.
(DEDUCED, log entry 50). -/
def reaches (s : State) (i : Initiator) (a : Nat) (write : Bool) : Bool :=
  match i with
  | .sett => a / 65536 != 0x2013
  | .debug => dbgLockedSet a write || (s.isSet DBG_STAT_UNLOCKED && s.getB DBG_STAT_SCOPE 3)
  | .marten n =>
    (decide (MARTEN_CTRL n ≤ a) && decide (a < MARTEN_CTRL n + 0x1000)) || a == MARTEN_XCORE
      || (a / 65536 == 0x200A && s.getB GUST_MARTEN_CORE_MASK n && (!write || gustBoundWrite a))
      || (a == FOX_DOA_PTR && s.getB FOX_MARTEN_CORE_MASK n)
  | .port p => directOn s p || sysOpen p a || ownPage s p a || (p == 8 && write && a == HOSTIF_DIRECT)

end Sys2Proof.Machine
end

