-- ==== Sys2Proof/Machine/Operands.lean ====
section
/-! DEFINITION. The operand form of every Denrek command: the 64-byte descriptor and its PARAM fields (R414, R444),
the checks of R448 in their order, the evaluation of a command (R476, R478, R482), its finish (R485, R489), register
images (R445), bindings (R446, R452) and OUT records (R447). -/

namespace Sys2Proof

/-! ### Descriptors (R414's tables) and PARAM fields (R444) -/

/-- `n` bytes of the descriptor at byte offset `off`. -/
def Desc.at (d : Desc) (off n : Nat) : Nat := d.raw.toNat / 2 ^ (8 * off) % 2 ^ (8 * n)

def Desc.opcode (d : Desc) : Nat := d.at 0 2
def Desc.flags (d : Desc) : Nat := d.at 2 2
def Desc.session (d : Desc) : Nat := d.at 4 2
def Desc.waitId (d : Desc) : Nat := d.at 6 2
def Desc.signalId (d : Desc) : Nat := d.at 8 2
def Desc.tag (d : Desc) : Nat := d.at 0xC 4
def Desc.waitValue (d : Desc) : Nat := d.at 0x10 8
def Desc.signalValue (d : Desc) : Nat := d.at 0x18 8
def Desc.overlap (d : Desc) : Bool := Machine.bitOf d.flags 0
def Desc.idempotent (d : Desc) : Bool := Machine.bitOf d.flags 1
def Desc.waitEn (d : Desc) : Bool := Machine.bitOf d.flags 2
def Desc.signalEn (d : Desc) : Bool := Machine.bitOf d.flags 3
def Desc.fence (d : Desc) : Bool := Machine.bitOf d.flags 4
def Desc.notify (d : Desc) : Bool := Machine.bitOf d.flags 5
def Desc.param (d : Desc) (off n : Nat) : Nat := d.at (0x20 + off) n

/-- The offset of each PARAM field from its size (R444); `o` is the offset after the previous field. -/
def fieldOffs : Nat → List Nat → List Nat
  | _, [] => []
  | o, n :: r => (o + n - 1) / n * n :: fieldOffs ((o + n - 1) / n * n + n) r

/-- PARAM field `i` of a layout given by its sizes (R444). -/
def Desc.arg (d : Desc) (sizes : List Nat) (i : Nat) : Nat := d.param ((fieldOffs 0 sizes).getD i 0) (sizes.getD i 0)

/-- The value of the fields of a layout within PARAM, every other byte zero. -/
def Desc.covered (d : Desc) (sizes : List Nat) : Nat :=
  ((fieldOffs 0 sizes).zip sizes).foldl (fun v f => v + d.param f.1 f.2 * 2 ^ (8 * f.1)) 0

/-- Every PARAM byte that no field covers is zero (R444). -/
def Desc.clean (d : Desc) (sizes : List Nat) : Bool := d.param 0 32 == d.covered sizes

/-- Element `i` of an array field at PARAM offset `off`, `n` bytes an element. -/
def Desc.elem (d : Desc) (off n i : Nat) : Nat := d.param (off + n * i) n

end Sys2Proof

namespace Sys2Proof.Machine

/-! ### Status codes (R450) -/

def stDONE : Nat := 0x0000
def stBADOP : Nat := 0x0101
def stBAD : Nat := 0x0102
def stNOSESS : Nat := 0x0103
def stNOTOWN : Nat := 0x0104
def stCONFLICT : Nat := 0x0105
def stNORES : Nat := 0x0106
def stACCESS : Nat := 0x0107
def stMISS : Nat := 0x0201
def stTIMEOUT : Nat := 0x0202
def stHALTED : Nat := 0x0301
def stABORTED : Nat := 0x0302
def stFAILOVER : Nat := 0x0303
def stECC : Nat := 0x0401
def stENGINE : Nat := 0x0402
def stVERIFY : Nat := 0x0601

/-- Whether a status counts as an error (R450). -/
def stIsError (x : Nat) : Bool :=
  x == stBADOP || x == stBAD || x == stNOSESS || x == stNOTOWN || x == stCONFLICT || x == stNORES || x == stACCESS
    || x == stTIMEOUT || x == stECC || x == stENGINE || x == stVERIFY

/-- A held command as a descriptor. -/
def Cmd.desc (c : Cmd) : Desc := ⟨c.src, c.seq, c.raw⟩

/-- The opcodes of R443. -/
def opKnown (op : Nat) : Bool :=
  let c := op % 256
  let top := match op / 256 with
    | 1 => 8 | 2 => 7 | 3 => 8 | 4 => 0xB | 5 => 0xA | 6 => 9 | 7 => 0x10 | 8 => 7 | 9 => 9 | 0xA => 6 | 0xB => 8
    | 0xC => 6 | 0xD => 0xD | 0xE => 8 | _ => 0
  decide (1 ≤ c) && decide (c ≤ top)

/-- Commands that need no session (R449). -/
def opNoSession (op : Nat) : Bool := op == 0x0101 || op == 0x0E01 || op == 0x0E08

/-- The host port that carries a command. -/
def portOf (s : State) : Src → Nat
  | .mbox p => p
  | .ring r => s.getF (RING_CFG_PORT r)

/-! ### Answers and checks -/

/-- What a command's own evaluation answers: finished DONE, finished with another status, continuing until an event
ends it, waiting for memory that cannot be reached yet, or ended with the device's reset. -/
inductive Rsp where
  | done (result : Nat) (ext : List Word)
  | fail (status result : Nat)
  | later (w : Await)
  | stall
  | gone
deriving DecidableEq, Repr

/-- DONE without a result. -/
def Rsp.ok : Rsp := .done 0 []

/-- A check: 0 where it holds, else the status. -/
def need (c : Bool) (st : Nat) : Nat := if c then 0 else st

/-- The first failing check (R448). -/
def firstBad : List Nat → Nat
  | [] => 0
  | 0 :: r => firstBad r
  | st :: _ => st

/-- Make the checks, then go on. (DEDUCED, log entry 16). -/
def checked (l : List Nat) (s : State) (k : State × Rsp) : State × Rsp :=
  match firstBad l with
  | 0 => k
  | st => (s, .fail st 0)

/-- Go on with the bytes of a memory access, or end the command (R400, R450). -/
def withMem (r : State × Acc2) (k : State → List Byte → State × Rsp) : State × Rsp :=
  match r.2 with
  | .data bs => k r.1 bs
  | .refused a => (r.1, .fail stACCESS a)
  | .ecc _ => (r.1, .fail stECC 0)
  | .wait => (r.1, .stall)

/-- A field of size 8 that holds an address has bits [63:40] zero (R444). -/
def addrOk (a : Nat) : Nat := need (decide (a < 2 ^ 40)) stBAD

/-! ### Ownership checks (R519, R521) -/

/-- The ownership of `r` was changed in this cycle by a command of another origin (R521). -/
def isStale (s : State) (d : Desc) (r : Res) : Bool :=
  s.denrek.changed.any (fun e => e.1 == r && decide (e.2 ≠ d.src))

/-- Owner-only (R519, R521). -/
def ownC (s : State) (d : Desc) (r : Res) : Nat :=
  if owns s r d.session then need (!isStale s d r) stCONFLICT else stNOTOWN

/-- A command that takes a claim when it is free (R472). -/
def claimC (s : State) (d : Desc) (r : Res) : Nat :=
  if s.owner r == none then 0 else ownC s d r

/-- Take a claim for the command's session. -/
def State.take (s : State) (d : Desc) (r : Res) : State :=
  if owns s r d.session then s
  else
    let s := s.claim r d.session
    { s with denrek := { s.denrek with changed := s.denrek.changed ++ [(r, d.src)] } }

/-- Give up a claim by command. -/
def State.giveUp (s : State) (d : Desc) (r : Res) : State :=
  let s := s.release r
  { s with denrek := { s.denrek with changed := s.denrek.changed ++ [(r, d.src)] } }

/-! ### Sync rights (R487) -/

/-- The session that owns object `i`. -/
def syncOwner (s : State) (i : Nat) : Option Nat :=
  if s.isSet (SYNC_OWN_VALID i) then some (s.getF (SYNC_OWN_SESSION i)) else none

/-- Session `n` owns object `i`, or holds right `bitNo` of a share (0 wait, 1 signal). -/
def syncRight (s : State) (i n bitNo : Nat) : Bool :=
  syncOwner s i == some n
    || (syncOwner s i != none && s.denrek.shares.any (fun e => e.1 == i && e.2.1 == n && bitOf e.2.2 bitNo))

/-- The check of a WAIT_EN or SIGNAL_EN object: FREE gives BAD_FIELD, no right NOT_OWNER. -/
def syncUse (s : State) (en : Bool) (i n bitNo : Nat) : Nat :=
  if !en then 0 else if syncOwner s i == none then stBAD else need (syncRight s i n bitNo) stNOTOWN

/-! ### The checks of R414 -/

/-- The descriptor checks of R414 and R421, then the sync rights of R487. -/
def preCheck (s : State) (d : Desc) : Nat :=
  let op := d.opcode
  let mbox := match d.src with | .mbox _ => true | .ring _ => false
  firstBad [
    need (d.at 0xA 2 == 0 && decide (d.flags < 64) && (opNoSession op || decide (d.session < 1024))
      && !(d.waitEn && decide (4095 < d.waitId)) && !(d.signalEn && decide (4095 < d.signalId))
      && !(mbox && (d.overlap || d.fence)) && !(d.overlap && d.fence)) stBAD,
    need (opKnown op && (mbox || op / 256 != 1) && !s.isSet HOSTIF_DIRECT_STAT_OPEN) stBADOP,
    need (opNoSession op || (sessOpen s d.session && (s.session d.session).port == portOf s d.src)) stNOSESS,
    syncUse s d.waitEn d.waitId d.session 0,
    syncUse s d.signalEn d.signalId d.session 1]

/-! ### The commands the device holds -/

/-- The held command of an origin with a SEQ. -/
def findCmd (s : State) (src : Src) (seq : Nat) : Option Cmd :=
  s.denrek.cmds.find? (fun c => decide (c.src = src) && c.seq == seq)

/-- Replace a held command. -/
def State.putCmd (s : State) (c : Cmd) : State :=
  { s with denrek := { s.denrek with
      cmds := s.denrek.cmds.map (fun x => if x.src = c.src ∧ x.seq = c.seq then c else x) } }

/-- Commands of ring `r` in the table. -/
def inTable (s : State) (r : Nat) : Nat := (s.denrek.cmds.filter (fun c => decide (c.src = .ring r))).length

/-- Entries a ring takes beyond its reserve (R431). -/
def sharedUsed (s : State) : Nat :=
  (List.range 64).foldl (fun n r => n + (inTable s r - 8)) 0

/-- Ring commands in the table. -/
def tableUsed (s : State) : Nat :=
  (s.denrek.cmds.filter (fun c => match c.src with | .ring _ => true | .mbox _ => false)).length

/-- Bring INTABLE and RING_CMDTAB up to date. -/
def State.countTable (s : State) (src : Src) : State :=
  match src with
  | .mbox _ => s
  | .ring r =>
    ((s.setF (RING_STAT_INTABLE r) (inTable s r)).setF RING_CMDTAB_USED (tableUsed s)).setF RING_CMDTAB_SHARED_FREE
      (1536 - sharedUsed s)

/-- Enter a command, not started, with the time its ordering condition may first hold. -/
def State.addCmd (s : State) (d : Desc) : State :=
  State.countTable ({ s with denrek := { s.denrek with
      cmds := s.denrek.cmds ++ [(⟨d.src, d.seq, d.raw, .fetched, 0, 0, [], false, false, false, false, s.now⟩ : Cmd)] } }) d.src

/-- A command whose execution has not started. -/
def Cmd.unstarted (c : Cmd) : Bool := c.phase == .fetched || c.phase == .waiting

/-- A command that has started and not finished. -/
def Cmd.running (c : Cmd) : Bool := c.phase == .started || c.phase == .again || c.phase == .lost

/-- Free the waiter entry of a waiting command (R484). -/
def dropWaiter (c : Cmd) (s : State) : State :=
  if c.phase == .waiting then
    s.setF (SYNC_OWN_WAITERS c.desc.waitId) (s.getF (SYNC_OWN_WAITERS c.desc.waitId) - 1)
  else s

/-- Execution starts: the waiter entry is freed and a mailbox frees its inbound slot (R418). -/
def markStarted (c : Cmd) (s : State) : State :=
  if c.phase == .again then s else
  let s := dropWaiter c s
  match c.src with
  | .mbox p => s.addF (MBOX_IN_HEAD_HEAD p) 1
  | .ring _ => s

/-- A ring halts (R489): HALT holds the SEQ, ERR_STAT and the log record it. -/
def haltRing (r seq status sess : Nat) (s : State) : State :=
  let s := (s.setF (RING_STAT_STATE r) 2).set64 (RING_HALT_LO r) seq
  let s := withFaultPin (fun s => s.hitF ERR_STAT_2_RING_HALT 1) s
  s.errLog 1 r status sess (s.getF (RING_CFG_PORT r)) seq 0

/-- Finish a command (R476, R485, R489): status and TIME decided, the signal made, the ring halted on an error. One that
a takeover found started completes with FAILOVER_ABORT (R555). -/
def finishCmd (src : Src) (seq status result : Nat) (ext : List Word) (s : State) : State :=
  match findCmd s src seq with
  | none => s
  | some c =>
    if c.phase == .finished then s else
    let d := c.desc
    let status := if c.phase == .lost then stFAILOVER else status
    let result := if c.phase == .lost then 0 else result
    let ext := if c.phase == .lost then [] else ext
    let s := if c.unstarted then markStarted c s else s
    let sig := d.signalEn && (status == stDONE || status == stMISS) && syncOwner s d.signalId != none
    let s := when sig (syncSignalNow d.signalId d.signalValue) s
    let halts := match src with
      | .ring r => stIsError status && s.getF (RING_STAT_STATE r) == 1 && s.getF (RING_CFG_ERR_MODE r) == 0
      | .mbox _ => false
    let s := s.putCmd { c with phase := .finished, status := status, result := result, ext := ext, signalled := sig,
                               waited := c.waited && !(c.unstarted && status == stHALTED),
                               haltedRing := halts, time := s.now }
    match src with
    | .ring r => when halts (haltRing r seq status d.session) s
    | .mbox _ => s

/-- Record what a started command waits for. -/
def State.await (s : State) (w : Await) (src : Src) (seq : Nat) : State :=
  { s with denrek := { s.denrek with awaits := s.denrek.awaits ++ [(w, src, seq)] } }

/-- Finish every command whose wait the event ends. -/
def finishAwaits (p : Await → Bool) (status result : Nat) (s : State) : State :=
  let ws := s.denrek.awaits.filter (fun e => p e.1)
  ws.foldl (fun s e => finishCmd e.2.1 e.2.2 status result [] s)
    { s with denrek := { s.denrek with awaits := s.denrek.awaits.filter (fun e => !p e.1) } }

/-- Some started command waits for an event that `p` names. -/
def awaited (s : State) (p : Await → Bool) : Bool := s.denrek.awaits.any (fun e => p e.1)

/-! ### Ordering and evaluation (R478, R484, R489) -/

/-- A phase at or past the start. -/
def Cmd.begun (c : Cmd) : Bool := !c.unstarted

/-- The ordering condition of a command (R478); a predecessor no longer held has completed. -/
def orderHolds (s : State) (d : Desc) : Bool :=
  match d.src with
  | .mbox _ => true
  | .ring _ =>
    let earlier := s.denrek.cmds.filter (fun c => decide (c.src = d.src) && decide (c.seq < d.seq))
    let prev := earlier.find? (fun c => c.seq + 1 == d.seq)
    if d.overlap then (match prev with | some c => c.begun | none => true)
    else if d.fence then earlier.all (fun c => c.phase == .finished)
    else match prev with | some c => c.phase == .finished | none => true

/-- The predecessor's completion has not been written. -/
def overlapsPrev (s : State) (d : Desc) : Bool :=
  match d.src with
  | .mbox _ => false
  | .ring _ => s.denrek.cmds.any (fun c => decide (c.src = d.src) && c.seq + 1 == d.seq)

/-- The ring is HALTED: commands that have not started complete RING_HALTED (R489). -/
def ringHalted (s : State) : Src → Bool
  | .mbox _ => false
  | .ring r => s.getF (RING_STAT_STATE r) == 2

/-- A Lynx or Fog command waits while the state is DOZE (R76). -/
def engineWaits (s : State) (d : Desc) : Bool :=
  (d.opcode / 256 == 8 || d.opcode / 256 == 0xA) && s.getF PWR_STATUS_STATE == 2

/-- Start a command and make its own evaluation. -/
def startCmd (c : Cmd) (sizes : List Nat) (cls : State → Desc → Nat) (body : State → Desc → State × Rsp)
    (s : State) : State :=
  let d := c.desc
  if engineWaits s d then s else
  let ov := overlapsPrev s d
  let s0 := (markStarted c s).putCmd { c with phase := .started, overlapped := ov }
  match firstBad [cls s0 d, need (d.clean sizes) stBAD] with
  | 0 =>
    match body s0 d with
    | (s1, .done r ext) => finishCmd d.src d.seq stDONE r ext s1
    | (s1, .fail st r) => finishCmd d.src d.seq st r [] s1
    | (s1, .later w) => s1.await w d.src d.seq
    | (_, .stall) => s
    | (s1, .gone) => s1
  | st => finishCmd d.src d.seq st 0 [] s0

/-- Hold a command on its sync object: it takes a waiter entry when one is free (R484, R485). -/
def holdWaiting (c : Cmd) (s : State) : State :=
  let i := c.desc.waitId
  if c.phase == .waiting then s
  else if 8 ≤ s.getF (SYNC_OWN_WAITERS i) then s.putCmd { c with waited := true }
  else (s.putCmd { c with phase := .waiting, waited := true }).setF (SYNC_OWN_WAITERS i)
    (s.getF (SYNC_OWN_WAITERS i) + 1)

/-- In PAIRED a command starts at the APPLY of its COMMAND record, and one whose start depends on a wait at that of its
START record (R542, R543). -/
def twinLets (s : State) (c : Cmd) : Bool :=
  s.getF TWIN_STAT_STATE != 3
    || (!s.twin.unapplied.contains (c.src, c.seq) && (!c.desc.waitEn || s.twin.starts.contains (c.src, c.seq)))

/-- Evaluate a held, unstarted command; its wait compares the value at the end of the last cycle (R484).
(DEDUCED, log entry 16). -/
def evalCmd (c : Cmd) (sizes : List Nat) (cls : State → Desc → Nat) (body : State → Desc → State × Rsp)
    (s : State) : State :=
  let d := c.desc
  if ringHalted s d.src then finishCmd d.src d.seq stHALTED 0 [] s
  else if !orderHolds s d || !twinLets s c then s
  else match preCheck s d with
    | 0 =>
      if d.waitEn && decide (syncSettled s d.waitId < d.waitValue) then holdWaiting c s
      else startCmd c sizes cls body s
    | st => finishCmd d.src d.seq st 0 [] s

/-! ### How a command enters (R418, R429 to R431, R477) -/

/-- What ring `r` keeps beside its page. -/
def State.ring (s : State) (r : Nat) : RingSt := tabGet RingSt.reset r s.denrek.rings

/-- Store a ring's state. -/
def State.setRing (s : State) (r : Nat) (x : RingSt) : State :=
  { s with denrek := { s.denrek with rings := tabPut RingSt.reset r x s.denrek.rings } }

/-- D of a ring; DEPTH outside 4 to 12 acts as the nearest bound (R436). -/
def ringDepth (s : State) (r : Nat) : Nat := 2 ^ clampN 4 12 (s.getF (RING_CFG_DEPTH r))

/-- The ring may take one more descriptor: its MAXINF, the room of its CQ, and an entry of the table (R431). -/
def ringRoom (s : State) (r : Nat) : Bool :=
  let n := inTable s r
  decide (n < clampN 1 256 (s.getF (RING_LIMIT_MAXINF r)))
    && decide (n + idxDiff 16 (s.getF (RING_CQ_TAIL_TAIL r)) (s.inForce (RING_CQ_HEAD_HEAD r)) < ringDepth s r)
    && (decide (n < 8) || decide (sharedUsed s < 1536))

/-- The ring fetches: RUN or HALTED (R431). -/
def ringFetches (s : State) (r : Nat) : Bool :=
  s.getF (RING_STAT_STATE r) == 1 || s.getF (RING_STAT_STATE r) == 2

/-- Outbound messages written and not consumed. -/
def outUsed (s : State) (p : Nat) : Nat := idxDiff 8 (s.getF (MBOX_OUT_TAIL_TAIL p)) (s.getF (MBOX_OUT_HEAD_HEAD p))

/-- The port's mailbox runs or holds a command. -/
def mboxBusy (s : State) (p : Nat) : Bool := (findCmd s (.mbox p) 0).isSome

/-- A command enters the device: the command table, or the one place of a mailbox. In PAIRED its start awaits the APPLY of
its COMMAND record, and SQ_HEAD as ports read it does not pass it before (R543, R546). -/
def State.takeIn (s : State) (d : Desc) : State :=
  let s := s.addCmd d
  let pair := s.getF TWIN_STAT_STATE == 3
  let s := match d.src with
    | .mbox _ => s
    | .ring r =>
      let s := s.setRing r { s.ring r with fetched := d.seq }
      if pair then s else s.setF (RING_SQ_HEAD_HEAD r) d.seq
  if pair then { s with twin := { s.twin with unapplied := s.twin.unapplied ++ [(d.src, d.seq)] } } else s

/-- A descriptor that the host hands over with its doorbell in one step: the origin takes it if it may take its next one
now. A mailbox's place is numbered 0; a ring's descriptors are numbered as R477 numbers them.
(DEDUCED, log entry 41). -/
def submitted (s : State) (d : Desc) : Option State :=
  match d.src with
  | .mbox p =>
    if decide (p < 10) && d.seq == 0 && !mboxBusy s p && s.getF (MBOX_IN_TAIL_TAIL p) == s.getF (MBOX_IN_HEAD_HEAD p)
        && decide (outUsed s p ≤ 3) then
      some ((s.addF (MBOX_IN_TAIL_TAIL p) 1).takeIn d)
    else none
  | .ring r =>
    if decide (r < 64) && d.seq == (s.ring r).fetched + 1 && ringFetches s r && ringRoom s r
        && s.getF (RING_SQ_TAIL_TAIL r) == (s.ring r).fetched % 65536 then
      some ((s.addF (RING_SQ_TAIL_TAIL r) 1).takeIn d)
    else none

/-- Firmware runs commands: the Sett controller is neither halted nor halting (R590), and the part neither sleeps nor
boots nor wakes (R74, R122). -/
def fwRuns (s : State) : Bool :=
  s.getF (DBG_CORE_CTRL_STATE 4) == 0 && !s.boot.inReset && s.getF PWR_STATUS_STATE != 1 && s.getF PWR_STATUS_STATE != 5

/-- One evaluation of the Denrek command `d` with opcode `op`: a command not yet held enters first, through a ready
port (R518). (DEDUCED, log entries 16 and 41). -/
def runCmd (d : Desc) (op : Nat) (sizes : List Nat) (cls : State → Desc → Nat) (body : State → Desc → State × Rsp)
    (s : State) : Out :=
  if d.opcode ≠ op || !fwRuns s then .next s else
  match findCmd s d.src d.seq with
  | some c => if (c.unstarted || c.phase == .again) && c.raw == d.raw then .next (evalCmd c sizes cls body s) else .next s
  | none =>
    if !s.isSet (MBOX_STAT_READY (portOf s d.src)) then .next s else
    match submitted s d with
    | none => .next s
    | some s =>
      match findCmd s d.src d.seq with
      | some c => .next (evalCmd c sizes cls body s)
      | none => .next s

/-! ### Register images (R445) -/

/-- The bits of the RW fields of the register at `a`. (DEDUCED, log entry 14). -/
def rwMask (a : Nat) : Nat :=
  match specOf a with
  | some r => r.fields.foldl (fun m f => if f.acc = .rw then m ||| ((2 ^ (f.hi - f.lo + 1) - 1) * 2 ^ f.lo) else m) 0
  | none => 0

/-- The bits of a field. -/
def Fld.mask (f : Fld) : Nat := (2 ^ (f.hi - f.lo + 1) - 1) * 2 ^ f.lo

/-- The bits of several fields. -/
def fldMask (l : List Fld) : Nat := l.foldl (fun m f => m ||| f.mask) 0

/-- The image has only RW bits that the command takes; `own` fields must be zero, `ign` fields are ignored (R445).
(DEDUCED, log entry 14). -/
def imgOk (a : Nat) (own ign : List Fld) (img : Nat) : Nat :=
  need (img &&& (0xFFFFFFFF - (((rwMask a ||| fldMask ign)) - ((rwMask a ||| fldMask ign) &&& fldMask own))) == 0) stBAD

/-- Write an image's RW fields, `own` and `ign` fields apart. -/
def State.setImg (s : State) (a : Nat) (own ign : List Fld) (img : Nat) : State :=
  let x := fldMask own ||| fldMask ign
  let m := rwMask a - (rwMask a &&& x)
  let w := (s.reg a).toNat
  s.setReg a (BitVec.ofNat 32 (w - (w &&& m) + (img &&& m)))

/-- A field of an image. -/
def Fld.img (f : Fld) (img : Nat) : Nat := bitsOf img f.lo (f.hi - f.lo + 1)

/-- Store an address (or value) in a _LO/_HI pair. -/
def State.setBase (s : State) (lo a : Nat) : State := s.set64 lo a

/-! ### Bindings (R446, R451, R452) -/

/-- The table entry is in force. -/
def bindEn (s : State) (e : Nat) : Bool := s.isSet (SYNC_BIND_EN e)

/-- Remove the entries that `p` names (entry, session, field). -/
def unbindWhere (p : Nat × Nat × Nat → Bool) (s : State) : State :=
  let off := s.denrek.binders.filter p
  let gone := off.map (fun b => (s.getF (SYNC_BIND_EVENT b.1), s.getF (SYNC_BIND_OBJ b.1)))
  off.foldl (fun s b => s.setReg (SYNC_BIND b.1) 0)
    { s with denrek := { s.denrek with binders := s.denrek.binders.filter (fun b => !p b) },
             cyc := { s.cyc with gone := s.cyc.gone ++ gone } }

/-- Remove the bindings of the events that `p` names (R452). (DEDUCED, log entry 64). -/
def unbindEvents (p : Nat → Bool) (s : State) : State :=
  unbindWhere (fun b => p (s.getF (SYNC_BIND_EVENT b.1))) s

/-- Remove the bindings of an object (R452). -/
def unbindObj (i : Nat) (s : State) : State := unbindWhere (fun b => s.getF (SYNC_BIND_OBJ b.1) == i) s

/-- The lowest free entry of the binding table. -/
def freeBind (s : State) : Option Nat := (List.range 1024).find? (fun e => !bindEn s e)

/-- Bindings of an event. -/
def boundTo (s : State) (ev : Nat) : List (Nat × Nat × Nat) := (bindings s).filter (fun b => b.2.1 == ev)

/-- Add a binding. -/
def bindAdd (sess fk ev obj : Nat) (s : State) : Except Nat State :=
  if (boundTo s ev).any (fun b => b.2.2 == obj) then .error stCONFLICT
  else if 8 ≤ (boundTo s ev).length then .error stNORES
  else match freeBind s with
    | none => .error stNORES
    | some e =>
      let s := s.setReg (SYNC_BIND e) (BitVec.ofNat 32 (ev + 65536 * obj + 2 ^ 31))
      .ok { s with denrek := { s.denrek with binders := s.denrek.binders ++ [(e, sess, fk)] } }

/-- One BIND field (R446): key `fk` of the field, event and object, 0xFFFF for none. -/
def bindOne (sess : Nat) (b : Nat × Nat × Nat) (s : State) : Except Nat State :=
  let s' := unbindWhere (fun x => x.2.2 == b.1 && s.getF (SYNC_BIND_EVENT x.1) == b.2.1) s
  if b.2.2 == 0xFFFF then .ok s' else bindAdd sess b.1 b.2.1 b.2.2 s'

/-- Several BIND fields in order. -/
def bindAll (sess : Nat) : List (Nat × Nat × Nat) → State → Except Nat State
  | [], s => .ok s
  | b :: r, s => match bindOne sess b s with
    | .ok s => bindAll sess r s
    | .error st => .error st

/-- Binding is the owner's alone (R487): every object named is the session's. -/
def bindOwn (s : State) (d : Desc) (ids : List Nat) : Nat :=
  need (ids.all (fun i => decide (4095 < i) || syncOwner s i == some d.session)) stNOTOWN

/-- A BIND field is 0 to 4,095 or 0xFFFF. -/
def bindOk (ids : List Nat) : Nat := need (ids.all (fun i => decide (i ≤ 4095) || i == 0xFFFF)) stBAD

/-- Make bindings, then go on. (DEDUCED, log entries 16 and 64). -/
def withBinds (d : Desc) (l : List (Nat × Nat × Nat)) (s : State) (k : State → State × Rsp) : State × Rsp :=
  match bindAll d.session l s with
  | .ok s' => k s'
  | .error st => (s, .fail st 0)

/-! ### Status records (R447) -/

/-- One item of a record: a 32-bit register, or a pair. -/
inductive RecItem where
  | w (a : Nat)
  | q (lo : Nat)
  | raw (n v : Nat)
deriving DecidableEq, Repr

/-- The size of an item. -/
def RecItem.size : RecItem → Nat
  | .w _ => 4
  | .q _ => 8
  | .raw n _ => n

/-- The value of an item. -/
def RecItem.value (s : State) : RecItem → Nat
  | .w a => (s.look a).toNat
  | .q lo => (s.look lo).toNat + 2 ^ 32 * (s.look (lo + 4)).toNat
  | .raw _ v => v

/-- The bytes of a record, each item aligned to its own size (R444, R447); `o` bytes stand already.
(DEDUCED, log entry 17). -/
def recBytes (s : State) : Nat → List RecItem → List Byte
  | _, [] => []
  | o, i :: r =>
    let p := (o + i.size - 1) / i.size * i.size - o
    List.replicate p 0 ++ leBytes i.size (i.value s) ++ recBytes s (o + p + i.size) r

/-- The words of a byte list, little-endian. -/
def wordsOf : List Byte → List Word
  | a :: b :: c :: d :: r => BitVec.ofNat 32 (ofLe [a, b, c, d]) :: wordsOf r
  | [] => []
  | l => [BitVec.ofNat 32 (ofLe l)]

/-- Write the OUT record of a command (R447). -/
def outRecord (d : Desc) (out : Nat) (bs : List Byte) (s : State) : State × Rsp :=
  if out == 0 then
    match d.src with
    | .mbox _ => (s, .done 0 (wordsOf (bs.take 32)))
    | .ring _ => (s, .fail stBAD 0)
  else checked [addrOk out] s
    (withMem (s.writeChecked (settAcq d.session true) none out bs) (fun s _ => (s, .done bs.length [])))

/-- What events of this cycle alone give an RC field: what they counted, or the greatest value they brought (R20). -/
def sinceCycle (s : State) (f : Fld) : Nat :=
  match tabGet none f.addr s.cyc.was with
  | some w => if s.marked f 0 then s.getF f else s.getF f - f.of w
  | none => 0

/-- The RC fields of the register at `a` have been read in this cycle: none of its earlier contents is read again. -/
def readWas (a : Nat) (s : State) : State :=
  match tabGet none a s.cyc.was with
  | some w =>
    let m := BitVec.ofNat 32 (accMask (fun c => c == .rc) a)
    { s with cyc := { s.cyc with was := tabPut none a (some (w &&& ~~~m)) s.cyc.was } }
  | none => s

/-- Clear the RC fields of the register at `a` (R12); what an event of this cycle brought stays (R20). -/
def clearRC (a : Nat) (s : State) : State :=
  match specOf a with
  | some r => readWas a (r.fields.foldl
      (fun s f => if f.acc = .rc then s.setF ⟨a, f.hi, f.lo⟩ (sinceCycle s ⟨a, f.hi, f.lo⟩) else s) s)
  | none => s

/-- Reading the registers of a record clears their RC fields (R12, R474). -/
def clearRead (l : List RecItem) (s : State) : State :=
  l.foldl (fun s i => match i with | .w a => clearRC a s | _ => s) s

/-- The status record of a command: written to OUT, the registers read (R447, R474). (DEDUCED, log entry 17). -/
def outStatus (d : Desc) (out : Nat) (l : List RecItem) (s : State) : State × Rsp :=
  match outRecord d out (recBytes s 0 l) s with
  | (s, .done n x) => (clearRead l s, .done n x)
  | r => r

/-- A read of session memory that a PARAM field names. -/
def readMem (d : Desc) (a n : Nat) (s : State) : State × Acc2 := s.readChecked (settAcq d.session false) none a n

/-! ### Interrupt delivery (R434, R512) -/

/-- An interrupt of port `p` with vector `v`: an MSI-X message, or its pending bit; an SPI pin
follows the PEND bits, and a standby sends nothing (R542). -/
def deliver (p v : Nat) (s : State) : State :=
  if 8 ≤ p || s.getF TWIN_STAT_ROLE == 2 then s
  else
    let k := 64 * p + v
    if s.isSet (HOSTIF_F_STAT_MSIX_EN p) && !s.isSet (HOSTIF_F_STAT_MSIX_MASK p)
        && tabGet false k s.hostif.msixUnmasked then
      { s with hostif := { s.hostif with msixSent := tabPut 0 k (tabGet 0 k s.hostif.msixSent + 1) s.hostif.msixSent } }
    else { s with hostif := { s.hostif with msixPend := tabPut false k true s.hostif.msixPend } }

/-- Set MBOX_p_IRQ.PEND; a change to 1 with EN is delivered. -/
def pendMbox (p : Nat) (s : State) : State :=
  let was := s.isSet (MBOX_IRQ_PEND p)
  let s := s.hitF (MBOX_IRQ_PEND p) 1
  when (!was && s.isSet (MBOX_IRQ_EN p)) (deliver p 0) s

/-- Set RING_r_IRQ.PEND; a change to 1 with EN is delivered. -/
def pendRing (r : Nat) (s : State) : State :=
  let was := s.isSet (RING_IRQ_PEND r)
  let s := s.hitF (RING_IRQ_PEND r) 1
  when (!was && s.isSet (RING_IRQ_EN r)) (deliver (s.getF (RING_CFG_PORT r)) (s.getF (RING_VEC_VEC r))) s

end Sys2Proof.Machine
end

