-- ==== Sys2Proof/Machine/Flags.lean ====
section
/-! DEFINITION. Level codes, gains and conversions of sample values that several audio units share: the 0.125 dB gain of
R139 and R185, the level code of the detectors (R144, R228) and the container forms (R162, R285). -/

namespace Sys2Proof.Machine

/-- The greatest g below 2^k with `p g`, for a `p` that holds up to some point. -/
def searchMax (p : Nat → Bool) : Nat → Nat → Nat
  | 0, g => g
  | k + 1, g => searchMax p k (if p (g + 2 ^ k) then g + 2 ^ k else g)

/-- `x^160 ≤ 2^(24·160) · 10^(k)` with the power of ten on the side its sign says. -/
def gainBelow (k : Int) (x : Nat) : Bool :=
  if 0 ≤ k then decide (x ^ 160 ≤ 2 ^ 3840 * 10 ^ k.toNat) else decide (x ^ 160 * 10 ^ (-k).toNat ≤ 2 ^ 3840)

/-- 10^(gain/160) held to 24 fraction bits, rounded to nearest (R139): the gain code is signed, 0.125 dB a step. -/
def gainFactor (k : Int) : Nat :=
  let g := searchMax (gainBelow k) 28 0
  let up := if 0 ≤ k then decide ((2 * g + 1) ^ 160 ≤ 2 ^ 4000 * 10 ^ k.toNat)
    else decide ((2 * g + 1) ^ 160 * 10 ^ (-k).toNat ≤ 2 ^ 4000)
  if up then g + 1 else g

/-- The level code of a magnitude whose 160th power over 2^23 is the ratio `p^160 / q^160 · 2^...`; here of the square
root of `p / q` (R144): the nearest integer to −160·log10(√(p/q) / 2^23), within 0 to 2,047. -/
def levelOfSquare (p q : Nat) : Nat :=
  if p = 0 then 2047
  else searchMax (fun c => decide (c ≤ 2047) && decide (10 ^ (2 * c - 1) * p ^ 160 ≤ 2 ^ 7360 * q ^ 160)) 11 0

/-- The level code of `p / q` (R144). -/
def levelOf (p q : Nat) : Nat := levelOfSquare (p * p) (q * q)

/-- The 32-bit little-endian word of a 24-bit value, sign-extended (R140, LOW form of R285). -/
def lowWord (x : Int) : List Byte := leBytes 4 (ofSigned 32 x)

/-- The HIGH form of R285. -/
def highWord (x : Int) : Nat := ofSigned 24 x * 256

/-- The 24-bit value of a container in LOW form. -/
def fromLow (w : Nat) : Int := toSigned 24 w

/-- The 24-bit value of a container in HIGH form. -/
def fromHigh (w : Nat) : Int := toSigned 24 (w / 256)

/-- A gain applied to a value: round_even(y · g) with g at 24 fraction bits. -/
def applyGain (k : Int) (y : Int) : Int := if k = 0 then y else roundEvenDiv (y * gainFactor k) (2 ^ 24)

end Sys2Proof.Machine
end

