-- ==== Sys2Proof/Machine/Decimation.lean ====
section
/-! DEFINITION. Microphone capture and decimation (R128 to R158). A strobe's command carries the bits its line delivered for
that output. (DEDUCED, log entry 26). -/

namespace Sys2Proof.Machine

/-- A channel. -/
def State.ch (s : State) (n : Nat) : DecCh := tabGet DecCh.reset n s.dec.chans

/-- Store a channel. -/
def State.setCh (s : State) (n : Nat) (c : DecCh) : State :=
  { s with dec := { s.dec with chans := tabPut DecCh.reset n c s.dec.chans } }

/-- Output period of preset p: 0 GUST, 1 BREEZE, 2 CALM, 3 STILL. -/
def decPeriod (p : Nat) : Nat := if p = 0 then 128 else if p = 1 then 512 else if p = 2 then 2048 else 6144

/-- Strobe latency Lp. -/
def decLatency (p : Nat) : Nat := if p = 0 then 215 else if p = 1 then 4106 else if p = 2 then 24586 else 92170

/-- The strobe of instant t (R133). -/
def strobeOf (ch p t : Nat) : Nat := t + decLatency p + (if 2 ≤ p then 2 * ch else 0)

/-- The start of preset p's grid (R132). -/
def gridOf (s : State) (p : Nat) : Nat := if 2 ≤ p then 0 else s.dec.gridS

/-- The line's clock of a channel. -/
def chClk (s : State) (ch : Nat) : Nat := s.getF (DEC_LINE_CLK (ch / 2))

/-- The channel's line is clocked and its edge captured. -/
def chClocked (s : State) (ch : Nat) : Bool :=
  s.isSet DEC_CTRL_EN && s.isSet (DEC_CLK_EN (chClk s ch))
    && s.isSet (if ch % 2 = 0 then DEC_LINE_EN_R (ch / 2) else DEC_LINE_EN_F (ch / 2))

/-- PDM clock n runs at 3.072 MHz. -/
def slowPdm (s : State) (n : Nat) : Bool := s.getF (DEC_CLK_RATE n) == 1

/-- The period of PDM clock n in ticks (R129). -/
def pdmPeriod (s : State) (n : Nat) : Nat := if slowPdm s n then 32 else 16

/-- The core sleeps or wakes. -/
def asleep (s : State) : Bool := s.pwr.phase == .parked || s.pwr.phase == .waking

/-- PDM clock n runs: enabled, while fast counting runs; during a wake PDM_CLK_0 alone runs from the hand-over (R91, R129). -/
def pdmRuns (s : State) (n : Nat) : Bool :=
  s.isSet (DEC_CLK_EN n) && s.clk.fast && s.pwr.phase != .parked && (n == 0 || s.pwr.phase != .waking)

/-- The level of PDM_CLK_n at tick t of fast counting (R129): 50 % duty, rising at multiples of the period; low while
disabled; none: high-impedance, on a standby and before the shared outputs are enabled (R604). -/
def pdmLevel (s : State) (n t : Nat) : Option Bool :=
  if !sharedOut s then none
  else match tabGet none n s.dec.clkFrom with
    | some f => some (decide (f ≤ t) && decide (2 * (t % pdmPeriod s n) < pdmPeriod s n))
    | none => some false

/-- Decimation starts: histories at mid-scale, grids at S = 0, and every buffer starts a block with SYNC (R132, R142, R157).
An unfinished block is not written, and its SEQ is used again. (DEDUCED, log entry 73). -/
def decStart (s : State) : State :=
  let s := forN 32 (fun ch s =>
    let c := s.ch ch
    s.setCh ch { c with hist := [], filt := [], cur := none, sync := true, seq := match c.cur with | some b => b.seq | none => c.seq }) s
  { s with dec := { s.dec with gridS := 0, nextT := [], gap := none, startAt := some s.now } }

/-- The channel's edge of its line is captured (R128). -/
def chCaptured (s : State) (ch : Nat) : Bool :=
  s.isSet (if ch % 2 = 0 then DEC_LINE_EN_R (ch / 2) else DEC_LINE_EN_F (ch / 2))

/-- The running PDM clocks, decimation and channels follow their registers (R91, R129, R132, R158). -/
def settlePdm (s : State) : State :=
  let on := s.isSet DEC_CTRL_EN && s.clk.fast && !asleep s
  let s := if on then (if s.dec.startAt.isNone then decStart s else s)
    else if s.dec.startAt.isSome then { s with dec := { s.dec with startAt := none } } else s
  let edge := fun (n : Nat) => ceilDiv s.now (pdmPeriod s n) * pdmPeriod s n
  let ck := (List.range 4).foldl (fun t n =>
    tabPut none n (if pdmRuns s n then some ((tabGet none n s.dec.clkFrom).getD (edge n)) else none) t) s.dec.clkFrom
  if !on && s.dec.clkFrom.isEmpty && s.dec.chans.isEmpty then { s with dec := { s.dec with clkFrom := ck } }
  else
    forN 32 (fun ch s =>
      let c := s.ch ch
      let h := if on && chCaptured s ch then (tabGet none (chClk s ch) s.dec.clkFrom).map (fun f => c.heard.getD (max f s.now))
        else none
      if h = c.heard then s else s.setCh ch { c with heard := h, sync := c.sync || h.isSome })
      { s with dec := { s.dec with clkFrom := ck } }

/-- The settings (CFG, BUF_CFG, ring base) in force at instant t: the newest write before it (R152). -/
def cfgAt (s : State) (ch t : Nat) : Word × Word × Nat :=
  match (s.ch ch).cfgLog.find? (fun e => decide (e.1 < t)) with
  | some e => e.2
  | none =>
    match (s.ch ch).cfgLog with
    | [] => (s.reg (DEC_CH_CFG ch), s.reg (DEC_CH_BUF_CFG ch), s.r64 (DEC_CH_BUF_LO ch))
    | _ => (resetWord (DEC_CH_CFG ch), resetWord (DEC_CH_BUF_CFG ch), 0)

/-- Note the channel's settings after a write. -/
def decSnap (ch : Nat) (s : State) : State :=
  let c := s.ch ch
  let e := (s.now, s.reg (DEC_CH_CFG ch), s.reg (DEC_CH_BUF_CFG ch), s.r64 (DEC_CH_BUF_LO ch))
  s.setCh ch { c with cfgLog := e :: c.cfgLog.take 64 }

/-- The preset a channel runs beside GUST (0 none). -/
def secOf (cfg : Word) : Nat := (DEC_CH_CFG_SEC 0).of cfg

/-- Preset p runs on the channel under CFG `cfg` (R38, R131). -/
def presetRuns (s : State) (ch p : Nat) (cfg : Word) : Bool :=
  if p = 0 then (DEC_CH_CFG_GUST_EN 0).of cfg == 1 && !slowPdm s (chClk s ch) else secOf cfg == p

/-- The 64-tap FIR of bank b of preset p over the history z (R139). -/
def firAcc (s : State) (p b : Nat) : Nat → List Int → Int
  | _, [] => 0
  | i, z :: r => toSigned 24 (s.getF (DEC_COEF_C p b i)) * z + firAcc s p b (i + 1) r

/-- The output arithmetic of R139: value and clip. -/
def decArith (acc : Int) (invert : Bool) (gain : Int) : Int × Bool :=
  let y := roundEvenShr acc 22
  let y := if invert then -y else y
  let y := applyGain gain y
  (satS 24 y, clipsS 24 y)

/-- Declared delay of the active bank. -/
def decDly (s : State) (p : Nat) : Nat :=
  if s.isSet (DEC_FIR_CTRL_ACTIVE p) then s.getF (DEC_FIR_DLY_DLY_B p) else s.getF (DEC_FIR_DLY_DLY_A p)

/-- The stamp of instant t (R134), modulo 2^64. -/
def decStamp (s : State) (ch p t : Nat) : Nat :=
  (((t : Int) - decDly s p - toSigned 16 (s.getF (DEC_CH_ADJ_STAMP_ADJ ch))) % (2 ^ 64 : Int)).toNat

/-! ### Detectors (R144, R145) -/

/-- Threshold j of a channel against a code of detector `det`: start or end of its condition (R145). While THR_j.DET is off
or names another detector, COND_j stays as it was. (DESIGN CHOICE, log entry 74). -/
def threshold (ch j det code : Nat) (s : State) : State :=
  if s.getF (DEC_CH_THR_DET ch j) ≠ det then s else
  let lvl := s.getF (DEC_CH_THR_LEVEL ch j)
  let hyst := s.getF (DEC_CH_THR_HYST ch j)
  let below := s.isSet (DEC_CH_THR_DIR ch j)
  let on := s.getB (DEC_CH_STAT_COND ch) j
  let starts := if below then decide (lvl ≤ code) else decide (code ≤ lvl)
  let ends := if below then decide (code + hyst ≤ lvl) else decide (lvl + hyst ≤ code)
  if !on && starts then ((s.setB (DEC_CH_STAT_COND ch) j).hitB (DEC_DET_EVT_CH j) ch).event (0x0A0 + 32 * j + ch)
  else if on && ends then s.clrB (DEC_CH_STAT_COND ch) j
  else s

/-- Both thresholds. -/
def thresholds (ch det code : Nat) (s : State) : State := threshold ch 1 det code (threshold ch 0 det code s)

/-- The envelope after one magnitude (R144), exact: e = e + (|x| − e)·2^−k. -/
def envNext (num ex x k : Nat) : Nat × Nat := if k = 0 then (x, 0) else (num * (2 ^ k - 1) + x * 2 ^ ex, ex + k)

/-- The three detectors take one sample (R144). -/
def detect (ch : Nat) (y : Int) (s : State) : State :=
  let x := y.natAbs
  let s := s.maxF (DEC_CH_PEAK_MAG ch) (min x (2 ^ 24 - 1))
  let s := thresholds ch 1 (levelOf x 1) s
  let c := s.ch ch
  let k := if c.envN < x * 2 ^ c.envE then min 20 (s.getF (DEC_CH_ENV_ATT ch)) else min 20 (s.getF (DEC_CH_ENV_REL ch))
  let e := envNext c.envN c.envE x k
  let ec := levelOf e.1 (2 ^ e.2)
  let sum := c.rmsSum + x * x
  let cnt := c.rmsCnt + 1
  let full := decide (2 ^ clampN 4 14 (s.getF (DEC_CH_RMS_WIN ch)) ≤ cnt)
  let s := s.setCh ch { c with envN := e.1, envE := e.2, rmsSum := if full then 0 else sum, rmsCnt := if full then 0 else cnt }
  let s := thresholds ch 3 ec (s.setF (DEC_CH_ENV_LEVEL ch) ec)
  if full then
    let rc := levelOfSquare sum cnt
    thresholds ch 2 rc (s.setF (DEC_CH_RMS_LEVEL ch) rc)
  else s

/-! ### Blocks (R140 to R143) -/

/-- Append a sample to the channel's block; a full block is ready to be written. -/
def blockSample (ch p t : Nat) (y : Int) (clip gap stuck : Bool) (buf : Word) (base : Nat) (s : State) : State :=
  let c := s.ch ch
  let bank := s.isSet (DEC_FIR_CTRL_ACTIVE p)
  let b : DecBlock := match c.cur with
    | some b => b
    | none => ⟨decStamp s ch p t, c.seq, [], c.sync, false, false, false, bank, false, false, base,
        max 1 ((DEC_CH_BUF_CFG_NBLK 0).of buf), clampN 8 1024 ((DEC_CH_BUF_CFG_BLOCK 0).of buf)⟩
  let b := { b with samples := y :: b.samples, clip := b.clip || clip, gap := b.gap || gap, stuck := b.stuck || stuck,
                    bankChanged := b.bankChanged || b.bank != bank }
  let started := c.cur.isNone
  let c := { c with seq := if started then (c.seq + 1) % 2 ^ 32 else c.seq, sync := if started then false else c.sync }
  if b.samples.length = b.size then s.setCh ch { c with cur := none, done := c.done ++ [b] }
  else s.setCh ch { c with cur := some b }

/-- End the block in progress as SHORT; the next block carries SYNC (R142). -/
def shortBlock (ch : Nat) (s : State) : State :=
  let c := s.ch ch
  match c.cur with
  | some b => s.setCh ch { c with cur := none, done := c.done ++ [{ b with short := true }], sync := true }
  | none => s.setCh ch { c with sync := true }

/-- The last bit of a channel that is substituted: MIC_SETTLE periods of its clock after a new primary's clocks start
(R147). -/
def gapEnd (s : State) (ch start : Nat) : Nat := start + s.getF DEC_TWIN_CFG_MIC_SETTLE * pdmPeriod s (chClk s ch)

/-- Bits an output of preset p takes from the line. -/
def bitsPer (s : State) (ch p : Nat) : Nat := decPeriod p / pdmPeriod s (chClk s ch)

/-- What the bits of instant t's output enter as (R139): +1 for 1, -1 for 0, 0 for a substituted bit. `bits` are the newest,
oldest first, of those that reach the decimator by the strobe, 10 ticks after their edge. (DEDUCED, log entry 26). -/
def decInputs (s : State) (ch p t : Nat) (bits : List Bool) : List Int :=
  let per := pdmPeriod s (chClk s ch)
  let last := (t + decLatency p - 10) / per * per
  (List.range bits.length).map (fun i =>
    let e := last - (bits.length - 1 - i) * per
    let sub := match s.dec.gap with
      | some (a, start) => decide (a ≤ e) && decide (e ≤ gapEnd s ch start)
      | none => false
    if sub then 0 else if bits.getD i false then 1 else -1)

/-- The strobe now is marked GAP: from the first substituted bit to 2 x Lp after the last one (R147). -/
def strobeGap (s : State) (ch p : Nat) : Bool :=
  match s.dec.gap with
  | some (a, start) => decide (a ≤ s.now) && decide (s.now ≤ gapEnd s ch start + 2 * decLatency p)
  | none => false

/-- The sample strobed now is computed from bits of a stuck run: within 2 x Lp of the last of them, as R147 counts it (R146).
(DEDUCED, log entry 26). -/
def strobeStuck (s : State) (ch p : Nat) : Bool :=
  match (s.ch ch).stuck with
  | some (_, t) => decide (s.now ≤ t + 2 * decLatency p + 2 * ch)
  | none => false

/-- A stuck run goes on while the line delivers nothing else. -/
def stuckGoesOn (ch : Nat) (bits : List Bool) (s : State) : State :=
  let c := s.ch ch
  match c.stuck with
  | some (lv, _) => if bits.all (· == lv) then s.setCh ch { c with stuck := some (lv, s.now) } else s
  | none => s

/-- The channel is clocked and captured since instant t, and decimation runs since then (R132, R158). -/
def hearsAt (s : State) (ch t : Nat) : Bool :=
  (match (s.ch ch).heard with | some f => decide (f ≤ t) | none => false)
    && (match s.dec.startAt with | some f => decide (f ≤ t) | none => false)

/-- SEC has changed to preset p since the instant before t: its history is cleared, and its block starts with SYNC (R152). -/
def takeSec (ch p t : Nat) (cfg : Word × Word × Nat) (s : State) : State :=
  if p = 0 ∨ (decPeriod p ≤ t ∧ secOf (cfgAt s ch (t - decPeriod p)).1 = p) then s
  else
    let c := s.ch ch
    let onSec := (DEC_CH_BUF_CFG_SRC 0).of cfg.2.1 == 0
    s.setCh ch { c with hist := tabDel p c.hist, filt := tabDel p c.filt, cur := if onSec then none else c.cur, sync := c.sync || onSec }

/-- DEC_OUTPUT_STROBE (R128, R133, R139): the output of preset `p` of channel `ch` for the instant whose strobe is this tick;
`bits` are the levels PDM_DAT held at the channel's edges since the output before. -/
def execDecOutputStrobe (ch preset : Nat) (bits : List Bool) (s : State) : Out :=
  let p := preset
  let lat := strobeOf ch p 0
  let t := s.now - lat
  let g := gridOf s p
  let cfg := cfgAt s ch t
  if !hearsAt s ch t || decide (s.now < lat) || decide (t < g) || (t - g) % decPeriod p != 0
      || !presetRuns s ch p cfg.1 || bits.length != bitsPer s ch p then .next s
  else
    let s := stuckGoesOn ch bits (takeSec ch p t cfg s)
    let c := s.ch ch
    let f := Config.decFilter p (slowPdm s (chClk s ch)) (tabGet 0 p c.filt) (decInputs s ch p t bits)
    let h := (f.2 :: tabGet [] p c.hist).take 64
    let s := s.setCh ch { c with hist := tabPut [] p h c.hist, filt := tabPut 0 p f.1 c.filt }
    let bank := bit (s.isSet (DEC_FIR_CTRL_ACTIVE p))
    let r := decArith (firAcc s p bank 0 h) ((DEC_CH_CFG_INVERT 0).of cfg.1 == 1) (toSigned 8 ((DEC_CH_CFG_GAIN 0).of cfg.1))
    let gap := strobeGap s ch p
    let s := when r.2 (fun s => (s.hitF (DEC_CH_STAT_CLIP ch) 1).hitF DEC_EVT_CLIP 1) s
    let s := when gap (fun s => (s.hitF (DEC_CH_STAT_GAP ch) 1).hitF DEC_EVT_GAP 1) s
    let s := when (p == 0) (fun s => s.setCh ch { s.ch ch with gust := r.1 }) s
    let s := when (((DEC_CH_CFG_DET_SRC 0).of cfg.1 == 0) == (p == 0)) (detect ch r.1) s
    let buf := cfg.2.1
    .next (when ((DEC_CH_BUF_CFG_EN 0).of buf == 1 && ((DEC_CH_BUF_CFG_SRC 0).of buf == 1) == (p == 0))
      (blockSample ch p t r.1 r.2 gap (strobeStuck s ch p) buf cfg.2.2) s)

/-- DEC_STUCK_DETECT (R146): 256 identical bits; blocks in hand and those of the samples to come from these bits carry
STUCK. -/
def execDecStuckDetect (ch : Nat) (level : Bool) (s : State) : Out :=
  if !chClocked s ch then .next s else
  let c := s.ch ch
  let mark := fun (b : DecBlock) => { b with stuck := true }
  let s := s.setCh ch { c with cur := c.cur.map mark, done := c.done.map mark, stuck := some (level, s.now) }
  .next ((s.hitF (DEC_CH_STAT_STUCK ch) 1).hitF DEC_EVT_STUCK 1)

/-- The header and samples of a block (R140). -/
def DecBlock.toBytes (b : DecBlock) : List Byte :=
  leBytes 8 b.stamp ++ leBytes 4 b.seq ++ leBytes 2 b.samples.length
    ++ leBytes 2 (bit b.sync + 2 * bit b.short + 4 * bit b.clip + 8 * bit b.gap + 16 * bit b.bank + 32 * bit b.bankChanged
        + 64 * bit b.stuck)
    ++ b.samples.reverse.flatMap lowWord

/-- The slot of a block with `n` samples a block, `k`+1 slots (R140). -/
def blockSlot (base n k seq : Nat) : Nat := base + seq % (k + 1) * (ceilDiv (16 + 4 * n) 64 * 64)

/-- DEC_BLOCK_COMPLETE (R141, R143): the oldest ready block of the channel is written under its session's rights. -/
def execDecBlockComplete (ch : Nat) (s : State) : Out :=
  let c := s.ch ch
  match c.done with
  | [] => .next s
  | b :: rest =>
    let who : Who := match s.owner (.channel ch) with | some n => .sess [n] | none => .fw
    match s.writeChecked ⟨clsAUDIO, who, true⟩ none (blockSlot b.base b.size b.nblk b.seq) b.toBytes with
    | (_, .wait) => .next s
    | (s, .data _) =>
      let s := s.setCh ch { c with done := rest }
      let s := s.setF (DEC_CH_BUF_STAT_SEQ ch) ((b.seq + 1) % 2 ^ 24)
      .next ((s.setF (DEC_CH_BUF_STAT_SLOT ch) ((b.seq + 1) % 2 ^ 32 % (b.nblk + 1))).event (0x080 + ch))
    | (s, .ecc _) => .next (s.setCh ch { c with done := rest })
    | (s, .refused _) =>
      let s := s.setCh ch { c with done := rest, cur := none, sync := true }
      .next (decSnap ch ((s.setF (DEC_CH_BUF_CFG_EN ch) 0).hitF DEC_EVT_BUF_FAULT 1))

/-! ### Sync (R135 to R137, R153) -/

/-- The first multiple of 32 that is at least `x`. -/
def up32 (x : Nat) : Nat := ceilDiv x 32 * 32

/-- The S of the last reset, when one took place since decimation started. -/
def lastReset (s : State) : Option Nat := if s.dec.gridS = 0 then none else some s.dec.gridS

/-- Count a merged event, saturating at 255 (R137). -/
def countMerged (pin : Bool) (s : State) : State :=
  (s.incF DEC_SYNC_STAT_MERGED 1).setF (if pin then DEC_SYNC_STAT_PIN_LAST else DEC_SYNC_STAT_CMD_LAST) 1

/-- A sync event for reset tick `S`: it joins an equal S, merges into the last reset, or schedules its own (R137). -/
def syncEvent (S : Nat) (pin : Bool) (s : State) : State :=
  match lastReset s with
  | some l =>
    if l ≤ S ∧ S < l + 128 then countMerged pin s else addSched S pin s
  | none => addSched S pin s
where
  /-- An event whose S equals that of a reset still to come joins it and does not count in MERGED.
  (DESIGN CHOICE, log entry 74). -/
  addSched (S : Nat) (pin : Bool) (s : State) : State :=
    let l := s.dec.sched
    let l' := if l.any (fun e => e.1 == S) then
        l.map (fun e => if e.1 == S then (e.1, e.2.1 + bit pin, e.2.2 + bit (!pin)) else e)
      else l ++ [(S, bit pin, bit (!pin))]
    { s with dec := { s.dec with sched := l' } }

/-- SYNC_IN_EDGE (R135). -/
def execSyncInEdge (rising : Bool) (s : State) : Out :=
  let s := { s with pins := { s.pins with syncIn := rising } }
  if s.isSet DEC_SYNC_CTRL_PIN_EN && (s.isSet DEC_SYNC_CTRL_EDGE == !rising) then .next (syncEvent (up32 (s.now + 4)) true s)
  else .next s

/-- The reset tick of a GO now (R135): scheduled when AT_EN is 1 and DEC_SYNC_AT is not past. A value equal to the present
tick counts as past. (DESIGN CHOICE, log entry 74). -/
def goTick (s : State) : Nat :=
  let a := s.r64 DEC_SYNC_AT_LO
  if s.isSet DEC_SYNC_CTRL_AT_EN ∧ s.now < a then up32 a else up32 (s.now + 4)

/-- An event for reset tick S merges into the last reset (R137). -/
def syncJoins (s : State) (S : Nat) : Bool :=
  match lastReset s with | some l => decide (l ≤ S) && decide (S < l + 128) | none => false

/-- Make the sync event of a GO; a scheduled one that does not merge arms a reset (R135, R150). -/
def goSync (s : State) : State :=
  let S := goTick s
  let arms := s.isSet DEC_SYNC_CTRL_AT_EN && decide (s.now < s.r64 DEC_SYNC_AT_LO) && !syncJoins s S
  when arms (fun s => { s with dec := { s.dec with armed := some S } }.setF DEC_SYNC_STAT_PENDING 1)
    (syncEvent S false (s.setF DEC_SYNC_CTRL_GO 0))

/-- DEC_SYNC_GO (R135): a write of 1 to DEC_SYNC_CTRL.GO. -/
def execDecSyncGo (s : State) : Out := .next (goSync s)

/-- The result of DEC_SYNC: S, and PIN_MERGED in bit 63. -/
def syncResult (s : State) (S : Nat) : Nat := S + 2 ^ 63 * s.getF DEC_SYNC_STAT_PIN_LAST

/-- The earliest scheduled reset. -/
def nextReset (s : State) : Option (Nat × Nat × Nat) :=
  s.dec.sched.foldl (fun m e => match m with
    | some x => if e.1 < x.1 then some e else some x
    | none => some e) none

/-- DEC_SYNC_RESET (R136, R137, R142): the reset at S, and the merging of events that fall within 128 ticks of it. -/
def execDecSyncReset (s : State) : Out :=
  match nextReset s with
  | none => .next s
  | some (S, pin, cmd) =>
    if s.now < S || asleep s then .next s else
    let merged := s.dec.sched.filter (fun e => decide (S < e.1) && decide (e.1 < S + 128))
    let rest := s.dec.sched.filter (fun e => decide (S + 128 ≤ e.1))
    let s := { s with dec := { s.dec with gridS := S, sched := rest } }
    let s := forN 32 (fun ch s =>
      let cfg := s.reg (DEC_CH_CFG ch)
      let buf := s.reg (DEC_CH_BUF_CFG ch)
      let c := s.ch ch
      let s := s.setCh ch { c with hist := tabDel 0 (tabDel 1 c.hist), filt := tabDel 0 (tabDel 1 c.filt) }
      when ((DEC_CH_BUF_CFG_EN 0).of buf == 1 && ((DEC_CH_BUF_CFG_SRC 0).of buf == 1 || secOf cfg == 1)) (shortBlock ch) s) s
    let s := (s.set64 DEC_SYNC_TIME_LO S).addF DEC_SYNC_STAT_COUNT 1
    let s := (s.setF DEC_SYNC_STAT_PIN_LAST (min 1 pin)).setF DEC_SYNC_STAT_CMD_LAST (min 1 cmd)
    let s := merged.foldl (fun s e => forN e.2.2 (fun _ => countMerged false) (forN e.2.1 (fun _ => countMerged true) s)) s
    let s := match s.dec.armed with
      | some a => if a < S + 128 then { s with dec := { s.dec with armed := none } }.setF DEC_SYNC_STAT_PENDING 0 else s
      | none => s
    let s := (s.hitF DEC_EVT_SYNC_DONE 1).event 0x002
    .next (finishAwaits (fun w => match w with | .decSync x => decide (x < S + 128) | _ => false) stDONE (syncResult s S) s)

/-! ### Bank swaps (R138, R154, R155) -/

/-- Queue a swap request; `cmd` is the command that waits for it. -/
def queueSwap (p : Nat) (cmd : Option (Src × Nat)) (s : State) : State :=
  let s := { s with dec := { s.dec with swaps := s.dec.swaps ++ [(p, s.now, cmd)] } }
  s.setF (DEC_FIR_CTRL_PENDING p) (s.getF (DEC_FIR_CTRL_PENDING p) + 1)

/-- DEC_SWAP_REQUEST (R138, R154): a direct-mode write of SWAP; with PENDING at 3 it is dropped. -/
def execDecSwapRequest (p : Nat) (s : State) : Out :=
  if s.getF (DEC_FIR_CTRL_PENDING p) = 3 then .next (s.hitB DEC_EVT_SWAP_DROP p) else .next (queueSwap p none s)

/-- The boundary of a request that landed at `land` (R138): the first instant whose channel-0 strobe falls at least one
tick after it, not before the boundary after the last swap nor before decimation started. -/
def swapBoundary (s : State) (p land : Nat) : Nat :=
  let g := gridOf s p
  let lo := max (max (land + 1 - decLatency p) (tabGet 0 p s.dec.nextT)) (s.dec.startAt.getD 0)
  if lo ≤ g then g else g + ceilDiv (lo - g) (decPeriod p) * decPeriod p

/-- A boundary has freed a place: the oldest DEC_SWAP_BANK held for the preset sets SWAP (R154). -/
def releaseHeld (p : Nat) (s : State) : State :=
  match s.dec.held.find? (fun e => e.1 == p) with
  | some e => queueSwap p (some e.2) { s with dec := { s.dec with held := s.dec.held.erase e } }
  | none => s

/-- DEC_BANK_SWAP (R138): at the boundary the banks exchange roles. -/
def execDecBankSwap (p : Nat) (s : State) : Out :=
  match s.dec.swaps.find? (fun e => e.1 == p) with
  | none => .next s
  | some (_, land, cmd) =>
    let T := swapBoundary s p land
    if s.now < T + decLatency p || s.dec.startAt.isNone then .next s else
    let s := { s with dec := { s.dec with swaps := s.dec.swaps.erase (p, land, cmd),
                                          nextT := tabPut 0 p (T + decPeriod p) s.dec.nextT } }
    let s := s.setF (DEC_FIR_CTRL_ACTIVE p) (1 - s.getF (DEC_FIR_CTRL_ACTIVE p))
    let n := s.getF (DEC_FIR_CTRL_PENDING p) - 1
    let s := (s.setF (DEC_FIR_CTRL_PENDING p) n).setF (DEC_FIR_CTRL_SWAP p) 0
    let s := releaseHeld p ((s.hitB DEC_EVT_SWAP_DONE p).event (0x004 + p))
    match cmd with
    | some c =>
      let s := { s with denrek := { s.denrek with awaits := s.denrek.awaits.filter (fun e => !(e.2 == c)) } }
      .next (finishCmd c.1 c.2 stDONE T [] s)
    | none => .next s

/-! ### Commands (R149, R150, R460) -/

/-- Some channel of a line is open. -/
def lineOpen (s : State) (k : Nat) : Bool := s.owner (.channel (2 * k)) != none || s.owner (.channel (2 * k + 1)) != none

/-- An open channel of line k has GUST_EN. -/
def lineGust (s : State) (k : Nat) : Bool :=
  (s.owner (.channel (2 * k)) != none && s.isSet (DEC_CH_CFG_GUST_EN (2 * k)))
    || (s.owner (.channel (2 * k + 1)) != none && s.isSet (DEC_CH_CFG_GUST_EN (2 * k + 1)))

/-- DEC_SET_CLOCKS (R149, R150, R131). A rate change of a clock that is disabled is no CONFLICT, whatever line names it.
(DESIGN CHOICE, log entry 74). -/
def execDecSetClocks (d : Desc) (s : State) : Out :=
  let z := [4, 8]
  runCmd d 0x0501 z (fun s d => claimC s d .capture) (fun s d =>
    let clk := fun n => bitsOf (d.arg z 0) (8 * n) 8
    let line := fun k => bitsOf (d.arg z 1) (4 * k) 4
    let n4 := List.range 4
    let k16 := List.range 16
    checked [need (n4.all (fun n => decide (clk n < 4))) stBAD,
      need (k16.all (fun k => !(lineGust s k && clk (line k % 4) / 2 == 1))) stBAD,
      need (k16.all (fun k => !lineOpen s k ||
        (let n := s.getF (DEC_LINE_CLK k)
         !(s.isSet (DEC_CLK_EN n)) || (clk n % 2 == 1 && clk n / 2 == bit (slowPdm s n))))) stCONFLICT] s
      (let s := s.take d .capture
       let s := n4.foldl (fun s n => s.setReg (DEC_CLK n) (BitVec.ofNat 32 (clk n))) s
       let s := k16.foldl (fun s k => s.setReg (DEC_LINE k) (BitVec.ofNat 32 (line k))) s
       (settlePdm (s.setF DEC_CTRL_EN 1), .ok))) s

/-- DEC_OPEN_CHANNEL (R149, R131, R38). -/
def execDecOpenChannel (d : Desc) (s : State) : Out :=
  let z := [1, 4, 4]
  runCmd d 0x0502 z (fun s d => let ch := d.arg z 0
      firstBad [need (decide (ch < 32)) stBAD, claimC s d (.channel ch)]) (fun s d =>
    let ch := d.arg z 0
    let cfg := d.arg z 1
    let sec := (DEC_CH_CFG_SEC 0).img cfg
    let old := s.getF (DEC_CH_CFG_SEC ch)
    checked [imgOk (DEC_CH_CFG ch) [] [] cfg, imgOk (DEC_CH_ADJ ch) [] [] (d.arg z 2),
      need (!((DEC_CH_CFG_GUST_EN 0).img cfg == 1 && slowPdm s (chClk s ch))) stBAD,
      need (old == 0 || sec == 0 || old == sec || s.owner (.channel ch) == none) stNORES] s
      (let s := s.take d (.channel ch)
       let s := (s.setImg (DEC_CH_CFG ch) [] [] cfg).setImg (DEC_CH_ADJ ch) [] [] (d.arg z 2)
       (decSnap ch s, .ok))) s

/-- Channel n is released: CFG and BUF_CFG.EN clear, its bindings go (R149, R452). Its RMS window, envelope and histories stay
for the next session that opens it. (DESIGN CHOICE, log entry 74). -/
def closeChannel (ch : Nat) (s : State) : State :=
  let s := (s.setReg (DEC_CH_CFG ch) 0).setF (DEC_CH_BUF_CFG_EN ch) 0
  let c := s.ch ch
  let s := decSnap ch (s.setCh ch { c with cur := none, sync := true })
  unbindEvents (fun e => e == 0x080 + ch || e == 0x0A0 + ch || e == 0x0C0 + ch) s

/-- DEC_CLOSE_CHANNEL (R149). -/
def execDecCloseChannel (d : Desc) (s : State) : Out :=
  runCmd d 0x0503 [1] (fun s d => let ch := d.arg [1] 0
      firstBad [need (decide (ch < 32)) stBAD, ownC s d (.channel ch)]) (fun s d =>
    let ch := d.arg [1] 0
    ((closeChannel ch s).giveUp d (.channel ch), .ok)) s

/-- A session's channels and capture claim are released at its close (R424): reset values return. -/
def releaseChannel (ch : Nat) (s : State) : State :=
  let s := closeChannel ch s
  let s := s.clearRegs (DEC_CH_CFG ch) (DEC_CH_CFG ch + 0x40)
  (decSnap ch s).release (.channel ch)

/-- The capture claim is released: clocks, lines and banks return to reset (R149, R424). -/
def releaseCapture (s : State) : State :=
  let s := (s.clearRegs DEC_CTRL (DEC_SYNC_STAT)).clearRegs (DEC_FIR_DLY 0) (DEC_EVT)
  let s := (s.clearRegs (DEC_LINE 0) (DEC_LINE 16)).clearRegs (DEC_COEF 0 0 0) (DEC_COEF 4 0 0)
  let s := s.clearRegs DEC_SYNC_AT_LO DEC_SYNC_TIME_LO
  unbindEvents (fun e => e == 0x002 || (decide (0x004 ≤ e) && decide (e < 0x008))) (settlePdm (s.release .capture))

/-- DEC_SET_BUFFER (R140). -/
def execDecSetBuffer (d : Desc) (s : State) : Out :=
  let z := [1, 8, 4, 2]
  runCmd d 0x0504 z (fun s d => let ch := d.arg z 0
      firstBad [need (decide (ch < 32)) stBAD, ownC s d (.channel ch), bindOwn s d [d.arg z 3]]) (fun s d =>
    let ch := d.arg z 0
    let base := d.arg z 1
    let cfg := d.arg z 2
    let blk := (DEC_CH_BUF_CFG_BLOCK 0).img cfg
    checked [addrOk base, need (base % 64 == 0) stBAD, imgOk (DEC_CH_BUF_CFG ch) [] [] cfg,
      need (decide (8 ≤ blk) && decide (blk ≤ 1024) && (DEC_CH_BUF_CFG_NBLK 0).img cfg != 0) stBAD, bindOk [d.arg z 3]] s
      (withBinds d [(0x05040, 0x080 + ch, d.arg z 3)] s (fun s =>
        let was := s.isSet (DEC_CH_BUF_CFG_EN ch)
        let s := (s.set64 (DEC_CH_BUF_LO ch) base).setImg (DEC_CH_BUF_CFG ch) [] [] cfg
        let c := s.ch ch
        let s := when (!was) (fun s => s.setCh ch { c with cur := none, sync := true }) s
        (decSnap ch s, .ok)))) s

/-- DEC_SET_DETECTOR (R144, R145). -/
def execDecSetDetector (d : Desc) (s : State) : Out :=
  let z := [1, 1, 4, 4, 4, 4, 2, 2]
  runCmd d 0x0505 z (fun s d => let ch := d.arg z 0
      firstBad [need (decide (ch < 32)) stBAD, ownC s d (.channel ch), bindOwn s d [d.arg z 6, d.arg z 7]]) (fun s d =>
    let ch := d.arg z 0
    let win := (DEC_CH_RMS_WIN 0).img (d.arg z 2)
    checked [need (decide (d.arg z 1 ≤ 1)) stBAD, imgOk (DEC_CH_RMS ch) [] [] (d.arg z 2), imgOk (DEC_CH_ENV ch) [] [] (d.arg z 3),
      imgOk (DEC_CH_THR ch 0) [] [] (d.arg z 4), imgOk (DEC_CH_THR ch 1) [] [] (d.arg z 5),
      need (decide (4 ≤ win) && decide (win ≤ 14) && decide ((DEC_CH_ENV_ATT 0).img (d.arg z 3) ≤ 20)
        && decide ((DEC_CH_ENV_REL 0).img (d.arg z 3) ≤ 20)) stBAD, bindOk [d.arg z 6, d.arg z 7]] s
      (withBinds d [(0x05050, 0x0A0 + ch, d.arg z 6), (0x05051, 0x0C0 + ch, d.arg z 7)] s (fun s =>
        let s := (s.setImg (DEC_CH_RMS ch) [] [] (d.arg z 2)).setImg (DEC_CH_ENV ch) [] [] (d.arg z 3)
        let s := (s.setImg (DEC_CH_THR ch 0) [] [] (d.arg z 4)).setImg (DEC_CH_THR ch 1) [] [] (d.arg z 5)
        (decSnap ch (s.setF (DEC_CH_CFG_DET_SRC ch) (d.arg z 1)), .ok)))) s

/-- DEC_READ_DETECTORS: the detector record; the channel's DEC_DET_EVT bits clear. -/
def execDecReadDetectors (d : Desc) (s : State) : Out :=
  let z := [1, 8]
  runCmd d 0x0506 z (fun s d => let ch := d.arg z 0
      firstBad [need (decide (ch < 32)) stBAD, ownC s d (.channel ch)]) (fun s d =>
    let ch := d.arg z 0
    match outStatus d (d.arg z 1) [.w (DEC_CH_PEAK ch), .w (DEC_CH_RMS ch), .w (DEC_CH_ENV ch), .w (DEC_CH_STAT ch)] s with
    | (s, .done n x) => ((s.clrB (DEC_DET_EVT_CH 0) ch).clrB (DEC_DET_EVT_CH 1) ch, .done n x)
    | r => r) s

/-- The bank of a preset that is not active. -/
def otherBank (s : State) (p : Nat) : Nat := 1 - s.getF (DEC_FIR_CTRL_ACTIVE p)

/-- DEC_LOAD_COEF (R138, R460): 64 LOW-form words to the inactive bank, and its declared delay. -/
def execDecLoadCoef (d : Desc) (s : State) : Out :=
  let z := [1, 2, 8]
  runCmd d 0x0507 z (fun s d => firstBad [need (decide (d.arg z 0 < 4)) stBAD, ownC s d .capture]) (fun s d =>
    let p := d.arg z 0
    checked [addrOk (d.arg z 2)] s (withMem (readMem d (d.arg z 2) 256 s) (fun s bs =>
      let b := otherBank s p
      let s := forN 64 (fun i s => s.setF (DEC_COEF_C p b i) (recField bs (4 * i) 4)) s
      (s.setF (if b = 0 then DEC_FIR_DLY_DLY_A p else DEC_FIR_DLY_DLY_B p) (d.arg z 1), .ok)))) s

/-- DEC_SWAP_BANK (R138, R154): completes at its boundary with T; while PENDING is 3 it is held, started. -/
def execDecSwapBank (d : Desc) (s : State) : Out :=
  runCmd d 0x0508 [1] (fun s d => firstBad [need (decide (d.arg [1] 0 < 4)) stBAD, ownC s d .capture]) (fun s d =>
    let p := d.arg [1] 0
    if s.getF (DEC_FIR_CTRL_PENDING p) = 3 then
      ({ s with dec := { s.dec with held := s.dec.held ++ [(p, d.src, d.seq)] } }, .later (.decSwap p))
    else (queueSwap p (some (d.src, d.seq)) s, .later (.decSwap p))) s

/-- DEC_SYNC (R135, R150, R153). -/
def execDecSync (d : Desc) (s : State) : Out :=
  let z := [1, 8]
  runCmd d 0x0509 z (fun s d => ownC s d .capture) (fun s d =>
    checked [need (decide (d.arg z 0 ≤ 1)) stBAD,
      need (!(d.arg z 0 == 1 && s.isSet DEC_SYNC_STAT_PENDING)) stCONFLICT] s
      (let s := s.setF DEC_SYNC_CTRL_AT_EN (d.arg z 0)
       let s := when (d.arg z 0 == 1) (fun s => s.set64 DEC_SYNC_AT_LO (d.arg z 1)) s
       let S := goTick s
       let merges := syncJoins s S
       let s := goSync s
       if merges then (s, .done (syncResult s s.dec.gridS) []) else (s, .later (.decSync S)))) s

/-- DEC_STATUS: DEC_SYNC_STAT, DEC_SYNC_TIME, DEC_FIR_CTRL_p and DEC_EVT. -/
def execDecStatus (d : Desc) (s : State) : Out :=
  runCmd d 0x050A [8] (fun _ _ => 0) (fun s d => outStatus d (d.arg [8] 0)
    ([.w DEC_SYNC_STAT, .q DEC_SYNC_TIME_LO] ++ (List.range 4).map (fun p => .w (DEC_FIR_CTRL p)) ++ [.w DEC_EVT]) s) s

/-- Decimation stops for PARK (R157): blocks that are complete are written. -/
def decPark (s : State) : State :=
  forN 32 (fun ch s => forN (s.ch ch).done.length (fun _ s => match execDecBlockComplete ch s with | .next s => s | _ => s) s) s

/-- Decimation restarts at the end of a wake (R74, R157): a scheduled reset whose tick has passed acts as an immediate GO
(R135). (DEDUCED, log entry 73). -/
def decWake (s : State) : State :=
  settlePdm { s with dec := { s.dec with
    sched := s.dec.sched.map (fun e => if e.1 < s.now then (up32 (s.now + 4), e.2) else e) } }

end Sys2Proof.Machine
end

