-- ==== Sys2Proof/Machine/Float.lean ====
section
/-! DEFINITION. IEEE 754 binary32, rounded to nearest, ties to even (R246, R260). A value is its 32-bit pattern. A sum of
three or more products has no stated order, so its value is free (Config.f32Dot). -/

namespace Sys2Proof.Machine

/-- The pattern of a binary32 value. -/
abbrev F32 := Nat

def fNaN : F32 := 0x7FC00000
def fZero : F32 := 0
def fOne : F32 := 0x3F800000
def fInf (neg : Bool) : F32 := 0x7F800000 + bit neg * 2 ^ 31

def fSign (x : F32) : Bool := x / 2 ^ 31 % 2 == 1
def fExp (x : F32) : Nat := x / 2 ^ 23 % 256
def fFrac (x : F32) : Nat := x % 2 ^ 23
def fIsNaN (x : F32) : Bool := fExp x == 255 && fFrac x != 0
def fIsInf (x : F32) : Bool := fExp x == 255 && fFrac x == 0
def fIsFin (x : F32) : Bool := fExp x != 255
def fIsZero (x : F32) : Bool := x % 2 ^ 31 == 0

/-- The significand of a finite value, in units of 2^-149 times 2^shift. -/
def fMant (x : F32) : Nat := if fExp x = 0 then fFrac x else 2 ^ 23 + fFrac x
/-- The power of two of a finite value's significand. -/
def fPow (x : F32) : Int := (if fExp x = 0 then 1 else fExp x : Nat) - 150

/-- Round `num / den · 2^e` (den > 0) to binary32 with the given sign. -/
def fRound (neg : Bool) (num den : Nat) (e : Int) : F32 :=
  let sg := bit neg * 2 ^ 31
  if num = 0 then sg
  else
    -- scale so that the quotient has at least 26 bits
    let up := 30 + Nat.log2 den + 1 - Nat.log2 num
    let q := num * 2 ^ up / den
    let st := bit (decide (num * 2 ^ up % den ≠ 0))
    let q2 := 2 * q + st
    let e2 : Int := e - up - 1
    -- the value is q2 * 2^e2 (q2 sticky); choose the last place kept
    let top : Int := Nat.log2 q2 + e2
    let lsb : Int := max (top - 23) (-149)
    let drop := (lsb - e2).toNat
    let m := (roundEvenShr (q2 : Int) drop).toNat
    let biased := lsb + 149
    -- m counts units of 2^lsb; a carry to 2^24 moves into the exponent by addition
    let bits := if biased ≤ 0 then m else (biased.toNat + 1) * 2 ^ 23 + m - 2 ^ 23
    if 0x7F800000 ≤ bits then sg + 0x7F800000 else sg + bits

def fNeg (x : F32) : F32 := if fSign x then x - 2 ^ 31 else x + 2 ^ 31
def fAbs (x : F32) : F32 := x % 2 ^ 31

/-- The signed significand over a power of two no greater than `e`. -/
def fScaled (x : F32) (e : Int) : Int :=
  let m : Int := fMant x * 2 ^ (fPow x - e).toNat
  if fSign x then -m else m

def fAdd (a b : F32) : F32 :=
  if fIsNaN a || fIsNaN b then fNaN
  else if fIsInf a then (if fIsInf b && fSign a != fSign b then fNaN else a)
  else if fIsInf b then b
  else
    let e := min (fPow a) (fPow b)
    let s := fScaled a e + fScaled b e
    if s = 0 then (if fSign a && fSign b then 2 ^ 31 else 0)
    else fRound (decide (s < 0)) s.natAbs 1 e

def fSub (a b : F32) : F32 := fAdd a (fNeg b)

def fMul (a b : F32) : F32 :=
  let neg := fSign a != fSign b
  if fIsNaN a || fIsNaN b then fNaN
  else if fIsInf a || fIsInf b then (if fIsZero a || fIsZero b then fNaN else fInf neg)
  else fRound neg (fMant a * fMant b) 1 (fPow a + fPow b)

def fDiv (a b : F32) : F32 :=
  let neg := fSign a != fSign b
  if fIsNaN a || fIsNaN b then fNaN
  else if fIsInf a then (if fIsInf b then fNaN else fInf neg)
  else if fIsInf b then bit neg * 2 ^ 31
  else if fIsZero b then (if fIsZero a then fNaN else fInf neg)
  else fRound neg (fMant a) (fMant b) (fPow a - fPow b)

/-- Integer square root by binary search over 64 bits. -/
def isqrt (n : Nat) : Nat := go n 64 0
where
  go (n : Nat) : Nat → Nat → Nat
    | 0, r => r
    | k + 1, r => go n k (if (r + 2 ^ k) * (r + 2 ^ k) ≤ n then r + 2 ^ k else r)

def fSqrt (a : F32) : F32 :=
  if fIsNaN a then fNaN
  else if fIsZero a then a
  else if fSign a then fNaN
  else if fIsInf a then a
  else
    let p := fPow a
    let odd := decide (p % 2 ≠ 0)
    let m := if odd then fMant a * 2 else fMant a
    let e := if odd then p - 1 else p
    let n := m * 2 ^ 60
    let r := isqrt n
    fRound false (2 * r + bit (decide (r * r ≠ n))) 1 (e / 2 - 31)

/-- a < b on finite values and infinities; false with a NaN. -/
def fLt (a b : F32) : Bool :=
  if fIsNaN a || fIsNaN b then false
  else if fIsZero a && fIsZero b then false
  else if fSign a != fSign b then fSign a
  else if fSign a then decide (b % 2 ^ 31 < a % 2 ^ 31) else decide (a < b)

def fLe (a b : F32) : Bool := !fIsNaN a && !fIsNaN b && !fLt b a

/-- A ratio of integers, rounded. -/
def fOfRat (n : Int) (d : Nat) : F32 := fRound (decide (n < 0)) n.natAbs d 0
def fOfInt (n : Int) : F32 := fOfRat n 1

/-- A sum of products: exact binary32 steps for up to two terms that are not zero, free beyond (no order is stated). -/
def fDot (l : List (F32 × F32)) : F32 :=
  match l.filter (fun p => !(fIsZero p.1 && fIsFin p.2) && !(fIsZero p.2 && fIsFin p.1)) with
  | [] => fZero
  | [p] => fMul p.1 p.2
  | [p, q] => fAdd (fMul p.1 p.2) (fMul q.1 q.2)
  | r => Config.f32Dot r % 2 ^ 32

/-- Matrices as lists of rows. -/
abbrev Mat := List (List F32)

def mAt (m : Mat) (i j : Nat) : F32 := (m.getD i []).getD j 0
def mBuild (r c : Nat) (f : Nat → Nat → F32) : Mat := (List.range r).map (fun i => (List.range c).map (fun j => f i j))
def mMul (r n c : Nat) (a b : Mat) : Mat := mBuild r c (fun i j => fDot ((List.range n).map (fun k => (mAt a i k, mAt b k j))))
def mT (r c : Nat) (m : Mat) : Mat := mBuild c r (fun i j => mAt m j i)
def mAdd (r c : Nat) (a b : Mat) : Mat := mBuild r c (fun i j => fAdd (mAt a i j) (mAt b i j))
def mSub (r c : Nat) (a b : Mat) : Mat := mBuild r c (fun i j => fSub (mAt a i j) (mAt b i j))
def mId (n : Nat) : Mat := mBuild n n (fun i j => if i = j then fOne else 0)
def mDiag (l : List F32) : Mat := mBuild l.length l.length (fun i j => if i = j then l.getD i 0 else 0)
def mCol (l : List F32) : Mat := l.map (fun x => [x])
def mFin (m : Mat) : Bool := m.all (fun r => r.all fIsFin)

/-- The pivots of the Cholesky factorisation, stopping at one that is not positive; `l` holds the rows of L so far. -/
def cholPivots (s : Mat) : Nat → Nat → Mat → Bool
  | 0, _, _ => true
  | k + 1, i, l =>
    let row := (List.range i).foldl (fun (r : List F32) j =>
      let num := fDot ((mAt s i j, fOne) :: (List.range j).map (fun t => (fNeg (r.getD t 0), mAt l j t)))
      r ++ [fDiv num (mAt l j j)]) []
    let p := fDot ((mAt s i i, fOne) :: row.map (fun x => (fNeg x, x)))
    if fLt fZero p && fIsFin p then cholPivots s k (i + 1) (l ++ [row ++ [fSqrt p]]) else false

/-- S⁻¹: the reciprocal for one row; beyond, no order of operations is stated, so its values are free. -/
def mInv (n : Nat) (s : Mat) : Mat :=
  if n = 1 then [[fDiv fOne (mAt s 0 0)]] else mBuild n n (fun i j => Config.f32Inverse s i j % 2 ^ 32)

end Sys2Proof.Machine
end

