-- ==== Sys2Proof/Machine/HostReads.lean ====
section
/-! DEFINITION. Non-posted requests to host memory (R509 to R511): ranges waiting for a tag, tags in use, and on a paired
primary the data that waits for its APPLY (R543). (DESIGN CHOICE, log entry 47). -/

namespace Sys2Proof.Machine

/-- The function whose window holds an address. -/
def hostOf (s : State) (a : Nat) : Option Nat :=
  match kindOf s a with
  | .host f => some f
  | _ => none

/-- This twin is the standby (R535). -/
def isStandby (s : State) : Bool := s.getF TWIN_STAT_ROLE == 2

/-- Bring HOSTIF_TAGS up to date. -/
def putTags (s : State) : State :=
  let n := s.hostif.tags.length
  (s.setF HOSTIF_TAGS_NOW n).maxF HOSTIF_TAGS_MAX n

/-- Tags that the classes without a reserve may hold (R510). -/
def tagLimit (s : State) : Nat := 256 - min 128 (s.getF HOSTIF_TAGS_CFG_AUDIO_RSV)

/-- A read is in the audio class: that of a line, or of a core MEMC_QOS_MAP names (R396, R510). -/
def readAudio (s : State) : RdOwner → Bool
  | .dma n _ => coreAudio s n
  | .far n => coreAudio s n
  | .line _ _ => true
  | _ => false

/-- A tag is free for a read: AUDIO_RSV tags serve the audio class only (R510). -/
def tagFor (s : State) (o : RdOwner) : Bool :=
  let l := s.hostif.tags
  decide (l.length < 256)
    && (readAudio s o || decide ((l.filter (fun e => !readAudio s e.own)).length < tagLimit s))

/-- Grant one tag to the oldest range of the highest class that may go out (R510): at most 512 bytes (R503), not across a
page. -/
def issueOne (s : State) : Option State :=
  let h := s.hostif
  let ready := fun (e : RdOwner × Nat × Nat) => match hostOf s e.2.1 with
    | some f => !hostWaits s f
    | none => true
  let go := fun (e : RdOwner × Nat × Nat) => ready e && tagFor s e.1
  if isStandby s then none
  else match (List.range 256).find? (fun t => !h.tags.any (fun e => e.tag == t)), (h.todo.find? (fun e => go e && readAudio s e.1)).or (h.todo.find? go) with
    | some t, some (o, a, n) =>
      let m := min n (min 512 (4096 - a % 4096))
      let rest := h.todo.erase (o, a, n)
      let rest := if m < n then (o, a + m, n - m) :: rest else rest
      some (putTags { s with hostif := { h with tags := h.tags ++ [⟨t, a, m, o⟩], todo := rest } })
    | _, _ => none

/-- Grant tags while requests can go out. -/
def issueReads : Nat → State → State
  | 0, s => s
  | k + 1, s =>
    match issueOne s with
    | some s => issueReads k s
    | none => s

/-- Ask for a range of host memory. -/
def readHost (o : RdOwner) (a n : Nat) (s : State) : State :=
  if n = 0 then s
  else issueReads 256 { s with hostif := { s.hostif with todo := s.hostif.todo ++ [(o, a, n)] } }

/-- Every byte the owner asked for has arrived and taken its effect. -/
def hostDone (s : State) (o : RdOwner) : Bool :=
  !s.hostif.tags.any (fun e => e.own == o) && !s.hostif.todo.any (fun e => e.1 == o)
    && !s.hostif.late.any (fun e => e.own == o)

/-- The owner gives up what it has not been granted. -/
def dropReads (o : RdOwner) (s : State) : State :=
  { s with hostif := { s.hostif with
      todo := s.hostif.todo.filter (fun e => !(e.1 == o))
      tags := s.hostif.tags.map (fun e => if e.own = o then { e with own := .far 4 } else e)
      late := s.hostif.late.filter (fun e => !(e.own == o)) } }

/-- The journaled bytes [a, a+n) have taken effect: a primary's data no longer waits, a standby's request is served. -/
def readServed (a n : Nat) (s : State) : State :=
  let cut := fun (e : RdOwner × Nat × Nat) =>
    if e.2.1 = a then (if n < e.2.2 then some (e.1, a + n, e.2.2 - n) else none) else some e
  { s with hostif := { s.hostif with
      late := s.hostif.late.filter (fun e => !(e.addr == a && e.len == n))
      todo := if isStandby s then s.hostif.todo.filterMap cut else s.hostif.todo } }

end Sys2Proof.Machine
end

