-- ==== Sys2Proof/Machine/Voice.lean ====
section
/-! DEFINITION. What the separation service puts out (R34, R342, R347, R457, R458): the separated sample of an acoustic
instant and the words that streams feed to lines and converters. -/

namespace Sys2Proof.Machine

/-- A stream slot. -/
def State.strm (s : State) (k : Nat) : Strm := tabGet Strm.reset k s.lynx.strms
def State.setStrm (s : State) (k : Nat) (x : Strm) : State :=
  { s with lynx := { s.lynx with strms := tabPut Strm.reset k x s.lynx.strms } }

/-- A stream's side of Lynx. -/
def State.lstr (s : State) (k : Nat) : LynxStr := tabGet LynxStr.reset k s.lynx.strs
def State.setLstr (s : State) (k : Nat) (x : LynxStr) : State :=
  { s with lynx := { s.lynx with strs := tabPut LynxStr.reset k x s.lynx.strs } }

/-- The voice-separation latency of a stream (R34), by its prediction (R32). -/
def strLat (s : State) (k : Nat) : Nat := if s.isSet (LYNX_STR_CFG_PRED k) then 147456 else 294912

/-- Hop `h` was synthesised with the mask 0 in every bin (R347). -/
def silentHop (s : State) (k h : Nat) : Bool := (s.lstr k).kinds.contains (h, 4)

/-- The separated sample of acoustic instant `t`, 24-bit: zero before the first served hop and where two hops in a row
are masked with 0; otherwise free. -/
def separated (s : State) (k t : Nat) : Int :=
  let x := s.strm k
  let h := t / 49152 + 1
  if t < x.first || (silentHop s k h && silentHop s k (h - 1)) then 0 else wrapS 24 (Config.separated x.seed t)

/-- The sample a stream delivers at `tick`: that of the oldest CALM instant whose latency there is at most R34's. -/
def streamAt (s : State) (k tick : Nat) : Int :=
  if tick < strLat s k then 0 else separated s k (ceilDiv (tick - strLat s k) 2048 * 2048)

/-- SINK of R457: kind; port and line of kind 0; converter of kind 2. -/
def sinkKind (x : Nat) : Nat := x % 4
def sinkPort (x : Nat) : Nat := bitsOf x 2 2
def sinkLine (x : Nat) : Nat := bitsOf x 4 1
def sinkConv (x : Nat) : Nat := bitsOf x 2 3

/-- The stream slots whose sink `p` holds of. -/
def streamsTo (s : State) (p : Strm → Bool) : List Nat :=
  (List.range 24).filter (fun k => (s.strm k).opened && p (s.strm k))

/-- The streams of line l of TX n. -/
def onLine (n l : Nat) (x : Strm) : Bool := sinkKind x.sink == 0 && sinkPort x.sink == n && sinkLine x.sink == l

/-- Line l of TX n is fed by streams (R458). -/
def lineFed (s : State) (n l : Nat) : Bool := !(streamsTo s (onLine n l)).isEmpty

/-- The word of FIFO position `p` of a fed line for the slot whose first bit comes 25 ticks from now: HIGH form, zero
where no stream feeds the position (R458). -/
def lineWord (s : State) (n l p : Nat) : Int :=
  match streamsTo s (fun x => onLine n l x && x.pos == p) with
  | k :: _ => streamAt s k (s.now + 25) * 256
  | [] => 0

/-- The streams of converter n. -/
def onConv (n : Nat) (x : Strm) : Bool := sinkKind x.sink == 2 && sinkConv x.sink == n

/-- Converter n is fed by streams. -/
def converterFed (s : State) (n : Nat) : Bool := !(streamsTo s (onConv n)).isEmpty

/-- The word of channel c of a fed converter for internal instant `t`. -/
def converterWord (s : State) (n t c : Nat) : Int :=
  match streamsTo s (fun x => onConv n x && x.pos == c) with
  | k :: _ => streamAt s k t
  | [] => 0

end Sys2Proof.Machine
end

