-- ==== Sys2Proof/Machine/Tdm.lean ====
section
/-! DEFINITION. Serial audio ports (R159 to R190): groups, directions, FIFO lines, late-bound output slots, silent
changes, the common trigger and the port commands. (DEDUCED, log entry 28). -/

namespace Sys2Proof.Machine

def State.tdir (s : State) (n d : Nat) : TdmDir := tabGet TdmDir.reset (2 * n + d) s.tdm.dirs
def State.setTdir (s : State) (n d : Nat) (x : TdmDir) : State :=
  { s with tdm := { s.tdm with dirs := tabPut TdmDir.reset (2 * n + d) x s.tdm.dirs } }
def State.tline (s : State) (n d l : Nat) : TdmLine := tabGet TdmLine.reset (4 * n + 2 * d + l) s.tdm.lines
def State.setTline (s : State) (n d l : Nat) (x : TdmLine) : State :=
  { s with tdm := { s.tdm with lines := tabPut TdmLine.reset (4 * n + 2 * d + l) x s.tdm.lines } }
def State.tslot (s : State) (n l k : Nat) : TdmSlot := tabGet TdmSlot.reset (64 * n + 32 * l + k) s.tdm.slots
def State.setTslot (s : State) (n l k : Nat) (x : TdmSlot) : State :=
  { s with tdm := { s.tdm with slots := tabPut TdmSlot.reset (64 * n + 32 * l + k) x s.tdm.slots } }

/-! ### Geometry (R160, R163, R164, R168) -/

/-- CTRL.STATE codes. -/
def tsIDLE : Nat := 0
def tsARMED : Nat := 1
def tsLEAD : Nat := 2
def tsLIVE : Nat := 3
def tsMUTING : Nat := 4
def tsTAIL : Nat := 5
def tsWAIT : Nat := 6

/-- The state of a direction. -/
def tdState (s : State) (n d : Nat) : Nat := s.getF (TDM_CTRL_STATE n d)

/-- A direction is started. -/
def tdStarted (s : State) (n d : Nat) : Bool := tdState s n d != tsIDLE

/-- The group a direction runs from. -/
def tdGroup (s : State) (n d : Nat) : Nat := s.getF (TDM_CFG_CLK_SEL n d)

/-- The role of a group: 1 MASTER, 2 SLAVE, else OFF. -/
def grpRole (s : State) (g : Nat) : Nat := s.getF (TDM_CLK_ROLE g) % 3

/-- Slot width in BCLK periods. -/
def tdWidth (s : State) (n d : Nat) : Nat := 16 + (if s.getF (TDM_CFG_WIDTH n d) < 3 then 4 * s.getF (TDM_CFG_WIDTH n d) else 16)

/-- Slots of a direction. -/
def tdSlots (s : State) (n d : Nat) : Nat := s.getF (TDM_CFG_SLOTS n d) + 1

/-- Data bits of a slot. -/
def tdData (s : State) (n d : Nat) : Nat := clampN 8 (tdWidth s n d) (s.getF (TDM_CFG_DATA n d) + 1)

/-- The BCLK period of a group in 1/16 tick. -/
def bclk16 (s : State) (g : Nat) : Nat :=
  if grpRole s g = 1 then 8 * s.getF (TDM_CLK_DIV g) else s.getF (TDM_BCLK_PER_PER g)

/-- The frame period of a group in ticks. -/
def framePeriod (s : State) (g : Nat) : Nat := s.getF (TDM_CLK_FRAME_LEN g) * bclk16 s g / 16

/-- The first-bit instant of slot k of the frame that begins at `fs` (R168). -/
def slotInstant (s : State) (n d k fs : Nat) : Nat :=
  fs + (s.getF (TDM_CFG_OFFSET n d) + k * tdWidth s n d) * bclk16 s (tdGroup s n d) / 16

/-- The tick a group's current frame began, by FS or by its own count (R176). -/
def frameStart (s : State) (g : Nat) : Nat := tabGet 0 g s.tdm.fsAt

/-- SRC of a slot image: 0 OFF, 1 FIFO, 2 GUST. -/
def imgSrc (w : Word) : Nat := (TDM_TX_SLOT_SRC 0 0 0).of w % 3

/-- FIFO slots of a line, ascending. -/
def fifoSlots (s : State) (n d l : Nat) : List Nat :=
  (List.range (tdSlots s n d)).filter (fun k =>
    if d = 0 then imgSrc (s.reg (TDM_TX_SLOT n l k)) == 1 else s.isSet (TDM_RX_SLOT_EN n l k))

/-! ### Events -/

/-- A TDM_EVT bit of port n and its hardware event (R451); `k` is 0 UNDERRUN, 1 OVERRUN, 2 FRAME_ERR, 3 CLK_LOST. -/
def tdmEvt (k n : Nat) (s : State) : State :=
  let f := if k = 0 then TDM_EVT_UNDERRUN else if k = 1 then TDM_EVT_OVERRUN else if k = 2 then TDM_EVT_FRAME_ERR
    else TDM_EVT_CLK_LOST
  (s.setB f n).event (0x010 + 4 * k + n)

/-- Words waiting in a ring (R165): TX words not read, RX words not taken. -/
def ringFill (s : State) (n d l : Nat) : Nat :=
  let hw := s.getF (TDM_RING_PTR_HW n d l)
  let sw := s.getF (TDM_RING_PTR_SW n d l)
  if d = 0 then idxDiff 16 sw hw else idxDiff 16 hw sw

/-- The watermark condition of R167. -/
def atMark (s : State) (n d l fill : Nat) : Bool :=
  let m := s.getF (TDM_RING_CFG_WM n d l) * 16
  if d = 0 then decide (fill ≤ m) else decide (m ≤ fill)

/-- Apply `f`; raise the line's watermark event when the ring comes to its mark (R167). -/
def withMark (n d l : Nat) (f : State → State) (s : State) : State :=
  let s' := f s
  when (atMark s' n d l (ringFill s' n d l) && !atMark s n d l (ringFill s n d l))
    (fun s => s.event (0x020 + 4 * n + 2 * d + l)) s'

/-- A miss on a line (R174, R175): MISS_l and ROT_l. -/
def countMiss (n d l k : Nat) (s : State) : State :=
  let x := s.tline n d l
  let m := x.miss + k
  let s := (s.setTline n d l { x with miss := m }).incF (TDM_MISS_COUNT n d l) k
  let N := (fifoSlots s n d l).length
  let r := if s.isSet (TDM_CFG_FAULT_MODE n d) && N != 0 then m % N else 0
  s.setF (if l = 0 then TDM_STAT_ROT_0 n d else TDM_STAT_ROT_1 n d) r

/-! ### Effective mute and silent changes (R172, R173, R185, R186) -/

/-- The TX of port n is live. -/
def txLive (s : State) (n : Nat) : Bool := tdState s n 0 == tsLIVE

/-- The mute inputs of a TX slot but its not being live (R173). -/
def muteIn (s : State) (n l k : Nat) : Bool :=
  s.isSet (TDM_TX_SLOT_MUTE n l k) || s.isSet (TDM_TX_TOUT_VOTE_MUTE n) || s.isSet GUST_MUTE_GLOBAL || !s.pins.muteN

/-- The effective mute of a TX slot (R173). -/
def effMute (s : State) (n l k : Nat) : Bool := muteIn s n l k || !txLive s n

/-- The slot image without PEND. -/
def slotTarget (s : State) (n l k : Nat) : Word := (TDM_TX_SLOT_PEND n l k).insert (s.reg (TDM_TX_SLOT n l k)) 0

/-- What a TX slot is to become differs from what is in force. -/
def slotDiffers (s : State) (n l k : Nat) : Bool :=
  let x := s.tslot n l k
  x.img != slotTarget s n l k || x.muted != effMute s n l k

/-- The source of the slot changes: SRC, or the Gust output of a GUST slot. -/
def srcChanges (old new : Word) : Bool :=
  imgSrc old != imgSrc new
    || (imgSrc new == 2 && (TDM_TX_SLOT_GUST_OUT 0 0 0).of old != (TDM_TX_SLOT_GUST_OUT 0 0 0).of new)

/-- Zero-cross applies to the slot (SIL, CFG.SIL_MODE). -/
def zeroCross (s : State) (n l k : Nat) : Bool :=
  match s.getF (TDM_TX_SLOT_SIL n l k) with
  | 1 => false
  | 2 => true
  | _ => s.isSet (TDM_CFG_SIL_MODE n 0)

/-- Under zero-cross, a slot that is muted already takes a new source at once: the muting step of its change is done, and
it unmutes at a crossing of the newer source (R172, R185). -/
def sourceStep (n l k : Nat) (s : State) : State :=
  let x := s.tslot n l k
  let img := slotTarget s n l k
  if x.muted && zeroCross s n l k && srcChanges x.img img then s.setTslot n l k { x with img := img, last := none } else s

/-- A slot's change waits from the tick it landed; a later one joins it (R185). A TX that is not started has no samples to
wait for. A slot beyond SLOTS - 1 has none (R182). -/
def touchSlot (n l k : Nat) (s : State) : State :=
  if tdSlots s n 0 ≤ k then s else
  let s := sourceStep n l k s
  let x := s.tslot n l k
  if !tdStarted s n 0 then
    (s.setTslot n l k { x with img := slotTarget s n l k, muted := effMute s n l k, since := none }).setF
      (TDM_TX_SLOT_PEND n l k) 0
  else if slotDiffers s n l k then
    (s.setTslot n l k { x with since := some (x.since.getD s.now) }).setF (TDM_TX_SLOT_PEND n l k) 1
  else (s.setTslot n l k { x with since := none }).setF (TDM_TX_SLOT_PEND n l k) 0

/-- Note changes on every slot of port n's TX. -/
def touchPort (n : Nat) (s : State) : State :=
  forN 2 (fun l s => forN (tdSlots s n 0) (fun k s => touchSlot n l k s) s) s

/-- Note changes on every TX slot, after a mute input moved. -/
def touchAll (s : State) : State := forN 4 touchPort s

/-- Finish TDM_SET_SLOTS commands whose slots wait no more. -/
def settleSlots (s : State) : State :=
  finishAwaits (fun w => match w with
    | .tdmSlots n 0 l f c => (List.range c).all (fun i => (s.tslot n l (f + i)).since.isNone)
    | .tdmSlots .. => true
    | _ => false) stDONE 0 s

/-- Every slot of port n's TX is muted in force. -/
def allMuted (s : State) (n : Nat) : Bool :=
  (List.range 2).all (fun l => (List.range (tdSlots s n 0)).all (fun k => (s.tslot n l k).muted))

/-- A stopping TX whose slots are all muted runs its tail (R171). -/
def settleStop (n : Nat) (s : State) : State :=
  if tdState s n 0 == tsMUTING && allMuted s n then
    (s.setTdir n 0 { s.tdir n 0 with tail := 0 }).setF (TDM_CTRL_STATE n 0) tsTAIL
  else s

/-- Apply a slot's waiting change; under zero-cross an audible change of source mutes first (R172). -/
def applyChange (n l k : Nat) (s : State) : State :=
  let x := s.tslot n l k
  let img := slotTarget s n l k
  let m := effMute s n l k
  let s :=
    if zeroCross s n l k && srcChanges x.img img && !x.muted then
      touchSlot n l k (s.setTslot n l k { x with img := img, muted := true, since := none, last := none })
    else touchSlot n l k (s.setTslot n l k { x with img := img, muted := m, since := none })
  settleStop n (settleSlots s)

/-- The FIFO after owed words are discarded (R174). -/
def dropOwed (x : TdmLine) : TdmLine :=
  let k := min x.owed x.fifo.length
  { x with fifo := x.fifo.drop k, owed := x.owed - k }

/-- The DATA bits of a 32-bit container; the transmitter ignores the bits below them (R162). -/
def container (s : State) (n : Nat) (v : Int) : Int := v / 2 ^ (32 - tdData s n 0) * 2 ^ (32 - tdData s n 0)

/-- The source word of slot k (R162, R168, R169) as a signed 32-bit value; none where the FIFO is empty. A line that
streams feed has no other source (R458). -/
def slotSource (s : State) (n l k : Nat) (img : Word) : Option Int :=
  match imgSrc img with
  | 1 =>
    if lineFed s n l then some (container s n (lineWord s n l ((fifoSlots s n 0 l).idxOf k)))
    else ((dropOwed (s.tline n 0 l)).fifo.head?).map (fun e => container s n (toSigned 32 e.1))
  | 2 => some (tabGet 0 ((TDM_TX_SLOT_GUST_OUT 0 0 0).of img) s.gust.out * 256)
  | _ => some 0

/-- A crossing: zero, or a sign other than that of the previous sample of the same signal (R172). -/
def crosses (last : Option Int) (v : Int) : Bool :=
  v == 0 || match last with
    | some w => decide (w < 0) != decide (v < 0)
    | none => false

/-- The trigger tick a direction starts from, once it is known (R170). -/
def startTick (s : State) (n d : Nat) : Option Nat :=
  match (s.tdir n d).armedAt with
  | some t => some t
  | none => if s.isSet TDM_TRIG_CTRL_PENDING && bitOf s.tdm.trigMask (2 * n + d) then s.tdm.trigAt else none

/-- The FS edge at `fs` starts a direction that is armed (R170, R188). -/
def startsBy (s : State) (n d fs : Nat) : Bool :=
  match startTick s n d with
  | some t => decide (t ≤ fs)
  | none => false

/-- The frames of TX n whose slots may be fetched, as (index, FS instant): the current one, the next as predicted, and the
one before, whose last slots may lie in this frame (R160, R166, R168). Of an armed direction, the first. -/
def fetchFrames (s : State) (n : Nat) : List (Nat × Nat) :=
  let g := tdGroup s n 0
  let fs := frameStart s g
  let P := framePeriod s g
  let x := s.tdir n 0
  let st := tdState s n 0
  if st == tsARMED then
    match startTick s n 0 with
    | some t =>
      if s.isSet (TDM_CLK_STAT_RUN g) then if t ≤ fs + P then [(0, fs + P)] else []
      else if grpRole s g == 1 then [(0, t)] else []
    | none => []
  else if st == tsLEAD || st == tsLIVE || st == tsMUTING || st == tsTAIL then
    (if x.frames = 0 then [] else [(x.frames - 1, fs - P)]) ++ [(x.frames, fs), (x.frames + 1, fs + P)]
  else []

/-- The frame whose fetch of slot k falls in this tick, 25 ticks before its first bit, or at the FS edge where that tick lay
before an edge not foreseen; a slot is fetched once a frame (R166, R168). (DEDUCED, log entry 28). -/
def dueFrame (s : State) (n l k : Nat) : Option (Nat × Nat) :=
  (fetchFrames s n).find? (fun e =>
    let b := slotInstant s n 0 k e.2
    (match (s.tslot n l k).frame with | none => true | some j => decide (j < e.1))
      && (b == s.now + 25 || (e.2 == s.now && decide (b < s.now + 25))))

/-- The waiting change of slot k is in effect for the frame that begins at `fs`: it landed before the boundary, or the slot's
own sample crosses zero (R172). -/
def changeLands (s : State) (n l k fs : Nat) : Bool :=
  let x := s.tslot n l k
  match x.since with
  | none => false
  | some t => if zeroCross s n l k then crosses x.last ((slotSource s n l k x.img).getD 0) else decide (t < fs)

/-- TDM_SILENT_CHANGE (R172): the waiting change of a slot takes effect. -/
def execTdmSilentChange (n l k : Nat) (s : State) : Out :=
  match (s.tslot n l k).since with
  | none => .next s
  | some t =>
    let ok := if !tdStarted s n 0 then true
      else match dueFrame s n l k with
        | some e => changeLands s n l k e.2
        | none => !zeroCross s n l k && decide (t < frameStart s (tdGroup s n 0))
    .next (when ok (applyChange n l k) s)

/-- TDM_ZC_TIMEOUT (R172): ZC.TO × 0.1 ms after it landed, a change waits no longer. -/
def execTdmZcTimeout (n l k : Nat) (s : State) : Out :=
  match (s.tslot n l k).since with
  | none => .next s
  | some t =>
    if !zeroCross s n l k || decide (5 * (s.now - t) < clampN 1 500 (s.getF (TDM_ZC_TO n 0)) * 49152) then .next s
    else .next (applyChange n l k (s.hitB TDM_EVT_ZC_TIMEOUT n))

/-! ### Frames -/

/-- Whether a direction runs from group g. -/
def onGroup (s : State) (g n d : Nat) : Bool := tdStarted s n d && tdGroup s n d == g

/-- Directions in order 2n + d. -/
def forDirs (f : Nat → Nat → State → State) (s : State) : State := forN 8 (fun i s => f (i / 2) (i % 2) s) s

/-- A direction becomes live (R170): changes that clocks-first slots wait for are in effect at its boundary. -/
def goLive (n d : Nat) (s : State) : State :=
  let x := s.tdir n d
  let fs := frameStart s (tdGroup s n d)
  let s := (s.setTdir n d { x with lead := min x.lead x.frames, liveFrom := some (x.liveFrom.getD fs) }).setF
    (TDM_CTRL_STATE n d) tsLIVE
  if d = 1 then s
  else
    let s := touchPort n s
    forN 2 (fun l s => forN (tdSlots s n 0) (fun k s =>
      if (s.tslot n l k).since.isSome && !zeroCross s n l k then applyChange n l k s else s) s) s

/-- A direction's clock is back (R177): live data and no lead, or its stop goes on. -/
def resumeDir (n d : Nat) (s : State) : State :=
  let r := (s.tdir n d).resume
  if r = tsMUTING || r = tsTAIL then settleStop n (s.setF (TDM_CTRL_STATE n d) r) else goLive n d s

/-- One direction meets a frame that begins at `fs` (R170, R171, R177). -/
def dirFrame (g fs n d : Nat) (s : State) : State :=
  if !onGroup s g n d then s else
  let x := s.tdir n d
  let st := tdState s n d
  if st == tsARMED then
    if startsBy s n d fs then
      let s := s.setTdir n d { x with frames := 0, tail := 0 }
      if x.lead = 0 then goLive n d s else s.setF (TDM_CTRL_STATE n d) tsLEAD
    else s
  else
    let y := { x with
      frames := x.frames + 1
      tail := if st == tsTAIL then x.tail + 1 else x.tail
      liveFrom := if st == tsLEAD && x.frames + 1 == x.lead then some fs else x.liveFrom
      stopAt := if st == tsTAIL then some (x.stopAt.getD fs) else x.stopAt }
    let s := s.setTdir n d y
    if st == tsWAIT then resumeDir n d s else s

/-- A frame of group g begins at `fs`. -/
def groupFrame (g fs : Nat) (s : State) : State :=
  let s := (s.set64 (TDM_FS_TIME_LO g) fs).addF (TDM_FRAME_CNT_CNT g) 1
  let s := { s with tdm := { s.tdm with fsAt := tabPut 0 g fs s.tdm.fsAt } }
  forDirs (dirFrame g fs) (s.setF (TDM_CLK_STAT_RUN g) 1)

/-- A group serves a started direction. -/
def grpServes (s : State) (g : Nat) : Bool := (List.range 8).any (fun i => onGroup s g (i / 2) (i % 2))

/-- The frames of running MASTER groups, at a tick (R163); a group that no started direction uses stops there (R171).
(DEDUCED, log entry 28). -/
def tdmTick (s : State) : State :=
  forN 4 (fun g s =>
    let nx := frameStart s g + framePeriod s g
    if grpRole s g == 1 && s.isSet (TDM_CLK_STAT_RUN g) && decide (nx ≤ s.now) then
      if grpServes s g then groupFrame g nx s else s.setF (TDM_CLK_STAT_RUN g) 0
    else s) s

/-- A direction takes the words of frame i: its data is live (R170, R171). -/
def takesAt (s : State) (n d i : Nat) : Bool :=
  let st := tdState s n d
  decide ((s.tdir n d).lead ≤ i) && (st == tsARMED || st == tsLEAD || st == tsLIVE || st == tsMUTING)

/-- FIFO slot k of frame i of a TX line is skipped (R174, R175): under ZERO its word is discarded, under FREE_RUN a word
already fetched for it goes out at the next position; a word that had underrun is missed once. -/
def skipTx (n l i k : Nat) (s : State) : State :=
  let x := s.tslot n l k
  let y := s.tline n 0 l
  let free := s.isSet (TDM_CFG_FAULT_MODE n 0)
  let s := s.setTslot n l k { x with frame := some i, took := none }
  if lineFed s n l then countMiss n 0 l 1 s
  else if x.frame == some i then
    match x.took with
    | some w => countMiss n 0 l 1 (when free (fun s => s.setTline n 0 l { y with fifo := (w, none) :: y.fifo }) s)
    | none => s
  else countMiss n 0 l 1 (when (!free) (fun s => s.setTline n 0 l (dropOwed { y with owed := y.owed + 1 })) s)

/-- The slots of frame i of a line whose bits come at or after position `pos` of that frame are cut off (R176): those whose
first bit was not reached, and in RX also the one cut inside its bits. -/
def cutLine (n d l i pos : Nat) (s : State) : State :=
  let cut := (List.range (tdSlots s n d)).filter (fun k =>
    let p := s.getF (TDM_CFG_OFFSET n d) + k * tdWidth s n d
    if d = 0 then decide (pos ≤ p) else decide (pos < p + tdWidth s n d))
  let fifo := cut.filter (fun k => (fifoSlots s n d l).contains k)
  if d = 1 then
    let x := s.tdir n 1
    when (!fifo.isEmpty && x.liveFrom.isSome && x.stopAt.isNone && decide (x.lead ≤ i)) (countMiss n 1 l fifo.length) s
  else
    let s := cut.foldl (fun s k => if fifo.contains k then s else
      s.setTslot n l k { s.tslot n l k with frame := some i }) s
    if takesAt s n 0 i then fifo.foldr (skipTx n l i) s
    else fifo.foldl (fun s k => s.setTslot n l k { s.tslot n l k with frame := some i }) s

/-- The current frame of group g ends at position `pos` (R174, R176, R177). -/
def skipSlots (g pos : Nat) (s : State) : State :=
  forDirs (fun n d s =>
    if !onGroup s g n d || tdState s n d == tsARMED || tdState s n d == tsWAIT then s else
    let i := (s.tdir n d).frames
    forN 2 (fun l s =>
      cutLine n d l i pos (when (i != 0) (cutLine n d l (i - 1) (s.getF (TDM_CLK_FRAME_LEN g) + pos)) s)) s) s

/-- FRAME_ERR of a group, at the ports whose started directions use it. -/
def frameErr (g : Nat) (s : State) : State :=
  forN 4 (fun n s => when (n == g || onGroup s g n 0 || onGroup s g n 1) (tdmEvt 2 n) s) s

/-- TDM_SLAVE_FS_EDGE (R164, R176, R177): an FS active edge at position `pos` of group g, with the BCLK period measured
over the frame it ends, in 1/16 tick. A group that starts counts its frames anew. -/
def execTdmSlaveFsEdge (g pos period : Nat) (s : State) : Out :=
  if grpRole s g ≠ 2 then .next s else
  let lost := s.isSet (TDM_CLK_STAT_LOST g)
  let run := s.isSet (TDM_CLK_STAT_RUN g)
  let s := if run && !lost && pos != s.getF (TDM_CLK_FRAME_LEN g) then frameErr g (skipSlots g pos s) else s
  let s := when (run && !lost) (fun s => s.setF (TDM_BCLK_PER_PER g) period) s
  let s := when (!run && !lost) (fun s => s.setF (TDM_FRAME_CNT_CNT g) 0) s
  .next (groupFrame g s.now ((s.setF (TDM_CLK_STAT_LOST g) 0).setF (TDM_CLK_STAT_RUN g) 1))

/-- FS is missing at position FRAME_LEN of a running SLAVE group (R176). -/
def fsIsMissing (s : State) (g : Nat) : Bool :=
  grpRole s g == 2 && s.isSet (TDM_CLK_STAT_RUN g) && !s.isSet (TDM_CLK_STAT_LOST g)
    && decide (frameStart s g + framePeriod s g ≤ s.now)

/-- R176: at position FRAME_LEN without FS, the group starts the next frame by its own count. FS_TIME stays the stamp of
the last edge, and no direction starts without one (R170, R181). -/
def fsMissing (g : Nat) (s : State) : State :=
  if !fsIsMissing s g then s
  else
    let nx := frameStart s g + framePeriod s g
    let s := { frameErr g s with tdm := { (frameErr g s).tdm with fsAt := tabPut 0 g nx s.tdm.fsAt } }
    forDirs (fun n d s => if tdState s n d == tsARMED then s else dirFrame g nx n d s) (s.addF (TDM_FRAME_CNT_CNT g) 1)

/-- A direction is IDLE (R171): its DOUT lines are low, or high-impedance where HIZ_UNUSED is 1, and TDM_STOP commands that
wait for it may finish. -/
def dirIdle (n d : Nat) (s : State) : State :=
  let x := s.tdir n d
  let s := ((s.setF (TDM_CTRL_STATE n d) tsIDLE).setF (TDM_CTRL_STOP n d) 0).setTdir n d
    { TdmDir.reset with liveFrom := x.liveFrom, stopAt := some (x.stopAt.getD s.now) }
  let quiet := if s.isSet (TDM_CFG_HIZ_UNUSED n 0) then none else some 0
  let s := when (d == 0) (forN 2 (fun l s => forN 32 (fun k s =>
    s.setTslot n l k { TdmSlot.reset with img := (s.tslot n l k).img, word := quiet, prev := quiet }) s)) s
  let s := when (d == 0) (fun s => settleSlots (touchPort n s)) s
  let s := when (d == 0) (forN 2 (fun l s =>
    if (s.tline n 0 l).asked = 0 then s
    else dropReads (.line n l) (s.setTline n 0 l { s.tline n 0 l with asked := 0 }))) s
  finishAwaits (fun w => match w with
    | .tdmStop m => (List.range 8).all (fun i => !bitOf m i || !tdStarted s (i / 2) (i % 2))
    | _ => false) stDONE 0 s

/-- A direction waits for its clock, its DOUT lines driven low (R177). A stop under way goes on when the clock is back; while
PARK is entered there is no more to wait for. (DEDUCED, log entry 28). -/
def waitDir (n d : Nat) (s : State) : State :=
  let st := tdState s n d
  if s.isSet (TDM_CTRL_STOP n d) && (s.pwr.phase == .drainPark || s.pwr.phase == .parkEntry) then dirIdle n d s
  else
    let r := if st = tsMUTING || st = tsTAIL then st else tsLIVE
    let s := (s.setTdir n d { s.tdir n d with resume := r }).setF (TDM_CTRL_STATE n d) tsWAIT
    when (d == 0) (forN 2 (fun l s => forN (tdSlots s n 0) (fun k s =>
      s.setTslot n l k { s.tslot n l k with word := some 0, prev := some 0 }) s)) s

/-- R177: no BCLK edge for two measured frame periods, the last one at position `pos`. -/
def clkLost (g pos : Nat) (s : State) : State :=
  if grpRole s g ≠ 2 || !s.isSet (TDM_CLK_STAT_RUN g)
      || decide (s.now < frameStart s g + pos * bclk16 s g / 16 + 2 * framePeriod s g) then s
  else
    let s := skipSlots g pos s
    let s := (s.setF (TDM_CLK_STAT_RUN g) 0).setF (TDM_CLK_STAT_LOST g) 1
    let s := forN 4 (fun n s => when (n == g || onGroup s g n 0 || onGroup s g n 1) (tdmEvt 3 n) s) s
    forDirs (fun n d s => if !onGroup s g n d || tdState s n d == tsARMED then s else waitDir n d s) s

/-! ### Words out and in (R166, R168, R169, R174, R175) -/

/-- R169: the output word of a source value. -/
def slotOut (v : Int) (gain : Int) (data : Nat) (muted : Bool) : Int :=
  if muted then 0 else satS data (roundEvenDiv (satS 32 (applyGain gain v)) (2 ^ (32 - data)))

/-- A slot is muted in frame i: before the first live frame, and in that frame as its mute inputs say, unless it waits for a
crossing (R170, R172, R173). -/
def muteAt (s : State) (n l k i : Nat) : Bool :=
  let x := s.tdir n 0
  let st := tdState s n 0
  if i < x.lead then true
  else if (st == tsARMED || st == tsLEAD) && !zeroCross s n l k then muteIn s n l k
  else (s.tslot n l k).muted

/-- TX words are driven: the shared outputs are, and not in the very tick of the takeover or swap boundary (R178, R206). -/
def drivesTx (s : State) : Bool := sharedOut s && (s.r64 TWIN_T_LO != s.now || s.now == 0)

/-- The word a slot forms for frame i from source value `v` (R169). -/
def formedWord (s : State) (n l k i : Nat) (v : Int) : Nat :=
  ofSigned (tdData s n 0)
    (slotOut v (toSigned 8 ((TDM_TX_SLOT_GAIN 0 0 0).of (s.tslot n l k).img)) (tdData s n 0) (muteAt s n l k i))

/-- The word a slot loads for frame i from source value `v` (R168, R169). -/
def outWord (s : State) (n l k i : Nat) (v : Int) : Option Nat :=
  let img := (s.tslot n l k).img
  if (imgSrc img == 0 && s.isSet (TDM_CFG_HIZ_UNUSED n 0)) || !drivesTx s then none else some (formedWord s n l k i v)

/-- In CATCHUP and PAIRED the word whose first bit leaves at `first` is kept for the digests of its hop (R548). -/
def logWord (n l k first w : Nat) (s : State) : State :=
  if s.getF TWIN_STAT_STATE ≠ 2 ∧ s.getF TWIN_STAT_STATE ≠ 3 then s
  else
    let kept := s.twin.words.filter (fun e =>
      decide (s.now < e.1 + 147456) && !(e.1 == first && e.2.1 == n && e.2.2.1 == l && e.2.2.2.1 == k))
    { s with twin := { s.twin with words := kept ++ [(first, n, l, k, w)] } }

/-- Who a port's ring accesses are made for (R165). -/
def portWho (s : State) (n : Nat) : Who := match s.owner (.tdm n) with | some k => .sess [k] | none => .fw

/-- The address of ring word i (R165). -/
def ringWord (s : State) (n d l i : Nat) : Nat :=
  s.getF (TDM_RING_LO_BASE n d l) * 64 + 2 ^ 32 * s.getF (TDM_RING_HI_BASE n d l)
    + 4 * (i % 2 ^ clampN 6 15 (s.getF (TDM_RING_CFG_SIZE n d l)))

/-- A refused ring access stops the direction (R181's RING_FAULT). (DEDUCED, log entry 42). -/
def ringFault (n d : Nat) (s : State) : State := dirIdle n d (s.hitB TDM_EVT_RING_FAULT n)

/-- Move up to k words from the ring into the TX FIFO. -/
def refill (n l : Nat) : Nat → State → State
  | 0, s => s
  | k + 1, s =>
    let hw := s.getF (TDM_RING_PTR_HW n 0 l)
    match s.readChecked ⟨clsAUDIO, portWho s n, false⟩ none (ringWord s n 0 l hw) 4 with
    | (_, .wait) => s
    | (s, .refused _) => ringFault n 0 s
    | (s, .data bs) => put bs s k hw
    | (s, .ecc _) => put [0, 0, 0, 0] s k hw
where
  put (bs : List Byte) (s : State) (k hw : Nat) : State :=
    let x := s.tline n 0 l
    refill n l k ((s.setTline n 0 l (dropOwed { x with fifo := x.fifo ++ [(ofLe bs, none)] })).setF (TDM_RING_PTR_HW n 0 l) (hw + 1))

/-- The ring of a TX line lies in host memory. -/
def hostFed (s : State) (n l : Nat) : Bool := (hostOf s (ringWord s n 0 l (s.getF (TDM_RING_PTR_HW n 0 l)))).isSome

/-- The line asks host memory for 16 words at a time, at most 4 requests outstanding, while the FIFO has room for them and
the ring holds them (R510, R571). -/
def askLine (n l : Nat) : Nat → State → State
  | 0, s => s
  | k + 1, s =>
    let x := s.tline n 0 l
    let a := ringWord s n 0 l (s.getF (TDM_RING_PTR_HW n 0 l) + x.asked)
    let q : Acq := ⟨clsAUDIO, portWho s n, false⟩
    if x.asked ≥ 64 || decide (64 < x.fifo.length + x.asked + 16) || decide (ringFill s n 0 l < x.asked + 16) then s
    else match checkRange s q none a 64 with
      | .ok => askLine n l k (readHost (.line n l) a 64 (s.setTline n 0 l { x with asked := x.asked + 16 }))
      | _ =>
        match s.readChecked q none a 64 with
        | (s, .refused _) => ringFault n 0 s
        | _ => s

/-- The words a line asked for enter its FIFO in ring order as their requests are answered. -/
def landLine (n l : Nat) : Nat → State → State
  | 0, s => s
  | k + 1, s =>
    let x := s.tline n 0 l
    let hw := s.getF (TDM_RING_PTR_HW n 0 l)
    let a := ringWord s n 0 l hw
    let o := RdOwner.line n l
    let h := s.hostif
    if x.asked < 16 || h.tags.any (fun e => e.own == o && e.addr == a) || h.todo.any (fun e => e.1 == o && e.2.1 == a)
        || h.late.any (fun e => e.own == o && e.addr == a) then s
    else
      let ws := (List.range 16).map (fun i => (s.le (a + 4 * i) 4, (none : Option Nat)))
      landLine n l k ((s.setTline n 0 l (dropOwed { x with fifo := x.fifo ++ ws, asked := x.asked - 16 })).setF
        (TDM_RING_PTR_HW n 0 l) (hw + 16))

/-- Every line fed from host memory takes what has arrived. -/
def landLines (s : State) : State :=
  forN 4 (fun n s => forN 2 (fun l s => if (s.tline n 0 l).asked = 0 then s else withMark n 0 l (landLine n l 4) s) s) s

/-- The FIFO of a TX line takes what its ring holds and it has room for (R166, R167). -/
def refillLine (n l : Nat) (s : State) : State :=
  if !s.isSet (TDM_RING_CFG_EN n 0 l) then s
  else if hostFed s n l then askLine n l 4 s
  else withMark n 0 l (fun s => refill n l (min (64 - (s.tline n 0 l).fifo.length) (ringFill s n 0 l)) s) s

/-- A ring word of the Eloan's own memory reaches an empty FIFO by the tick of the fetch (R166, R184); a host memory's words
come when its reads do (R190). -/
def feedFetch (n l : Nat) (s : State) : State :=
  if (dropOwed (s.tline n 0 l)).fifo.isEmpty && !hostFed s n l then refillLine n l s else s

/-- Take the word of a slot: the state after it, the source value, and the FIFO word it took. -/
def takeWord (n l k : Nat) (img : Word) (live : Bool) (s : State) : State × Int × Option Nat :=
  if imgSrc img = 1 then
    if !live then (s, 0, none)
    else if lineFed s n l then (s, (slotSource s n l k img).getD 0, none)
    else
      let x := dropOwed (s.tline n 0 l)
      match x.fifo with
      | e :: r => (s.setTline n 0 l { x with fifo := r }, container s n (toSigned 32 e.1), some e.1)
      | [] =>
        let zero := !s.isSet (TDM_CFG_FAULT_MODE n 0)
        let s := s.setTline n 0 l { x with owed := if zero then x.owed + 1 else x.owed }
        (tdmEvt 0 n (countMiss n 0 l 1 s), 0, none)
  else (s, (slotSource s n l k img).getD 0, none)

/-- Slot k of line l of TX n fetches its word for frame i, which begins at `fs` (R168, R169). -/
def fetchSlot (n l k i fs : Nat) (s : State) : State :=
  let live := takesAt s n 0 i
  let s := when (live && imgSrc (s.tslot n l k).img == 1 && !lineFed s n l) (feedFetch n l) s
  let s := when (changeLands s n l k fs) (applyChange n l k) s
  let r := takeWord n l k (s.tslot n l k).img live s
  let s := r.1
  if !tdStarted s n 0 then s
  else
    let x := s.tslot n l k
    let first := slotInstant s n 0 k fs
    logWord n l k first (formedWord s n l k i r.2.1)
      (s.setTslot n l k { x with last := some r.2.1, fetchedAt := some s.now, frame := some i, took := r.2.2,
                                 word := outWord s n l k i r.2.1, first := first, prev := x.word })

/-- TX_SLOT_FETCH (R168, R169, R184): slot k of line l of TX n fetches its word. -/
def execTxSlotFetch (n l k : Nat) (s : State) : Out :=
  if 4 ≤ n || 2 ≤ l || decide (tdSlots s n 0 ≤ k) then .next s
  else match dueFrame s n l k with
    | none => .next s
    | some e => .next (fetchSlot n l k e.1 e.2 s)

/-- Gust words that are ready in the tick of a fetch are taken by that fetch (R184). -/
def reformSlots (s : State) : State :=
  forN 4 (fun n s => forN 2 (fun l s => forN (tdSlots s n 0) (fun k s =>
    let x := s.tslot n l k
    match x.frame with
    | some i =>
      if x.fetchedAt == some s.now && imgSrc x.img == 2 && tdStarted s n 0 then
        let v := (slotSource s n l k x.img).getD 0
        logWord n l k x.first (formedWord s n l k i v) (s.setTslot n l k { x with last := some v, word := outWord s n l k i v })
      else s
    | none => s) s) s) s

/-- TDM_FIFO_REFILL (R166, R167, R571): the FIFO of a live TX with room takes words from its ring, or asks host memory for
them. -/
def execTdmFifoRefill (n l : Nat) (s : State) : Out :=
  if 4 ≤ n || 2 ≤ l || !takesAt s n 0 (s.tdir n 0).frames then .next s else .next (refillLine n l s)

/-- Write up to k words of the RX FIFO to its ring. -/
def drain (n l : Nat) : Nat → State → State
  | 0, s => s
  | k + 1, s =>
    match (s.tline n 1 l).fifo with
    | [] => s
    | (w, mark) :: rest =>
      let hw := s.getF (TDM_RING_PTR_HW n 1 l)
      match s.writeChecked ⟨clsAUDIO, portWho s n, true⟩ none (ringWord s n 1 l hw) (leBytes 4 w) with
      | (_, .wait) => s
      | (s, .refused _) => ringFault n 1 s
      | (s, _) =>
        let s := (s.setTline n 1 l { s.tline n 1 l with fifo := rest }).setF (TDM_RING_PTR_HW n 1 l) (hw + 1)
        match mark with
        | some t => drain n l k ((s.set64 (TDM_RX_MARK_LO n) t).setF (TDM_RX_MARK_IDX_IDX n) hw)
        | none => drain n l k s

/-- TDM_FIFO_DRAIN (R166, R167, R177): an RX FIFO drains to a ring with room. -/
def execTdmFifoDrain (n l : Nat) (s : State) : Out :=
  if tdState s n 1 == tsWAIT || !s.isSet (TDM_RING_CFG_EN n 1 l) then .next s
  else .next (withMark n 1 l
    (fun s => drain n l (2 ^ clampN 6 15 (s.getF (TDM_RING_CFG_SIZE n 1 l)) - ringFill s n 1 l) s) s)

/-- The frame stamped `stamp` lies in the live span of RX n: from its go-live to the boundary at which it stopped
(R170, R171). -/
def rxLive (s : State) (n stamp : Nat) : Bool :=
  match (s.tdir n 1).liveFrom with
  | some t => decide (t ≤ stamp) && (match (s.tdir n 1).stopAt with | some u => decide (stamp < u) | none => true)
  | none => false

/-- The words of one received frame, `got` of them not skipped, enter the RX FIFO (R166, R174, R175): ZERO keeps frames whole,
FREE_RUN takes what fits. -/
def rxIntoFifo (n l stamp : Nat) (ws : List Nat) (got : Nat) (s : State) : State :=
  if !rxLive s n stamp || ws.isEmpty then s else
  let x := s.tline n 1 l
  let marked := (ws.zip ((some stamp) :: List.replicate ws.length none))
  let room := 64 - x.fifo.length
  if ws.length ≤ room then s.setTline n 1 l { x with fifo := x.fifo ++ marked }
  else if s.isSet (TDM_CFG_FAULT_MODE n 1) then
    tdmEvt 1 n (countMiss n 1 l (ws.length - room) (s.setTline n 1 l { x with fifo := x.fifo ++ marked.take room }))
  else tdmEvt 1 n (countMiss n 1 l got s)

/-! ### Trigger, start and stop (R170, R171, R187 to R189) -/

/-- The first multiple of 16 that is at least `x`. -/
def up16 (x : Nat) : Nat := ceilDiv x 16 * 16

/-- An idle direction is armed: its counts, rotation, pointers and FIFOs start anew (R165, R171). -/
def armDir (t : Option Nat) (n d : Nat) (s : State) : State :=
  let s := s.setF (TDM_CTRL_STATE n d) tsARMED
  let s := forN 2 (fun l s => (((s.setTline n d l TdmLine.reset).setF (TDM_RING_PTR_HW n d l) 0).setF
    (TDM_MISS_COUNT n d l) 0)) s
  (s.setReg (TDM_STAT n d) 0).setTdir n d { TdmDir.reset with armedAt := t, lead := s.getF (TDM_CFG_LEAD n d) }

/-- The directions of a mask that are idle are armed: those that an undone entry to PARK had stopped start again, for a trigger
that is still pending and names them, else at the present tick (R96). (DEDUCED, log entry 18). -/
def restartDirs (m : Nat) (s : State) : State :=
  forDirs (fun n d s => when (bitOf m (2 * n + d) && tdState s n d == tsIDLE)
    (armDir (if s.isSet TDM_TRIG_CTRL_PENDING && bitOf s.tdm.trigMask (2 * n + d) then none else some s.now) n d) s) s

/-- GO with the registers as they stand: directions of ARM_MASK are ARMED and T is chosen where it is known (R170). -/
def trigGo (s : State) : State :=
  let mask := s.getF TDM_TRIG_CTRL_ARM_MASK
  let src := s.getF TDM_TRIG_CTRL_SRC
  let at_ := s.r64 TDM_TRIG_TIME_LO
  let t := if src = 2 then none else if src = 1 && decide (s.now ≤ at_) then some at_ else some (up16 (s.now + 4))
  let s := (s.setF TDM_TRIG_CTRL_PENDING 1).setF TDM_TRIG_CTRL_GO 1
  let s := forDirs (fun n d s => when (bitOf mask (2 * n + d) && tdState s n d == tsIDLE) (armDir none n d) s) s
  { s with tdm := { s.tdm with trigAt := t, trigMask := mask } }

/-- TDM_TRIG_GO (R170, R180): a direct-mode GO; ignored while a trigger is pending. -/
def execTdmTrigGo (s : State) : Out := .next (if s.isSet TDM_TRIG_CTRL_PENDING then s else trigGo s)

/-- START_IN_EDGE (R170, R189). -/
def execStartInEdge (rising : Bool) (s : State) : Out :=
  let s := { s with pins := { s.pins with startIn := rising } }
  if s.isSet TDM_TRIG_CTRL_PENDING && s.getF TDM_TRIG_CTRL_SRC == 2 && s.tdm.trigAt.isNone
      && (s.isSet TDM_TRIG_CTRL_EDGE == !rising) then
    .next { s with tdm := { s.tdm with trigAt := some (up16 (s.now + 4)) } }
  else .next s

/-- TDM_TRIGGER (R170, R188): at T idle MASTER groups of armed directions start, and TDM_START completes.
(DEDUCED, log entry 28). -/
def execTdmTrigger (s : State) : Out :=
  match s.tdm.trigAt with
  | none => .next s
  | some T =>
    if s.now < T || !s.isSet TDM_TRIG_CTRL_PENDING then .next s else
    let s := forDirs (fun n d s => when (tdState s n d == tsARMED && startTick s n d == some T)
      (fun s => s.setTdir n d { s.tdir n d with armedAt := some T }) s) s
    let s := ((s.setF TDM_TRIG_CTRL_PENDING 0).setF TDM_TRIG_CTRL_GO 0).set64 TDM_TRIG_LAST_LO T
    let s := { s with tdm := { s.tdm with trigAt := none, trigMask := 0 } }
    let s := forN 4 (fun g s =>
      let armed := (List.range 8).filter (fun i => onGroup s g (i / 2) (i % 2) && tdState s (i / 2) (i % 2) == tsARMED)
      if s.isSet (TDM_CLK_STAT_RUN g) then
        when (s.r64 (TDM_FS_TIME_LO g) == T) (fun s => armed.foldl (fun s i => dirFrame g T (i / 2) (i % 2) s) s) s
      else when (grpRole s g == 1 && !armed.isEmpty) (fun s => groupFrame g T (s.setF (TDM_FRAME_CNT_CNT g) 0)) s) s
    let s := (s.hitF TDM_EVT_TRIG_DONE 1).event 0x008
    .next (finishAwaits (fun w => decide (w = .tdmStart)) stDONE T s)

/-- TDM_GO_LIVE (R170): the lead of a direction has ended. -/
def execTdmGoLive (n d : Nat) (s : State) : Out :=
  let x := s.tdir n d
  if tdState s n d == tsLEAD && decide (x.lead ≤ x.frames) then .next (goLive n d s) else .next s

/-- Stop one direction (R171, R187, R188). -/
def stopDir (n d : Nat) (s : State) : State :=
  let st := tdState s n d
  if st = tsIDLE then s
  else if st = tsARMED ∨ st = tsWAIT then dirIdle n d s
  else if st = tsMUTING ∨ st = tsTAIL then s
  else
    let s := (s.setF (TDM_CTRL_STOP n d) 1).setTdir n d { s.tdir n d with tail := 0 }
    if d = 0 && st = tsLIVE then settleStop n (touchPort n (s.setF (TDM_CTRL_STATE n d) tsMUTING))
    else s.setF (TDM_CTRL_STATE n d) tsTAIL

/-- Whether the pending trigger waits for START_IN, and the directions of its mask still armed for it. -/
def edgeArmed (s : State) : List Nat :=
  if s.isSet TDM_TRIG_CTRL_PENDING && s.getF TDM_TRIG_CTRL_SRC == 2 && s.tdm.trigAt.isNone then
    (List.range 8).filter (fun i => bitOf s.tdm.trigMask i && tdState s (i / 2) (i % 2) == tsARMED
      && (s.tdir (i / 2) (i % 2)).armedAt.isNone)
  else []

/-- The pending trigger is withdrawn: TDM_START completes with ABORTED (R189). -/
def dropTrigger (s : State) : State :=
  let s := { s with tdm := { s.tdm with trigAt := none, trigMask := 0 } }
  finishAwaits (fun w => decide (w = .tdmStart)) stABORTED 0
    ((s.setF TDM_TRIG_CTRL_PENDING 0).setF TDM_TRIG_CTRL_GO 0)

/-- A START_IN trigger is withdrawn when the last of its armed directions is stopped (R189). -/
def settleTrigger (before : List Nat) (s : State) : State :=
  if !before.isEmpty && (edgeArmed s).isEmpty then dropTrigger s else s

/-- Stop every direction of a mask (R171, R189); an entry to PARK that is undone does not start them again. -/
def stopMask (mask : Nat) (s : State) : State :=
  let s := { s with pwr := { s.pwr with stopped := s.pwr.stopped - (s.pwr.stopped &&& mask) } }
  settleTrigger (edgeArmed s) (forDirs (fun n d s => when (bitOf mask (2 * n + d)) (stopDir n d) s) s)

/-- TDM_CTRL_STOP (R171): a direct-mode write of 1 to CTRL.STOP. -/
def execTdmCtrlStop (n d : Nat) (s : State) : Out :=
  if 4 ≤ n ∨ 2 ≤ d then .next s else .next (stopMask (2 ^ (2 * n + d)) s)

/-- TDM_TAIL_END (R171): after LEAD tail frames a TX is IDLE, an RX at the next boundary. -/
def execTdmTailEnd (n d : Nat) (s : State) : Out :=
  let x := s.tdir n d
  let need := if d = 0 then s.getF (TDM_CFG_LEAD n d) + 1 else 1
  if tdState s n d == tsTAIL && decide (need ≤ x.tail) then .next (dirIdle n d s) else .next s

/-- MUTE_N_CHANGE (R173, R226, R453). -/
def execMuteNChange (high : Bool) (s : State) : Out :=
  if s.pins.muteN = high then .next s else
  let s := { s with pins := { s.pins with muteN := high }, gust := { s.gust with muteNAt := s.now } }
  .next (touchAll ((s.setF GUST_MUTE_PIN (bit (!high))).notice 4 (bit (!high))))

/-! ### Commands (R179, R180, R459) -/

/-- A TDM_n_CLK image obeys R163 and R160 (an OFF or SLAVE group has no divider to check). -/
def clkOk (img : Nat) : Bool :=
  let len := (TDM_CLK_FRAME_LEN 0).img img
  let div := (TDM_CLK_DIV 0).img img
  let role := (TDM_CLK_ROLE 0).img img
  len % 2 == 0 && decide (16 ≤ len) && decide (len ≤ 1024)
    && (role != 1 || (decide (4 ≤ div) && decide (div ≤ 4096) && decide (8000 * (div * len) ≤ 196608000)
        && decide (196608000 ≤ 192000 * (div * len))))

/-- SLOTS × W of a CFG image fits a frame length (R160). -/
def cfgFits (img len : Nat) : Bool :=
  let w := (TDM_CFG_WIDTH 0 0).img img
  decide (((TDM_CFG_SLOTS 0 0).img img + 1) * (if w < 3 then 16 + 4 * w else 32) ≤ len)

/-- Every direction that runs from group n has room for its slots in a CLK image's frame (R160, R180). -/
def framesFit (s : State) (n img : Nat) : Bool :=
  (List.range 8).all (fun i => tdGroup s (i / 2) (i % 2) != n
    || cfgFits (s.reg (TDM_CFG (i / 2) (i % 2))).toNat ((TDM_CLK_FRAME_LEN 0).img img))

/-- A CFG image's DATA lies within 8 to the slot width. -/
def cfgDataOk (img : Nat) : Bool :=
  let w := (TDM_CFG_WIDTH 0 0).img img
  decide (7 ≤ (TDM_CFG_DATA 0 0).img img) && decide ((TDM_CFG_DATA 0 0).img img < if w < 3 then 16 + 4 * w else 32)

/-- TDM_CONFIG_CLOCK (R163, R179, R180). -/
def execTdmConfigClock (d : Desc) (s : State) : Out :=
  let z := [1, 4]
  runCmd d 0x0401 z (fun s d => firstBad [need (decide (d.arg z 0 < 4)) stBAD, claimC s d (.tdm (d.arg z 0))]) (fun s d =>
    let n := d.arg z 0
    let img := d.arg z 1
    checked [imgOk (TDM_CLK n) [] [] img, need (clkOk img && (TDM_CLK_ROLE 0).img img != 3) stBAD,
      need (framesFit s n img) stBAD,
      need (!grpServes s n) stCONFLICT] s
      ((((s.take d (.tdm n)).setImg (TDM_CLK n) [] [] img).setReg (TDM_CLK_STAT n) 0), .ok)) s

/-- The claims a direction's CLK_SEL needs (R179). -/
def dirClaims (s : State) (d : Desc) (n g : Nat) : Nat := firstBad [ownC s d (.tdm n), ownC s d (.tdm g)]

/-- TDM_CONFIG_DIR (R160, R179, R180). -/
def execTdmConfigDir (d : Desc) (s : State) : Out :=
  let z := [1, 1, 4, 4]
  runCmd d 0x0402 z (fun s d => firstBad [need (decide (d.arg z 0 < 4) && decide (d.arg z 1 < 2)) stBAD,
      dirClaims s d (d.arg z 0) ((TDM_CFG_CLK_SEL 0 0).img (d.arg z 2))]) (fun s d =>
    let n := d.arg z 0
    let dr := d.arg z 1
    let img := d.arg z 2
    let zc := d.arg z 3
    checked [imgOk (TDM_CFG n dr) [] [] img, if dr = 1 then need (zc == 0) stBAD else imgOk (TDM_ZC n dr) [] [] zc,
      need (cfgDataOk img && cfgFits img (s.getF (TDM_CLK_FRAME_LEN ((TDM_CFG_CLK_SEL 0 0).img img)))
        && (dr == 1 || (decide (1 ≤ zc) && decide (zc ≤ 500)))) stBAD,
      need (!tdStarted s n dr) stCONFLICT] s
      (let s := s.setImg (TDM_CFG n dr) [] [] img
       (when (dr == 0) (fun s => touchPort n (s.setImg (TDM_ZC n dr) [] [] zc)) s, .ok))) s

/-- Which slots of a line would be FIFO slots with COUNT images from `first`. -/
def fifoWith (s : State) (n dr l first : Nat) (imgs : List Nat) : List Nat :=
  (List.range (tdSlots s n dr)).filter (fun k =>
    let img := if first ≤ k ∧ k < first + imgs.length then imgs.getD (k - first) 0
      else (s.reg (if dr = 0 then TDM_TX_SLOT n l k else TDM_RX_SLOT n l k)).toNat
    if dr = 0 then imgSrc (BitVec.ofNat 32 img) == 1 else img % 2 == 1)

/-- The 32-bit words of a byte list. -/
def words32 (bs : List Byte) : List Nat := (wordsOf bs).map (·.toNat)

/-- TDM_SET_SLOTS (R172, R180, R182): completes when every resulting change has taken effect. -/
def execTdmSetSlots (d : Desc) (s : State) : Out :=
  let z := [1, 1, 1, 1, 1, 8]
  runCmd d 0x0403 z (fun s d => firstBad [need (decide (d.arg z 0 < 4) && decide (d.arg z 1 < 2) && decide (d.arg z 2 < 2)) stBAD,
      ownC s d (.tdm (d.arg z 0))]) (fun s d =>
    let n := d.arg z 0
    let dr := d.arg z 1
    let l := d.arg z 2
    let f := d.arg z 3
    let c := d.arg z 4
    checked [need (decide (1 ≤ c) && decide (f + c ≤ 32)) stBAD, addrOk (d.arg z 5)] s
      (withMem (readMem d (d.arg z 5) (4 * c) s) (fun s bs =>
        let imgs := words32 bs
        let addr := fun k => if dr = 0 then TDM_TX_SLOT n l k else TDM_RX_SLOT n l k
        checked [firstBad (imgs.map (fun i => firstBad [imgOk (addr 0) [] [] i,
            need (dr == 1 || ((TDM_TX_SLOT_SRC 0 0 0).img i != 3 && (TDM_TX_SLOT_SIL 0 0 0).img i != 3)) stBAD])),
          need (!tdStarted s n dr || fifoWith s n dr l f imgs == fifoSlots s n dr l) stCONFLICT] s
          (let s := (List.range c).foldl (fun s i => s.setImg (addr (f + i)) [] [] (imgs.getD i 0)) s
           if dr = 1 then (s, .ok)
           else
             let s := (List.range c).foldl (fun s i => touchSlot n l (f + i) s) s
             if (List.range c).all (fun i => decide (tdSlots s n 0 ≤ f + i) || (s.tslot n l (f + i)).since.isNone)
             then (s, .ok)
             else (s, .later (.tdmSlots n dr l f (min c (tdSlots s n 0 - f)))))))) s

/-- TDM_SET_RING (R165, R167). -/
def execTdmSetRing (d : Desc) (s : State) : Out :=
  let z := [1, 1, 1, 8, 4, 2]
  runCmd d 0x0404 z (fun s d => firstBad [need (decide (d.arg z 0 < 4) && decide (d.arg z 1 < 2) && decide (d.arg z 2 < 2)) stBAD,
      ownC s d (.tdm (d.arg z 0)), bindOwn s d [d.arg z 5]]) (fun s d =>
    let n := d.arg z 0
    let dr := d.arg z 1
    let l := d.arg z 2
    let base := d.arg z 3
    let cfg := d.arg z 4
    let size := (TDM_RING_CFG_SIZE 0 0 0).img cfg
    checked [addrOk base, need (base % 64 == 0) stBAD, imgOk (TDM_RING_CFG n dr l) [] [] cfg,
      need (decide (6 ≤ size) && decide (size ≤ 15)) stBAD, bindOk [d.arg z 5]] s
      (withBinds d [(0x04040, 0x020 + 4 * n + 2 * dr + l, d.arg z 5)] s (fun s =>
        let s := (s.setReg (TDM_RING_LO n dr l) (BitVec.ofNat 32 base)).setReg (TDM_RING_HI n dr l) (BitVec.ofNat 32 (base / 2 ^ 32))
        (s.setImg (TDM_RING_CFG n dr l) [] [] cfg, .ok)))) s

/-- Every port of a direction mask, and its group's port, is the command's own (R170, R179). -/
def maskOwn (s : State) (d : Desc) (mask : Nat) : Nat :=
  firstBad ((List.range 8).map (fun i =>
    if bitOf mask i then dirClaims s d (i / 2) (tdGroup s (i / 2) (i % 2)) else 0))

/-- TDM_START (R170, R180, R189): completes at T. -/
def execTdmStart (d : Desc) (s : State) : Out :=
  let z := [1, 1, 1, 8]
  runCmd d 0x0405 z (fun s d => maskOwn s d (d.arg z 0)) (fun s d =>
    let mask := d.arg z 0
    let src := d.arg z 1
    checked [need (mask != 0 && decide (src ≤ 2) && decide (d.arg z 2 ≤ 1) && (src == 1 || d.arg z 3 == 0)) stBAD,
      need (!s.isSet TDM_TRIG_CTRL_PENDING) stCONFLICT] s
      (let s := ((s.setF TDM_TRIG_CTRL_ARM_MASK mask).setF TDM_TRIG_CTRL_SRC src).setF TDM_TRIG_CTRL_EDGE (d.arg z 2)
       (trigGo (s.set64 TDM_TRIG_TIME_LO (d.arg z 3)), .later .tdmStart))) s

/-- TDM_STOP (R171, R188, R189): completes when the directions named are IDLE. -/
def execTdmStop (d : Desc) (s : State) : Out :=
  runCmd d 0x0406 [1] (fun s d => maskOwn s d (d.arg [1] 0)) (fun s d =>
    let mask := d.arg [1] 0
    checked [need (mask != 0) stBAD] s
      (let s := stopMask mask s
       if (List.range 8).all (fun i => !bitOf mask i || !tdStarted s (i / 2) (i % 2)) then (s, .ok)
       else (s, .later (.tdmStop mask)))) s

/-- The OR of the TX mute votes reaches the port (R173). -/
def putTxMute (n : Nat) (s : State) : State :=
  touchPort n (s.setF (TDM_TX_TOUT_VOTE_MUTE n) (bit (orVote s (.txMute n) != 0)))

/-- TDM_SET_MUTE (R173, R519). -/
def execTdmSetMute (d : Desc) (s : State) : Out :=
  let z := [1, 1]
  runCmd d 0x0407 z (fun _ _ => 0) (fun s d =>
    checked [need (decide (d.arg z 0 < 4) && decide (d.arg z 1 ≤ 1)) stBAD] s
      (putTxMute (d.arg z 0) (s.setVote (.txMute (d.arg z 0)) d.session (d.arg z 1)), .ok)) s

/-- The record of one direction: STAT, both MISS, both ring pointers. -/
def dirRecord (n d : Nat) : List RecItem :=
  [.w (TDM_STAT n d), .w (TDM_MISS n d 0), .w (TDM_MISS n d 1), .w (TDM_RING_PTR n d 0), .w (TDM_RING_PTR n d 1)]

/-- TDM_STATUS. -/
def execTdmStatus (d : Desc) (s : State) : Out :=
  let z := [1, 8]
  runCmd d 0x0408 z (fun _ d => need (decide (d.arg z 0 < 4)) stBAD) (fun s d =>
    let n := d.arg z 0
    outStatus d (d.arg z 1) ([.w (TDM_CLK_STAT n), .w (TDM_BCLK_PER n), .q (TDM_FS_TIME_LO n)] ++ dirRecord n 0
      ++ dirRecord n 1 ++ [.w TDM_EVT]) s) s

/-! ### The balls (R159, R161, R162, R171, R177, R178) -/

/-- Half ticks since a group's current frame began, at half tick `h` of device time: a BCLK edge of a MASTER group falls on
half ticks (R163). -/
def frameHalf (s : State) (g h : Nat) : Nat := h - 2 * frameStart s g

/-- TDMg_BCLK at half tick `h` (R159, R161): only a MASTER group of a twin that drives the shared balls drives it. A period
begins with the launch edge, falling with BCLK_POL at 0, and its sampling edge follows half a period later. -/
def bclkBall (s : State) (g h : Nat) : Option Bool :=
  if grpRole s g ≠ 1 || !sharedOut s then none
  else if !s.isSet (TDM_CLK_STAT_RUN g) then some (Config.bclkIdle g)
  else
    let D := s.getF (TDM_CLK_DIV g)
    some (decide (2 * (frameHalf s g h % D) < D) == s.isSet (TDM_CLK_BCLK_POL g))

/-- TDMg_FS at half tick `h` (R160, R161): active from the launch edge of position 0 for one BCLK, or for half the frame. -/
def fsBall (s : State) (g h : Nat) : Option Bool :=
  if grpRole s g ≠ 1 || !sharedOut s then none
  else
    let p := frameHalf s g h / s.getF (TDM_CLK_DIV g)
    let active := s.isSet (TDM_CLK_STAT_RUN g)
      && decide (p < if s.isSet (TDM_CLK_FS_FORM g) then s.getF (TDM_CLK_FRAME_LEN g) / 2 else 1)
    some (active != s.isSet (TDM_CLK_FS_POL g))

/-- Bit `j` of a slot, counted from its first: the DATA bits MSB first, then zeros (R161, R162). -/
def slotBit (data w j : Nat) : Bool := decide (j < data) && bitOf w (data - 1 - j)

/-- TDMn_DOUT_l at half tick `h`: the bit of the slot whose positions hold that instant; low or high-impedance while the TX
is idle, low while it waits for its clock. -/
def doutBall (s : State) (n l h : Nat) : Option Bool :=
  let st := tdState s n 0
  if !sharedOut s then none
  else if st = tsIDLE || st = tsARMED then (s.tslot n l 0).word.map (fun _ => false)
  else if st = tsWAIT then some false
  else
    let g := tdGroup s n 0
    let B := max 1 (bclk16 s g)
    let t := 8 * h
    let from' := fun k => let x := s.tslot n l k; if t < 16 * x.first then 16 * (x.first - framePeriod s g) else 16 * x.first
    match (List.range (tdSlots s n 0)).find? (fun k => decide (from' k ≤ t) && decide (t < from' k + tdWidth s n 0 * B)) with
    | none => Config.doutGap n l
    | some k =>
      let x := s.tslot n l k
      (if t < 16 * x.first then x.prev else x.word).map (fun w => slotBit (tdData s n 0) w ((t - from' k) / B))

/-! ### Release (R424) -/

/-- Every direction of a port stops, as at TDM_STOP. -/
def stopPort (n : Nat) (s : State) : State := stopMask (2 ^ (2 * n) + 2 ^ (2 * n + 1)) s

/-- Both directions of a port are IDLE. -/
def portStopped (s : State) (n : Nat) : Bool := !tdStarted s n 0 && !tdStarted s n 1

/-- A port is released: its registers return to their reset values and its bindings go; TX_MUTE holds votes, which
their own release removes. -/
def releasePort (n : Nat) (s : State) : State :=
  let v := s.reg (TDM_TX_TOUT_VOTE n)
  let s := s.clearRegs (TDM_CLK n) (TDM_CLK n + 0x1000)
  let s := s.setReg (TDM_TX_TOUT_VOTE n) v
  let s := forN 64 (fun i s => s.setTslot n (i / 32) (i % 32) TdmSlot.reset) s
  let s := forN 2 (fun d s => forN 2 (fun l s => s.setTline n d l TdmLine.reset) (s.setTdir n d TdmDir.reset)) s
  unbindEvents (fun e => (decide (0x010 ≤ e) && decide (e < 0x020) && e % 4 == n)
    || (decide (0x020 + 4 * n ≤ e) && decide (e < 0x024 + 4 * n))) (s.release (.tdm n))

end Sys2Proof.Machine
end

