-- ==== Sys2Proof/Machine/Gust.lean ====
section
/-! DEFINITION. The Gust lane (R216 to R238): its per-instant arithmetic, banks, loads, swaps, mutes, ramp and
divergence monitor, and its commands. (DEDUCED, log entry 26). -/

namespace Sys2Proof.Machine

/-- A coefficient: bank, path, word (R221's order). -/
def gustKey (bank p w : Nat) : Nat := (256 * bank + p) * 52 + w

/-- A coefficient's signed value. -/
def gustCoef (g : Gust) (bank p w : Nat) : Int := toSigned 24 (tabGet 0 (gustKey bank p w) g.coef).toNat

/-- The newest 32 samples of an input, newest first. -/
def gustHist (g : Gust) (i : Nat) : List Int := tabGet [] i g.hist

/-- The FIR sum of R220. -/
def firSum (g : Gust) (bank p : Nat) : Nat → Nat → List Int → Int
  | 0, _, _ => 0
  | _, _, [] => 0
  | n + 1, j, x :: r => gustCoef g bank p j * x + firSum g bank p n (j + 1) r

/-- One biquad of R220: the lane with its new state, the output and whether it saturated. -/
def biquad (bank p st : Nat) (u : Int) (g : Gust) : Gust × Int × Bool :=
  let c := fun k => gustCoef g bank p (32 + 5 * st + k)
  let k0 := 16 * p + 4 * st
  let x1 := tabGet 0 k0 g.bq
  let x2 := tabGet 0 (k0 + 1) g.bq
  let y1 := tabGet 0 (k0 + 2) g.bq
  let y2 := tabGet 0 (k0 + 3) g.bq
  let q := roundEvenShr (c 0 * u + c 1 * x1 + c 2 * x2 - c 3 * y1 - c 4 * y2) 22
  let v := satS 24 q
  let t := tabPut 0 (k0 + 3) y1 (tabPut 0 (k0 + 2) v (tabPut 0 (k0 + 1) x1 (tabPut 0 k0 u g.bq)))
  ({ g with bq := t }, v, clipsS 24 q)

/-- The cascade of a path. -/
def cascade (bank p : Nat) : Nat → Nat → Int → Bool → Gust → Gust × Int × Bool
  | 0, _, u, c, g => (g, u, c)
  | n + 1, st, u, c, g =>
    let r := biquad bank p st u g
    cascade bank p n (st + 1) r.2.1 (c || r.2.2) r.1

/-- Fields of a path image. -/
def pathEn (w : Word) : Bool := (GUST_PATH_EN 0).of w == 1
def pathIn (w : Word) : Nat := (GUST_PATH_IN 0).of w
def pathOut (w : Word) : Nat := (GUST_PATH_OUT 0).of w
def pathTaps (w : Word) : Nat := (GUST_PATH_NTAP 0).of w + 1
def pathBq (w : Word) : Nat := min 4 ((GUST_PATH_NBQ 0).of w)

/-- One enabled path of R220 adds to its output's sum; the Boolean table marks outputs that saturated. -/
def runPath (bank p : Nat) (w : Word) (r : Gust × Tab Int × Tab Bool) : Gust × Tab Int × Tab Bool :=
  let g := r.1
  let q := roundEvenShr (firSum g bank p (pathTaps w) 0 (gustHist g (pathIn w))) 23
  let x := cascade bank p (pathBq w) 0 (satS 24 q) (clipsS 24 q) g
  let o := pathOut w
  (x.1, tabPut 0 o (tabGet 0 o r.2.1 + x.2.1) r.2.1, if x.2.2 then tabPut false o true r.2.2 else r.2.2)

/-- Ramp length in force. -/
def gustRamp (s : State) : Nat := min 1024 (s.getF GUST_CTRL_RAMP)

/-- The active bank. -/
def gustActive (s : State) : Nat := s.getF GUST_STAT_ACTIVE

/-- The mutes of every output (R226), a bit each. MUTE_N zeroes words 4 ticks after it falls, and releases none from its fall
(R237). -/
def gustMutes (s : State) : Nat :=
  if s.isSet GUST_MUTE_GLOBAL || (!s.pins.muteN && decide (s.gust.muteNAt + 4 ≤ s.now)) || !s.isSet GUST_CTRL_EN then
    0xFFFFFFFF
  else s.getF GUST_OUT_MUTE_MASK ||| s.getF GUST_DIV_STAT_TRIP ||| (if s.pins.muteN then 0 else s.gust.muted)

/-- The mutes take effect at a tick: words become zero, and a release starts its ramp (R226, R227). -/
def gustMute (s : State) : State :=
  let m := gustMutes s
  let g := s.gust
  if m = g.muted then s
  else
    { s with gust := { g with
        out := g.out.filter (fun (e : Nat × Int) => !bitOf m e.1)
        ramp := g.ramp.filter (fun e => !(bitOf g.muted e.1 && !bitOf m e.1))
        muted := m } }

/-- The sample of an input for this instant, and whether the input is DEAD (R216, R217). -/
def gustInput (s : State) (i : Nat) : Int × Bool :=
  if !s.isSet (GUST_IN_EN i) then (0, false)
  else
    let c := s.getF (GUST_IN_CH i)
    if !s.isSet (DEC_CH_CFG_GUST_EN c) || s.getF (DEC_CLK_RATE (s.getF (DEC_LINE_CLK (c / 2)))) == 1 then (0, true)
    else ((tabGet DecCh.reset c s.dec.chans).gust, false)

/-- The instant whose strobe was the tick before this one (R132, R218): decimation has run since it. -/
def gustStrobe (s : State) : Option Nat :=
  let t := s.now - 216
  if s.now < 216 || !s.clk.fast || !s.isSet DEC_CTRL_EN || s.pwr.phase == .parked || decide (t < s.dec.gridS)
      || (t - s.dec.gridS) % 128 != 0 then none
  else match s.dec.startAt with
    | some f => if f ≤ t then some t else none
    | none => none

/-- At a strobe the lane takes its inputs; nothing later changes that sample (R27, R216, R218). Mutes act at every tick. -/
def gustTick (s : State) : State :=
  let s := gustMute s
  match gustStrobe s with
  | some t => { s with gust := { s.gust with strobed := some (t, (List.range 16).map (gustInput s), gustRamp s) } }
  | none => s

/-- A path write takes effect: its biquad states clear where R219 says. -/
def pathTake (e : Nat × Nat × Word) (g : Gust) : Gust :=
  let old := tabGet 0 e.1 g.paths
  let w := e.2.2
  let clr := (pathEn w && !pathEn old) || pathIn w != pathIn old || pathTaps w != pathTaps old || pathBq w != pathBq old
  { g with paths := tabPut 0 e.1 w g.paths, bq := if clr then tabClear (16 * e.1) (16 * e.1 + 16) g.bq else g.bq }

/-- The output word under mute and a ramp of `r` instants (R226, R227), with the ramp's new position. -/
def gustWord (s : State) (r o : Nat) (w : Int) : Int × Nat :=
  if bitOf s.gust.muted o then (0, 0)
  else
    let k := min 1024 (tabGet 0 o s.gust.ramp + 1)
    (if r ≤ k then w else roundEvenDiv (w * k) r, k)

/-- One output's word, monitor sum and clip. -/
def gustOutput (ramp : Nat) (sums : Tab Int) (clips : Tab Bool) (o : Nat) (s : State) : State :=
  let y := tabGet 0 o sums
  let w := satS 24 y
  let s := when (clipsS 24 y || tabGet false o clips) (fun s => (s.hitB GUST_CLIP_OUT o).hitF GUST_EVT_CLIP 1) s
  let r := gustWord s ramp o w
  let mon := s.isSet (GUST_OUT_MON_EN o)
  let g := s.gust
  { s with gust := { g with
      out := tabPut 0 o r.1 g.out
      ramp := tabPut 0 o r.2 g.ramp
      monSum := if mon then tabPut 0 o (tabGet 0 o g.monSum + w.natAbs * w.natAbs) g.monSum else tabDel o g.monSum
      monCnt := if mon then tabPut 0 o (tabGet 0 o g.monCnt + 1) g.monCnt else tabDel o g.monCnt } }

/-- GUST_WORD_READY (R184, R218, R219, R220): 24 ticks after the strobe of instant t its words are ready, and fetches of this
tick take them. -/
def execGustWordReady (s : State) : Out :=
  match s.gust.strobed with
  | none => .next s
  | some (t, samples, ramp) =>
    if s.now ≠ t + 239 || s.gust.inst == some t then .next s else
    let g := s.gust
    let due := g.newPaths.filter (fun e => decide (e.2.1 + 24 < s.now))
    let g := due.foldl (fun g e => pathTake e g)
      { g with newPaths := g.newPaths.filter (fun e => !decide (e.2.1 + 24 < s.now)), inst := some t }
    let ins := (List.range 16).zip samples
    let g := ins.foldl (fun g e =>
      { g with hist := tabPut [] e.1 ((e.2.1 :: gustHist g e.1).take 32) g.hist }) g
    let s := ins.foldl (fun s e => s.setF (GUST_IN_DEAD e.1) (bit e.2.2)) s
    let r := g.paths.foldl (fun r e => if pathEn e.2 then runPath (gustActive s) e.1 e.2 r else r) (g, [], [])
    let s := reformSlots (forN 32 (fun o s => gustOutput ramp r.2.1 r.2.2 o s) { s with gust := r.1 })
    .next (when (!due.isEmpty && s.gust.newPaths.isEmpty)
      (finishAwaits (fun w => decide (w = .gustPaths)) stDONE t) s)

/-! ### Divergence monitor (R228) -/

/-- GUST_MONITOR_WINDOW (R228): a window of 2^WIN instants ended. -/
def execGustMonitorWindow (o : Nat) (s : State) : Out :=
  let g := s.gust
  let n := tabGet 0 o g.monCnt
  if !s.isSet (GUST_OUT_MON_EN o) || decide (n < 2 ^ clampN 6 14 (s.getF (GUST_OUT_MON_WIN o))) then .next s
  else
    let lv := levelOfSquare (tabGet 0 o g.monSum) n
    let s := { s with gust := { g with monSum := tabPut 0 o 0 g.monSum, monCnt := tabPut 0 o 0 g.monCnt } }
    let s := s.setF (GUST_OUT_LVL_LEVEL o) lv
    if lv ≤ s.getF (GUST_OUT_MON_LIMIT o) && !s.getB GUST_DIV_STAT_TRIP o then
      .next (((s.hitB GUST_DIV_STAT_TRIP o).hitF GUST_EVT_DIVERGE 1).event 0x0E1)
    else .next s

/-- Writing 1 to TRIP bits: they clear and their windows restart (R228). -/
def tripClear (mask : Nat) (s : State) : State :=
  let hit := s.getF GUST_DIV_STAT_TRIP &&& mask
  let s := s.setF GUST_DIV_STAT_TRIP (s.getF GUST_DIV_STAT_TRIP - hit)
  let g := s.gust
  { s with gust := { g with monSum := g.monSum.filter (fun e => !bitOf hit e.1)
                            monCnt := g.monCnt.filter (fun e => !bitOf hit e.1) } }

/-- GUST_TRIP_CLEAR (R228, R237). -/
def execGustTripClear (mask : Nat) (s : State) : Out := .next (tripClear mask s)

/-! ### Banks, swaps, copies, loads (R221 to R224, R233, R234) -/

/-- A swap request lands, with the command that waits for it; one that lands while a load is busy waits for its end (R224). -/
def gustQueue (cmd : Option (Src × Nat)) (s : State) : State :=
  let land := if s.gust.load.isSome then none else some s.now
  { s with gust := { s.gust with swaps := s.gust.swaps ++ [(land, cmd)] } }.addF GUST_STAT_PENDING 1

/-- GUST_SWAP_REQUEST (R221, R233): dropped with PENDING at 3. -/
def execGustSwapRequest (s : State) : Out :=
  if s.getF GUST_STAT_PENDING = 3 then .next (s.hitF GUST_EVT_SWAP_DROP 1) else .next (gustQueue none s)

/-- The boundary of a request that landed at `land` (R221, R236): an instant since decimation started. -/
def gustBoundary (s : State) (land : Nat) : Nat :=
  let g := s.dec.gridS
  let lo := max (land + 1 - 215) (max s.gust.nextT (s.dec.startAt.getD 0))
  if lo ≤ g then g else g + ceilDiv (lo - g) 128 * 128

/-- The copy of R222 ends: every word not written since it started. -/
def finishCopy (s : State) : State :=
  match s.gust.copying with
  | none => s
  | some (_, kept) =>
    let a := gustActive s
    let g := s.gust
    let other := 1 - a
    let cleared := g.coef.filter (fun e => e.1 / (256 * 52) == a || kept.contains (e.1 % (256 * 52)))
    let moved := (g.coef.filter (fun e => e.1 / (256 * 52) == a && !kept.contains (e.1 % (256 * 52)))).foldl
      (fun t e => tabPut 0 (other * (256 * 52) + e.1 % (256 * 52)) e.2 t) cleared
    (({ s with gust := { g with coef := moved, copying := none } }.setF GUST_STAT_COPYING 0).hitF GUST_EVT_COPY_DONE 1).event
      0x0E3

/-- The strobe of a request's boundary has come: the swap is due (R221, R224). -/
def swapDue (s : State) (land : Nat) : Bool :=
  decide (gustBoundary s land + 215 ≤ s.now) && s.dec.startAt.isSome && s.isSet DEC_CTRL_EN && s.pwr.phase != .parked

/-- In the strobe tick of the boundary T of the oldest request the banks exchange roles (R221, R222, R224). -/
def bankSwap (s : State) : State :=
  match s.gust.swaps with
  | (some land, cmd) :: rest =>
    let T := gustBoundary s land
    if !swapDue s land then s else
    let s := finishCopy s
    let copy := s.isSet GUST_CTRL_COPY_EN
    let s := { s with gust := { s.gust with swaps := rest, nextT := T + 128,
                                            copying := if copy then some (s.now, []) else none } }
    let s := (s.setF GUST_STAT_ACTIVE (1 - gustActive s)).setF GUST_STAT_COPYING (bit copy)
    let s := (s.setF GUST_STAT_PENDING (s.getF GUST_STAT_PENDING - 1)).set64 GUST_SWAP_TIME_LO T
    let s := (s.hitF GUST_EVT_SWAP_DONE 1).event 0x0E0
    match cmd with
    | some c =>
      let s := { s with denrek := { s.denrek with awaits := s.denrek.awaits.filter (fun e => !(e.2 == c)) } }
      finishCmd c.1 c.2 stDONE T [] s
    | none => s
  | _ => s

/-- GUST_BANK_SWAP (R221, R222, R224). -/
def execGustBankSwap (s : State) : Out := .next (bankSwap s)

/-- GUST_COPY_DONE (R222). -/
def execGustCopyDone (s : State) : Out := .next (finishCopy s)

/-- Write one coefficient of the inactive bank; a running copy skips it (R221, R222). -/
def putCoef (p w v : Nat) (s : State) : State :=
  let g := s.gust
  { s with gust := { g with
      coef := tabPut 0 (gustKey (1 - gustActive s) p w) (BitVec.ofNat 24 v) g.coef
      copying := g.copying.map (fun c => (c.1, gustKey 0 p w :: c.2)) } }

/-- COEF_ADDR advances after a DATA access, carrying into PATH after word 51. -/
def coefAdvance (s : State) : State :=
  let w := s.getF GUST_COEF_ADDR_WORD
  if 51 ≤ w then (s.setF GUST_COEF_ADDR_WORD 0).addF GUST_COEF_ADDR_PATH 1 else s.setF GUST_COEF_ADDR_WORD (w + 1)

/-- Store the answer of an access. -/
def State.answer (s : State) (i : Initiator) (c : RespCode) (data : List Byte) : State :=
  { s with resp := tabPut Resp.reset (initKey i) ⟨c, data⟩ s.resp }

/-- GUST_COEF_WRITE (R221, R222, R225, R234): a write of GUST_COEF_DATA; in the strobe tick of a boundary the banks have
exchanged roles. -/
def execGustCoefWrite (i : Initiator) (v : Word) (s : State) : Out :=
  if !reaches s i GUST_COEF_DATA true then .next (s.answer i .accessFault [])
  else
    let w := s.getF GUST_COEF_ADDR_WORD
    let s := bankSwap s
    let s := when (decide (w ≤ 51)) (putCoef (s.getF GUST_COEF_ADDR_PATH) w v.toNat) s
    .next ((coefAdvance s).answer i .ok [])

/-- A write of GUST_PATH_p waits for its instant (R219). -/
def putPath (p : Nat) (v : Word) (s : State) : State :=
  let w := BitVec.ofNat 32 (v.toNat &&& rwMask (GUST_PATH p))
  let s := s.setReg (GUST_PATH p) w
  { s with gust := { s.gust with newPaths := s.gust.newPaths ++ [(p, s.now, w)] } }

/-- GUST_PATH_WRITE (R219). -/
def execGustPathWrite (i : Initiator) (p : Nat) (v : Word) (s : State) : Out :=
  if 256 ≤ p || !reaches s i (GUST_PATH p) true then .next (s.answer i .accessFault [])
  else .next ((putPath p v s).answer i .ok [])

/-- Start a load with the registers as they stand (R223). -/
def loadGo (s : State) : State :=
  let f := s.getF GUST_LOAD_CTRL_FIRST
  let c := s.getF GUST_LOAD_CTRL_COUNT
  let a := s.getF GUST_LOAD_LO_ADDR * 16 + 2 ^ 32 * s.getF GUST_LOAD_HI_ADDR
  ({ s with gust := { s.gust with load := some (f, c, a) } }.setF GUST_STAT_LOAD_BUSY 1).setF GUST_LOAD_CTRL_GO 1

/-- FIRST and COUNT name whole paths (R223). -/
def loadRange (f c : Nat) : Bool := decide (1 ≤ c) && decide (f + c ≤ 256)

/-- GUST_LOAD_GO (R223, R225); ignored while a load is busy or for a range outside R223. -/
def execGustLoadGo (i : Initiator) (s : State) : Out :=
  if !reaches s i GUST_LOAD_CTRL true then .next (s.answer i .accessFault [])
  else if s.gust.load.isSome || !loadRange (s.getF GUST_LOAD_CTRL_FIRST) (s.getF GUST_LOAD_CTRL_COUNT) then
    .next (s.answer i .ok [])
  else .next ((loadGo s).answer i .ok [])

/-- Put the words of one path image (R223). -/
def putImage (p : Nat) (bs : List Byte) (s : State) : State :=
  forN 52 (fun w s => putCoef p w (recField bs (4 * w) 4) s) s

/-- The load ends with a status: waiting swaps count from here (R224); a GO written in this cycle starts the next (R21). -/
def loadEnd (st : Nat) (s : State) : State :=
  let g := s.gust
  let s := { s with gust := { g with load := none, swaps := g.swaps.map (fun (e : Option Nat × Option (Src × Nat)) => (some (e.1.getD s.now), e.2)) } }
  let again := s.marked GUST_LOAD_CTRL_GO 0 && loadRange (s.getF GUST_LOAD_CTRL_FIRST) (s.getF GUST_LOAD_CTRL_COUNT)
  let s := (s.setF GUST_STAT_LOAD_BUSY 0).setF GUST_LOAD_CTRL_GO 0
  let s := if st = stDONE then (s.hitF GUST_EVT_LOAD_DONE 1).event 0x0E2 else s.hitF GUST_EVT_LOAD_FAULT 1
  when again loadGo (finishAwaits (fun w => decide (w = .gustLoad)) st 0 s)

/-- GUST_LOAD_DONE (R223): the load reads its images whole, or writes no coefficient. -/
def execGustLoadDone (s : State) : Out :=
  match s.gust.load with
  | none => .next s
  | some (f, c, a) =>
    let s := bankSwap s
    let who : Who := match s.owner .gust with | some n => .sess [n] | none => .fw
    match s.readChecked ⟨clsAUDIO, who, false⟩ none a (256 * c) with
    | (_, .wait) => .next s
    | (s, .refused _) => .next (loadEnd stACCESS s)
    | (s, .ecc _) => .next (loadEnd stECC s)
    | (s, .data bs) => .next (loadEnd stDONE (forN c (fun k s => putImage (f + k) (bs.drop (256 * k)) s) s))

/-! ### Commands (R230, R231, R461) -/

/-- GUST_CONFIG. -/
def execGustConfig (d : Desc) (s : State) : Out :=
  let z := [16, 4]
  runCmd d 0x0601 z (fun s d => claimC s d .gust) (fun s d =>
    let inp := fun i => d.elem 0 1 i
    let img := d.arg z 1
    checked [need ((List.range 16).all (fun i => decide (inp i < 64))) stBAD, imgOk GUST_CTRL [GUST_CTRL_EN] [] img,
      need (decide (GUST_CTRL_RAMP.img img ≤ 1024)) stBAD] s
      (let s := s.take d .gust
       let s := forN 16 (fun i s => (s.setF (GUST_IN_CH i) (inp i)).setF (GUST_IN_EN i) (inp i / 32)) s
       ((s.setImg GUST_CTRL [GUST_CTRL_EN] [] img).setF GUST_CTRL_EN 1, .ok))) s

/-- GUST_SET_PATHS (R219, R231): completes at the first instant of effect. -/
def execGustSetPaths (d : Desc) (s : State) : Out :=
  let z := [1, 2, 8]
  runCmd d 0x0602 z (fun s d => ownC s d .gust) (fun s d =>
    let f := d.arg z 0
    let c := d.arg z 1
    checked [need (loadRange f c) stBAD, addrOk (d.arg z 2)] s
      (withMem (readMem d (d.arg z 2) (4 * c) s) (fun s bs =>
        let imgs := words32 bs
        checked [firstBad (imgs.map (fun i => firstBad [imgOk (GUST_PATH 0) [] [] i,
            need (decide ((GUST_PATH_NBQ 0).img i ≤ 4)) stBAD]))] s
          (forN c (fun k s => putPath (f + k) (BitVec.ofNat 32 (imgs.getD k 0)) s) s, .later .gustPaths)))) s

/-- GUST_LOAD_COEF (R223, R231); held while a load is busy. -/
def execGustLoadCoef (d : Desc) (s : State) : Out :=
  let z := [1, 2, 8]
  runCmd d 0x0603 z (fun s d => ownC s d .gust) (fun s d =>
    let a := d.arg z 2
    checked [need (loadRange (d.arg z 0) (d.arg z 1)) stBAD, addrOk a, need (a % 16 == 0) stBAD] s
      (if s.gust.load.isSome then (s, .stall)
       else
        let s := (s.setReg GUST_LOAD_LO (BitVec.ofNat 32 a)).setReg GUST_LOAD_HI (BitVec.ofNat 32 (a / 2 ^ 32))
        (loadGo ((s.setF GUST_LOAD_CTRL_FIRST (d.arg z 0)).setF GUST_LOAD_CTRL_COUNT (d.arg z 1)), .later .gustLoad))) s

/-- GUST_SWAP (R221, R233): held while PENDING is 3, completes with T. -/
def execGustSwap (d : Desc) (s : State) : Out :=
  runCmd d 0x0604 [] (fun s d => ownC s d .gust) (fun s d =>
    if s.getF GUST_STAT_PENDING = 3 then (s, .stall)
    else (gustQueue (some (d.src, d.seq)) s, .later .gustSwap)) s

/-- No core of the mask is loaded by another session (R231). -/
def coresFree (s : State) (d : Desc) (mask : Nat) : Nat :=
  need ((List.range 4).all (fun n => !bitOf mask n || ownsOrFree s (.core n) d.session)) stNOTOWN

/-- GUST_BIND_MARTEN (R225, R231). -/
def execGustBindMarten (d : Desc) (s : State) : Out :=
  let z := [1, 2, 2]
  runCmd d 0x0605 z (fun s d => firstBad [ownC s d .gust, coresFree s d (d.arg z 0), bindOwn s d [d.arg z 1, d.arg z 2]])
    (fun s d => checked [need (decide (d.arg z 0 < 16)) stBAD, bindOk [d.arg z 1, d.arg z 2]] s
      (withBinds d [(0x06050, 0x0E0, d.arg z 1), (0x06051, 0x0E1, d.arg z 2)] s (fun s =>
        (s.setF GUST_MARTEN_CORE_MASK (d.arg z 0), .ok)))) s

/-- GUST_SET_MONITOR (R228). -/
def execGustSetMonitor (d : Desc) (s : State) : Out :=
  let z := [1, 1, 8]
  runCmd d 0x0606 z (fun s d => ownC s d .gust) (fun s d =>
    let f := d.arg z 0
    let c := d.arg z 1
    checked [need (decide (1 ≤ c) && decide (f + c ≤ 32)) stBAD, addrOk (d.arg z 2)] s
      (withMem (readMem d (d.arg z 2) (4 * c) s) (fun s bs =>
        let imgs := words32 bs
        checked [firstBad (imgs.map (fun i => firstBad [imgOk (GUST_OUT_MON 0) [] [] i,
            need (decide (6 ≤ (GUST_OUT_MON_WIN 0).img i) && decide ((GUST_OUT_MON_WIN 0).img i ≤ 14)) stBAD]))] s
          (forN c (fun k s => s.setImg (GUST_OUT_MON (f + k)) [] [] (imgs.getD k 0)) s, .ok)))) s

/-- GUST_CLEAR_TRIP (R228). -/
def execGustClearTrip (d : Desc) (s : State) : Out :=
  runCmd d 0x0607 [4] (fun s d => ownC s d .gust) (fun s d => (tripClear (d.arg [4] 0) s, .ok)) s

/-- The OR of the output-mute votes (R226). -/
def putOutMute (s : State) : State := s.setF GUST_OUT_MUTE_MASK (orVote s .outMute)

/-- GUST_SET_MUTE (R226, R519). -/
def execGustSetMute (d : Desc) (s : State) : Out :=
  runCmd d 0x0608 [4] (fun _ _ => 0) (fun s d => (putOutMute (s.setVote .outMute d.session (d.arg [4] 0)), .ok)) s

/-- GUST_STATUS, in the order of the register table. -/
def execGustStatus (d : Desc) (s : State) : Out :=
  runCmd d 0x0609 [8] (fun _ _ => 0) (fun s d => outStatus d (d.arg [8] 0)
    ([.w GUST_STAT, .w GUST_EVT, .q GUST_SWAP_TIME_LO, .w GUST_DIV_STAT, .w GUST_CLIP]
      ++ (List.range 16).map (fun i => .w (GUST_IN i)) ++ (List.range 32).map (fun o => .w (GUST_OUT_LVL o))) s) s

/-- The claim is released: outputs are muted and the lane is disabled, its configuration at reset (R424); mute votes
stand. -/
def releaseGust (s : State) : State :=
  let m := s.reg GUST_MUTE
  let o := s.reg GUST_OUT_MUTE
  let s := s.clearRegs GUST_CTRL (GUST_CTRL + 0x10000)
  let s := (s.setReg GUST_MUTE m).setReg GUST_OUT_MUTE o
  let s := { s with gust := { Gust.reset with muted := 0xFFFFFFFF, muteNAt := s.gust.muteNAt } }
  unbindEvents (fun e => decide (0x0E0 ≤ e) && decide (e < 0x0E4)) (s.release .gust)

/-- PARK (R238): the active bank and path configuration return at wake in both banks, path writes that no instant has taken yet
with them. -/
def gustPark (s : State) : State :=
  let a := gustActive s
  let g := s.gust
  let act := g.coef.filter (fun e => e.1 / (256 * 52) == a)
  let one := act.map (fun e => (e.1 % (256 * 52), e.2))
  let s := { s with gust := { Gust.reset with coef := one ++ one.map (fun (e : Nat × BitVec 24) => (e.1 + 256 * 52, e.2)), paths := g.paths,
                                              newPaths := g.newPaths, muted := 0xFFFFFFFF, muteNAt := g.muteNAt } }
  (s.setReg GUST_STAT 0).setReg GUST_DIV_STAT 0

end Sys2Proof.Machine
end

