-- ==== Sys2Proof/Machine/Rate.lean ====
section
/-! DEFINITION. Rate conversion, the IEC 60958 receiver and the non-audio guards (R191 to R215), and the receive side of
the ports, whose words pass a guard first. -/

namespace Sys2Proof.Machine

def State.asrc (s : State) (n : Nat) : Asrc := tabGet Asrc.reset n s.rate.asrcs
def State.setAsrc (s : State) (n : Nat) (x : Asrc) : State :=
  { s with rate := { s.rate with asrcs := tabPut Asrc.reset n x s.rate.asrcs } }
def State.guard (s : State) (g : Nat) : GuardSt := tabGet GuardSt.reset g s.rate.guards
def State.setGuard (s : State) (g : Nat) (x : GuardSt) : State :=
  { s with rate := { s.rate with guards := tabPut GuardSt.reset g x s.rate.guards } }

/-- Converter states: 0 IDLE, 1 ACQUIRE, 2 LOCKED, 3 UNLOCKED. -/
def asrcState (s : State) (n : Nat) : Nat := s.getF (ASRC_STAT_STATE n)

/-- The external side: 0 to 3 a port, 4 S/PDIF. -/
def asrcExt (s : State) (n : Nat) : Nat := let e := s.getF (ASRC_CFG_EXT n); if e ≤ 4 then e else 0

/-- OUTWARD. -/
def asrcOut (s : State) (n : Nat) : Bool := s.isSet (ASRC_CFG_DIR n)

/-- Channels. -/
def asrcCh (s : State) (n : Nat) : Nat := s.getF (ASRC_CFG_CH n) + 1

/-- The internal period (16, 48, 96 kHz). -/
def asrcPeriod (s : State) (n : Nat) : Nat :=
  match s.getF (ASRC_CFG_INT_RATE n) with
  | 0 => 6144
  | 2 => 1024
  | _ => 2048

/-- The pin group of the external side. -/
def asrcGroup (s : State) (n : Nat) : Nat := tdGroup s (asrcExt s n) (if asrcOut s n then 0 else 1)

/-- The guard a source passes through. -/
def asrcGuard (s : State) (n : Nat) : Nat :=
  if asrcExt s n = 4 then 0 else 1 + 2 * asrcExt s n + s.getF (ASRC_CFG_LINE n)

/-- G of a guard in ticks (R203). -/
def guardDelay (s : State) (g : Nat) : Nat := min 64 (s.getF (GUARD_CFG_PREVIEW g)) * 12288

/-- The filter delay of a band. -/
def bandDelay (b : Nat) : Nat := if b = 0 then 12288 else if b = 1 then 24576 else if b = 2 then 49152 else 98304

/-- The band of a ratio in 4.28 form. -/
def bandOf (r : Nat) : Nat :=
  if 4 * r < 3 * 2 ^ 28 then 0 else if 2 * r < 3 * 2 ^ 28 then 1 else if r < 3 * 2 ^ 28 then 2 else 3

/-- D (R197). -/
def asrcDelay (s : State) (n band : Nat) : Nat :=
  73728 + bandDelay band + (if asrcOut s n then 0 else guardDelay s (asrcGuard s n))

/-- Who a converter's ring accesses are made for. -/
def asrcWho (s : State) (n : Nat) : Who := match s.owner (.converter n) with | some k => .sess [k] | none => .fw

/-! ### Blocks of an INWARD converter (R197, R140) -/

/-- The block in bytes: header as R140, then the channels of each sample in turn. -/
def asrcBytes (b : DecBlock) (ch : Nat) : List Byte :=
  leBytes 8 b.stamp ++ leBytes 4 b.seq ++ leBytes 2 (b.samples.length / ch)
    ++ leBytes 2 (bit b.sync + 2 * bit b.short + 4 * bit b.clip + 8 * bit b.gap) ++ b.samples.reverse.flatMap lowWord

/-- A refused ring access: RING_FAULT, and the converter is disabled. -/
def asrcFault (n : Nat) (s : State) : State :=
  let s := (s.hitB ASRC_EVT_RING_FAULT n).setF (ASRC_CFG_EN n) 0
  (s.setF (ASRC_STAT_STATE n) 0).setAsrc n Asrc.reset

/-- Write a finished block; none where memory cannot be reached yet. -/
def asrcWrite (n : Nat) (b : DecBlock) (s : State) : Option State :=
  let ch := asrcCh s n
  let slot := b.base + b.seq % (b.nblk + 1) * (ceilDiv (16 + 4 * b.size * ch) 64 * 64)
  match s.writeChecked ⟨clsAUDIO, asrcWho s n, true⟩ none slot (asrcBytes b ch) with
  | (_, .wait) => none
  | (s, .refused _) => some (asrcFault n s)
  | (s, .ecc _) => some s
  | (s, .data _) => some (s.event (0x048 + n))

/-- The block in progress ends SHORT and the next carries SYNC (R199, R213). -/
def asrcShort (n : Nat) (s : State) : State :=
  let x := s.asrc n
  let s := s.setAsrc n { x with cur := none, sync := true }
  match x.cur with
  | some b => (asrcWrite n { b with short := true } s).getD s
  | none => s

/-! ### Lock and unlock (R194 to R196, R199) -/

/-- The converter loses its source (R196). -/
def asrcUnlock (n : Nat) (s : State) : State :=
  if asrcState s n ≠ 2 then s
  else
    let s := (s.setF (ASRC_STAT_STATE n) 3).setReg (ASRC_LAT n) 0
    let s := (s.hitB ASRC_EVT_UNLOCK n).event (0x060 + n)
    let s := s.setAsrc n { s.asrc n with stable := 0 }
    when (!asrcOut s n) (asrcShort n) s

/-- The converter locks (R195, R199): band, D, T0. -/
def asrcLock (n r : Nat) (s : State) : State :=
  let band := bandOf (s.getF (ASRC_RATIO_RATIO n))
  let P := asrcPeriod s n
  let T0 := (s.now / P + 1) * P
  let s := when (!asrcOut s n) (asrcShort n) s
  let g := asrcGroup s n
  let per := max 1 (framePeriod s g)
  let nf := s.getF (TDM_FRAME_CNT_CNT g) + ceilDiv (T0 - frameStart s g) per
  let s := s.setAsrc n { s.asrc n with lockR := r, delay := asrcDelay s n band, everLocked := true, nextT := T0, nextF := nf, ramp := 0, sync := true }
  let s := (s.setF (ASRC_STAT_STATE n) 2).setF (ASRC_STAT_BAND n) band
  let s := (s.setReg (ASRC_LAT n) (BitVec.ofNat 32 (asrcDelay s n band))).set64 (ASRC_T0_LO n) T0
  let s := when (asrcOut s n) (fun s => s.setF (ASRC_RING_PTR_HW n) 0) s
  (s.hitB ASRC_EVT_LOCK n).event (0x058 + n)

/-- Two values differ by less than one part in `p`. -/
def within (a b p : Nat) : Bool := decide ((if a < b then b - a else a - b) * p < b)

/-- ASRC_TRACK_UPDATE (R194, R195, R196): at an external frame the loop delivers r, in units of 2^-40. -/
def execAsrcTrackUpdate (n r stamp : Nat) (s : State) : Out :=
  if asrcState s n = 0 ∨ 8 ≤ n then .next s else
  let ratio := (roundEvenDiv r (2 ^ 12)).toNat
  let range := decide (12 * r < 2 ^ 40) || decide (12 * 2 ^ 40 < r)
  let s := (s.setReg (ASRC_RATIO n) (BitVec.ofNat 32 ratio)).setF (ASRC_STAT_RANGE n) (bit range)
  let x := s.asrc n
  match asrcState s n with
  | 2 => .next (when (decide (x.lockR < (if r < x.lockR then x.lockR - r else r - x.lockR) * 1000)) (asrcUnlock n) s)
  | 3 => .next ((s.setF (ASRC_STAT_STATE n) 1).setAsrc n { x with stable := 0, testAt := stamp, testR := r })
  | _ =>
    if stamp < x.testAt + 196608 && x.testAt != 0 then .next s
    else
      let st := if range || x.testAt == 0 then 0 else if within r x.testR 1000000 then x.stable + 1 else 0
      let s := s.setAsrc n { x with testAt := stamp, testR := r, stable := st }
      .next (when (decide (16 ≤ st)) (asrcLock n r) s)

/-- A group delivers no FS edges: it does not run, or two expected edges of a SLAVE are missing, 2.5 periods after the last
(R48, R196, R214). -/
def fsGone (s : State) (g : Nat) : Bool :=
  !s.isSet (TDM_CLK_STAT_RUN g)
    || (grpRole s g == 2 && decide (2 * s.r64 (TDM_FS_TIME_LO g) + 5 * framePeriod s g ≤ 2 * s.now))

/-- Converters whose external group delivers no FS edges unlock (R196, R214). -/
def unlockStopped (s : State) : State :=
  forN 8 (fun n s => when (asrcState s n == 2 && asrcExt s n != 4 && fsGone s (asrcGroup s n)) (asrcUnlock n) s) s

/-- TDM_FS_MISSING (R176, R196). -/
def execTdmFsMissing (g : Nat) (s : State) : Out := .next (unlockStopped (fsMissing g s))

/-- TDM_CLK_LOST (R177, R196, R214). -/
def execTdmClkLost (g pos : Nat) (s : State) : Out := .next (unlockStopped (clkLost g pos s))

/-! ### Samples (R197 to R199) -/

/-- The samples of one channel a converter holds. -/
def chanFrames (x : Asrc) (c : Nat) : List (Nat × Int) := x.frames.map (fun f => (f.1, f.2.getD c 0))

/-- The ramp of R199: the kth sample of the first 64 after a lock. -/
def asrcRamp (k : Nat) (y : Int) : Int := if 64 ≤ k then y else roundEvenDiv (y * k) 64

/-- The samples the band's filter reaches from instant `t` are zero (R212): they lie within its delay of `t`.
(DEDUCED, log entry 27). -/
def silentAt (band : Nat) (fr : List (Nat × Int)) (t : Int) : Bool :=
  fr.all (fun e => e.2 == 0 || decide ((bandDelay band : Int) < ((e.1 : Int) - t).natAbs))

/-- The converter's value of a channel for source instant `t`, before saturation: zero over a span of zeros. -/
def asrcValue (s : State) (n c : Nat) (t : Int) : Int :=
  let x := s.asrc n
  let band := s.getF (ASRC_STAT_BAND n)
  if silentAt band (chanFrames x c) t then 0
  else asrcRamp (x.ramp + 1) (Config.resample (asrcOut s n) band (chanFrames x c) t)

/-- Append one sample of every channel to the INWARD block (R197, R199). -/
def asrcSample (n : Nat) (ys : List Int) (t : Nat) (clip gap : Bool) (s : State) : Option State :=
  let x := s.asrc n
  let cfg := s.getF (ASRC_RING_CFG_BLOCK n)
  let b : DecBlock := match x.cur with
    | some b => b
    | none => ⟨((t : Int) - x.delay : Int).toNat, x.seq, [], x.sync, false, false, false, false, false, false,
        s.getF (ASRC_RING_LO_BASE n) * 64 + 2 ^ 32 * s.getF (ASRC_RING_HI_BASE n), max 1 (s.getF (ASRC_RING_CFG_NBLK n)),
        clampN 8 1024 cfg⟩
  let b := { b with samples := ys.reverse ++ b.samples, clip := b.clip || clip, gap := b.gap || gap }
  let started := x.cur.isNone
  let full := decide (b.size * ys.length ≤ b.samples.length)
  let x := { x with seq := if started then (x.seq + 1) % 2 ^ 32 else x.seq, sync := x.sync && !started,
                    cur := if full then none else some b, ramp := min 64 (x.ramp + 1), nextT := t + asrcPeriod s n }
  let s := s.setAsrc n x
  if full then asrcWrite n b s else some s

/-- Write the words of a destination frame to a TX line's ring, whole or not at all (R193); none while memory cannot be
reached. A refused access disables the converter. -/
def putTxFrame (n p l : Nat) : List Int → State → Option State
  | [], s => some s
  | v :: r, s =>
    let sw := s.getF (TDM_RING_PTR_SW p 0 l)
    match s.writeChecked ⟨clsAUDIO, asrcWho s n, true⟩ none (ringWord s p 0 l sw) (leBytes 4 (highWord v)) with
    | (s, .data _) => putTxFrame n p l r (s.setF (TDM_RING_PTR_SW p 0 l) (sw + 1))
    | (s, .refused _) => some (asrcFault n s)
    | (_, _) => none

/-- ASRC_OUTPUT_SAMPLE (R193, R196, R197, R199, R214): INWARD, the output of the next internal instant; OUTWARD, the words of
the next destination frame, up to 4 frames ahead; zero while it is not LOCKED, and none while the group is stopped. -/
def execAsrcOutputSample (n : Nat) (s : State) : Out :=
  let x := s.asrc n
  let st := asrcState s n
  let chs := List.range (asrcCh s n)
  if !s.isSet (ASRC_CFG_EN n) || st = 0 || 8 ≤ n then .next s
  else if !asrcOut s n then
    if !x.everLocked || s.now < x.nextT then .next s
    else
      let D := x.delay
      let raw := if st = 2 then chs.map (fun c => asrcValue s n c ((x.nextT : Int) - D)) else chs.map (fun _ => 0)
      let clip := raw.any (fun y => clipsS 24 y)
      let s1 := when clip (fun s => s.hitF (ASRC_STAT_CLIP n) 1) s
      .next ((asrcSample n (raw.map (satS 24)) x.nextT clip (st != 2) s1).getD s)
  else
    let p := asrcExt s n
    let l := s.getF (ASRC_CFG_LINE n)
    let g := asrcGroup s n
    let cnt := s.getF (TDM_FRAME_CNT_CNT g)
    let room := 2 ^ clampN 6 15 (s.getF (TDM_RING_CFG_SIZE p 0 l)) - ringFill s p 0 l
    if !x.everLocked || !s.isSet (TDM_CLK_STAT_RUN g) || cnt + 4 < x.nextF || room < chs.length then .next s
    else
      let f : Int := frameStart s g + ((x.nextF : Int) - cnt) * framePeriod s g
      let raw := chs.map (fun c => if st = 2 then asrcValue s n c (f - x.delay) else 0)
      match putTxFrame n p l (raw.map (satS 24)) s with
      | none => .next s
      | some s =>
        if asrcState s n = 0 then .next s
        else
          let s := when (raw.any (fun y => clipsS 24 y)) (fun s => s.hitF (ASRC_STAT_CLIP n) 1) s
          .next (s.setAsrc n { x with nextF := x.nextF + 1, ramp := min 64 (x.ramp + 1) })

/-- The address of word i of a converter's input ring (R198). -/
def asrcWord (s : State) (n i : Nat) : Nat :=
  s.getF (ASRC_RING_LO_BASE n) * 64 + 2 ^ 32 * s.getF (ASRC_RING_HI_BASE n)
    + 4 * (i % 2 ^ clampN 6 15 (s.getF (ASRC_RING_CFG_SIZE n)))

/-- Hold one more source frame. -/
def asrcHold (n stamp : Nat) (ys : List Int) (s : State) : State :=
  let x := s.asrc n
  s.setAsrc n { x with frames := ((stamp, ys) :: x.frames).take 1024 }

/-- The streams that feed a converter have written the words of instant `t` to its input ring by the time they are read, at
the producer's index (R198, R458). -/
def feedRing (n t : Nat) : List Nat → State → Option State
  | [], s => some s
  | c :: r, s =>
    let sw := s.getF (ASRC_RING_PTR_SW n)
    match s.writeChecked ⟨clsAUDIO, asrcWho s n, true⟩ none (asrcWord s n sw) (leBytes 4 (highWord (converterWord s n t c))) with
    | (s, .data _) => feedRing n t r (s.setF (ASRC_RING_PTR_SW n) (sw + 1))
    | (s, .refused _) => some (asrcFault n s)
    | (_, _) => none

/-- The read of instant `t` itself: zero and UNDERRUN where the ring is empty. -/
def readInstant (n : Nat) (s : State) : State :=
    let x := s.asrc n
    let ch := asrcCh s n
    let hw := s.getF (ASRC_RING_PTR_HW n)
    let adv := fun (s : State) (ys : List Int) =>
      let s := asrcHold n x.nextT ys (s.setF (ASRC_RING_PTR_HW n) (hw + ch))
      s.setAsrc n { s.asrc n with nextT := x.nextT + asrcPeriod s n }
    if idxDiff 16 (s.getF (ASRC_RING_PTR_SW n)) hw = 0 then
      ((adv s (List.replicate ch 0)).hitB ASRC_EVT_UNDERRUN n).event (0x050 + n)
    else
      let r := (List.range ch).foldl (fun (r : State × List Int × Nat) k =>
        if r.2.2 ≠ 0 then r
        else match r.1.readChecked ⟨clsAUDIO, asrcWho s n, false⟩ none (asrcWord s n (hw + k)) 4 with
          | (s, .data bs) => (s, r.2.1 ++ [fromHigh (ofLe bs)], 0)
          | (s, .ecc _) => (s, r.2.1 ++ [0], 0)
          | (s, .wait) => (s, r.2.1, 1)
          | (s, .refused _) => (s, r.2.1, 2)) (s, [], 0)
      if r.2.2 = 1 then s
      else if r.2.2 = 2 then asrcFault n r.1
      else adv r.1 r.2.1

/-- ASRC_OUTWARD_READ (R198): the words of internal instant t are read at t + 24,576. -/
def execAsrcOutwardRead (n : Nat) (s : State) : Out :=
  let x := s.asrc n
  if !asrcOut s n || asrcState s n ≠ 2 || s.now < x.nextT + 24576 || 8 ≤ n then .next s
  else if converterFed s n then
    match feedRing n x.nextT (List.range (asrcCh s n)) s with
    | none => .next s
    | some s => if asrcState s n = 0 then .next s else .next (readInstant n s)
  else .next (readInstant n s)

/-! ### Guards (R202 to R205, R210, R211) -/

/-- CFG and PAIRS of a guard in force: a write takes effect at the next frame, PREVIEW apart (R208). -/
def guardCfg (s : State) (g : Nat) : Word × Word :=
  match (s.guard g).was with
  | e :: _ => e.2
  | [] => (s.reg (GUARD_CFG g), s.reg (GUARD_PAIRS g))

/-- What is in force before a write of CFG or PAIRS, the registers of `old`, stays so until a frame begins (R208). -/
def guardKeep (g : Nat) (old s : State) : State :=
  s.setGuard g { s.guard g with was := (s.guard g).was ++ [(s.now, old.reg (GUARD_CFG g), old.reg (GUARD_PAIRS g))] }

/-- A frame that began at `stamp` meets the writes before it. -/
def guardFrame (g stamp : Nat) (s : State) : State :=
  s.setGuard g { s.guard g with was := (s.guard g).was.filter (fun e => decide (stamp < e.1)) }

/-- Burst pairs of a frame (R202): a bit per enabled pair. -/
def burstPairs (s : State) (g : Nat) (words : List Nat) : Nat :=
  let en := (GUARD_PAIRS_EN g).of (guardCfg s g).2
  (List.range (words.length / 2)).foldl (fun m j =>
    if bitOf en j && words.getD (2 * j) 0 / 65536 == 0xF872 && words.getD (2 * j + 1) 0 / 65536 == 0x4E1F then m + 2 ^ j
    else m) 0

/-- The lowest set bit. -/
def lowestBit (m : Nat) : Option Nat := (List.range 16).find? (fun j => bitOf m j)

/-- A detection completes at Td (R203, R210). -/
def guardDetect (g td pairs cause : Nat) (s : State) : State :=
  let x := s.guard g
  let s := s.setGuard g { x with muted := x.muted ||| pairs, lastBurst := if cause = 1 then td else x.lastBurst }
  let was := s.isSet (GUARD_STAT_MUTED g)
  let s := (s.setF (GUARD_STAT_MUTED g) 1).setF (GUARD_STAT_CAUSE g) (s.getF (GUARD_STAT_CAUSE g) ||| cause)
  let s := s.set64 (GUARD_LAST_LO g) td
  when (!was) (fun s => (s.hitB GUARD_EVT_DETECT g).event (0x038 + g)) s

/-- Detections that complete by this tick. -/
def guardTick (s : State) : State :=
  s.rate.guards.foldl (fun s e =>
    let ready := e.2.due.filter (fun q => decide (q.1 ≤ s.now))
    if ready.isEmpty then s
    else
      let s := s.setGuard e.1 { s.guard e.1 with due := e.2.due.filter (fun q => !decide (q.1 ≤ s.now)) }
      ready.foldl (fun s q => guardDetect e.1 q.1 q.2.1 q.2.2 s) s) s

/-- A received frame enters its guard (R202, R203). `got` words came before any skipped slot, and `heard j` is the tick at which
the word of position 2j + 1 was received. -/
def guardIn (g stamp : Nat) (words : List Nat) (got : Nat) (heard : Nat → Nat) (s : State) : State :=
  let s := guardFrame g stamp s
  let x := s.guard g
  let s := match x.pcPair with
    | some j => s.setF (GUARD_STAT_PC g) (words.getD (2 * j) 0 / 65536)
    | none => s
  let cfg := (guardCfg s g).1
  let m := if (GUARD_CFG_EN g).of cfg == 1 && (GUARD_CFG_DET_BURST g).of cfg == 1 then burstPairs s g words else 0
  let due := ((List.range 16).filter (bitOf m)).map (fun j => (heard j + 4, 2 ^ j, 1))
  guardTick (s.setGuard g { x with frames := x.frames ++ [⟨stamp, words, got, 0⟩], pcPair := lowestBit m, due := x.due ++ due })

/-- Converters lose groups that stopped, and guards complete their detections. -/
def rateTick (s : State) : State := guardTick (unlockStopped s)

/-- Zero the words of muted pairs. -/
def muteWords (m : Nat) (words : List Nat) : List Nat :=
  (List.range words.length).map (fun i => if bitOf m (i / 2) then 0 else words.getD i 0)

/-- Words released by a guard reach the converters of their line (R192). -/
def feedConverters (ext l stamp : Nat) (words : List Nat) (s : State) : State :=
  forN 8 (fun n s =>
    if asrcState s n ≠ 0 && !asrcOut s n && asrcExt s n == ext && (ext == 4 || s.getF (ASRC_CFG_LINE n) == l) then
      let pos := fun c => bitsOf (s.reg (ASRC_MAP n (c / 4))).toNat (8 * (c % 4)) 5
      asrcHold n stamp ((List.range (asrcCh s n)).map (fun c => fromHigh (words.getD (pos c) 0))) s
    else s) s

/-- Write the two words of an S/PDIF frame to its ring (R165, R201). -/
def spdifRing (words : List Nat) (s : State) : State :=
  if !s.isSet SPDIF_CTRL_RING_EN || !s.isSet SPDIF_RING_CFG_EN then s else
  let who : Who := match s.owner .spdif with | some k => .sess [k] | none => .fw
  let size := 2 ^ clampN 6 15 (s.getF SPDIF_RING_CFG_SIZE)
  let base := s.getF SPDIF_RING_LO_BASE * 64 + 2 ^ 32 * s.getF SPDIF_RING_HI_BASE
  if size < idxDiff 16 (s.getF SPDIF_RING_PTR_HW) (s.getF SPDIF_RING_PTR_SW) + words.length then s
  else words.foldl (fun s w =>
    let hw := s.getF SPDIF_RING_PTR_HW
    match s.writeChecked ⟨clsAUDIO, who, true⟩ none (base + 4 * (hw % size)) (leBytes 4 w) with
    | (s, .data _) => s.setF SPDIF_RING_PTR_HW (hw + 1)
    | (s, _) => s) s

/-- GUARD_FRAME_RELEASE (R203, R191): the oldest frame leaves guard g at its stamp plus G. -/
def execGuardFrameRelease (g : Nat) (s : State) : Out :=
  let x := s.guard g
  match x.frames with
  | [] => .next s
  | f :: rest =>
    if s.now < f.stamp + guardDelay s g then .next s else
    let words := muteWords (f.mute ||| x.muted) f.words
    let s := s.setGuard g { x with frames := rest }
    if g = 0 then .next (feedConverters 4 0 f.stamp words (spdifRing words s))
    else
      let n := (g - 1) / 2
      let l := (g - 1) % 2
      let ws := if s.isSet (TDM_CFG_FAULT_MODE n 1) then words.take f.got else words
      .next (rxIntoFifo n l f.stamp ws f.got (feedConverters n l f.stamp words s))

/-- GUARD_RELEASE (R204, R211): no burst for HOLD ms and, for guard 0, the last block without the non-audio bit. -/
def execGuardRelease (g : Nat) (s : State) : Out :=
  let x := s.guard g
  if !s.isSet (GUARD_STAT_MUTED g) || decide (s.now < x.lastBurst + max 10 ((GUARD_CFG_HOLD g).of (guardCfg s g).1) * 98304)
      || (g == 0 && (GUARD_CFG_DET_CS 0).of (guardCfg s 0).1 == 1 && s.rate.spdif.nonAudio) || x.due.any (fun q => decide (q.1 ≤ s.now)) then
    .next s
  else
    let s := s.setGuard g { x with muted := 0, frames := x.frames.map (fun f => { f with mute := f.mute ||| x.muted }) }
    .next (((s.setF (GUARD_STAT_MUTED g) 0).setF (GUARD_STAT_CAUSE g) 0).hitB GUARD_EVT_RELEASE g)

/-- The tick at which the slot of FIFO position `p` of a frame of RX n that began at `stamp` has been received (R160). -/
def rxHeard (s : State) (n l stamp p : Nat) : Nat :=
  slotInstant s n 1 ((fifoSlots s n 1 l).getD p 0 + 1) stamp

/-- RX_FRAME_RECEIVE (R162, R166, R170, R174, R191, R192): the FIFO-slot words of a live frame of line l of RX n, by position,
each sampled MSB first and its bits below DATA dropped; fewer than N where slots were skipped, whose words are zero. -/
def execRxFrameReceive (n l stamp : Nat) (words : List Nat) (s : State) : Out :=
  let N := (fifoSlots s n 1 l).length
  if 4 ≤ n || 2 ≤ l || !rxLive s n stamp || N = 0 then .next s
  else
    let d := tdData s n 1
    let ws := (words.take N).map (fun w => w % 2 ^ 32 / 2 ^ (32 - d) * 2 ^ (32 - d))
    .next (guardIn (1 + 2 * n + l) stamp (ws ++ List.replicate (N - ws.length) 0) ws.length
      (fun j => rxHeard s n l stamp (2 * j + 1)) s)

/-! ### The IEC 60958 receiver (R200, R201) -/

/-- The supported rates in order of their RATE codes. -/
def spdifRates : List Nat := [32000, 44100, 48000, 88200, 96000, 176400, 192000]

/-- The RATE code of a frame period in 1/16 tick: within 1,000 ppm of a supported rate (R200); 0 none. -/
def spdifRate (period : Nat) : Nat :=
  match (List.range 7).find? (fun k =>
    let a := period * spdifRates.getD k 1
    decide ((if a < 1572864000 then 1572864000 - a else a - 1572864000) * 1000 ≤ 1572864000)) with
  | some k => k + 1
  | none => 0

/-- A subframe's parity over time slots 4 to 31 is even; the frame's command carries them as bits 0 to 27: audio [23:0],
validity 24, user 25, channel status 26, parity 27. -/
def parityOk (x : Nat) : Bool := popCount 28 x % 2 == 0

/-- The word a subframe delivers and the parity failures it adds. -/
def subframe (s : State) (x prev : Nat) : Nat × Nat :=
  if !parityOk x then (prev, 1)
  else if s.isSet SPDIF_CTRL_VALID_MUTE && bitOf x 24 then (0, 0)
  else (x % 2 ^ 24 * 256, 0)

/-- A channel-status block is confirmed (R201, R202). -/
def confirmBlock (a b : Nat) (s : State) : State :=
  let changed := (List.range 6).any (fun k => (s.reg (SPDIF_CS k)).toNat != bitsOf a (32 * k) 32)
  let s := forN 6 (fun k s => s.setReg (SPDIF_CS k) (BitVec.ofNat 32 (bitsOf a (32 * k) 32))) s
  let s := s.setF SPDIF_CS_DIFF_DIFF (bit (a != b))
  let s := when changed (fun s => s.hitF SPDIF_EVT_CS_CHANGE 1) s
  let na := bitOf a 1
  let s := { s with rate := { s.rate with spdif := { s.rate.spdif with nonAudio := na } } }
  let cfg := (guardCfg s 0).1
  if na && (GUARD_CFG_EN 0).of cfg == 1 && (GUARD_CFG_DET_CS 0).of cfg == 1 then
    s.setGuard 0 { s.guard 0 with due := (s.guard 0).due ++ [(s.now + 4, 1, 2)] }
  else s

/-- SPDIF_FRAME_RECEIVE (R200, R201): one frame; `blockStart` says that its preamble opens a channel-status block,
`err` that a preamble or biphase error was found. -/
def execSpdifFrameReceive (a b stamp period : Nat) (blockStart err : Bool) (s : State) : Out :=
  if !s.isSet SPDIF_CTRL_EN then .next s else
  let x := s.rate.spdif
  let put := fun (x : Spdif) (s : State) => { s with rate := { s.rate with spdif := x } }
  let rate := spdifRate period
  if err then .next (put { x with run := 0 } (s.incF SPDIF_ERR_BIPHASE 1))
  else
    let run := if rate = 0 then 0 else x.run + 1
    let lockNow := decide (16 ≤ run) && !s.isSet SPDIF_STAT_LOCK
    let s := when lockNow (fun s => ((s.setF SPDIF_STAT_LOCK 1).hitF SPDIF_EVT_LOCK 1).event 0x030) s
    if !s.isSet SPDIF_STAT_LOCK then .next (put { x with run := run } s)
    else
      let s := (s.set64 SPDIF_FS_TIME_LO stamp).setF SPDIF_PERIOD_PER period
      let s := when (rate != 0) (fun s => s.setF SPDIF_STAT_RATE rate) s
      let wa := subframe s a x.prevA
      let wb := subframe s b x.prevB
      let s := when (wa.2 + wb.2 != 0) (fun s => (s.incF SPDIF_ERR_PARITY (wa.2 + wb.2)).hitF SPDIF_EVT_PARITY 1) s
      let k := if blockStart then 0 else x.csN
      let inBlock := blockStart || x.csN != 0
      let ca := (if blockStart then 0 else x.csA) + a / 2 ^ 26 % 2 * 2 ^ k
      let cb := (if blockStart then 0 else x.csB) + b / 2 ^ 26 % 2 * 2 ^ k
      let done := inBlock && k == 191
      let s := put { x with run := run, prevA := wa.1, prevB := wb.1, csA := if inBlock && !done then ca else 0,
                            csB := if inBlock && !done then cb else 0, csN := if inBlock && !done then k + 1 else 0 } s
      let s := when done (confirmBlock ca cb) (guardFrame 0 stamp s)
      .next (guardIn 0 stamp [wa.1, wb.1] 2 (fun _ => s.now) s)

/-- SPDIF_LOCK_LOSS (R200, R196): two consecutive preambles are missing. -/
def execSpdifLockLoss (s : State) : Out :=
  if !s.isSet SPDIF_STAT_LOCK then .next s else
  let s := (s.setF SPDIF_STAT_LOCK 0).setF SPDIF_STAT_RATE 0
  let s := { s with rate := { s.rate with spdif := { s.rate.spdif with run := 0, csN := 0, csA := 0, csB := 0 } } }
  let s := (s.hitF SPDIF_EVT_UNLOCK 1).event 0x031
  .next (forN 8 (fun n s => when (asrcExt s n == 4) (asrcUnlock n) s) s)

/-! ### Commands (R207, R208) -/

/-- The claim an external side needs. -/
def extClaim (e : Nat) : Res := if e = 4 then .spdif else .tdm e

/-- OUTWARD converter n feeds line l of TX p (R193). -/
def lineFedBy (s : State) (n p l : Nat) : Bool :=
  asrcState s n != 0 && asrcOut s n && asrcExt s n == p && s.getF (ASRC_CFG_LINE n) == l

/-- ASRC_OPEN (R207, R208); a line that streams feed conflicts too, for no other producer may write its ring (R193, R458).
(DESIGN CHOICE, log entry 76). -/
def execAsrcOpen (d : Desc) (s : State) : Out :=
  let z := [4, 4, 4, 8, 4, 2, 2]
  let img := d.arg z 0
  let ext := (ASRC_CFG_EXT 0).img img
  runCmd d 0x0306 z (fun s d => firstBad [need (decide (ext ≤ 4)) stBAD, ownC s d (extClaim ext),
      bindOwn s d [d.arg z 5, d.arg z 6]]) (fun s d =>
    let out := (ASRC_CFG_DIR 0).img img == 1
    let line := (ASRC_CFG_LINE 0).img img
    let ch := (ASRC_CFG_CH 0).img img + 1
    let rc := d.arg z 4
    checked [imgOk (ASRC_CFG 0) [ASRC_CFG_EN 0] [] img, imgOk (ASRC_MAP 0 0) [] [] (d.arg z 1),
      imgOk (ASRC_MAP 0 1) [] [] (d.arg z 2), imgOk (ASRC_RING_CFG 0) [] [] rc, addrOk (d.arg z 3),
      need (d.arg z 3 % 64 == 0 && (ASRC_CFG_INT_RATE 0).img img != 3 && (ASRC_CFG_TRACK_BW 0).img img != 3
        && !(out && ext == 4) && decide (8 ≤ (ASRC_RING_CFG_BLOCK 0).img rc) && decide ((ASRC_RING_CFG_BLOCK 0).img rc ≤ 1024)
        && (ASRC_RING_CFG_NBLK 0).img rc != 0 && decide (6 ≤ (ASRC_RING_CFG_SIZE 0).img rc)) stBAD,
      bindOk [d.arg z 5, d.arg z 6],
      need (!out || ((fifoSlots s ext 0 line).length == ch && (List.range 8).all (fun n =>
        !lineFedBy s n ext line) && !lineFed s ext line)) stCONFLICT] s
      (match (List.range 8).find? (fun n => s.owner (.converter n) == none) with
      | none => (s, .fail stNORES 0)
      | some n =>
        withBinds d [(0x03065, if out then 0x050 + n else 0x048 + n, d.arg z 5), (0x03066, 0x058 + n, d.arg z 6)] s (fun s =>
          let s := (s.take d (.converter n)).setImg (ASRC_CFG n) [ASRC_CFG_EN n] [] img
          let s := ((s.setF (ASRC_CFG_EN n) 1).setImg (ASRC_MAP n 0) [] [] (d.arg z 1)).setImg (ASRC_MAP n 1) [] [] (d.arg z 2)
          let s := (s.setReg (ASRC_RING_LO n) (BitVec.ofNat 32 (d.arg z 3))).setReg (ASRC_RING_HI n)
            (BitVec.ofNat 32 (d.arg z 3 / 2 ^ 32))
          let s := (s.setImg (ASRC_RING_CFG n) [] [] rc).setReg (ASRC_RING_PTR n) 0
          ((s.setAsrc n Asrc.reset).setF (ASRC_STAT_STATE n) 1, .done n [])))) s

/-- A converter is released: disabled, its configuration at reset, its bindings removed. -/
def closeConverter (n : Nat) (s : State) : State :=
  let s := s.clearRegs (ASRC_CFG n) (ASRC_CFG n + 0x100)
  unbindEvents (fun e => e == 0x048 + n || e == 0x050 + n || e == 0x058 + n || e == 0x060 + n) (s.setAsrc n Asrc.reset)

/-- ASRC_CLOSE. -/
def execAsrcClose (d : Desc) (s : State) : Out :=
  runCmd d 0x0307 [1] (fun s d => firstBad [need (decide (d.arg [1] 0 < 8)) stBAD, ownC s d (.converter (d.arg [1] 0))])
    (fun s d => ((closeConverter (d.arg [1] 0) s).giveUp d (.converter (d.arg [1] 0)), .ok)) s

/-- ASRC_STATUS. -/
def execAsrcStatus (d : Desc) (s : State) : Out :=
  let z := [1, 8]
  runCmd d 0x0308 z (fun _ d => need (decide (d.arg z 0 < 8)) stBAD) (fun s d =>
    let n := d.arg z 0
    outStatus d (d.arg z 1) [.w (ASRC_STAT n), .w (ASRC_RATIO n), .w (ASRC_LAT n), .q (ASRC_T0_LO n), .w ASRC_EVT] s) s

/-- SPDIF_CONFIG (R207). -/
def execSpdifConfig (d : Desc) (s : State) : Out :=
  let z := [4, 8, 4, 2]
  runCmd d 0x0409 z (fun s d => firstBad [claimC s d .spdif, bindOwn s d [d.arg z 3]]) (fun s d =>
    let base := d.arg z 1
    let rc := d.arg z 2
    checked [imgOk SPDIF_CTRL [] [] (d.arg z 0), addrOk base, need (base % 64 == 0) stBAD, imgOk SPDIF_RING_CFG [] [] rc,
      need (decide (6 ≤ SPDIF_RING_CFG_SIZE.img rc)) stBAD, bindOk [d.arg z 3]] s
      (withBinds d [(0x04090, 0x031, d.arg z 3)] s (fun s =>
        let s := (s.take d .spdif).setImg SPDIF_CTRL [] [] (d.arg z 0)
        let s := (s.setReg SPDIF_RING_LO (BitVec.ofNat 32 base)).setReg SPDIF_RING_HI (BitVec.ofNat 32 (base / 2 ^ 32))
        (s.setImg SPDIF_RING_CFG [] [] rc, .ok)))) s

/-- SPDIF_STATUS. -/
def execSpdifStatus (d : Desc) (s : State) : Out :=
  runCmd d 0x040A [8] (fun _ _ => 0) (fun s d => outStatus d (d.arg [8] 0)
    ([.w SPDIF_STAT, .w SPDIF_PERIOD, .w SPDIF_ERR] ++ (List.range 6).map (fun k => .w (SPDIF_CS k))) s) s

/-- The claim a guard belongs to (R207). -/
def guardRes (g : Nat) : Res := if g = 0 then .spdif else .tdm ((g - 1) / 2)

/-- The receiver behind a guard is started. -/
def guardStarted (s : State) (g : Nat) : Bool := if g = 0 then s.isSet SPDIF_CTRL_EN else tdStarted s ((g - 1) / 2) 1

/-- GUARD_CONFIG (R207, R208). -/
def execGuardConfig (d : Desc) (s : State) : Out :=
  let z := [1, 4, 4, 2]
  runCmd d 0x040B z (fun s d => firstBad [need (decide (d.arg z 0 < 9)) stBAD, ownC s d (guardRes (d.arg z 0)),
      bindOwn s d [d.arg z 3]]) (fun s d =>
    let g := d.arg z 0
    let img := d.arg z 1
    let pre := (GUARD_CFG_PREVIEW 0).img img
    checked [imgOk (GUARD_CFG g) [] [] img, imgOk (GUARD_PAIRS g) [] [] (d.arg z 2),
      need (decide (pre ≤ 64) && decide (10 ≤ (GUARD_CFG_HOLD 0).img img)) stBAD, bindOk [d.arg z 3],
      need (pre == s.getF (GUARD_CFG_PREVIEW g) || !guardStarted s g) stCONFLICT] s
      (withBinds d [(0x040B0, 0x038 + g, d.arg z 3)] s (fun s =>
        (((guardKeep g s s).setImg (GUARD_CFG g) [] [] img).setImg (GUARD_PAIRS g) [] [] (d.arg z 2), .ok)))) s

/-- A guard's configuration returns to reset; its mute is kept. -/
def releaseGuard (g : Nat) (s : State) : State :=
  let s := ((guardKeep g s s).setReg (GUARD_CFG g) (resetWord (GUARD_CFG g))).setReg (GUARD_PAIRS g) (resetWord (GUARD_PAIRS g))
  unbindEvents (· == 0x038 + g) s

/-- A converter is released at its session's close. -/
def releaseConverter (n : Nat) (s : State) : State := (closeConverter n s).release (.converter n)

/-- The S/PDIF claim is released; what the last confirmed block said stays, for no command lifts a mute (R204, R207). -/
def releaseSpdif (s : State) : State :=
  let s := (s.clearRegs SPDIF_CTRL (SPDIF_CTRL + 0x100))
  let s := { s with rate := { s.rate with spdif := { Spdif.reset with nonAudio := s.rate.spdif.nonAudio } } }
  unbindEvents (fun e => e == 0x030 || e == 0x031) ((releaseGuard 0 s).release .spdif)

/-- A port is released with the guards of its lines. -/
def releaseTdm (n : Nat) (s : State) : State := releasePort n (releaseGuard (1 + 2 * n) (releaseGuard (2 + 2 * n) s))

end Sys2Proof.Machine
end

