-- ==== Sys2Proof/Machine/Sense.lean ====
section
/-! DEFINITION. Sensing and ego-motion (R239 to R251): trigger pins, accelerometer ports, the IMU controller, wheel
ticks, transforms, the ego-motion filter, and the commands of the SENSE block. (DEDUCED, log entries 29 and 77). -/

namespace Sys2Proof.Machine

/-- The Fox claim's rights. -/
def foxWho (s : State) : Who := match s.owner .fox with | some k => .sess [k] | none => .fw

/-! ### Supervision statistics (R266) -/

/-- The source record of source i: 0, 1 SPORT, 2 IMU, 3 to 6 WHEEL, 7 to 14 ARRAY, 15 to 30 CAMERA, 31 HOST. -/
def statAddr (i : Nat) : Nat := foxBase + 0x14000 + 32 * i

/-- Add to a 32-bit count in Fox SRAM. -/
def bump (a n : Nat) (s : State) : State := s.setLe a 4 (s.le a 4 + n)

/-- A source delivered items: LAST and COUNT. -/
def statItem (i stamp n : Nat) (s : State) : State := bump (statAddr i + 8) n (s.setLe (statAddr i) 8 stamp)

/-- The tracker and ego record's count at `off`. -/
def trkStat (off n : Nat) (s : State) : State := bump (foxBase + 0x14400 + off) n s

/-! ### Transforms (R250, R251) -/

/-- A signed 32-bit field of memory. -/
def sle (s : State) (a : Nat) : Int := toSigned 32 (s.le a 4)

/-- A pose: the rotation as a matrix and the origin in metres, binary32. -/
structure Pose where
  rot : Mat
  org : List F32
deriving DecidableEq, Repr

/-- Micrometres to metres. -/
def metres (um : Int) : F32 := fOfRat um 1000000

/-- The pose of transform entry i. -/
def poseOf (s : State) (i : Nat) : Pose :=
  let a := foxBase + 64 * i
  let q := (List.range 4).map (fun k => sle s (a + 4 + 4 * k))
  ⟨mBuild 3 3 (fun r c => Config.rotation q r c % 2 ^ 32), (List.range 3).map (fun k => metres (sle s (a + 0x14 + 4 * k)))⟩

/-- Entry i is an enabled entry of frame f that holds at stamp `st`. -/
def xformHolds (s : State) (f st i : Nat) : Bool :=
  let a := foxBase + 64 * i
  s.le a 1 == f && s.le (a + 1) 1 % 2 == 1 && s.le (a + 4) 16 != 0 && decide (s.le (a + 0x20) 8 ≤ st)
    && decide (st < s.le (a + 0x28) 8)

/-- The transform of frame f for stamp `st` (R251); the vehicle frame needs none. -/
def xform (s : State) (f st : Nat) : Option Pose :=
  if f = 0 then some ⟨mId 3, [0, 0, 0]⟩
  else
    ((List.range 64).foldl (fun (m : Option Nat) i =>
      if !xformHolds s f st i then m
      else match m with
        | some j => if s.le (foxBase + 64 * j + 0x20) 8 < s.le (foxBase + 64 * i + 0x20) 8 then some i else m
        | none => some i) none).map (poseOf s)

/-- A matrix applied to a vector. -/
def mVec (m : Mat) (v : List F32) : List F32 :=
  (List.range 3).map (fun i => fDot ((List.range 3).map (fun k => (mAt m i k, v.getD k 0))))

/-- Vector sum. -/
def vAdd (a b : List F32) : List F32 := (List.range 3).map (fun i => fAdd (a.getD i 0) (b.getD i 0))
/-- Vector difference. -/
def vSub (a b : List F32) : List F32 := (List.range 3).map (fun i => fSub (a.getD i 0) (b.getD i 0))
/-- A scaled vector. -/
def vScale (k : F32) (a : List F32) : List F32 := (List.range 3).map (fun i => fMul k (a.getD i 0))

/-- A point or vector of a frame in the vehicle frame. -/
def toVehicle (p : Pose) (v : List F32) : List F32 := vAdd (mVec p.rot v) p.org

/-- A vehicle point in a frame. -/
def fromVehicle (p : Pose) (v : List F32) : List F32 := mVec (mT 3 3 p.rot) (vSub v p.org)

/-! ### Trigger pins (R239) -/

/-- PERIOD in force. -/
def syncPeriod (s : State) (n : Nat) : Nat := max 12288 (s.getF (SENSE_SYNC_PERIOD_TICKS n))

/-- The least k whose tick is at least `t`. -/
def leastK (s : State) (n t : Nat) : Nat :=
  let st := s.r64 (SENSE_SYNC_START_LO n)
  if t ≤ st then 0 else ceilDiv (t - st) (syncPeriod s n)

/-- The pin is enabled: k0 is the least k at or after now + 4. -/
def senseEnable (n : Nat) (s : State) : State :=
  let k := leastK s n (s.now + 4)
  { s with sense := { s.sense with k0 := tabPut 0 n k s.sense.k0, nextK := tabPut 0 n k s.sense.nextK } }

/-- PERIOD or START changed while the pin is enabled: the next pulse is the first that is still to come, from k0 on.
(DESIGN CHOICE, log entry 77). -/
def senseRetime (n : Nat) (s : State) : State :=
  { s with sense := { s.sense with nextK := tabPut 0 n (max (tabGet 0 n s.sense.k0) (leastK s n (s.now + 1))) s.sense.nextK } }

/-- The level of SENSE_SYNC_n at tick `t` (R239, R269): active for WIDTH ticks from START + k × PERIOD, k from k0 on;
nothing where the ball is high-impedance. -/
def senseBall (s : State) (n t : Nat) : Option Bool :=
  let st := s.r64 (SENSE_SYNC_START_LO n)
  let k := (t - st) / syncPeriod s n
  let active := s.isSet (SENSE_SYNC_CTRL_EN n) && !asleep s && decide (st ≤ t) && decide (tabGet 0 n s.sense.k0 ≤ k)
    && decide (t < st + k * syncPeriod s n + s.getF (SENSE_SYNC_CTRL_WIDTH n))
  if sharedOut s then some (active != s.isSet (SENSE_SYNC_CTRL_POL n)) else none

/-- SENSE_SYNC_PULSE (R239, R243): the pin's next pulse. -/
def execSenseSyncPulse (n : Nat) (s : State) : Out :=
  let k := tabGet 0 n s.sense.nextK
  let t := s.r64 (SENSE_SYNC_START_LO n) + k * syncPeriod s n
  if 2 ≤ n || !s.isSet (SENSE_SYNC_CTRL_EN n) || asleep s || s.now < t then .next s
  else
    let s := { s with sense := { s.sense with nextK := tabPut 0 n (k + 1) s.sense.nextK } }
    let s := (s.setReg (SENSE_SYNC_COUNT n) (BitVec.ofNat 32 k)).set64 (SENSE_SYNC_LAST_LO n) t
    let s := (s.hitB SENSE_EVT_SYNC_PULSE n).event (0x100 + n)
    let adj := toSigned 16 (s.getF SENSE_IMU_ADJ_ADJ)
    if s.isSet SENSE_IMU_CFG_EN && s.getF SENSE_IMU_CFG_MODE == 0 && s.getF SENSE_IMU_CFG_TRIG == n then
      .next { s with sense := { s.sense with
        imuDue := s.sense.imuDue ++ [(t + s.getF SENSE_IMU_DELAY_TICKS, ((t : Int) + adj).toNat)] } }
    else .next s

/-! ### Accelerometer ports (R240 to R242) -/

/-- Slot width of a port. -/
def sportWidth (code : Nat) : Nat := if code = 0 then 16 else if code = 1 then 24 else 32

/-- A slot's signed DATA bits scaled to 24 bits (R241). -/
def sportScale (data : Nat) (v : Int) : Int :=
  let x := toSigned data (ofSigned data v)
  if data ≤ 24 then x * 2 ^ (24 - data) else satS 24 (roundEvenShr x (data - 24))

/-- Ticks of a frame. -/
def sportFrame (c : Word) : Nat := 2048 * clampN 1 48 ((SENSE_SPORT_CFG_RDIV 0).img c.toNat)

/-- Ticks of a BCLK period: 196.608 MHz / 2^(3 + BSEL) is one period in 2^(2 + BSEL) ticks. -/
def sportBit (c : Word) : Nat := 2 ^ (2 + (SENSE_SPORT_CFG_BSEL 0).img c.toNat)

/-- Slots of a frame and the BCLK periods to the end of its last slot. -/
def sportSlots (c : Word) : Nat := (SENSE_SPORT_CFG_SLOTS 0).img c.toNat + 1
def sportEnd (c : Word) : Nat :=
  (SENSE_SPORT_CFG_OFFSET 0).img c.toNat + sportSlots c * sportWidth ((SENSE_SPORT_CFG_WIDTH 0).img c.toNat)

/-- The levels of SPORTn_BCLK and SPORTn_FS at half-tick `h` (R240, R269): a BCLK period begins at the falling edge, data is
sampled at the rising edge in its middle, and FS is high for the period of position 0; high-impedance where the outputs are.
(DESIGN CHOICE, log entry 77). -/
def sportBalls (s : State) (n h : Nat) : Option (Bool × Bool) :=
  if !sharedOut s then none
  else
    let c := s.reg (SENSE_SPORT_CFG n)
    let on := s.isSet (SENSE_SPORT_CFG_EN n) && !asleep s
    let o := h % (2 * sportFrame c)
    some (if on then (decide (sportBit c ≤ o % (2 * sportBit c)), decide (o < 2 * sportBit c)) else (Config.sportIdle n, false))

/-- The port frames and its ring takes blocks. -/
def sportRuns (s : State) (n : Nat) : Bool := s.isSet (SENSE_SPORT_CFG_EN n) && s.isSet (SENSE_SPORT_RING_CFG_EN n)

/-- A port starts: its first frame is the next FS edge, and the block carries SYNC (R142, R242). -/
def sportStart (n : Nat) (s : State) : State :=
  let c := s.reg (SENSE_SPORT_CFG n)
  { s with sense := { s.sense with
    sport := tabPut none n (some ⟨c, (s.now / sportFrame c + 1) * sportFrame c, false, none⟩) s.sense.sport } }

/-- A write of a port's registers starts or stops its run; a stop ends the block in progress after its last whole frame.
(DESIGN CHOICE, log entry 77). -/
def sportFollow (n : Nat) (old s : State) : State :=
  if sportRuns s n && !sportRuns old n then sportStart n s
  else if sportRuns old n && !sportRuns s n then
    { s with sense := { s.sense with
      sport := tabPut none n ((tabGet none n s.sense.sport).map (fun r => { r with stop := some s.now })) s.sense.sport } }
  else s

/-- The frames a block may hold now: BLOCK of them with their last bits in, or after a stop the whole ones that came before
it (R242). -/
def sportTakes (r : SportRun) (blk now n : Nat) : Bool :=
  let lastBit := fun k => r.next + k * sportFrame r.cfg + sportEnd r.cfg * sportBit r.cfg
  let till := match r.stop with | some t => min t now | none => now
  decide (1 ≤ n) && decide (n ≤ blk) && decide (lastBit (n - 1) ≤ till)
    && (n == blk || (r.stop.isSome && decide (till < lastBit n)))

/-- SPORT_BLOCK_COMPLETE (R240 to R242): the block of `frames`, whose first FS edge is the run's next. -/
def execSportBlockComplete (n : Nat) (frames : List (List Int)) (s : State) : Out :=
  let blk := s.getF (SENSE_SPORT_RING_CFG_BLOCK n) + 1
  match tabGet none n s.sense.sport with
  | none => .next s
  | some r =>
    if 2 ≤ n || !sportTakes r blk s.now frames.length then .next s
    else
      let slots := sportSlots r.cfg
      let data := (SENSE_SPORT_CFG_DATA 0).img r.cfg.toNat + 1
      let stamp := fun (k : Nat) =>
        (((r.next + k * sportFrame r.cfg : Nat) : Int) - toSigned 16 (s.getF (SENSE_SPORT_ADJ_ADJ n))).toNat
      let seq := s.getF (SENSE_SPORT_STAT_SEQ n)
      let words := frames.flatMap (fun f => (List.range slots).flatMap (fun k => lowWord (sportScale data (f.getD k 0))))
      let short := decide (frames.length < blk)
      let bytes := leBytes 8 (stamp 0) ++ leBytes 4 seq ++ leBytes 2 frames.length
        ++ leBytes 2 (bit (!r.synced) + 2 * bit short) ++ words
      let base := s.getF (SENSE_SPORT_RING_LO_BASE n) * 64 + 2 ^ 32 * s.getF (SENSE_SPORT_RING_HI_BASE n)
      let slot := blockSlot base (blk * slots) (max 1 (s.getF (SENSE_SPORT_RING_CFG_NBLK n))) seq
      let s := statItem n (stamp (frames.length - 1)) frames.length s
      let keep := fun (x : Option SportRun) (s : State) => { s with sense := { s.sense with sport := tabPut none n x s.sense.sport } }
      match s.writeChecked ⟨clsFOX, foxWho s, true⟩ none slot bytes with
      | (_, .wait) => .next s
      | (s, .refused _) => .next (keep none ((s.setF (SENSE_SPORT_RING_CFG_EN n) 0).hitB SENSE_EVT_RING_FAULT n))
      | (s, _) =>
        let s := keep (if short then none else some { r with next := r.next + blk * sportFrame r.cfg, synced := true }) s
        .next (((s.setF (SENSE_SPORT_STAT_SEQ n) (seq + 1)).hitB SENSE_EVT_SPORT_BLOCK n).event (0x102 + n))

/-! ### IMU (R243, R244, R276) -/

/-- A trigger starts a read, or is skipped while one runs. -/
def imuTrigger (instant : Nat) (s : State) : State :=
  if s.sense.imuRun.isSome then bump (statAddr 2 + 0xC) 1 (s.hitF SENSE_EVT_IMU_SKIP 1)
  else { s with sense := { s.sense with imuRun := some (instant, s.now) } }

/-- The bytes a read sends on MOSI (R243). -/
def imuSends (s : State) : List Byte :=
  (leBytes 4 (s.reg SENSE_IMU_CMD).toNat).take (min 4 (s.getF SENSE_IMU_CFG_CMD_LEN))

/-- Ticks of a read's bits: SCK at 98.304 MHz / SCK_DIV, CMD_LEN bytes out and READ_LEN bytes in (R243). -/
def imuBitTicks (s : State) : Nat :=
  (min 4 (s.getF SENSE_IMU_CFG_CMD_LEN) + clampN 12 16 (s.getF SENSE_IMU_CFG_READ_LEN)) * 8 * max 4 (s.getF SENSE_IMU_CFG_SCK_DIV)

/-- SPI_IMU_CS_N: low while a read runs, high-impedance on a standby (R243, R269). -/
def imuCsN (s : State) : Option Bool := if sharedOut s then some s.sense.imuRun.isNone else none

/-- SPI_IMU_INT_EDGE (R243). -/
def execSpiImuIntEdge (rising : Bool) (s : State) : Out :=
  let s := { s with sense := { s.sense with imuInt := rising } }
  if s.isSet SENSE_IMU_CFG_EN && !asleep s && s.getF SENSE_IMU_CFG_MODE == 1 && (s.isSet SENSE_IMU_CFG_INT_POL == rising) then
    .next (imuTrigger (((s.now : Int) - toSigned 16 (s.getF SENSE_IMU_ADJ_ADJ)).toNat) s)
  else .next s

/-- IMU_READ_START (R243, R276): a SYNC-mode read falls due. -/
def execImuReadStart (s : State) : Out :=
  match s.sense.imuDue with
  | [] => .next s
  | (t, inst) :: rest =>
    if s.now < t then .next s
    else
      let s := { s with sense := { s.sense with imuDue := rest } }
      .next (when (s.isSet SENSE_IMU_CFG_EN) (imuTrigger inst) s)

/-- A signed 16-bit value of the received bytes (R244). -/
def imuValue (s : State) (bytes : List Byte) (k : Nat) : Int :=
  let o := s.getF SENSE_IMU_CFG_DATA_OFS + 2 * k
  let a := (bytes.getD o 0).toNat
  let b := (bytes.getD (o + 1) 0).toNat
  toSigned 16 (if s.isSet SENSE_IMU_CFG_BE then 256 * a + b else a + 256 * b)

/-- IMU_READ_DONE (R243, R244): the running read returned its READ_LEN bytes, no sooner than its bits take. -/
def execImuReadDone (bytes : List Byte) (s : State) : Out :=
  match s.sense.imuRun with
  | none => .next s
  | some (inst, from') =>
    if bytes.length ≠ clampN 12 16 (s.getF SENSE_IMU_CFG_READ_LEN) ∨ s.now < from' + imuBitTicks s then .next s else
    let v := (List.range 6).map (fun k => imuValue s bytes k)
    let s := { s with sense := { s.sense with imuRun := none } }
    let s := forN 3 (fun j s => s.setReg (SENSE_IMU_LAST j)
      (BitVec.ofNat 32 (ofSigned 16 (v.getD (2 * j) 0) + 65536 * ofSigned 16 (v.getD (2 * j + 1) 0)))) s
    let s := (s.set64 SENSE_IMU_TIME_LO inst).hitF SENSE_EVT_IMU_SAMPLE 1
    let s := (statItem 2 inst 1 s).event 0x104
    if !s.isSet FOX_SENSOR_EN_IMU then .next s
    else match xform s 1 inst with
      | none => .next (trkStat 0x14 1 s)
      | some p =>
        let gs := (s.reg SENSE_IMU_GSCALE).toNat
        let as := (s.reg SENSE_IMU_ASCALE).toNat
        let g := mVec p.rot ((List.range 3).map (fun k => fMul (fOfInt (v.getD k 0)) gs))
        let a := mVec p.rot ((List.range 3).map (fun k => fMul (fOfInt (v.getD (3 + k) 0)) as))
        let l := s.fox.imu.filter (fun m => decide (s.now < m.1 + 196608))
        .next { s with fox := { s.fox with imu := l ++ [(inst, a.getD 0 0, g.getD 2 0)] } }

/-! ### Wheels (R245) -/

/-- EDGE selects the kind of edge. -/
def wheelSelects (s : State) (w : Nat) (rising : Bool) : Bool := s.getB (SENSE_WHEEL_CFG_EDGE w) (if rising then 0 else 1)

/-- The edge under test has held MIN_PULSE ticks: it is accepted and its stamp enters the FIFO (R245). -/
def wheelAccept (w : Nat) (s : State) : State :=
  match tabGet none w s.sense.wCand with
  | none => s
  | some (t, _) =>
    if s.now < t + s.getF (SENSE_WHEEL_CFG_MIN_PULSE w) || 4 ≤ w then s else
    let s := { s with sense := { s.sense with wCand := tabPut none w none s.sense.wCand } }
    let s := (s.addF (SENSE_WHEEL_COUNT_EDGES w) 1).set64 (SENSE_WHEEL_LAST_LO w) t
    let s := statItem (3 + w) t 1 s
    let q := tabGet [] w s.sense.wFifo
    if !s.getB FOX_SENSOR_EN_WHEEL w then s
    else if 64 ≤ q.length then bump (statAddr (3 + w) + 0xC) 1 (s.hitB SENSE_EVT_WHEEL_OVF w)
    else { s with sense := { s.sense with wFifo := tabPut [] w (q ++ [t]) s.sense.wFifo } }

/-- WHEEL_TICK_EDGE (R245): an edge before the level has held MIN_PULSE ticks rejects the one under test. -/
def execWheelTickEdge (w : Nat) (rising : Bool) (s : State) : Out :=
  if 4 ≤ w || !s.isSet (SENSE_WHEEL_CFG_EN w) || asleep s then .next s
  else
    let s := wheelAccept w s
    let s := when (tabGet none w s.sense.wCand).isSome (bump (statAddr (3 + w) + 0x10) 1) s
    let c := if wheelSelects s w rising then some (s.now, rising) else none
    .next { s with sense := { s.sense with wCand := tabPut none w c s.sense.wCand } }

/-- WHEEL_EDGE_ACCEPT (R245). -/
def execWheelEdgeAccept (w : Nat) (s : State) : Out := .next (wheelAccept w s)

/-! ### Ego-motion filter (R246 to R249) -/

/-- A wheel's speed at t (R247); a wheel that has shown no edge for longer than STOP_MS, or none at all, gives 0. (DEDUCED,
log entry 29). -/
def wheelSpeed (s : State) (w t : Nat) : Option F32 :=
  let es := (tabGet [] w s.fox.wEdges).filter (fun e => decide (e ≤ t))
  let win := es.filter (fun e => decide (t < e + clampN 1 255 (s.getF FOX_EGO_CFG_WIN_MS) * 98304))
  match win.head?, win.getLast?, es.getLast? with
  | some a, some b, _ =>
    if 2 ≤ win.length then
      some (fRatio ((win.length - 1) * s.getF (FOX_EGO_CIRC_UM w) * 98304000) (s.getF (FOX_EGO_WHEEL_EPR w) * 1000000 * (b - a)))
    else stopped b
  | _, _, some b => stopped b
  | _, _, none => some 0
where
  stopped (b : Nat) : Option F32 := if b + s.getF FOX_EGO_CFG_STOP_MS * 98304 < t then some 0 else none
  fRatio (n d : Nat) : F32 := if d = 0 then (if n = 0 then fNaN else fInf false) else fOfRat n d

/-- A mean of binary32 values: their sum over their number. -/
def fMean (l : List F32) : F32 := fDiv (fDot (l.map (fun x => (x, fOne)))) (fOfInt l.length)

/-- The filter's x and P. -/
structure Ego where
  x : List F32
  p : Mat
deriving DecidableEq, Repr

/-- One scalar update of R246; also the squared normalised innovation. -/
def scalarUpdate (z : F32) (h : List F32) (noise : F32) (e : Ego) : Ego × F32 :=
  let n5 := List.range 5
  let ph := n5.map (fun i => fDot (n5.map (fun k => (mAt e.p i k, h.getD k 0))))
  let sv := fAdd (fDot (n5.map (fun k => (h.getD k 0, ph.getD k 0)))) noise
  let k := ph.map (fun v => fDiv v sv)
  let y := fSub z (fDot (n5.map (fun i => (h.getD i 0, e.x.getD i 0))))
  let x := n5.map (fun i => fAdd (e.x.getD i 0) (fMul (k.getD i 0) y))
  let ikh := mBuild 5 5 (fun i j => fSub (if i = j then fOne else 0) (fMul (k.getD i 0) (h.getD j 0)))
  (⟨x, mMul 5 5 5 ikh e.p⟩, fDiv (fMul y y) sv)

/-- dt = 0.001. -/
def egoDt : F32 := 0x3A83126F

/-- The prediction of R246. -/
def egoPredict (s : State) (e : Ego) : Ego :=
  let x := (List.range 5).map (fun i => if i = 0 then fAdd (e.x.getD 0 0) (fMul (e.x.getD 1 0) egoDt) else e.x.getD i 0)
  let f := mBuild 5 5 (fun i j => if i = j then fOne else if i = 0 ∧ j = 1 then egoDt else 0)
  let q := fun a => fMul (s.reg a).toNat egoDt
  ⟨x, mAdd 5 5 (mMul 5 5 5 (mMul 5 5 5 f e.p) (mT 5 5 f))
    (mDiag [0, q FOX_EGO_QA, q FOX_EGO_QW, q FOX_EGO_QB, q FOX_EGO_QB])⟩

/-- The band of |v| with hysteresis (R249). -/
def egoBand (s : State) (v : F32) : Nat :=
  let h := (s.reg FOX_EGO_HYST).toNat
  let count := fun (le : F32 → F32 → Bool) (f : F32 → F32) =>
    ((List.range 8).filter (fun j => le (f (s.reg (FOX_EGO_BAND j)).toNat) (fAbs v))).length
  let cur := s.getF FOX_EGO_STAT_BAND
  let up := count fLt (fun x => fAdd x h)
  let dn := count fLe (fun x => fSub x h)
  if cur < up then up else if dn < cur then dn else cur

/-- Note an innovation of update k (0 wheel, 1 accel, 2 gyro) in the ego record (R266). -/
def noteInnov (k : Nat) (v : F32) (s : State) : State :=
  let l := ((v :: tabGet [] k s.fox.innov).take 1024)
  let s := { s with fox := { s.fox with innov := tabPut [] k l s.fox.innov } }
  s.setLe (foxBase + 0x14418 + 4 * k) 4 (Config.f32Mean l)

/-- Write the ego record of instant t (R248). -/
def egoRecord (t : Nat) (s : State) : State :=
  if !s.isSet FOX_EGO_RING_CFG_EN then s else
  let bytes := leBytes 8 t ++ (List.range 4).flatMap (fun j => leBytes 4 (s.reg (FOX_EGO_OUT j)).toNat)
    ++ leBytes 4 s.fox.egoSeq ++ leBytes 1 (s.getF FOX_EGO_STAT_BAND) ++ leBytes 1 (s.getF FOX_EGO_STAT_FLAGS) ++ leBytes 2 0
  let base := s.getF FOX_EGO_RING_LO_BASE * 64 + 2 ^ 32 * s.getF FOX_EGO_RING_HI_BASE
  let a := base + 32 * (s.fox.egoSeq % 2 ^ clampN 4 12 (s.getF FOX_EGO_RING_CFG_SIZE))
  match s.writeChecked ⟨clsFOX, foxWho s, true⟩ none a bytes with
  | (s, .data _) =>
    ({ s with fox := { s.fox with egoSeq := (s.fox.egoSeq + 1) % 2 ^ 32 } }.hitF FOX_EVT_EGO 1).event 0x10B
  | (s, _) => s

/-- EGO_FILTER_STEP (R246 to R249): the instant t, the last multiple of 98,304; its outputs are written within 2,048 ticks. -/
def execEgoFilterStep (s : State) : Out :=
  let t := s.now / 98304 * 98304
  if !s.isSet FOX_CTRL_EN || !s.isSet FOX_CTRL_EGO_EN || t ≤ s.fox.egoAt || asleep s
      || decide (t + 2048 < s.now) then .next s
  else
    let s := forN 4 wheelAccept s
    let keep := fun (l : List Nat) => l.filter (fun e => decide (t < e + 26000000))
    let s := forN 4 (fun w s => { s with
      fox := { s.fox with wEdges := tabPut [] w (keep (tabGet [] w s.fox.wEdges ++ tabGet [] w s.sense.wFifo)) s.fox.wEdges }
      sense := { s.sense with wFifo := tabPut [] w [] s.sense.wFifo } }) s
    let en := (List.range 4).filter (fun w => s.getB FOX_EGO_CFG_WHEELS w)
    let sp := en.filterMap (fun w => wheelSpeed s w t)
    let still := !en.isEmpty && en.all (fun w => wheelSpeed s w t == some 0)
    let e0 : Ego := ⟨(List.range 5).map (fun i => s.fox.egoX.getD i 0), if s.fox.egoP.isEmpty then mId 5 else s.fox.egoP⟩
    let e := egoPredict s e0
    let rev := s.isSet FOX_EGO_CFG_REVERSE
    let r1 := if sp.isEmpty then (e, s)
      else
        let vm := fMean sp
        let r := scalarUpdate (if rev then fNeg vm else vm) [fOne, 0, 0, 0, 0] (s.reg FOX_EGO_RV).toNat e
        (r.1, noteInnov 0 r.2 s)
    let im := s.fox.imu.filter (fun m => decide (t < m.1 + 98304) && decide (m.1 ≤ t))
    let n := fOfInt im.length
    let r2 := if im.isEmpty then r1
      else
        let a := scalarUpdate (fMean (im.map (·.2.1))) [0, fOne, 0, fOne, 0] (fDiv (s.reg FOX_EGO_RA).toNat n) r1.1
        let g := scalarUpdate (fMean (im.map (·.2.2))) [0, 0, fOne, 0, fOne] (fDiv (s.reg FOX_EGO_RG).toNat n) a.1
        (g.1, noteInnov 2 g.2 (noteInnov 1 a.2 r1.2))
    let e3 := if still then (scalarUpdate 0 [0, 0, fOne, 0, 0] (s.reg FOX_EGO_RG).toNat r2.1).1 else r2.1
    let s := r2.2
    let s := { s with fox := { s.fox with egoX := e3.x, egoP := e3.p, egoAt := t,
                                          imu := s.fox.imu.filter (fun m => decide (t < m.1)) } }
    let v := e3.x.getD 0 0
    let out := [v, e3.x.getD 1 0, fMul v (e3.x.getD 2 0), e3.x.getD 2 0]
    let s := forN 4 (fun j s => s.setReg (FOX_EGO_OUT j) (BitVec.ofNat 32 (out.getD j 0))) s
    let s := s.set64 FOX_EGO_TIME_LO t
    let s := s.setF FOX_EGO_STAT_FLAGS (bit (!sp.isEmpty) + 2 * bit (!im.isEmpty) + 4 * bit still + 8 * bit rev)
    let b := egoBand s v
    let s := if b = s.getF FOX_EGO_STAT_BAND then s
      else ((s.setF FOX_EGO_STAT_BAND b).hitF FOX_EVT_BAND 1).event 0x10A
    .next (egoRecord t s)

/-! ### Commands of the SENSE block (R270, R271, R462) -/

/-- SENSE_SET_SYNC (R239). -/
def execSenseSetSync (d : Desc) (s : State) : Out :=
  let z := [1, 4, 4, 8, 2]
  runCmd d 0x0702 z (fun s d => firstBad [need (decide (d.arg z 0 < 2)) stBAD, ownC s d .fox, bindOwn s d [d.arg z 4]])
    (fun s d =>
      let n := d.arg z 0
      let c := d.arg z 1
      let w := (SENSE_SYNC_CTRL_WIDTH 0).img c
      checked [imgOk (SENSE_SYNC_CTRL n) [] [] c,
        need (decide (12288 ≤ d.arg z 2) && decide (1 ≤ w) && decide (w < d.arg z 2)) stBAD, bindOk [d.arg z 4]] s
        (withBinds d [(0x07020, 0x100 + n, d.arg z 4)] s (fun s =>
          let s := (s.setReg (SENSE_SYNC_PERIOD n) (BitVec.ofNat 32 (d.arg z 2))).set64 (SENSE_SYNC_START_LO n) (d.arg z 3)
          let s := s.setImg (SENSE_SYNC_CTRL n) [] [] c
          if (SENSE_SYNC_CTRL_EN 0).img c = 1 then
            let s := senseEnable n s
            (s, .done (tabGet 0 n s.sense.k0) [])
          else (s, .ok)))) s

/-- A SPORT CFG image fits R240 and its table. -/
def sportOk (c : Nat) : Bool :=
  let w := sportWidth ((SENSE_SPORT_CFG_WIDTH 0).img c)
  let rdiv := (SENSE_SPORT_CFG_RDIV 0).img c
  let bsel := (SENSE_SPORT_CFG_BSEL 0).img c
  decide (bsel ≤ 5) && decide (1 ≤ rdiv) && decide (rdiv ≤ 48) && decide ((SENSE_SPORT_CFG_WIDTH 0).img c ≤ 2)
    && decide (7 ≤ (SENSE_SPORT_CFG_DATA 0).img c) && decide ((SENSE_SPORT_CFG_DATA 0).img c < w)
    && decide (((SENSE_SPORT_CFG_OFFSET 0).img c + ((SENSE_SPORT_CFG_SLOTS 0).img c + 1) * w) * 2 ^ bsel ≤ 512 * rdiv)

/-- A direct write of a port's CFG is taken: it fits the frame and leaves a running port's framing (R240, R271). (DESIGN
CHOICE, log entry 77). -/
def sportSettable (s : State) (n : Nat) (v : Word) : Bool :=
  sportOk v.toNat && (!s.isSet (SENSE_SPORT_CFG_EN n) || v.toNat / 2 == (s.reg (SENSE_SPORT_CFG n)).toNat / 2)

/-- SENSE_SET_SPORT (R240 to R242, R271). -/
def execSenseSetSport (d : Desc) (s : State) : Out :=
  let z := [1, 4, 4, 8, 4, 2]
  runCmd d 0x0703 z (fun s d => firstBad [need (decide (d.arg z 0 < 2)) stBAD, ownC s d .fox, bindOwn s d [d.arg z 5]])
    (fun s d =>
      let n := d.arg z 0
      let c := d.arg z 1
      let rc := d.arg z 4
      let run := s.isSet (SENSE_SPORT_CFG_EN n)
      checked [imgOk (SENSE_SPORT_CFG n) [] [] c, imgOk (SENSE_SPORT_ADJ n) [] [] (d.arg z 2), addrOk (d.arg z 3),
        imgOk (SENSE_SPORT_RING_CFG n) [] [] rc,
        need (sportOk c && d.arg z 3 % 64 == 0 && (SENSE_SPORT_RING_CFG_NBLK 0).img rc != 0) stBAD, bindOk [d.arg z 5],
        need (!run || c / 2 == (s.reg (SENSE_SPORT_CFG n)).toNat / 2) stCONFLICT] s
        (withBinds d [(0x07030, 0x102 + n, d.arg z 5)] s (fun s =>
          let old := s
          let s := (s.setImg (SENSE_SPORT_CFG n) [] [] c).setImg (SENSE_SPORT_ADJ n) [] [] (d.arg z 2)
          let s := (s.setReg (SENSE_SPORT_RING_LO n) (BitVec.ofNat 32 (d.arg z 3))).setReg (SENSE_SPORT_RING_HI n)
            (BitVec.ofNat 32 (d.arg z 3 / 2 ^ 32))
          (sportFollow n old (s.setImg (SENSE_SPORT_RING_CFG n) [] [] rc), .ok)))) s

/-- SENSE_SET_IMU (R243, R244, R271). -/
def execSenseSetImu (d : Desc) (s : State) : Out :=
  let z := [4, 4, 4, 4, 4, 4, 2]
  runCmd d 0x0704 z (fun s d => firstBad [ownC s d .fox, bindOwn s d [d.arg z 6]]) (fun s d =>
    let c := d.arg z 0
    let rl := SENSE_IMU_CFG_READ_LEN.img c
    let sck := SENSE_IMU_CFG_SCK_DIV.img c
    checked [imgOk SENSE_IMU_CFG [] [] c, imgOk SENSE_IMU_DELAY [] [] (d.arg z 2), imgOk SENSE_IMU_ADJ [] [] (d.arg z 3),
      need (decide (SENSE_IMU_CFG_CMD_LEN.img c ≤ 4) && decide (12 ≤ rl) && decide (rl ≤ 16)
        && decide (SENSE_IMU_CFG_DATA_OFS.img c ≤ 4) && sck % 2 == 0 && decide (4 ≤ sck)) stBAD, bindOk [d.arg z 6],
      need (!s.isSet SENSE_IMU_CFG_EN || c / 2 == (s.reg SENSE_IMU_CFG).toNat / 2) stCONFLICT] s
      (withBinds d [(0x07040, 0x104, d.arg z 6)] s (fun s =>
        let s := (s.setImg SENSE_IMU_CFG [] [] c).setReg SENSE_IMU_CMD (BitVec.ofNat 32 (d.arg z 1))
        let s := (s.setImg SENSE_IMU_DELAY [] [] (d.arg z 2)).setImg SENSE_IMU_ADJ [] [] (d.arg z 3)
        ((s.setReg SENSE_IMU_GSCALE (BitVec.ofNat 32 (d.arg z 4))).setReg SENSE_IMU_ASCALE (BitVec.ofNat 32 (d.arg z 5)),
          .ok)))) s

/-- SENSE_SET_WHEEL (R245). -/
def execSenseSetWheel (d : Desc) (s : State) : Out :=
  let z := [1, 4]
  runCmd d 0x0705 z (fun s d => firstBad [need (decide (d.arg z 0 < 4)) stBAD, ownC s d .fox]) (fun s d =>
    let w := d.arg z 0
    checked [imgOk (SENSE_WHEEL_CFG w) [] [] (d.arg z 1), need ((SENSE_WHEEL_CFG_EDGE 0).img (d.arg z 1) != 0) stBAD] s
      (s.setImg (SENSE_WHEEL_CFG w) [] [] (d.arg z 1), .ok)) s

end Sys2Proof.Machine
end

