-- ==== Sys2Proof/Machine/Fox.lean ====
section
/-! DEFINITION. Fusion, tracks and decisions (R252 to R281): the DOA ring, projection, L2 pairing, measurements, the
tracker of a hop boundary, publications, and the commands of the FOX block. (DEDUCED, log entries 29 and 30). -/

namespace Sys2Proof.Machine

/-! ### Tables in Fox SRAM (R272) -/

def camA (c : Nat) : Nat := foxBase + 0x1000 + 64 * c
def arrA (a : Nat) : Nat := foxBase + 0x1400 + 32 * a
def seatA (k : Nat) : Nat := foxBase + 0x1500 + 32 * k
def doaA (i : Nat) : Nat := foxBase + 0x2000 + 32 * (i % 256)

/-- One hop in ticks. -/
def hopTicks : Nat := 49152

/-! ### Directions (R252, R254) -/

/-- A direction taken from the ring: index, stamp, array, confidence, RANGE, direction in the array frame, and the ray
in the vehicle frame. -/
structure DoaRay where
  idx : Nat
  stamp : Nat
  arr : Nat
  conf : Nat
  range : F32
  dArr : List F32
  org : List F32
  dir : List F32
deriving DecidableEq, Repr

/-- An observation: arrival, stamp, camera, MOUTH, activity, box centre and half diagonal in pixels, and the ray. -/
structure ObsRay where
  idx : Nat
  stamp : Nat
  cam : Nat
  mouth : Bool
  act : Nat
  bx : F32
  byy : F32
  half : F32
  org : List F32
  w : List F32
deriving DecidableEq, Repr

/-- The unit vector of a DOA in its array's frame (R252). -/
def doaDir (az el : Int) : List F32 :=
  let ce := Config.cosCode el % 2 ^ 32
  [fMul ce (Config.cosCode az % 2 ^ 32), fMul ce (Config.sinCode az % 2 ^ 32), Config.sinCode el % 2 ^ 32]

/-- 1 + k1 rr + k2 rr rr, left to right. -/
def distort (s : State) (c : Nat) (rr : F32) : F32 :=
  fAdd (fAdd fOne (fMul (s.le (camA c + 0x10) 4) rr)) (fMul (fMul (s.le (camA c + 0x14) 4) rr) rr)

/-- The image point of a camera-frame point (R252), or nothing nearer than ZMIN. -/
def imagePoint (s : State) (c : Nat) (pc : List F32) : Option (F32 × F32) :=
  let z := pc.getD 2 0
  if fLt z (s.le (camA c + 0x18) 4) then none
  else
    let x := fDiv (pc.getD 0 0) z
    let y := fDiv (pc.getD 1 0) z
    let g := distort s c (fAdd (fMul x x) (fMul y y))
    some (fAdd (fMul (fMul (s.le (camA c) 4) x) g) (s.le (camA c + 8) 4),
      fAdd (fMul (fMul (s.le (camA c + 4) 4) y) g) (s.le (camA c + 0xC) 4))

/-- The segment of a DOA in camera c's image (R252). -/
def segmentOf (s : State) (d : DoaRay) (c : Nat) : Option ((F32 × F32) × (F32 × F32)) :=
  match xform s (8 + d.arr) d.stamp, xform s (16 + c) d.stamp with
  | some pa, some pc =>
    let at' := fun r => imagePoint s c (fromVehicle pc (toVehicle pa (vScale r d.dArr)))
    match at' (s.le (arrA d.arr) 4), at' (s.le (arrA d.arr + 4) 4) with
    | some a, some b => some (a, b)
    | _, _ => none
  | _, _ => none

/-- x or y after the four steps that undo the distortion (R256). -/
def undistort (s : State) (c : Nat) (xd yd : F32) : Nat → F32 × F32 → F32 × F32
  | 0, p => p
  | k + 1, p =>
    let g := distort s c (fAdd (fMul p.1 p.1) (fMul p.2 p.2))
    undistort s c xd yd k (fDiv xd g, fDiv yd g)

/-- A vector divided by its norm. -/
def normalise (v : List F32) : List F32 :=
  let n := fSqrt (fDot (v.map (fun x => (x, x))))
  v.map (fun x => fDiv x n)

/-- The observation's camera ray (R256). -/
def camRay (s : State) (c : Nat) (p : Pose) (bx byy : F32) : List F32 :=
  let xd := fDiv (fSub bx (s.le (camA c + 8) 4)) (s.le (camA c) 4)
  let yd := fDiv (fSub byy (s.le (camA c + 0xC) 4)) (s.le (camA c + 4) 4)
  let q := undistort s c xd yd 4 (xd, yd)
  normalise (mVec p.rot [q.1, q.2, fOne])

/-- A DOA record enters the ring: an array's LAST and COUNT (R266), and which array it is of. -/
def doaReceived (i : Nat) (s : State) : State :=
  let a := s.le (doaA i + 8) 1
  let s := { s with fox := { s.fox with doaArr := tabPut 0 (i % 256) a s.fox.doaArr } }
  when (decide (a < 8)) (statItem (7 + a) (s.le (doaA i) 8) 1) s

/-- A record skipped at the ring's overflow counts in its array's DROP (R254). -/
def doaSkipped (i : Nat) (s : State) : State :=
  let a := tabGet 0 (i % 256) s.fox.doaArr
  when (decide (a < 8)) (bump (statAddr (7 + a) + 0xC) 1) s

/-- Ring indices not yet consumed, oldest first, with SW at `sw`. -/
def doaWaiting (s : State) (sw : Nat) : List Nat :=
  let hw := s.getF FOX_DOA_PTR_HW
  ((List.range (idxDiff 16 sw hw)).map (fun j => hw + j)).filter (fun i => !s.fox.doaTaken.contains (i % 65536))

/-- HW advances over the consumed records. -/
def doaRetire (s : State) : State :=
  let hw := s.getF FOX_DOA_PTR_HW
  let n := (((List.range (idxDiff 16 (s.getF FOX_DOA_PTR_SW) hw)).map (fun j => (hw + j) % 65536)).takeWhile
    s.fox.doaTaken.contains).length
  let gone := (List.range n).map (fun j => (hw + j) % 65536)
  { s with fox := { s.fox with doaTaken := s.fox.doaTaken.filter (fun i => !gone.contains i) } }.setF FOX_DOA_PTR_HW ((hw + n) % 65536)

/-- FOX_DOA_PTR.SW takes a value; the records beyond 256 are skipped, oldest first, and counted (R254). -/
def doaPush (sw : Nat) (s : State) : State :=
  let old := s.getF FOX_DOA_PTR_SW
  let hw := s.getF FOX_DOA_PTR_HW
  let excess := idxDiff 16 sw hw - 256
  let lost := (doaWaiting s sw).filter (fun i => decide (i < hw + excess))
  let held := hw + idxDiff 16 old hw
  let s := (lost.filter (fun i => decide (i < held))).foldl (fun s i => doaSkipped i s) s
  let s := forN (idxDiff 16 sw old) (fun j s => doaReceived (old + j) s) (s.setF FOX_DOA_PTR_SW sw)
  let s := (lost.filter (fun i => decide (held ≤ i))).foldl (fun s i => doaSkipped i s) s
  if excess = 0 then s
  else
    let gone := (List.range excess).map (fun j => (hw + j) % 65536)
    let s := { s with fox := { s.fox with doaTaken := s.fox.doaTaken.filter (fun i => !gone.contains i) } }
    doaRetire ((s.setF FOX_DOA_PTR_HW ((sw + 65536 - 256) % 65536)).hitF FOX_EVT_DOA_DROP 1)

/-- DOA_PUSH (R254): a core of CORE_MASK advances FOX_DOA_PTR.SW. -/
def execDoaPush (core sw : Nat) (s : State) : Out :=
  if 4 ≤ core || !s.getB FOX_MARTEN_CORE_MASK core then .next s else .next (doaPush sw s)

/-- Ring indices of the records to take at B: every unconsumed one whose stamp precedes B (R29, R256). -/
def doaIndices (s : State) (b : Nat) : List Nat :=
  (doaWaiting s (s.getF FOX_DOA_PTR_SW)).filter (fun i => decide (s.le (doaA i) 8 < b))

/-- The ray of a DOA record, where its array is enabled and has a transform; XFORM_MISS counts the lack of one. -/
def takeDoa (s : State) (i : Nat) : State × Option DoaRay :=
  let a := s.le (doaA i + 8) 1
  let st := s.le (doaA i) 8
  if 8 ≤ a || s.le (arrA a + 0x16) 1 % 2 == 0 || !s.getB FOX_SENSOR_EN_ARRAY a then (s, none)
  else match xform s (8 + a) st with
    | none => (trkStat 0x14 1 s, none)
    | some p =>
      let d := doaDir (toSigned 16 (s.le (doaA i + 0xA) 2)) (toSigned 16 (s.le (doaA i + 0xC) 2))
      (s, some ⟨i, st, a, s.le (doaA i + 9) 1, s.le (doaA i + 0x10) 4, d, p.org, mVec p.rot d⟩)

/-- The ray of a queued observation. -/
def takeObs (s : State) (q : Nat × Nat × Nat × List Byte) : State × Option ObsRay :=
  let st := q.2.2.1
  let bs := q.2.2.2
  let c := recField bs 8 1
  if s.le (camA c + 0x31) 1 % 2 == 0 || !s.getB FOX_SENSOR_EN_CAMERA c then (s, none)
  else match xform s (16 + c) st with
    | none => (trkStat 0x14 1 s, none)
    | some p =>
      let x0 := recField bs 0xC 2
      let y0 := recField bs 0xE 2
      let x1 := recField bs 0x10 2
      let y1 := recField bs 0x12 2
      let bx := fOfRat (x0 + x1) 32
      let byy := fOfRat (y0 + y1) 32
      let dx : Int := (x1 : Int) - x0
      let dy : Int := (y1 : Int) - y0
      let half := fDiv (fSqrt (fOfRat (dx * dx + dy * dy) 256)) (fOfInt 2)
      (s, some ⟨q.1, st, c, bitOf (recField bs 9 1) 1, recField bs 0xA 1, bx, byy, half, p.org, camRay s c p bx byy⟩)

/-- Take each item of a list, in order. -/
def takeAll {α β : Type} (f : State → α → State × Option β) : List α → State → State × List β
  | [], s => (s, [])
  | a :: r, s =>
    let (s1, o) := f s a
    let (s2, l) := takeAll f r s1
    (s2, o.toList ++ l)

/-! ### L2 pairing and measurements (R256, R257) -/

/-- Insert into a list ordered by `lt`, after equals. -/
def insertBy {α : Type} (lt : α → α → Bool) (x : α) : List α → List α
  | [] => [x]
  | y :: r => if lt x y then x :: y :: r else y :: insertBy lt x r

/-- Sort stably by `lt`. -/
def sortBy {α : Type} (lt : α → α → Bool) (l : List α) : List α := l.foldl (fun a x => insertBy lt x a) []

/-- The candidate pairs with their scores. -/
def l2Pairs (s : State) (ds : List DoaRay) (os : List ObsRay) : List (F32 × DoaRay × ObsRay) :=
  ds.flatMap (fun d => os.filterMap (fun o =>
    let gap := max d.stamp o.stamp - min d.stamp o.stamp
    if !bitOf (s.le (arrA d.arr + 0x14) 2) o.cam || decide ((s.reg FOX_L2_WIN).toNat < gap) then none
    else match segmentOf s d o.cam with
      | none => none
      | some g =>
        let dn := fDiv (Config.segDistance (o.bx, o.byy) g.1 g.2 % 2 ^ 32) o.half
        if fLe dn (s.reg FOX_TRK_GATE_L2).toNat then some (dn, d, o) else none))

/-- The greedy choice: ascending dn, each DOA and each observation once. -/
def l2Accept (l : List (F32 × DoaRay × ObsRay)) : List (DoaRay × ObsRay) :=
  (sortBy (fun a b => fLt a.1 b.1) l).foldl (fun acc p =>
    if acc.any (fun q => q.1.idx == p.2.1.idx || q.2.idx == p.2.2.idx) then acc else acc ++ [(p.2.1, p.2.2)]) []

/-- σt² I + (σr² − σt²) v v'. -/
def rayCov (st sr : F32) (v : List F32) : Mat :=
  let t2 := fMul st st
  let df := fSub (fMul sr sr) t2
  mBuild 3 3 (fun i j => fAdd (if i = j then t2 else 0) (fMul (fMul df (v.getD i 0)) (v.getD j 0)))

/-- The A measurement of a DOA. -/
def measA (s : State) (d : DoaRay) : FoxMeas :=
  let r := if fIsZero d.range then s.le (arrA d.arr + 8) 4 else d.range
  ⟨1, [7 + d.arr], d.stamp, vAdd d.org (vScale r d.dir),
    rayCov (fMul r (s.le (arrA d.arr + 0xC) 4)) (s.le (arrA d.arr + 0x10) 4) d.dir, [0, 1, 2], d.conf, d.idx⟩

/-- The V measurement of an observation. -/
def measV (s : State) (o : ObsRay) : FoxMeas :=
  let depth := s.le (camA o.cam + 0x1C) 4
  ⟨2, [15 + o.cam], o.stamp, vAdd o.org (vScale (fDiv depth (o.w.getD 2 0)) o.w),
    rayCov (fDiv (fMul depth (s.le (camA o.cam + 0x24) 4)) (s.le (camA o.cam) 4)) (s.le (camA o.cam + 0x20) 4) o.w,
    [0, 1, 2], 0, o.idx⟩

/-- A pattern that is not positive. -/
def fNonPos (x : F32) : Bool := fIsZero x || fSign x

/-- The measurements of an accepted pair: AV, or one of each source where the rays do not meet in front (R256). -/
def measPair (s : State) (d : DoaRay) (o : ObsRay) : List FoxMeas :=
  let uw := fAbs (fDot ((List.range 3).map (fun k => (d.dir.getD k 0, o.w.getD k 0))))
  let c := Config.closest d.org d.dir o.org o.w
  if fLt (fOfRat 9999 10000) uw || fNonPos (c.1 % 2 ^ 32) || fNonPos (c.2.1 % 2 ^ 32) then [measA s d, measV s o]
  else
    let g := (s.reg FOX_TRK_SIGMA_AV).toNat
    [⟨0, [7 + d.arr, 15 + o.cam], d.stamp, (List.range 3).map (fun k => c.2.2.getD k 0 % 2 ^ 32),
      mBuild 3 3 (fun i j => if i = j then fMul g g else 0), [0, 1, 2], if o.mouth then min d.conf o.act else d.conf, d.idx⟩]

/-- The HOST measurement of a queued record. -/
def measHost (q : Nat × Nat × Nat × List Byte) : FoxMeas :=
  let bs := q.2.2.2
  let m := List.range (recField bs 8 1)
  ⟨3, [31], q.2.2.1, m.map (fun i => recField bs (0xC + 4 * i) 4), mDiag (m.map (fun i => recField bs (0x1C + 4 * i) 4)),
    m.map (fun i => recField bs (0x2C + i) 1), recField bs 9 1, q.1⟩

/-- Order of processing: stamp, class, arrival (R258). -/
def measLt (a b : FoxMeas) : Bool :=
  decide (a.stamp < b.stamp) || (a.stamp == b.stamp && (decide (a.cls < b.cls) || (a.cls == b.cls && decide (a.arrival < b.arrival))))

/-- Collect the measurements of boundary B (R256 to R258). -/
def foxCollect (b : Nat) (s : State) : State × List FoxMeas :=
  let ix := doaIndices s b
  let (s, ds) := takeAll takeDoa ix s
  let s := doaRetire { s with fox := { s.fox with doaTaken := s.fox.doaTaken ++ ix.map (· % 65536) } }
  let now := s.fox.inq.filter (fun q => decide (q.2.2.1 < b))
  let s := { s with fox := { s.fox with inq := s.fox.inq.filter (fun q => !decide (q.2.2.1 < b)) } }
  let (s, os) := takeAll takeObs (now.filter (fun q => q.2.1 == 0)) s
  let hs := if s.isSet FOX_SENSOR_EN_HOST then (now.filter (fun q => q.2.1 == 1)).map measHost else []
  let prs := l2Accept (l2Pairs s ds os)
  let s := prs.foldl (fun s p => bump (statAddr (15 + p.2.cam) + 0x10) 1 (bump (statAddr (7 + p.1.arr) + 0x10) 1 s)) s
  let lone := (ds.filter (fun d => !prs.any (fun p => p.1.idx == d.idx))).map (measA s)
    ++ (os.filter (fun o => !prs.any (fun p => p.2.idx == o.idx))).map (measV s)
  (s, prs.flatMap (fun p => measPair s p.1 p.2) ++ lone ++ hs)

/-! ### Tracks (R259 to R263) -/

/-- Blocks of the state: 1, 2 or 3 vectors. -/
def modelBlocks (s : State) : Nat := match s.getF FOX_TRK_CFG_MODEL with | 0 => 1 | 2 => 3 | _ => 2

/-- Factorial of 0, 1, 2. -/
def smallFact (k : Nat) : Nat := if k = 2 then 2 else 1

/-- F(dt) (R259), dt in ticks. -/
def trkF (nb dt : Nat) : Mat :=
  mBuild (3 * nb) (3 * nb) (fun i j =>
    if i % 3 ≠ j % 3 || j / 3 < i / 3 then 0
    else
      let p := j / 3 - i / 3
      fOfRat ((dt : Int) ^ p) (98304000 ^ p * smallFact p))

/-- Q(dt) (R259). -/
def trkQ (s : State) (nb dt : Nat) : Mat :=
  mBuild (3 * nb) (3 * nb) (fun i j =>
    if i % 3 ≠ j % 3 then 0
    else
      let a := nb - 1 - i / 3
      let b := nb - 1 - j / 3
      fMul (s.reg FOX_TRK_Q).toNat
        (fOfRat ((dt : Int) ^ (a + b + 1)) (98304000 ^ (a + b + 1) * ((a + b + 1) * smallFact a * smallFact b))))

/-- x and P of a track predicted to a tick; an earlier tick predicts with dt = 0. -/
def trkPredict (s : State) (t : Track) (st : Nat) : List F32 × Mat :=
  let nb := modelBlocks s
  let n := 3 * nb
  let dt := st - t.time
  let f := trkF nb dt
  ((mMul n n 1 f (mCol ((List.range n).map (fun i => t.x.getD i 0)))).map (fun r => r.getD 0 0),
    mAdd n n (mMul n n n (mMul n n n f t.p) (mT n n f)) (trkQ s nb dt))

/-- A track slot. -/
def State.track (s : State) (k : Nat) : Track := tabGet Track.reset k s.fox.tracks
/-- Store a track slot. -/
def State.setTrack (s : State) (k : Nat) (t : Track) : State :=
  { s with fox := { s.fox with tracks := tabPut Track.reset k t s.fox.tracks } }

/-- The residual, S⁻¹ and d² of a measurement against a predicted track; nothing on a numeric failure (R260). -/
def trkGate (m : FoxMeas) (x : List F32) (p : Mat) : Option (List F32 × Mat × F32) :=
  let n := m.z.length
  let y := (List.range n).map (fun i => fSub (m.z.getD i 0) (x.getD (m.sel.getD i 0) 0))
  let sm := mBuild n n (fun i j => fAdd (mAt p (m.sel.getD i 0) (m.sel.getD j 0)) (mAt m.r i j))
  if !mFin sm || !cholPivots sm n 0 [] then none
  else
    let inv := mInv n sm
    let sy := (mMul n n 1 inv (mCol y)).map (fun r => r.getD 0 0)
    let d2 := fDot ((List.range n).map (fun i => (y.getD i 0, sy.getD i 0)))
    if mFin inv && fIsFin d2 && y.all fIsFin then some (y, inv, d2) else none

/-- The update of R260; nothing when a result is not finite. -/
def trkUpdate (nb : Nat) (m : FoxMeas) (x : List F32) (p : Mat) (y : List F32) (inv : Mat) : Option (List F32 × Mat) :=
  let n := 3 * nb
  let k := m.z.length
  let ph := mBuild n k (fun i j => mAt p i (m.sel.getD j 0))
  let kk := mMul n k k ph inv
  let x' := (List.range n).map (fun i => fAdd (x.getD i 0) (mAt (mMul n k 1 kk (mCol y)) i 0))
  let h := mBuild k n (fun i j => if m.sel.getD i 0 = j then fOne else 0)
  let ikh := mSub n n (mId n) (mMul n k n kk h)
  let p' := mAdd n n (mMul n n n (mMul n n n ikh p) (mT n n ikh))
    (mMul n k n (mMul n k k kk m.r) (mT n k kk))
  let ps := mBuild n n (fun i j => fDiv (fAdd (mAt p' i j) (mAt p' j i)) (fOfInt 2))
  if x'.all fIsFin && mFin ps then some (x', ps) else none

/-- SPEAKING after a change of the activity (R263). -/
def speaks (s : State) (act : Nat) (was : Bool) : Bool :=
  if s.getF FOX_TRK_SPK_ON ≤ act then true else if act ≤ s.getF FOX_TRK_SPK_OFF then false else was

/-- A track's activity after an update with activity `a`. -/
def actUpdate (s : State) (a : Nat) (t : Track) : Track :=
  let v := ((t.act : Int) + roundEvenShr ((a : Int) - t.act) (s.getF FOX_TRK_CFG_SPK_K)).toNat
  { t with act := v, speaking := speaks s v t.speaking }

/-- A numeric failure of a track (R260): it goes at the next boundary. -/
def trkFail (hop k : Nat) (s : State) : State :=
  let t := s.track k
  if t.doomed.isSome then s
  else (trkStat 0x10 1 (s.setTrack k { t with doomed := some hop })).hitF FOX_EVT_NUMERIC 1

/-- Live slots, ascending. -/
def liveTracks (s : State) : List Nat := (s.fox.tracks.filter (fun e => e.2.state != 0)).map (·.1)

/-- Count a measurement that updated no track. -/
def gateMiss (m : FoxMeas) (s : State) : State := m.srcs.foldl (fun s i => bump (statAddr i + 0x1C) 1 s) s

/-- Add an update's d² to its sources' NIS_SUM and NIS_N. -/
def noteNis (m : FoxMeas) (d2 : F32) (s : State) : State :=
  m.srcs.foldl (fun s i => bump (statAddr i + 0x18) 1
    (s.setLe (statAddr i + 0x14) 4 (fAdd (s.le (statAddr i + 0x14) 4) d2))) s

/-- A birth, or TRACK_FULL (R261). -/
def trkBirth (hop : Nat) (m : FoxMeas) (s : State) : State :=
  if 3 ≤ m.cls || !s.getB FOX_TRK_CFG_BIRTH_MASK m.cls then s
  else match (List.range 64).find? (fun k => (s.track k).state == 0) with
    | none => (trkStat 0xC 1 s).hitF FOX_EVT_TRACK_FULL 1
    | some k =>
      let nb := modelBlocks s
      let v := (s.reg FOX_TRK_P0_VEL).toNat
      let a := (s.reg FOX_TRK_P0_ACC).toNat
      let p := mBuild (3 * nb) (3 * nb) (fun i j =>
        if i < 3 && j < 3 then mAt m.r i j else if i ≠ j then 0 else if i < 6 then fMul v v else fMul a a)
      let t : Track := ⟨(s.track k).gen + 1, 1, 255, 0, false, m.stamp, m.stamp, hop,
        (List.range (3 * nb)).map (fun i => m.z.getD i 0), p, hop, 1, 255, 0, none, true⟩
      ((s.setTrack k (actUpdate s m.act t)).hitF FOX_EVT_BIRTH 1).event 0x10C

/-- Process one measurement (R260, R261). -/
def foxProcess (hop : Nat) (m : FoxMeas) (s : State) : State :=
  let (s, best) := (liveTracks s).foldl (fun (a : State × Option (Nat × List F32 × Mat × List F32 × Mat × F32)) k =>
    let xp := trkPredict a.1 (a.1.track k) m.stamp
    match trkGate m xp.1 xp.2 with
    | none => (trkFail hop k a.1, a.2)
    | some (y, inv, d2) =>
      let better := match a.2 with | some (_, _, _, _, _, e) => fLt d2 e | none => true
      if fLe d2 (s.reg FOX_TRK_GATE).toNat && better then (a.1, some (k, xp.1, xp.2, y, inv, d2)) else a) (s, none)
  match best with
  | none => trkBirth hop m (gateMiss m s)
  | some (k, x, p, y, inv, d2) =>
    let t := s.track k
    match trkUpdate (modelBlocks s) m x p y inv with
    | none => trkBirth hop m (gateMiss m (trkFail hop k s))
    | some (x', p') =>
      let s := when (decide (m.stamp < t.time)) (trkStat 0x00 1) s
      let t := { t with x := x', p := p', time := max t.time m.stamp, lastUpd := hop,
                        conf := if t.updated then t.conf else t.conf + 1, updated := true }
      (noteNis m d2 s).setTrack k (actUpdate s m.act t)

/-- Delete a track (R262). -/
def trkDelete (k : Nat) (s : State) : State :=
  ((s.setTrack k { Track.reset with gen := (s.track k).gen, time := (s.track k).time }).hitF FOX_EVT_DELETE 1).event 0x10D

/-- The trace of the position block of P. -/
def posTrace (p : Mat) : F32 := fDot ((List.range 3).map (fun i => (mAt p i i, fOne)))

/-- The lifecycle of one track at boundary `hop` (R262) and its activity without an update (R263). -/
def trkLife (hop k : Nat) (s : State) : State :=
  let t := s.track k
  let t := if t.updated then t
    else
      let v := ((t.act : Int) - roundEvenShr (t.act : Int) (s.getF FOX_TRK_CFG_SPK_D)).toNat
      { t with act := v, speaking := speaks s v t.speaking }
  let idle := hop - t.lastUpd
  let age := hop - t.born
  let failed := match t.doomed with | some h => decide (h < hop) | none => false
  let st :=
    if failed then 0
    else if t.state = 1 then
      if s.getF FOX_TRK_CFG_CONF_M ≤ t.conf && decide (age ≤ s.getF FOX_TRK_CFG_CONF_N) then 2
      else if s.getF FOX_TRK_CFG_CONF_N ≤ age then 0 else 1
    else if s.getF FOX_TRK_TIME_COAST_TO ≤ idle && !t.updated then 0
    else if fLt (s.reg FOX_TRK_PMAX).toNat (posTrace t.p) then 0
    else if t.updated then 2
    else if s.getF FOX_TRK_TIME_COAST_AFTER ≤ idle then 3 else t.state
  if st = 0 then trkDelete k s else s.setTrack k { t with state := st, updated := false }

/-! ### Seats and the publication (R264, R265) -/

/-- Absolute coordinates within a seat's box. -/
def inBox (s : State) (k : Nat) (p : List F32) : Bool :=
  (List.range 3).all (fun i => fLe (fAbs (p.getD i 0)) (s.le (seatA k + 4 * i) 4))

/-- The candidate seat of a position at B (255: none). -/
def seatOf (s : State) (b : Nat) (pos : List F32) : Nat :=
  ((List.range 32).foldl (fun (best : Nat × F32) k =>
    if s.le (seatA k + 0xD) 1 % 2 == 0 then best
    else match xform s (32 + k) b with
      | none => best
      | some p =>
        if !inBox s k (fromVehicle p pos) then best
        else
          let d := vSub pos p.org
          let r := fDot (d.map (fun x => (x, x)))
          if best.1 == 255 || fLt r best.2 then (k, r) else best) (255, 0)).1

/-- The seat decision of one track at B. -/
def trkSeat (b k : Nat) (s : State) : State :=
  let t := s.track k
  if t.state < 2 then s
  else
    let c := seatOf s b ((trkPredict s t b).1.take 3)
    let n := if c = t.cand then t.candN + 1 else 1
    s.setTrack k { t with cand := c, candN := n, seat := if s.getF FOX_TRK_CFG_SEAT_HOLD ≤ n then c else t.seat }

/-- The track that a seat publishes: the greater activity, then the earlier birth, then the lower slot. -/
def seatTrack (s : State) (k : Nat) : Option Nat :=
  (liveTracks s).foldl (fun (best : Option Nat) j =>
    let t := s.track j
    if t.state < 2 || t.seat ≠ k then best
    else match best with
      | none => some j
      | some i =>
        let o := s.track i
        if o.act < t.act || (o.act == t.act && decide (t.birth < o.birth)) then some j else best) none

/-- The 320 bytes of the publication for B, and its speaking mask. -/
def pubBytes (s : State) (b : Nat) : List Byte × Nat :=
  let ts := (List.range 32).map (seatTrack s)
  let occ := (List.range 32).foldl (fun m k => if (ts.getD k none).isSome then m + 2 ^ k else m) 0
  let talk := fun k => match ts.getD k none with | some j => (s.track j).speaking | none => false
  let spk := (List.range 32).foldl (fun m k => if talk k then m + 2 ^ k else m) 0
  let n := ((liveTracks s).filter (fun k => decide (2 ≤ (s.track k).state))).length
  let seat := fun k =>
    let zone := s.le (seatA k + 0xC) 1
    match ts.getD k none with
    | none => leBytes 4 0xFFFFFFFF ++ leBytes 1 zone ++ leBytes 3 0
    | some j =>
      let t := s.track j
      leBytes 4 (j + 256 * t.gen) ++ leBytes 1 zone ++ leBytes 1 t.act
        ++ leBytes 1 (1 + 2 * bit t.speaking + 4 * bit (t.state == 3) + 8 * bit (t.speaking && !bitOf s.fox.spoke k))
        ++ leBytes 1 0
  (leBytes 8 b ++ leBytes 4 ((s.getF FOX_PUB_SEQ_SEQ + 1) % 2 ^ 32) ++ leBytes 4 occ ++ leBytes 4 spk ++ leBytes 1 n
    ++ leBytes 11 0 ++ (List.range 32).flatMap seat ++ leBytes 32 0, spk)

/-- Write the publication to one subscriber's ring. -/
def pubTo (bytes : List Byte) (seq k : Nat) (s : State) : State :=
  if !s.isSet (FOX_SUB_CFG_EN k) then s
  else
    let base := s.getF (FOX_SUB_LO_BASE k) * 64 + 2 ^ 32 * s.getF (FOX_SUB_HI_BASE k)
    let a := base + 320 * (seq % 2 ^ clampN 1 6 (s.getF (FOX_SUB_CFG_SIZE k)))
    match s.writeChecked ⟨clsFOX, .sess [s.getF (FOX_SUB_CFG_SESSION k)], true⟩ none a bytes with
    | (s, .refused _) => (s.setF (FOX_SUB_CFG_EN k) 0).hitF FOX_EVT_PUB_FAULT 1
    | (s, _) => s

/-- Write the publication that waits (R265). -/
def publishNow (s : State) : State :=
  match s.fox.pub with
  | none => s
  | some (b, bytes, spk) =>
    let seq := (s.getF FOX_PUB_SEQ_SEQ + 1) % 2 ^ 32
    let s := (s.setBytes (foxBase + 0x15000) bytes).setF FOX_PUB_SEQ_SEQ seq
    let s := forN 8 (fun k s => pubTo bytes seq k s) (s.set64 FOX_PUB_TIME_LO b)
    let changed := spk != s.fox.spoke
    let s := { s with fox := { s.fox with pub := none, spoke := spk } }
    let s := when (s.getF TWIN_STAT_STATE == 2 || s.getF TWIN_STAT_STATE == 3)
      (fun s => { s with twin := { s.twin with pubs := (s.twin.pubs ++ [(b, bytes)]).drop (s.twin.pubs.length - 3) } }) s
    let s := (s.hitF FOX_EVT_PUB 1).event 0x108
    when changed (fun s => (s.hitF FOX_EVT_SPEAK 1).event 0x109) s

/-! ### The boundary (R258, R272) -/

/-- A slot's 512 bytes in the track table. -/
def trackBytes (k : Nat) (t : Track) : List Byte :=
  leBytes 4 (k + 256 * t.gen) ++ leBytes 1 t.state ++ leBytes 1 t.seat ++ leBytes 1 t.act ++ leBytes 1 (bit t.speaking)
    ++ leBytes 8 t.time ++ leBytes 8 t.birth ++ leBytes 8 t.lastUpd
    ++ (List.range 9).flatMap (fun i => leBytes 4 (t.x.getD i 0))
    ++ (List.range 81).flatMap (fun i => leBytes 4 (mAt t.p (i / 9) (i % 9))) ++ leBytes 120 0

/-- The track table in Fox SRAM follows the tracks. -/
def mirrorTracks (s : State) : State :=
  s.fox.tracks.foldl (fun s e => s.setBytes (foxBase + 0xC000 + 512 * e.1) (trackBytes e.1 e.2)) s

/-- Table and register writes that waited for the boundary B take effect, and their commands finish with B. -/
def foxApply (b : Nat) (s : State) : State :=
  let s := s.fox.writes.foldl (fun s w => s.setBytes w.1 w.2) s
  let s := s.fox.regWrites.foldl (fun s w => s.setReg w.1 w.2) s
  finishAwaits (fun w => w == .foxTable) stDONE b { s with fox := { s.fox with writes := [], regWrites := [] } }

/-- What Fox does at hop boundary B (R256 to R264, R272); a publication not yet written goes out first. -/
def foxBoundary (b : Nat) (s : State) : State :=
  let s := foxApply b (publishNow s)
  if !s.isSet FOX_CTRL_EN || !s.isSet FOX_CTRL_TRK_EN || s.pwr.phase == .parked then s
  else
    let hop := b / hopTicks
    let (s, new) := foxCollect b s
    let all := sortBy measLt (s.fox.deferred ++ new)
    let stale := fun (m : FoxMeas) => decide (m.stamp + s.getF FOX_TRK_SPK_LATE_MAX * hopTicks < b)
    let ok := all.filter (fun m => !stale m)
    let s := trkStat 0x04 (all.length - ok.length) s
    let s := trkStat 0x08 (ok.length - 256) { s with fox := { s.fox with deferred := ok.drop 256 } }
    let s := (ok.take 256).foldl (fun s m => foxProcess hop m s) s
    let s := (liveTracks s).foldl (fun s k => trkLife hop k s) s
    let s := (liveTracks s).foldl (fun s k => trkSeat b k s) s
    let p := pubBytes s b
    mirrorTracks { s with fox := { s.fox with pub := some (b, p.1, p.2) } }

/-! ### Release and PARK (R270, R281, R424) -/

/-- The Fox claim is released: registers, SRAM and state return to reset; subscriber entries belong to their sessions. -/
def releaseFox (s : State) : State :=
  let s := s.clearRegs 0x20150000 0x20160000
  let s := (s.clearRegs 0x200B0000 (FOX_SUB_LO 0)).clearRegs (FOX_SUB_LO 8) 0x200C0000
  let s := s.zeroMem foxBase (foxBase + 0x80000)
  { s with sense := Sense.reset, fox := { Fox.reset with pub := none }, denrek := { s.denrek with grants := [] } }

/-- A subscriber entry is released with its bindings. -/
def releaseSubscriber (k : Nat) (s : State) : State :=
  let s := unbindWhere (fun b => b.2.2 == 0x070E0 + 0x100000 * k || b.2.2 == 0x070E1 + 0x100000 * k) s
  (s.clearRegs (FOX_SUB_LO k) (FOX_SUB_LO (k + 1))).release (.subscriber k)

/-- PARK (R75, R281): tracks go, the ego state restarts at zero with P = I, blocks restart with SYNC. -/
def foxPark (s : State) : State :=
  let s := (liveTracks s).foldl (fun s k => s.setTrack k { Track.reset with gen := (s.track k).gen }) s
  mirrorTracks { s with
    fox := { s.fox with egoX := [], egoP := [], wEdges := [], imu := [], inq := [], deferred := [], pub := none }
    sense := { s.sense with sport := [], imuRun := none, imuDue := [], wCand := [], wFifo := [] } }

/-- Wake (R281): SENSE_SYNC resumes at the first k at or after the restore tick plus 4, the SPORT blocks restart with SYNC. -/
def foxWake (s : State) : State :=
  forN 2 (fun n s => when (sportRuns s n) (sportStart n) (when (s.isSet (SENSE_SYNC_CTRL_EN n)) (senseEnable n) s)) s

/-! ### Commands (R270 to R272, R462) -/

/-- FOX_CONFIG (R270): takes the claim when it is free. -/
def execFoxConfig (d : Desc) (s : State) : Out :=
  let z := [4, 4, 4]
  runCmd d 0x0701 z (fun s d => claimC s d .fox) (fun s d =>
    checked [imgOk FOX_CTRL [] [] (d.arg z 0), imgOk FOX_MARTEN [] [] (d.arg z 1)] s
      (let s := s.take d .fox
       (((s.setImg FOX_CTRL [] [] (d.arg z 0)).setImg FOX_MARTEN [] [] (d.arg z 1)).setReg FOX_L2_WIN
         (BitVec.ofNat 32 (d.arg z 2)), .ok))) s

/-- Word `i` of a record of register images from `base`: reserved bits zero, RO registers ignored (R445, R462). -/
def recImgOk (base : Nat) (bs : List Byte) (i : Nat) : Nat :=
  let a := base + 4 * i
  let w := recField bs (4 * i) 4
  match specOf a with
  | none => need (w == 0) stBAD
  | some _ => if rwMask a == 0 then 0 else imgOk a [] [] w

/-- The register writes of a record of images: (address, value). -/
def recImgs (s : State) (base n : Nat) (bs : List Byte) : List (Nat × Word) :=
  (List.range n).filterMap (fun i =>
    let a := base + 4 * i
    if rwMask a == 0 then none else some (a, (s.setImg a [] [] (recField bs (4 * i) 4)).reg a))

/-- FOX_SET_EGO (R246 to R249). -/
def execFoxSetEgo (d : Desc) (s : State) : Out :=
  let z := [8, 2, 2]
  let base := 0x200B0010
  runCmd d 0x0706 z (fun s d => firstBad [ownC s d .fox, bindOwn s d [d.arg z 1, d.arg z 2]]) (fun s d =>
    checked [addrOk (d.arg z 0), bindOk [d.arg z 1, d.arg z 2]] s
      (withMem (readMem d (d.arg z 0) 0xAC s) (fun s bs =>
        let cfg := recField bs 0 4
        let rng := recField bs (FOX_EGO_RING_CFG - base) 4
        checked ((List.range 43).map (recImgOk base bs) ++
          [need (FOX_EGO_CFG_WIN_MS.img cfg != 0 && decide (4 ≤ FOX_EGO_RING_CFG_SIZE.img rng)
            && decide (FOX_EGO_RING_CFG_SIZE.img rng ≤ 12)) stBAD]) s
          (withBinds d [(0x07060, 0x10B, d.arg z 1), (0x07061, 0x10A, d.arg z 2)] s (fun s =>
            ((recImgs s base 43 bs).foldl (fun s w => s.setReg w.1 w.2) s, .ok)))))) s

/-- A transform entry names a frame of R250's table. -/
def xformEntryOk (e : List Byte) : Nat :=
  let f := recField e 0 1
  need ((decide (f ≤ 1) || (decide (8 ≤ f) && decide (f ≤ 63))) && decide (recField e 1 1 ≤ 1)
    && recField e 2 2 == 0 && recField e 0x30 16 == 0) stBAD

/-- Queue table entries for the next boundary. -/
def foxQueueWrite (a : Nat) (bs : List Byte) (s : State) : State :=
  { s with fox := { s.fox with writes := s.fox.writes ++ [(a, bs)] } }

/-- Entry `i` of `n` bytes. -/
def entryAt (bs : List Byte) (n i : Nat) : List Byte := (bs.drop (n * i)).take n

/-- FOX_SET_XFORM (R250, R272): takes effect at the next boundary. -/
def execFoxSetXform (d : Desc) (s : State) : Out :=
  let z := [1, 1, 8]
  runCmd d 0x0707 z (fun s d => ownC s d .fox) (fun s d =>
    let f := d.arg z 0
    let n := d.arg z 1
    checked [need (decide (1 ≤ n) && decide (f + n ≤ 64)) stBAD, addrOk (d.arg z 2)] s
      (withMem (readMem d (d.arg z 2) (64 * n) s) (fun s bs =>
        checked ((List.range n).map (fun i => xformEntryOk (entryAt bs 64 i))) s
          (foxQueueWrite (foxBase + 64 * f) bs s, .later .foxTable)))) s

/-- Entries and entry size of a table of FOX_SET_FRAMES. -/
def frameTable : Nat → Nat × Nat × Nat
  | 0 => (camA 0, 16, 64)
  | 1 => (arrA 0, 8, 32)
  | _ => (seatA 0, 32, 32)

/-- The codes of an entry are stated ones. -/
def frameEntryOk (t : Nat) (e : List Byte) : Nat :=
  match t with
  | 0 => need ((recField e 0x30 1 ≤ 1 || recField e 0x30 1 == 0xFF) && decide (recField e 0x31 1 ≤ 1)) stBAD
  | 1 => need (decide (recField e 0x16 1 ≤ 1)) stBAD
  | _ => need ((recField e 0xC 1 ≤ 7 || recField e 0xC 1 == 0xFF) && decide (recField e 0xD 1 ≤ 1)) stBAD

/-- FOX_SET_FRAMES (R272): camera, array or seat entries. -/
def execFoxSetFrames (d : Desc) (s : State) : Out :=
  let z := [1, 1, 1, 8]
  runCmd d 0x0708 z (fun s d => ownC s d .fox) (fun s d =>
    let t := d.arg z 0
    let f := d.arg z 1
    let n := d.arg z 2
    let tb := frameTable t
    checked [need (decide (t ≤ 2) && decide (1 ≤ n) && decide (f + n ≤ tb.2.1)) stBAD, addrOk (d.arg z 3)] s
      (withMem (readMem d (d.arg z 3) (tb.2.2 * n) s) (fun s bs =>
        checked ((List.range n).map (fun i => frameEntryOk t (entryAt bs tb.2.2 i))) s
          (foxQueueWrite (tb.1 + tb.2.2 * f) bs s, .later .foxTable)))) s

/-- FOX_SET_TRACKER (R272): the images of 0x100 to 0x12F. -/
def execFoxSetTracker (d : Desc) (s : State) : Out :=
  let z := [8]
  let base := 0x200B0100
  runCmd d 0x0709 z (fun s d => ownC s d .fox) (fun s d =>
    checked [addrOk (d.arg z 0)] s
      (withMem (readMem d (d.arg z 0) 0x30 s) (fun s bs =>
        checked ((List.range 12).map (recImgOk base bs) ++
          [need (decide (FOX_TRK_CFG_MODEL.img (recField bs 0 4) ≤ 2)) stBAD]) s
          ({ s with fox := { s.fox with regWrites := s.fox.regWrites ++ recImgs s base 12 bs } }, .later .foxTable)))) s

/-- FOX_SENSOR_EN (R268). -/
def execFoxSensorEn (d : Desc) (s : State) : Out :=
  let z := [4]
  runCmd d 0x070A z (fun s d => ownC s d .fox) (fun s d =>
    checked [imgOk FOX_SENSOR_EN [] [] (d.arg z 0)] s (s.setImg FOX_SENSOR_EN [] [] (d.arg z 0), .ok)) s

/-- FOX_GRANT (R270): the sessions that may submit. -/
def execFoxGrant (d : Desc) (s : State) : Out :=
  let z := [1, 16]
  runCmd d 0x070B z (fun s d => ownC s d .fox) (fun s d =>
    let n := d.arg z 0
    let l := (List.range 8).map (d.elem 16 2)
    checked [need (decide (n ≤ 8) && (l.take n).all (fun x => decide (x < 1024)) && (l.drop n).all (fun x => x == 0xFFFF))
      stBAD] s ({ s with denrek := { s.denrek with grants := l.take n } }, .ok)) s

/-- The right to submit (R270). -/
def grantC (s : State) (d : Desc) : Nat := if s.denrek.grants.contains d.session then need (s.owner .fox != none) stNOTOWN else ownC s d .fox

/-- Room in the input queue (R271). -/
def queueRoom (s : State) (n : Nat) : Bool := decide (s.fox.inq.length + n ≤ 512)

/-- Queue one record with its stamp; kind 0 observation, 1 host measurement. -/
def foxEnqueue (kind stamp src : Nat) (bs : List Byte) (s : State) : State :=
  let n := s.fox.arrivals
  let s := s.setBytes (foxBase + 0x4000 + 64 * (n % 512)) (bs ++ List.replicate (64 - bs.length) 0)
  statItem src stamp 1 { s with fox := { s.fox with inq := s.fox.inq ++ [(n, kind, stamp, bs)], arrivals := n + 1 } }

/-- The stamp of an observation record (R255). -/
def obsStamp (s : State) (e : List Byte) : Option Nat :=
  let c := recField e 8 1
  let k := recField e 0 8
  if !bitOf (recField e 9 1) 0 then some k
  else
    let n := s.le (camA c + 0x30) 1
    if 2 ≤ n || k < tabGet 0 n s.sense.k0 then none
    else some (((s.r64 (SENSE_SYNC_START_LO n) + k * syncPeriod s n : Nat) : Int) + sle s (camA c + 0x2C)).toNat

/-- FOX_OBSERVE (R255, R271). -/
def execFoxObserve (d : Desc) (s : State) : Out :=
  let z := [1, 8]
  runCmd d 0x070C z grantC (fun s d =>
    let n := d.arg z 0
    checked [need (decide (1 ≤ n) && decide (n ≤ 64)) stBAD, addrOk (d.arg z 1)] s
      (withMem (readMem d (d.arg z 1) (32 * n) s) (fun s bs =>
        let es := (List.range n).map (entryAt bs 32)
        checked (es.map (fun e => need (decide (recField e 8 1 < 16) && decide (recField e 9 1 < 4)
          && (obsStamp s e).isSome) stBAD)) s
          (if !queueRoom s n then (s, .stall)
           else (es.foldl (fun s e => foxEnqueue 0 ((obsStamp s e).getD 0) (15 + recField e 8 1) e s) s, .ok))))) s

/-- FOX_MEASURE (R257, R271). -/
def execFoxMeasure (d : Desc) (s : State) : Out :=
  let z := [1, 8]
  runCmd d 0x070D z grantC (fun s d =>
    let n := d.arg z 0
    checked [need (decide (1 ≤ n) && decide (n ≤ 64)) stBAD, addrOk (d.arg z 1)] s
      (withMem (readMem d (d.arg z 1) (64 * n) s) (fun s bs =>
        let es := (List.range n).map (entryAt bs 64)
        checked (es.map (fun e => need (decide (1 ≤ recField e 8 1) && decide (recField e 8 1 ≤ 4)
          && (List.range (recField e 8 1)).all (fun i => decide (recField e (0x2C + i) 1 ≤ 8))
          && recField e 0xA 2 == 0 && recField e 0x30 16 == 0) stBAD)) s
          (if !queueRoom s n then (s, .stall)
           else (es.foldl (fun s e => foxEnqueue 1 (recField e 0 8) 31 e s) s, .ok))))) s

/-- FOX_SUBSCRIBE (R265, R270, R462): BASE zero releases the session's entries. -/
def execFoxSubscribe (d : Desc) (s : State) : Out :=
  let z := [8, 1, 2, 2]
  runCmd d 0x070E z (fun s d => bindOwn s d [d.arg z 2, d.arg z 3]) (fun s d =>
    if d.arg z 0 = 0 then
      (forN 8 (fun k s => when (owns s (.subscriber k) d.session) (releaseSubscriber k) s) s, .ok)
    else
      checked [addrOk (d.arg z 0), need (d.arg z 0 % 64 == 0 && decide (1 ≤ d.arg z 1) && decide (d.arg z 1 ≤ 6)) stBAD,
        bindOk [d.arg z 2, d.arg z 3]] s
        (match (List.range 8).find? (fun k => s.owner (.subscriber k) == none) with
         | none => (s, .fail stNORES 0)
         | some k =>
           withBinds d [(0x070E0 + 0x100000 * k, 0x108, d.arg z 2), (0x070E1 + 0x100000 * k, 0x109, d.arg z 3)] s (fun s =>
             let s := (s.claim (.subscriber k) d.session).set64 (FOX_SUB_LO k) (d.arg z 0)
             ((s.setReg (FOX_SUB_CFG k) 0).setF (FOX_SUB_CFG_SIZE k) (d.arg z 1) |>.setF (FOX_SUB_CFG_EN k) 1
               |>.setF (FOX_SUB_CFG_SESSION k) d.session, .done k [])))) s

/-- FOX_READ_TRACKS (R447, R462). -/
def execFoxReadTracks (d : Desc) (s : State) : Out :=
  runCmd d 0x070F [8] (fun _ _ => 0) (fun s d => outRecord d (d.arg [8] 0) (s.bytes (foxBase + 0xC000) 32768) s) s

/-- FOX_STATUS (R270, R447). -/
def execFoxStatus (d : Desc) (s : State) : Out :=
  runCmd d 0x0710 [8] (fun _ _ => 0) (fun s d =>
    outStatus d (d.arg [8] 0) ([.w SENSE_EVT] ++ (List.range 4).map (fun j => .w (FOX_EGO_OUT j)) ++ [.w FOX_EVT]
      ++ (List.range 272).map (fun i => .raw 4 (s.le (foxBase + 0x14000 + 4 * i) 4))) s) s

end Sys2Proof.Machine
end

