-- ==== Sys2Proof/Machine/Events.lean ====
section
/-! DEFINITION. The hardware events of R451: which numbers exist, and who may bind each. -/

namespace Sys2Proof.Machine

/-- `ev` lies in the block of `n` numbers from `b`. -/
def inEv (ev b n : Nat) : Bool := decide (b ≤ ev) && decide (ev < b + n)

/-- The event number is listed (R451). -/
def evKnown (ev : Nat) : Bool :=
  inEv ev 0x000 3 || inEv ev 0x004 5 || inEv ev 0x010 0x22 || inEv ev 0x038 9 || inEv ev 0x048 0x20
    || inEv ev 0x080 0x60 || inEv ev 0x0E0 4 || inEv ev 0x100 5 || inEv ev 0x108 6 || inEv ev 0x140 12
    || inEv ev 0x150 16 || inEv ev 0x180 24 || inEv ev 0x1A0 24 || inEv ev 0x1C0 24 || inEv ev 0x1E0 24
    || inEv ev 0x200 8 || inEv ev 0x210 3 || inEv ev 0x220 2 || ev == 0x230

/-- The session owns a program of engine `n`. -/
def ownsProgram (s : State) (n sess : Nat) : Bool :=
  s.denrek.owners.any (fun e => e.2 == sess && match e.1 with | .program h => h % 8 == n | _ => false)

/-- The session owns a registered key set. -/
def ownsKeyset (s : State) (sess : Nat) : Bool :=
  s.denrek.owners.any (fun e => e.2 == sess && match e.1 with | .keyset _ => true | _ => false)

/-- Session `sess` may bind event `ev` (R451's last column). -/
def evRight (s : State) (sess ev : Nat) : Bool :=
  let own := fun r => owns s r sess
  if ev = 0 then true
  else if ev = 1 then own .clock
  else if ev < 8 then own .capture
  else if ev = 8 then (List.range 4).any (fun n => own (.tdm n))
  else if ev < 0x020 then own (.tdm (ev % 4))
  else if ev < 0x030 then own (.tdm ((ev - 0x020) / 4))
  else if ev < 0x038 then own .spdif
  else if ev < 0x048 then (if ev = 0x038 then own .spdif else own (.tdm ((ev - 0x039) / 2)))
  else if ev < 0x080 then own (.converter (ev % 8))
  else if ev < 0x0E0 then own (.channel (ev % 32))
  else if ev < 0x100 then own .gust
  else if ev = 0x108 || ev = 0x109 then true
  else if ev < 0x140 then own .fox
  else if ev < 0x150 then own (.core (ev % 4))
  else if ev < 0x180 then own (.core ((ev - 0x150) / 4))
  else if ev < 0x200 then own (.stream (ev % 32))
  else if ev < 0x210 then ownsProgram s (ev - 0x200) sess
  else if ev < 0x220 then ownsKeyset s sess
  else own .system

end Sys2Proof.Machine
end

