-- ==== Sys2Proof/Machine/MartenCore.lean ====
section
/-! DEFINITION. A Marten core (R282 to R333): bundles and their slots, which bundles are illegal, address modes, the
arithmetic of each slot, loops, REP, faults, interrupts, and the boundary between bundles.
(DESIGN CHOICE, log entry 33; DEDUCED, log entries 31 and 32). -/

namespace Sys2Proof.Machine

/-! ### Bundles (R314, R315) -/

/-- The five slots of a bundle. -/
structure Bundle where
  mac0 : Nat
  mac1 : Nat
  xm : Nat
  ym : Nat
  ctl : Nat
deriving DecidableEq, Repr

/-- The slots of a 128-bit bundle. -/
def splitBundle (b : Nat) : Bundle := ⟨bitsOf b 104 24, bitsOf b 80 24, bitsOf b 60 20, bitsOf b 40 20, bitsOf b 0 40⟩

def macOp (m : Nat) : Nat := bitsOf m 18 6
def xmOp (m : Nat) : Nat := bitsOf m 16 4
def ctlOp (c : Nat) : Nat := bitsOf c 34 6

/-! ### MAC slots (R317) -/

/-- The bits below OP that an operation uses; nothing for a reserved OP. -/
def macMask : Nat → Option Nat
  | 0x00 => some 0
  | 0x01 => some 0x3FFF0 | 0x02 => some 0x3FFF0 | 0x03 => some 0x3FFF0
  | 0x04 => some 0x3FFF0 | 0x05 => some 0x3FFF0 | 0x06 => some 0x3FFF0
  | 0x08 => some 0x38007 | 0x09 => some 0x38007
  | 0x0A => some 0x38000
  | 0x0B => some 0x3F800
  | 0x0C => some 0x38007 | 0x0D => some 0x38007
  | 0x0E => some 0x38000 | 0x0F => some 0x38000
  | 0x10 => some 0x3DC04
  | 0x11 => some 0x3FFFC | 0x12 => some 0x3FFFC
  | 0x13 => some 0x3FFF8 | 0x14 => some 0x3FFF8
  | 0x15 => some 0x3FC04 | 0x16 => some 0x3FC04
  | 0x17 => some 0x3C3F8
  | 0x18 => some 0x3FFF8 | 0x19 => some 0x3FFF8 | 0x1A => some 0x3FFF8
  | 0x1C => some 0x03C00 | 0x1D => some 0x03C00
  | _ => none

/-- BC and BL of a slot (R317's forms). -/
def macBC (m : Nat) : Bool := if macOp m < 0x10 then bitOf m 6 else bitOf m 5
def macBL (m : Nat) : Nat := if macOp m < 0x10 then bitsOf m 4 2 else bitsOf m 3 2
def macA (m : Nat) : Nat := bitsOf m 15 3
def macVD (m : Nat) : Nat := bitsOf m 14 4
def macVA (m : Nat) : Nat := if macOp m < 0x10 then bitsOf m 11 4 else bitsOf m 10 4
def macVB (m : Nat) : Nat := if macOp m < 0x10 then bitsOf m 7 4 else bitsOf m 6 4
def macS (m : Nat) : Bool := bitOf m 2
def macAX (m : Nat) : Nat := m % 8

/-- A defined MAC-slot encoding (R316, R317). -/
def macOk (m : Nat) : Bool :=
  match macMask (macOp m) with
  | none => false
  | some k => (m % 2 ^ 18) &&& (0x3FFFF - k) == 0 && (macBC m || macBL m == 0)

/-- A search step. -/
def macSearch (m : Nat) : Bool := macOp m == 0x1C || macOp m == 0x1D

/-- A lane of a vector register. -/
def Core.vlane (c : Core) (r k : Nat) : Int := (tabGet 0 (4 * r + k) c.v).toInt
/-- A lane of an accumulator. -/
def Core.alane (c : Core) (r k : Nat) : Int := (tabGet 0 (4 * r + k) c.a).toInt
/-- Store a vector lane. -/
def Core.setV (c : Core) (r k : Nat) (x : Int) : Core := { c with v := tabPut 0 (4 * r + k) (BitVec.ofInt 24 x) c.v }
/-- Store an accumulator lane. -/
def Core.setA (c : Core) (r k : Nat) (x : Int) : Core := { c with a := tabPut 0 (4 * r + k) (BitVec.ofInt 56 x) c.a }

/-- VB' of lane k (R317). -/
def vbLane (c : Core) (m k : Nat) : Int := c.vlane (macVB m) (if macBC m then macBL m else k)

/-- fmul (R318). -/
def fmul (x y : Int) : Int := 2 * x * y

/-- Write an accumulator's lanes wrapped to 56 bits; `lw`: a wrap sets L (R318). -/
def putAcc (a : Nat) (lw : Bool) (f : Nat → Int) (r : Core × Bool) : Core × Bool :=
  (List.range 4).foldl (fun r k =>
    let x := wrapS 56 (f k)
    (r.1.setA a k x, r.2 || (lw && decide (x ≠ f k)))) r

/-- Write a vector's lanes by fit24 (R318). -/
def putVec (d : Nat) (sat : Bool) (f : Nat → Int) (r : Core × Bool) : Core × Bool :=
  (List.range 4).foldl (fun r k =>
    (r.1.setV d k (if sat then satS 24 (f k) else wrapS 24 (f k)), r.2 || (sat && clipsS 24 (f k)))) r

/-- The 24-bit pattern of a lane. -/
def lanePat (x : Int) : Nat := ofSigned 24 x

/-- A search step over VA (R320): `lt` says that the held value gives way. -/
def searchStep (c : Core) (va : Nat) (gives : Int → Int → Bool) (r : Core × Bool) : Core × Bool :=
  let sc := c.creg 0x23
  let n := (List.range 4).foldl (fun (d : Core) k =>
    let x := c.vlane va k
    if gives x (tabGet 0 k c.sv).toInt then
      { d with sv := tabPut 0 k (BitVec.ofInt 24 x) d.sv, si := tabPut 0 k (BitVec.ofNat 16 sc) d.si }
    else d) r.1
  (n.setCreg 0x23 ((sc + 1) % 65536), r.2)

/-- The effect of a MAC slot (R317, R318, R320), read from `c`. -/
def macSlot (c : Core) (m : Nat) (r : Core × Bool) : Core × Bool :=
  let a := macA m
  let va := macVA m
  let vd := macVD m
  let x := fun k => c.vlane va k
  let y := fun k => vbLane c m k
  let acc := fun k => c.alane a k
  let n := macAX m + 1
  match macOp m with
  | 0x01 => putAcc a false (fun k => fmul (x k) (y k)) r
  | 0x02 => putAcc a true (fun k => acc k + fmul (x k) (y k)) r
  | 0x03 => putAcc a true (fun k => acc k - fmul (x k) (y k)) r
  | 0x04 => putAcc a false (fun k => x k * y k) r
  | 0x05 => putAcc a true (fun k => acc k + x k * y k) r
  | 0x06 => putAcc a true (fun k => acc k - x k * y k) r
  | 0x08 => putAcc a true (fun k => acc k + c.alane (macAX m) k) r
  | 0x09 => putAcc a true (fun k => acc k - c.alane (macAX m) k) r
  | 0x0A => putAcc a false (fun _ => 0) r
  | 0x0B => putAcc a false (fun k => x k * 2 ^ 24) r
  | 0x0C => putAcc a false (fun k => roundEvenShr (acc k) n) r
  | 0x0D => putAcc a true (fun k => acc k * 2 ^ n) r
  | 0x0E => putAcc a true (fun k => -acc k) r
  | 0x0F => putAcc a true (fun k => ((acc k).natAbs : Int)) r
  | 0x10 => putVec vd (macS m) (fun k => roundEvenShr (c.alane (va % 8) k) 24) r
  | 0x11 => putVec vd (macS m) (fun k => x k + y k) r
  | 0x12 => putVec vd (macS m) (fun k => x k - y k) r
  | 0x13 => putVec vd false (fun k => max (x k) (y k)) r
  | 0x14 => putVec vd false (fun k => min (x k) (y k)) r
  | 0x15 => putVec vd (macS m) (fun k => ((x k).natAbs : Int)) r
  | 0x16 => putVec vd (macS m) (fun k => -x k) r
  | 0x17 => putVec vd false y r
  | 0x18 => putVec vd false (fun k => ((lanePat (x k) &&& lanePat (y k) : Nat) : Int)) r
  | 0x19 => putVec vd false (fun k => ((lanePat (x k) ||| lanePat (y k) : Nat) : Int)) r
  | 0x1A => putVec vd false (fun k => ((lanePat (x k) ^^^ lanePat (y k) : Nat) : Int)) r
  | 0x1C => searchStep c va (fun n h => decide (h < n)) r
  | 0x1D => searchStep c va (fun n h => decide (n < h)) r
  | _ => r

/-- What a MAC slot writes, as (kind, number): 0 vector, 1 accumulator, 2 control register, 3 search registers. -/
def macWrites (m : Nat) : List (Nat × Nat) :=
  if macOp m = 0 then [] else if macOp m < 0x10 then [(1, macA m)] else if macSearch m then [(3, 0)] else [(0, macVD m)]

/-- The vector registers a MAC slot reads or writes. -/
def macTouches (m : Nat) : List Nat :=
  let o := macOp m
  (if (1 ≤ o && o ≤ 6) || o == 0x0B || (0x11 ≤ o && o ≠ 0x17) then [macVA m] else [])
    ++ (if (1 ≤ o && o ≤ 6) || (0x11 ≤ o && o ≤ 0x14) || (0x17 ≤ o && o ≤ 0x1A) then [macVB m] else [])
    ++ (if 0x10 ≤ o && o ≤ 0x1A then [macVD m] else [])

/-! ### Control registers (R282's table, R322) -/

/-- The width of a control register. -/
def crWidth (k : Nat) : Nat :=
  if k < 0x10 then 16 else if k < 0x18 then 18 else if k < 0x1C then 40 else if k < 0x1E then 24 else if k < 0x20 then 14
  else if k = 0x20 then 3 else if k = 0x21 then 5 else if k = 0x22 then 14 else if k < 0x2A then 16
  else if k = 0x2A then 24 else 14

/-- A register that DSP code only reads. -/
def crReadOnly (k : Nat) : Bool :=
  k == 0x20 || k == 0x21 || k == 0x28 || k == 0x29 || k == 0x2A || k == 0x2B

/-- The value of a control register. -/
def Core.crVal (c : Core) (k : Nat) : Nat :=
  match k with
  | 0x1D => (c.loops.headD (0, 0, 0)).1
  | 0x1E => (c.loops.headD (0, 0, 0)).2.1
  | 0x1F => (c.loops.headD (0, 0, 0)).2.2
  | 0x20 => c.loops.length
  | 0x21 => c.rets.length
  | _ => c.creg k

/-- A register extended into a wider destination: IX signed, others with zeros (R322). -/
def Core.crExt (c : Core) (k : Nat) : Int :=
  if 8 ≤ k ∧ k < 16 then toSigned 16 (c.crVal k) else c.crVal k

/-- Write a control register: a value keeps its low bits; VBR reads its low six as zero (R322). -/
def Core.putCr (c : Core) (k v : Nat) : Core :=
  let w := v % 2 ^ crWidth k
  match k, c.loops with
  | 0x1D, (_, ls, la) :: r => { c with loops := (w, ls, la) :: r }
  | 0x1E, (lc, _, la) :: r => { c with loops := (lc, w, la) :: r }
  | 0x1F, (lc, ls, _) :: r => { c with loops := (lc, ls, w) :: r }
  | 0x22, _ => c.setCreg k (w / 64 * 64)
  | _, _ => c.setCreg k w

/-- The bundle address (R282). -/
def Core.pc (c : Core) : Nat := c.creg 0x2B
def Core.sr (c : Core) : Nat := c.creg 0x1C
def Core.ipl (c : Core) : Nat := bitsOf c.sr 8 2

/-- Write PC. -/
def Core.setPc (c : Core) (v : Nat) : Core := c.setCreg 0x2B (v % 2 ^ 14)

/-! ### Address modes (R289, R290) -/

def xmPT (m : Nat) : Nat := bitsOf m 13 3
def xmAM (m : Nat) : Nat := bitsOf m 11 2
def xmR (m : Nat) : Nat := bitsOf m 7 4
def xmVec (m : Nat) : Bool := bitOf m 6
def xmLane (m : Nat) : Nat := bitsOf m 4 2
def xmHi (m : Nat) : Bool := bitOf m 3
def xmS (m : Nat) : Bool := bitOf m 2

/-- Words of the access. -/
def xmSize (m : Nat) : Nat := if xmVec m then 4 else 1

/-- A defined move-slot encoding (R321). -/
def xmOk (m : Nat) : Bool :=
  let o := xmOp m
  decide (o ≤ 6) && m % 4 == 0
    && (o == 0 || ((!xmVec m || xmLane m == 0) && (o != 2 || !xmVec m) && ((o != 4 && o != 6) || !bitOf m 10)
      && (!xmS m || o == 4) && (o != 5 || xmAM m == 1 || xmAM m == 2)))

/-- MODE of a pointer's mode register; 0b11 acts as linear. -/
def ptMode (c : Core) (p : Nat) : Nat := let m := bitsOf (c.creg (0x10 + p)) 16 2; if m = 3 then 0 else m
def ptSpan (c : Core) (p : Nat) : Nat := c.creg (0x10 + p) % 65536

/-- The buffer size z and base of a pointer's walk. -/
def ptBase (c : Core) (p : Nat) : Nat :=
  let a := c.creg p
  let z := if ptMode c p = 1 then 2 ^ (Nat.log2 (2 * ptSpan c p - 1)) else ptSpan c p
  if z = 0 then a else a / z * z

/-- The low `b` bits reversed. -/
def brev : Nat → Nat → Nat
  | 0, _ => 0
  | b + 1, v => v % 2 * 2 ^ b + brev b (v / 2)

/-- The increment of the slot's update. -/
def xmInc (c : Core) (m : Nat) : Int := if xmAM m = 1 then xmSize m else c.crExt (8 + xmPT m)

/-- Whether the slot updates its pointer. -/
def xmUpdates (m : Nat) : Bool := xmOp m != 0 && (xmAM m == 1 || xmAM m == 2)

/-- The word addresses of an access (R289). -/
def xmWords (c : Core) (m : Nat) : List Int :=
  let p := xmPT m
  let a := c.creg p
  let base := ptBase c p
  let ix : Int := if xmAM m = 3 then c.crExt (8 + p) else 0
  (List.range (xmSize m)).map (fun (k : Nat) =>
    if ptMode c p = 1 then (base : Int) + (((a - base : Nat) : Int) + ix + (k : Int)) % (ptSpan c p : Int) else (a : Int) + ix + (k : Int))

/-- The pointer after the slot's update (R289). -/
def xmNext (c : Core) (m : Nat) : Int :=
  let p := xmPT m
  let a := c.creg p
  let base := ptBase c p
  let off : Int := (a - base : Nat)
  let i := xmInc c m
  match ptMode c p with
  | 1 => (base : Int) + (off + i) % (ptSpan c p : Int)
  | 2 =>
    let n := ptSpan c p
    let b := Nat.log2 n
    (base : Int) + (brev b (((brev b off.toNat : Int) + i) % (n : Int)).toNat : Nat)
  | _ => (a : Int) + i

/-- A pointer's mode is illegal (R290). -/
def ptIllegal (c : Core) (p : Nat) : Bool :=
  let n := ptSpan c p
  match ptMode c p with
  | 1 => decide (n < 2) || decide (32768 < n)
  | 2 => decide (n < 2) || decide (32768 < n) || 2 ^ Nat.log2 n != n
  | _ => false

/-- The slot is illegal under R290. -/
def xmIllegal (c : Core) (m : Nat) : Bool :=
  if xmOp m = 0 then false
  else ptIllegal c (xmPT m) || (xmUpdates m && ptMode c (xmPT m) == 1
    && (decide (ptSpan c (xmPT m) < (xmInc c m).natAbs) || decide (ptSpan c (xmPT m) ≤ c.creg (xmPT m) - ptBase c (xmPT m))))

/-- The slot accesses memory. -/
def xmAccess (m : Nat) : Bool := xmOp m != 0 && xmOp m != 5
/-- The slot stores. -/
def xmStores (m : Nat) : Bool := xmOp m == 3 || xmOp m == 4

/-- A word of the access lies off the end. -/
def xmOffEnd (c : Core) (m : Nat) : Bool := xmAccess m && (xmWords c m).any (fun w => decide (w < 0) || decide (65535 < w))

/-- The internal addresses of the access's words. -/
def xmAddrs (c : Core) (base m : Nat) : List Nat :=
  if xmAccess m then (xmWords c m).map (fun w => base + 4 * w.toNat) else []

/-- The 24-bit value of a container (R285). -/
def unbox (hi : Bool) (w : Nat) : Int := if hi then toSigned 24 (w / 256) else toSigned 24 w
/-- The container of a 24-bit value (R285). -/
def box (hi : Bool) (x : Int) : Nat := if hi then ofSigned 24 x * 256 else ofSigned 32 x

/-- An accumulator lane leaving under R284. -/
def leaveLane (sat : Bool) (a : Int) : Int :=
  let r := roundEvenShr a 24
  if sat then satS 24 r else wrapS 24 r

/-- The effect of a move slot on the core, with the containers it loaded (R321). -/
def xmSlot (c : Core) (m : Nat) (data : List Nat) (r : Core × Bool) : Core × Bool :=
  let d := fun k => unbox (xmHi m) (data.getD k 0)
  let lanes := if xmVec m then (List.range 4).map (fun k => (k, d k)) else [(xmLane m, d 0)]
  let r := match xmOp m with
    | 1 => (lanes.foldl (fun (c : Core) e => c.setV (xmR m) e.1 e.2) r.1, r.2)
    | 2 => ((List.range 4).foldl (fun (c : Core) k => c.setV (xmR m) k (d 0)) r.1, r.2)
    | 4 =>
      let ks := if xmVec m then List.range 4 else [xmLane m]
      (r.1, r.2 || (xmS m && ks.any (fun k => clipsS 24 (roundEvenShr (c.alane (xmR m) k) 24))))
    | 6 => (lanes.foldl (fun (c : Core) e => c.setA (xmR m) e.1 (e.2 * 2 ^ 24)) r.1, r.2)
    | _ => r
  if xmUpdates m then (r.1.setCreg (xmPT m) (ofSigned 16 (xmNext c m)), r.2) else r

/-- The containers a move slot stores. -/
def xmStoreData (c : Core) (m : Nat) : List Nat :=
  let v := fun k => if xmOp m = 4 then leaveLane (xmS m) (c.alane (xmR m) k) else c.vlane (xmR m) k
  if xmVec m then (List.range 4).map (fun k => box (xmHi m) (v k)) else [box (xmHi m) (v (xmLane m))]

/-- What a move slot writes. -/
def xmWrites (m : Nat) : List (Nat × Nat) :=
  (match xmOp m with | 1 => [(0, xmR m)] | 2 => [(0, xmR m)] | 6 => [(1, xmR m)] | _ => [])
    ++ (if xmUpdates m then [(2, xmPT m)] else [])

/-- The vector registers a move slot reads or writes. -/
def xmTouches (m : Nat) : List Nat := match xmOp m with | 1 => [xmR m] | 2 => [xmR m] | 3 => [xmR m] | _ => []

/-! ### The control slot (R321's CTL formats, R322 to R326) -/

def ctlCR (c : Nat) : Nat := bitsOf c 28 6
def ctlIMM (c : Nat) : Nat := bitsOf c 0 24
def ctlCRS (c : Nat) : Nat := bitsOf c 22 6
def ctlVR (c : Nat) : Nat := bitsOf c 24 4
def ctlLANE (c : Nat) : Nat := bitsOf c 22 2
def ctlVT (c : Nat) : Nat := bitsOf c 18 4
def ctlLT (c : Nat) : Nat := bitsOf c 16 2
def ctlKVR (c : Nat) : Nat := bitsOf c 30 4
def ctlKLANE (c : Nat) : Nat := bitsOf c 28 2
def ctlCOND (c : Nat) : Nat := bitsOf c 30 4
def ctlTARGET (c : Nat) : Nat := bitsOf c 16 14
def ctlCOUNT (c : Nat) : Nat := bitsOf c 18 16
def ctlLA (c : Nat) : Nat := bitsOf c 0 14
def ctlFA (c : Nat) : Nat := bitsOf c 32 2
def ctlFVR (c : Nat) : Nat := bitsOf c 28 4
def ctlFVEC (c : Nat) : Bool := bitOf c 27
def ctlFLANE (c : Nat) : Nat := bitsOf c 25 2
def ctlFHI (c : Nat) : Bool := bitOf c 24
def ctlFINC (c : Nat) : Bool := bitOf c 23
def ctlARG (c : Nat) : Nat := bitsOf c 28 6

/-- The code names a control register. -/
def crExists (k : Nat) : Bool := decide (k < 0x2C)
/-- The code names a register that DSP code writes. -/
def crWritable (k : Nat) : Bool := crExists k && !crReadOnly k

/-- A defined control-slot encoding (the CTL formats, R316, R322, R325). -/
def ctlOk (c : Nat) : Bool :=
  let body := c % 2 ^ 34
  let k := ctlCR c
  let iForm := bitsOf c 24 4 == 0
  let rForm := c % 2 ^ 22 == 0 && crExists (ctlCRS c)
  let cForm := c % 2 ^ 22 == 0
  let bForm := c % 2 ^ 16 == 0 && ctlCOND c != 15
  let sForm := c % 2 ^ 28 == 0
  match ctlOp c with
  | 0x00 => body == 0
  | 0x01 => iForm && crWritable k
  | 0x02 => iForm && crWritable k
  | 0x03 => iForm && crExists k
  | 0x04 => iForm && decide (0x18 ≤ k) && decide (k < 0x1C) && bitsOf c 16 8 == 0
  | 0x05 => rForm && crWritable k
  | 0x06 => rForm && crWritable k
  | 0x07 => rForm && crWritable k
  | 0x08 => rForm && crExists k
  | 0x09 => rForm && crWritable k
  | 0x0A => rForm && crWritable k
  | 0x0B => rForm && crWritable k
  | 0x0C => cForm && crWritable k
  | 0x0D => cForm && crExists k
  | 0x0E => bitsOf c 28 6 == 0 && c % 2 ^ 16 == 0
  | 0x0F => bitsOf c 24 4 == 0
  | 0x10 => bForm
  | 0x11 => bForm
  | 0x12 => body == 0
  | 0x13 => body == 0
  | 0x18 => bitsOf c 14 4 == 0
  | 0x19 => bitsOf c 14 14 == 0
  | 0x1A => c % 2 ^ 18 == 0 && ctlCOUNT c != 0
  | 0x1B => rForm && k == 0
  | 0x1C => body == 0
  | 0x20 => c % 2 ^ 23 == 0
  | 0x21 => c % 2 ^ 23 == 0
  | 0x24 => body == 0
  | 0x25 => sForm && decide (ctlARG c < 32)
  | 0x26 => sForm && decide (ctlARG c < 4)
  | 0x28 => sForm && decide (ctlARG c < 2)
  | 0x29 => sForm && !bitOf (ctlARG c) 1
  | 0x2C => body == 0
  | _ => false

/-- The control operations that write CR [33:28]. -/
def ctlPutsCr (o : Nat) : Bool :=
  o == 1 || o == 2 || o == 4 || o == 5 || o == 6 || o == 7 || o == 9 || o == 0xA || o == 0xB || o == 0xC

/-- What the control slot writes. -/
def ctlWrites (c : Nat) : List (Nat × Nat) :=
  let o := ctlOp c
  (if ctlPutsCr o then [if ctlCR c == 0x23 then (3, 0) else (2, ctlCR c)] else [])
    ++ (if o == 0xD then [(0, ctlVR c)] else []) ++ (if o == 0x20 then [(0, ctlFVR c)] else [])
    ++ (if (o == 0x20 || o == 0x21) && ctlFINC c then [(2, 0x18 + ctlFA c)] else [])
    ++ (if o == 0x28 then [(3, 0)] else []) ++ (if o == 0x29 then [(0, bitsOf (ctlARG c) 2 4)] else [])

/-- The vector registers the control slot reads or writes. -/
def ctlTouches (c : Nat) : List Nat :=
  match ctlOp c with
  | 0x0C => [ctlVR c] | 0x0D => [ctlVR c] | 0x0E => [ctlVR c, ctlVT c] | 0x0F => [ctlKVR c] | 0x19 => [ctlKVR c]
  | 0x20 => [ctlFVR c] | 0x21 => [ctlFVR c] | 0x29 => [bitsOf (ctlARG c) 2 4]
  | _ => []

/-- The flags of r = (a op b) mod 2^w (R323), as SR [3:0]: C, Z, N, V. -/
def flagBits (w r : Nat) (cf vf : Bool) : Nat := bit cf + 2 * bit (r == 0) + 4 * bit (bitOf r (w - 1)) + 8 * bit vf

/-- Sum and flags. -/
def aluAdd (w a b : Nat) : Nat × Nat :=
  let r := (a + b) % 2 ^ w
  (r, flagBits w r (decide (2 ^ w ≤ a + b)) (decide (toSigned w a + toSigned w b ≠ toSigned w r)))

/-- Difference and flags. -/
def aluSub (w a b : Nat) : Nat × Nat :=
  let r := (a + 2 ^ w - b) % 2 ^ w
  (r, flagBits w r (decide (a < b)) (decide (toSigned w a - toSigned w b ≠ toSigned w r)))

/-- Replace SR [3:0]. -/
def Core.setFlags (c : Core) (f : Nat) : Core := c.setCreg 0x1C (c.sr / 16 * 16 + f)

/-- A condition of R323's table. -/
def condHolds (sr k : Nat) : Bool :=
  let cf := bitOf sr 0
  let z := bitOf sr 1
  let n := bitOf sr 2
  let v := bitOf sr 3
  match k with
  | 0 => true
  | 1 => z
  | 2 => !z
  | 3 => n != v
  | 4 => n == v
  | 5 => z || n != v
  | 6 => !z && n == v
  | 7 => cf
  | 8 => !cf
  | 9 => n
  | 0xA => !n
  | 0xB => v
  | 0xC => !v
  | 0xD => cf || z
  | 0xE => !cf && !z
  | _ => false

/-- An ALU operation of two operands on the destination `k` (R323). -/
def aluOp (c : Core) (k : Nat) (f : Nat → Nat → Nat → Nat × Nat) (b : Int) (r : Core) (keep : Bool) : Core :=
  let w := crWidth k
  let o := f w (c.crVal k) (ofSigned w b)
  (if keep then r else r.putCr k o.1).setFlags o.2

/-- SRED (R320): the value and the element index of the best lane. -/
def searchReduce (c : Core) (mn : Bool) : Int × Nat :=
  let val := fun k => (tabGet 0 k c.sv).toInt
  let e := fun k => 4 * (tabGet 0 k c.si).toNat + k
  (List.range 4).foldl (fun (b : Int × Nat) k =>
    let beats := if mn then decide (val k < b.1) else decide (b.1 < val k)
    if beats || (val k == b.1 && decide (e k < b.2)) then (val k, e k) else b) (val 0, e 0)

/-- The effect of the control slot on registers (R320 to R323, R326); control flow and far accesses apart. -/
def ctlSlot (c : Core) (x : Nat) (r : Core) : Core :=
  let k := ctlCR x
  let imm := ctlIMM x
  let sImm := toSigned 24 imm
  let src := c.crExt (ctlCRS x)
  let bitw := fun (f : Nat → Nat → Nat) (w a b : Nat) => (f a b % 2 ^ w, flagBits w (f a b % 2 ^ w) false false)
  match ctlOp x with
  | 0x01 => r.putCr k imm
  | 0x02 => aluOp c k aluAdd sImm r false
  | 0x03 => aluOp c k aluSub sImm r true
  | 0x04 => r.putCr k (c.crVal k % 2 ^ 24 + 2 ^ 24 * (imm % 65536))
  | 0x05 => r.putCr k (ofSigned 40 src)
  | 0x06 => aluOp c k aluAdd src r false
  | 0x07 => aluOp c k aluSub src r false
  | 0x08 => aluOp c k aluSub src r true
  | 0x09 => aluOp c k (bitw (· &&& ·)) src r false
  | 0x0A => aluOp c k (bitw (· ||| ·)) src r false
  | 0x0B => aluOp c k (bitw (· ^^^ ·)) src r false
  | 0x0C => r.putCr k (ofSigned 40 (c.vlane (ctlVR x) (ctlLANE x)))
  | 0x0D => r.setV (ctlVR x) (ctlLANE x) (c.crExt k)
  | 0x0E => r.setFlags (aluSub 24 (lanePat (c.vlane (ctlVR x) (ctlLANE x))) (lanePat (c.vlane (ctlVT x) (ctlLT x)))).2
  | 0x0F => r.setFlags (aluSub 24 (lanePat (c.vlane (ctlKVR x) (ctlKLANE x))) imm).2
  | 0x20 => if ctlFINC x then r.setCreg (0x18 + ctlFA x) ((c.creg (0x18 + ctlFA x) + (if ctlFVEC x then 16 else 4)) % 2 ^ 40) else r
  | 0x21 => if ctlFINC x then r.setCreg (0x18 + ctlFA x) ((c.creg (0x18 + ctlFA x) + (if ctlFVEC x then 16 else 4)) % 2 ^ 40) else r
  | 0x25 => r.setIpend (r.ipend &&& (2 ^ 32 - 1 - 2 ^ ctlARG x))
  | 0x26 => r.setCreg 0x1C (r.sr - bitsOf r.sr 8 2 * 256 + ctlARG x * 256)
  | 0x28 =>
    let v : Int := if bitOf (ctlARG x) 0 then 2 ^ 23 - 1 else -(2 ^ 23)
    { r with sv := (List.range 4).foldl (fun t j => tabPut 0 j (BitVec.ofInt 24 v) t) r.sv, si := [] }.setCreg 0x23 0
  | 0x29 =>
    let b := searchReduce c (bitOf (ctlARG x) 0)
    let d := bitsOf (ctlARG x) 2 4
    (((r.setV d 0 b.1).setV d 1 b.2).setV d 2 0).setV d 3 0
  | _ => r

/-! ### Illegal bundles (R290, R292, R316, R325) -/

/-- Control flow that may not stand at LA (R316). -/
def ctlFlow (o : Nat) : Bool :=
  o == 0x10 || o == 0x11 || o == 0x12 || o == 0x13 || o == 0x18 || o == 0x19 || o == 0x1A || o == 0x1B || o == 0x1C

/-- A control slot that a REP body may not hold (R292). -/
def repForbids (o : Nat) : Bool := ctlFlow o || o == 0x20 || o == 0x21 || o == 0x24

/-- The bundle of P memory at bundle address `p` of core n (R315). -/
def bundleAt (s : State) (n p : Nat) : Nat := s.le (coreP n + 16 * (p % 2 ^ 14)) 16

/-- The count of a DO or DOV. -/
def doCount (c : Core) (x : Nat) : Nat :=
  if ctlOp x = 0x18 then ctlCOUNT x else lanePat (c.vlane (ctlKVR x) (ctlKLANE x))

/-- The control slot is illegal in this state of the core. -/
def ctlIllegal (s : State) (n : Nat) (c : Core) (x : Nat) : Bool :=
  let o := ctlOp x
  let k := ctlCR x
  let atLA := match c.loops with | (_, _, la) :: _ => la == c.pc | [] => false
  (atLA && ctlFlow o)
    || (ctlPutsCr o && decide (0x1D ≤ k) && decide (k ≤ 0x1F) && c.loops.isEmpty)
    || ((o == 0x18 || o == 0x19) && (decide (ctlLA x < c.pc + 1) || match c.loops with
          | (_, _, la) :: _ => decide (la ≤ ctlLA x)
          | [] => false))
    || (o == 0x1B && c.crVal (ctlCRS x) % 65536 == 0)
    || ((o == 0x1A || o == 0x1B) && repForbids (ctlOp (splitBundle (bundleAt s n (c.pc + 1))).ctl))
    || (o == 0x1C && c.loops.isEmpty)

/-- Two slots write one register, or the search rules of R316 are broken. -/
def bundleClash (b : Bundle) : Bool :=
  let w := macWrites b.mac0 ++ macWrites b.mac1 ++ xmWrites b.xm ++ xmWrites b.ym ++ ctlWrites b.ctl
  !decide (w.Nodup) || ((macSearch b.mac0 || macSearch b.mac1) && (ctlOp b.ctl == 0x28 || ctlOp b.ctl == 0x29))

/-- Fault causes. -/
def fcACCESS : Nat := 1
def fcILLEGAL : Nat := 2
def fcLOOP : Nat := 3
def fcSTACK : Nat := 4
def fcECC : Nat := 5

/-- What a bundle's issue meets: nothing, a fault with its cause and address, or an uncorrected error of a word. -/
inductive Issue where
  | fine
  | fault (cause addr : Nat)
  | ue (addr : Nat)
deriving DecidableEq, Repr

/-- The words with an uncorrected error that a bundle reads, or writes in part (R389, R390). -/
def bundleUe (s : State) (n : Nat) (c : Core) (b : Bundle) : List Nat :=
  let slot := fun (base m : Nat) =>
    (xmAddrs c base m).flatMap (fun a =>
      let e := errWords s.ues a 4
      if xmStores m && xmVec m && (xmAddrs c base m).contains (a / 8 * 8) && (xmAddrs c base m).contains (a / 8 * 8 + 4) then []
      else e)
  errWords s.ues (coreP n + 16 * c.pc) 16 ++ slot (coreX n) b.xm ++ slot (coreY n) b.ym

/-- Everything that stops a bundle from taking effect (R290, R292, R300, R316, R326). -/
def bundleCheck (s : State) (n : Nat) (c : Core) (b : Bundle) : Issue :=
  let o := ctlOp b.ctl
  let fa := c.creg (0x18 + ctlFA b.ctl)
  if !macOk b.mac0 || !macOk b.mac1 || !xmOk b.xm || !xmOk b.ym || !ctlOk b.ctl || bundleClash b
      || xmIllegal c b.xm || xmIllegal c b.ym || ctlIllegal s n c b.ctl then .fault fcILLEGAL 0
  else if xmOffEnd c b.xm then .fault fcACCESS (coreX n + 4 * 65536)
  else if xmOffEnd c b.ym then .fault fcACCESS (coreY n + 4 * 65536)
  else if (o == 0x20 || o == 0x21) && fa % 4 != 0 then .fault fcACCESS fa
  else if (o == 0x18 || o == 0x19) && doCount c b.ctl != 0 && decide (4 ≤ c.loops.length) then .fault fcLOOP 0
  else if o == 0x11 && condHolds c.sr (ctlCOND b.ctl) && decide (16 ≤ c.rets.length) then .fault fcSTACK 0
  else if (o == 0x12 || o == 0x13) && c.rets.isEmpty then .fault fcSTACK 0
  else match bundleUe s n c b with
    | w :: _ => .ue w
    | [] => .fine

/-! ### Stops, faults and halts (R301, R302, R306, R586 to R594) -/

/-- Unit c's halt ends: STATE reads RUNNING. -/
def dbgRunning (c : Nat) (s : State) : State :=
  { s.setF (DBG_CORE_CTRL_STATE c) 0 with dbg := { s.dbg with
      halting := if bitOf s.dbg.halting c then s.dbg.halting - 2 ^ c else s.dbg.halting
      stepping := if bitOf s.dbg.stepping c then s.dbg.stepping - 2 ^ c else s.dbg.stepping } }

/-- Debug unit c is held. -/
def dbgHeld (s : State) (c : Nat) : Bool := s.getF (DBG_CORE_CTRL_STATE c) != 0

/-- A fault of core n (R302). -/
def coreFault (n cause : Nat) (imprecise : Bool) (faddr : Nat) (s : State) : State :=
  let c := s.core n
  let s := s.setCore n { c with rep := 0, stopReq := false, haltReq := false, bkpt := false, watch := none, waiting := false }
  let s := (s.setF (MARTEN_CTRL_STATE n) 5).setF (MARTEN_PC_BUNDLE n) c.pc
  let s := ((s.setF (MARTEN_FAULT_CAUSE n) cause).setF (MARTEN_FAULT_IMPRECISE n) (bit imprecise)).setF (MARTEN_FAULT_PC n) c.pc
  let s := when (cause == fcACCESS) (fun s => s.set64 (MARTEN_FADDR_LO n) faddr) s
  let s := (dbgRunning n (s.hitB MARTEN_EVT_FAULT n)).event (0x140 + n)
  let s := withFaultPin (fun s => s.hitB ERR_STAT_1_MARTEN n) s
  let s := s.errLog 4 n 0 (if s.isSet (MARTEN_SESS_VALID n) then s.getF (MARTEN_SESS_ID n) else 0xFFFF) 0xFF 0
    (if cause = fcACCESS then faddr else 0)
  finishAwaits (fun w => w == .martenStop n) stDONE c.pc s

/-- The core stops at a boundary: STATE LOADED, the loop stack kept (R306, R311). -/
def stopNow (n : Nat) (s : State) : State :=
  let c := s.core n
  let s := s.setCore n { c with stopReq := false, haltReq := false, bkpt := false, watch := none, waiting := false }
  let s := dbgRunning n ((s.setF (MARTEN_CTRL_STATE n) 1).setF (MARTEN_PC_BUNDLE n) c.pc)
  finishAwaits (fun w => w == .martenStop n) stDONE c.pc s

/-- Everything in flight of core n has ended (R586). -/
def coreQuiet (s : State) (n : Nat) : Bool := (s.core n).far.isEmpty && (s.core n).dma.isEmpty

/-- The core halts before its next bundle (R586, R588): HALTING until everything in flight has ended. -/
def haltNow (n cause hit : Nat) (s : State) : State :=
  let c := s.core n
  let s := s.setCore n { c with haltReq := false, bkpt := false, watch := none }
  let s := dbgRunning n ((s.setF (MARTEN_CTRL_STATE n) 4).setF (MARTEN_PC_BUNDLE n) c.pc)
  let s := (s.setF (DBG_CORE_CTRL_CAUSE n) cause).setF (DBG_CORE_CTRL_HIT n) hit
  if coreQuiet s n then (s.setF (DBG_CORE_CTRL_STATE n) 2).hitB DBG_EVT_HALTED n
  else { s.setF (DBG_CORE_CTRL_STATE n) 1 with dbg := { s.dbg with halting := s.dbg.halting ||| 2 ^ n } }

/-- The enabled breakpoint at bundle p (R588). -/
def bpAt (s : State) (n p : Nat) : Option Nat :=
  (List.range 4).find? (fun k => s.isSet (DBG_CORE_BP_EN n k) && s.getF (DBG_CORE_BP_ADDR n k) == p)

/-- Watchpoint k of core n matches an access (R588). -/
def wpMatch (s : State) (n k addr : Nat) (write : Bool) : Bool :=
  let m := 2 ^ (2 + min 16 (s.getF (DBG_CORE_WP_CFG_MASK n k)))
  let a := s.getF (DBG_CORE_WP_LO_ADDR n k) * 4 + 2 ^ 32 * s.getF (DBG_CORE_WP_CFG_ADDR_HI n k)
  s.isSet (DBG_CORE_WP_CFG_EN n k) && a / m == addr / m && bitOf (s.getF (DBG_CORE_WP_CFG_KIND n k)) (bit write)

/-- The first matching watchpoint of some accesses, with its word. -/
def wpFind (s : State) (n : Nat) (l : List (Nat × Bool)) : Option (Nat × Nat) :=
  ((List.range 2).flatMap (fun k => (l.filter (fun a => wpMatch s n k a.1 a.2)).map (fun a => (k, a.1)))).head?

/-- The boundary before the bundle at PC (R292, R309, R588, R594). -/
def coreBoundary (n : Nat) (s : State) : State :=
  let c := s.core n
  if c.rep ≠ 0 then s
  else if c.stopReq then stopNow n s
  else match c.watch with
    | some (k, a) => (haltNow n 4 k s).set64 (DBG_CORE_HITADDR_LO n) a
    | none =>
      match bpAt s n c.pc with
      | some k => haltNow n 3 k s
      | none =>
        if c.bkpt then haltNow n 5 0 s
        else if bitOf s.dbg.stepping n then haltNow n 2 0 s
        else if c.haltReq then haltNow n 1 0 s
        else s

/-- A REP's first repetition is checked for a breakpoint as the bundle after the REP (R588). -/
def repBreak (n : Nat) (s : State) : State :=
  match bpAt s n (s.core n).pc with
  | some k => haltNow n 3 k s
  | none => s

/-! ### Control flow after a bundle (R291 to R293, R324) -/

/-- The end of a bundle at LA: count down, or leave the loop (R291); a body of up to 16 bundles enters the rerun buffer. -/
def loopEnd (c : Core) : Core :=
  match c.loops with
  | (lc, ls, la) :: r =>
    if la = c.pc then
      let c := if la - ls < 16 then { c with rerun := some (ls, la) } else c
      if 1 < lc then { c with loops := (lc - 1, ls, la) :: r }.setPc ls else { c with loops := r }.setPc (la + 1)
    else c.setPc (c.pc + 1)
  | [] => c.setPc (c.pc + 1)

/-- The next bundle of a core whose bundle at PC had control slot `x`; `o` is the core before the bundle. -/
def advance (o : Core) (x : Nat) (c : Core) : Core :=
  if 1 < o.rep then { c with rep := o.rep - 1 }
  else if o.rep = 1 then loopEnd { c with rep := 0 }
  else
    let taken := condHolds o.sr (ctlCOND x)
    match ctlOp x with
    | 0x10 => if taken then c.setPc (ctlTARGET x) else c.setPc (o.pc + 1)
    | 0x11 => if taken then { c with rets := (o.pc + 1, o.sr) :: c.rets }.setPc (ctlTARGET x) else c.setPc (o.pc + 1)
    | 0x12 => { c with rets := c.rets.drop 1 }.setPc (o.rets.headD (0, 0)).1
    | 0x13 => ({ c with rets := c.rets.drop 1, rerun := none }.setCreg 0x1C (o.rets.headD (0, 0)).2).setPc (o.rets.headD (0, 0)).1
    | 0x18 => startLoop
    | 0x19 => startLoop
    | 0x1A => { c with rep := ctlCOUNT x, rerun := some (o.pc + 1, o.pc + 1) }.setPc (o.pc + 1)
    | 0x1B => { c with rep := o.crVal (ctlCRS x) % 65536, rerun := some (o.pc + 1, o.pc + 1) }.setPc (o.pc + 1)
    | 0x1C => { c with loops := c.loops.drop 1 }.setPc ((o.loops.headD (0, 0, 0)).2.2 + 1)
    | _ => loopEnd c
where
  startLoop : Core :=
    let n := doCount o x
    if n = 0 then { c with rerun := none }.setPc (ctlLA x + 1)
    else { c with loops := (n, o.pc + 1, ctlLA x) :: c.loops, rerun := none }.setPc (o.pc + 1)

/-- Issue cycles of a bundle (R293, R323's table). -/
def issueCycles (o c : Core) (x : Nat) : Nat :=
  let held := match o.rerun with | some (a, b) => decide (a ≤ c.pc) && decide (c.pc ≤ b) | none => false
  let op := ctlOp x
  let jumps := ((op == 0x10 || op == 0x11) && condHolds o.sr (ctlCOND x)) || op == 0x12 || op == 0x13
  if (jumps && !held) || op == 0x1C then 3 else 1

/-- Charge cycles (PERF_CYC and the hop's busy count). -/
def chargeCycles (n k : Nat) (s : State) : State :=
  (s.setCore n { s.core n with busy := (s.core n).busy + k }).addF (MARTEN_PERF_CYC_CYC n) k

/-- Note the operations in flight (R295). -/
def noteInflight (n : Nat) (s : State) : State :=
  let k := (s.core n).far.length
  (s.setF (MARTEN_PERF_INFL_NOW n) k).maxF (MARTEN_PERF_INFL_MAX n) k

/-- The far access a control slot starts (R288, R326): its data leaves the registers at issue. -/
def farOf (c : Core) (x : Nat) : List FarAcc :=
  let o := ctlOp x
  if o = 0x20 || o = 0x21 then
    let lanes := if ctlFVEC x then List.range 4 else [ctlFLANE x]
    [⟨o == 0x21, c.creg (0x18 + ctlFA x), ctlFVEC x, ctlFVR x, ctlFLANE x, ctlFHI x,
      if o = 0x21 then lanes.map (fun k => BitVec.ofNat 32 (box (ctlFHI x) (c.vlane (ctlFVR x) k))) else []⟩]
  else []

/-- The debugger may be halted by BKPT on Marten cores (R588). -/
def bkptOpen (s : State) : Bool := s.isSet DBG_STAT_ATTACHED && s.isSet DBG_STAT_UNLOCKED && s.getB DBG_STAT_SCOPE 0

/-- The pending source that is accepted: the highest level above IPL, then the lowest number (R298). -/
def acceptable (c : Core) : Option (Nat × Nat) :=
  (List.range 32).foldl (fun (b : Option (Nat × Nat)) k =>
    let lv := bitsOf (c.creg (0x24 + k / 8)) (2 * (k % 8)) 2
    if bitOf c.ipend k && decide (c.ipl < lv) && (match b with | some (_, l) => decide (l < lv) | none => true)
    then some (k, lv) else b) none

/-- The stores of a bundle. -/
def bundleStores (c : Core) (n : Nat) (b : Bundle) : List (Nat × Nat) :=
  (if xmStores b.xm then (xmAddrs c (coreX n) b.xm).zip (xmStoreData c b.xm) else [])
    ++ (if xmStores b.ym then (xmAddrs c (coreY n) b.ym).zip (xmStoreData c b.ym) else [])

/-- The memory accesses of a bundle, as (address, write). -/
def bundleAccesses (c : Core) (n : Nat) (b : Bundle) : List (Nat × Bool) :=
  (xmAddrs c (coreX n) b.xm).map (fun a => (a, xmStores b.xm)) ++ (xmAddrs c (coreY n) b.ym).map (fun a => (a, xmStores b.ym))
    ++ (farOf c b.ctl).map (fun f => (f.addr, f.store))

/-- The registers after a bundle's five slots, each read from `c` (R282), and whether a slot sets L. -/
def bundleRegs (s : State) (n : Nat) (c : Core) (b : Bundle) : Core × Bool :=
  let ld := fun (base m : Nat) => (xmAddrs c base m).map (fun a => s.le a 4)
  let r := xmSlot c b.ym (ld (coreY n) b.ym) (xmSlot c b.xm (ld (coreX n) b.xm) (macSlot c b.mac1 (macSlot c b.mac0 (c, false))))
  (ctlSlot c b.ctl r.1, r.2)

/-- A bundle's writes of SR, RTI's among them, leave L at 1 where a slot sets it (R319). -/
def stickyL (l : Bool) (c : Core) : Core := if l then c.setCreg 0x1C (c.sr ||| 16) else c

/-- A bundle takes effect whole (R282), and the boundary follows. -/
def bundleRun (s : State) (n : Nat) (c : Core) (b : Bundle) : State :=
  let s := (bundleAccesses c n b).foldl (fun s a => if a.2 then s else fixCe a.1 4 s) (fixCe (coreP n + 16 * c.pc) 16 s)
  let d := bundleRegs s n c b
  let st := bundleStores c n b
  let s := st.foldl (fun s w => s.setLe w.1 4 w.2) s
  let ad := st.map (·.1)
  let gone := fun (l : List Nat) => l.filter (fun w => !(ad.contains w && ad.contains (w + 4)))
  let s := { s with ecc := { s.ecc with ce := gone s.ecc.ce, ue := gone s.ecc.ue } }
  let d := stickyL d.2 (advance c b.ctl d.1)
  let waits := ctlOp b.ctl == 0x24 && (acceptable d).isNone
  let d := { d with far := d.far ++ farOf c b.ctl, waiting := waits,
                    watch := if d.watch.isSome then d.watch else wpFind s n (bundleAccesses c n b),
                    bkpt := d.bkpt || (ctlOp b.ctl == 0x2C && bkptOpen s) }
  let s := noteInflight n (chargeCycles n (issueCycles c d b.ctl) (s.setCore n d))
  let s := when waits (fun s => (s.setF (MARTEN_CTRL_STATE n) 3).setF (MARTEN_PC_BUNDLE n) d.pc) s
  if c.rep = 0 && d.rep ≠ 0 then repBreak n s else coreBoundary n s

/-- A bundle that must wait: an operand of an outstanding far load, or a seventeenth far access (R294, R295). -/
def bundleStalls (c : Core) (b : Bundle) : Bool :=
  let t := macTouches b.mac0 ++ macTouches b.mac1 ++ xmTouches b.xm ++ xmTouches b.ym ++ ctlTouches b.ctl
  c.far.any (fun f => !f.store && t.contains f.reg) || (!(farOf c b.ctl).isEmpty && decide (16 ≤ c.far.length))

/-- Core n issues the bundle `w` at its PC (R282): nothing unless the core is RUNNING and P memory holds it. -/
def issueBundle (n w : Nat) (s : State) : State :=
  let c := s.core n
  if 4 ≤ n || coreState s n ≠ 2 || bundleAt s n c.pc ≠ w then s
  else
    let b := splitBundle w
    if bundleStalls c b then
      when (!(farOf c b.ctl).isEmpty && decide (16 ≤ c.far.length)) (fun s => s.incF (MARTEN_PERF_STALL_INFL_CYC n) 1) s
    else match bundleCheck s n c b with
      | .fault cause a => coreFault n cause false a s
      | .ue a => coreFault n fcECC false a (logUe a 15 1023 false s)
      | .fine => bundleRun s n c b

/-- A row of the MAC slots: the bundle holds the operation in either. -/
def issueMac (op n : Nat) (b : BitVec 128) (s : State) : Out :=
  let k := splitBundle b.toNat
  if macOp k.mac0 = op || macOp k.mac1 = op then .next (issueBundle n b.toNat s) else .next s

/-- A row of the move slots. -/
def issueMove (op n : Nat) (b : BitVec 128) (s : State) : Out :=
  let k := splitBundle b.toNat
  if xmOp k.xm = op || xmOp k.ym = op then .next (issueBundle n b.toNat s) else .next s

/-- A row of the control slot. -/
def issueCtl (op n : Nat) (b : BitVec 128) (s : State) : Out :=
  if ctlOp (splitBundle b.toNat).ctl = op then .next (issueBundle n b.toNat s) else .next s

/-! ### Interrupts, timers, signals (R297 to R299) -/

/-- MARTEN_INTERRUPT_ACCEPT (R298, R299): the pending source of the highest level above IPL. -/
def execMartenInterruptAccept (n : Nat) (s : State) : Out :=
  let c := s.core n
  let held := bitOf s.dbg.stepping n && !s.isSet (DBG_CORE_CTRL_STEP_IRQ n)
  if 4 ≤ n || (coreState s n ≠ 2 && coreState s n ≠ 3) || c.rep ≠ 0 || held then .next s
  else match acceptable c with
    | none => .next s
    | some (k, lv) =>
      if 16 ≤ c.rets.length then .next (coreFault n fcSTACK false 0 s)
      else
        let d := { c with rets := (c.pc, c.sr) :: c.rets, waiting := false }
        let d := d.setCreg 0x1C (d.sr - bitsOf d.sr 8 2 * 256 + lv * 256)
        let d := (d.setIpend (d.ipend - 2 ^ k)).setPc (c.creg 0x22 + 2 * k)
        .next (repBreak n ((s.setCore n d).setF (MARTEN_CTRL_STATE n) 2))

/-- MARTEN_TIMER (R297): device time reaches the compare value. -/
def execMartenTimer (n : Nat) (s : State) : Out :=
  let c := s.core n
  if 4 ≤ n || !s.isSet (MARTEN_TIMER_CTRL_EN n) || c.timed || decide (s.now < s.r64 (MARTEN_TIMER_LO n)) then .next s
  else .next (raiseSource n 21 (s.setCore n { c with timed := true }))

/-- A write of MARTEN_n_SIGNAL: VALUE, and with RAISE the HOST source and HMSG. -/
def signalWrite (n v : Nat) (s : State) : State :=
  let s := s.setF (MARTEN_SIGNAL_VALUE n) (v / 256)
  when (bitOf v 0) (fun s => raiseSource n 20 (s.setCore n ((s.core n).setCreg 0x2A (v / 256 % 2 ^ 24)))) s

/-- MARTEN_SIGNAL_RAISE (R297). -/
def execMartenSignalRaise (n : Nat) (v : Word) (s : State) : Out := if 4 ≤ n then .next s else .next (signalWrite n v.toNat s)

/-- MARTEN_XCORE_RAISE (R297). -/
def execMartenXcoreRaise (mask : Nat) (s : State) : Out :=
  .next (forN 4 (fun n s => when (bitOf mask n) (raiseSource n 23) s) s)

/-- At a hop boundary: HOP is raised on every core, and the busy counts are published (R297, R307). -/
def coreHop (n : Nat) (s : State) : State :=
  let overrun := bitOf (s.core n).ipend 22
  let s := raiseSource n 22 s
  let s := when overrun (fun s => s.event (0x144 + n)) s
  let b := (s.core n).busy
  let s := s.setCore n { s.core n with busy := 0 }
  let s := s.setF (MARTEN_PERF_HOP_BUSY_CYC n) b
  s.maxF (MARTEN_PERF_HOP_MAX_CYC n) b

/-! ### Start, stop, ownership (R303 to R306, R311) -/

/-- The core starts at ENTRY: stacks and IPEND cleared (R309, R311). -/
def coreStart (n : Nat) (s : State) : State :=
  let c := s.core n
  let c := ({ c with loops := [], rets := [], rep := 0, rerun := none, stopReq := false, haltReq := false, bkpt := false,
                     watch := none, waiting := false }.setIpend 0).setPc (s.getF (MARTEN_ENTRY_BUNDLE n))
  repBreak n ((((s.setCore n c).setF (MARTEN_PERF_CYC_CYC n) 0).setF (MARTEN_CTRL_STATE n) 2).clrB ERR_STAT_1_MARTEN n)

/-- STOP (R306, R594): at the next boundary outside a REP, at once when HALTED. -/
def coreStop (n : Nat) (s : State) : State :=
  let st := coreState s n
  let c := s.core n
  if st = 4 then (stopNow n { s with cores := tabPut Core.reset n { c with rep := 0 } s.cores }).hitB DBG_EVT_RELEASED n
  else if st = 2 || st = 3 then (if c.rep = 0 then stopNow n s else s.setCore n { c with stopReq := true })
  else s

/-- The core issues no more. -/
def coreStopped (s : State) (n : Nat) : Bool := coreState s n != 2 && coreState s n != 3 && coreState s n != 4

/-- MARTEN_CTRL_RUN (R306): no effect but from LOADED and FAULTED. -/
def execMartenCtrlRun (n : Nat) (s : State) : Out :=
  if n < 4 && (coreState s n == 1 || coreState s n == 5) then .next (coreStart n s) else .next s

/-- MARTEN_CTRL_STOP (R306, R311). -/
def execMartenCtrlStop (n : Nat) (s : State) : Out := if 4 ≤ n then .next s else .next (coreStop n s)

/-- Copy `n` bytes of memory; the source as it stood. -/
def State.copyMem (s : State) (src dst n : Nat) : State :=
  let es := s.mem.filter (fun e => decide (src ≤ e.1) && decide (e.1 < src + n))
  es.foldl (fun s e => s.setByte (dst + (e.1 - src)) e.2) (s.zeroMem dst (dst + n))

/-- The runtime image of core n, and the slot of its loaded code, in the firmware region. (DEDUCED, log entry 25). -/
def fwRuntime (n : Nat) : Nat := ddrBase + n * 0x4_0000
/-- The slot of a core's loaded code. (DEDUCED, log entry 25). -/
def fwSlot (n : Nat) : Nat := ddrBase + 0x10_0000 + n * 0x4_0000

/-- The digest of core n's slot, the whole 256 KiB, is recorded in Sett RAM (R304). (DEDUCED, log entry 79). -/
def noteSum (n : Nat) (s : State) : State :=
  { s with boot := { s.boot with sums := tabPut none n (some (Config.sha256 (s.bytes (fwSlot n) 0x4_0000))) s.boot.sums } }

/-- Every recorded digest is that of its slot (R74, R101). -/
def sumsHold (s : State) : Bool :=
  (List.range 4).all (fun n => match tabGet none n s.boot.sums with
    | some d => Config.sha256 (s.bytes (fwSlot n) 0x4_0000) == d
    | none => true)

/-- A core without a session: its registers return to reset, and the runtime image restarts when there is one (R303). -/
def restartRuntime (n : Nat) (s : State) : State :=
  let s := (s.clearRegs (MARTEN_CTRL n) (MARTEN_CTRL n + 0x1000)).clrB ERR_STAT_1_MARTEN n
  let s := s.setCore n { Core.reset with far := (s.core n).far, dma := (s.core n).dma }
  let s := (s.zeroMem (coreX n) (coreX n + 0x8_0000)).zeroMem (coreP n) (coreP n + 0x4_0000)
  if bitOf (tabGet Image.reset 2 s.boot.images).mask n then
    coreStart n (noteSum n ((s.copyMem (fwRuntime n) (coreP n) 0x4_0000).copyMem (fwRuntime n) (fwSlot n) 0x4_0000)) else s

/-- Core n is released (R303): bindings go, the runtime restarts. -/
def releaseCore (n : Nat) (s : State) : State :=
  let s := unbindEvents (fun e => e == 0x140 + n || e == 0x144 + n || e == 0x148 + n || inEv e (0x150 + 4 * n) 4) s
  (restartRuntime n s).release (.core n)

end Sys2Proof.Machine
end

