-- ==== Sys2Proof/Machine/MartenIsa.lean ====
section
/-! DEFINITION. The rows of the Marten instruction set: each issues, on core n, the bundle `b` that holds its operation
(R282, R314); the bundle's other slots take their effect with it. (DEDUCED, log entry 31). -/

namespace Sys2Proof.Machine

/-- MPY (R318). -/
def execMMpy (n : Nat) (b : BitVec 128) (s : State) : Out := issueMac 0x01 n b s

/-- MAC (R318). -/
def execMMac (n : Nat) (b : BitVec 128) (s : State) : Out := issueMac 0x02 n b s

/-- MSU (R318). -/
def execMMsu (n : Nat) (b : BitVec 128) (s : State) : Out := issueMac 0x03 n b s

/-- MPYI (R318). -/
def execMMpyi (n : Nat) (b : BitVec 128) (s : State) : Out := issueMac 0x04 n b s

/-- MACI (R318). -/
def execMMaci (n : Nat) (b : BitVec 128) (s : State) : Out := issueMac 0x05 n b s

/-- MSUI (R318). -/
def execMMsui (n : Nat) (b : BitVec 128) (s : State) : Out := issueMac 0x06 n b s

/-- ADDA (R318). -/
def execMAdda (n : Nat) (b : BitVec 128) (s : State) : Out := issueMac 0x08 n b s

/-- SUBA (R318). -/
def execMSuba (n : Nat) (b : BitVec 128) (s : State) : Out := issueMac 0x09 n b s

/-- CLRA (R318). -/
def execMClra (n : Nat) (b : BitVec 128) (s : State) : Out := issueMac 0x0A n b s

/-- MOVA (R283). -/
def execMMova (n : Nat) (b : BitVec 128) (s : State) : Out := issueMac 0x0B n b s

/-- ASRA (R318). -/
def execMAsra (n : Nat) (b : BitVec 128) (s : State) : Out := issueMac 0x0C n b s

/-- ASLA (R318). -/
def execMAsla (n : Nat) (b : BitVec 128) (s : State) : Out := issueMac 0x0D n b s

/-- NEGA (R318). -/
def execMNega (n : Nat) (b : BitVec 128) (s : State) : Out := issueMac 0x0E n b s

/-- ABSA (R318). -/
def execMAbsa (n : Nat) (b : BitVec 128) (s : State) : Out := issueMac 0x0F n b s

/-- MOVR (R284). -/
def execMMovr (n : Nat) (b : BitVec 128) (s : State) : Out := issueMac 0x10 n b s

/-- VADD (R318). -/
def execMVadd (n : Nat) (b : BitVec 128) (s : State) : Out := issueMac 0x11 n b s

/-- VSUB (R318). -/
def execMVsub (n : Nat) (b : BitVec 128) (s : State) : Out := issueMac 0x12 n b s

/-- VMAX (R317). -/
def execMVmax (n : Nat) (b : BitVec 128) (s : State) : Out := issueMac 0x13 n b s

/-- VMIN (R317). -/
def execMVmin (n : Nat) (b : BitVec 128) (s : State) : Out := issueMac 0x14 n b s

/-- VABS (R318). -/
def execMVabs (n : Nat) (b : BitVec 128) (s : State) : Out := issueMac 0x15 n b s

/-- VNEG (R318). -/
def execMVneg (n : Nat) (b : BitVec 128) (s : State) : Out := issueMac 0x16 n b s

/-- VMOV (R317). -/
def execMVmov (n : Nat) (b : BitVec 128) (s : State) : Out := issueMac 0x17 n b s

/-- VAND (R317). -/
def execMVand (n : Nat) (b : BitVec 128) (s : State) : Out := issueMac 0x18 n b s

/-- VOR (R317). -/
def execMVor (n : Nat) (b : BitVec 128) (s : State) : Out := issueMac 0x19 n b s

/-- VXOR (R317). -/
def execMVxor (n : Nat) (b : BitVec 128) (s : State) : Out := issueMac 0x1A n b s

/-- VMAXI (R320). -/
def execMVmaxi (n : Nat) (b : BitVec 128) (s : State) : Out := issueMac 0x1C n b s

/-- VMINI (R320). -/
def execMVmini (n : Nat) (b : BitVec 128) (s : State) : Out := issueMac 0x1D n b s

/-- LD (R321). -/
def execMLd (n : Nat) (b : BitVec 128) (s : State) : Out := issueMove 0x01 n b s

/-- LDB (R321). -/
def execMLdb (n : Nat) (b : BitVec 128) (s : State) : Out := issueMove 0x02 n b s

/-- ST (R321). -/
def execMSt (n : Nat) (b : BitVec 128) (s : State) : Out := issueMove 0x03 n b s

/-- STA (R284). -/
def execMSta (n : Nat) (b : BitVec 128) (s : State) : Out := issueMove 0x04 n b s

/-- UPD (R321). -/
def execMUpd (n : Nat) (b : BitVec 128) (s : State) : Out := issueMove 0x05 n b s

/-- LDA (R321). -/
def execMLda (n : Nat) (b : BitVec 128) (s : State) : Out := issueMove 0x06 n b s

/-- MOVI (R323). -/
def execMMovi (n : Nat) (b : BitVec 128) (s : State) : Out := issueCtl 0x01 n b s

/-- ADDI (R323). -/
def execMAddi (n : Nat) (b : BitVec 128) (s : State) : Out := issueCtl 0x02 n b s

/-- CMPI (R323). -/
def execMCmpi (n : Nat) (b : BitVec 128) (s : State) : Out := issueCtl 0x03 n b s

/-- FAHI (R323). -/
def execMFahi (n : Nat) (b : BitVec 128) (s : State) : Out := issueCtl 0x04 n b s

/-- MOVC (R322). -/
def execMMovc (n : Nat) (b : BitVec 128) (s : State) : Out := issueCtl 0x05 n b s

/-- ADD (R323). -/
def execMAdd (n : Nat) (b : BitVec 128) (s : State) : Out := issueCtl 0x06 n b s

/-- SUB (R323). -/
def execMSub (n : Nat) (b : BitVec 128) (s : State) : Out := issueCtl 0x07 n b s

/-- CMP (R323). -/
def execMCmp (n : Nat) (b : BitVec 128) (s : State) : Out := issueCtl 0x08 n b s

/-- AND (R323). -/
def execMAnd (n : Nat) (b : BitVec 128) (s : State) : Out := issueCtl 0x09 n b s

/-- OR (R323). -/
def execMOr (n : Nat) (b : BitVec 128) (s : State) : Out := issueCtl 0x0A n b s

/-- XOR (R323). -/
def execMXor (n : Nat) (b : BitVec 128) (s : State) : Out := issueCtl 0x0B n b s

/-- MVVC (R322). -/
def execMMvvc (n : Nat) (b : BitVec 128) (s : State) : Out := issueCtl 0x0C n b s

/-- MVCV (R322). -/
def execMMvcv (n : Nat) (b : BitVec 128) (s : State) : Out := issueCtl 0x0D n b s

/-- CMPV (R323). -/
def execMCmpv (n : Nat) (b : BitVec 128) (s : State) : Out := issueCtl 0x0E n b s

/-- CMPVI (R323). -/
def execMCmpvi (n : Nat) (b : BitVec 128) (s : State) : Out := issueCtl 0x0F n b s

/-- BRA (R324). -/
def execMBra (n : Nat) (b : BitVec 128) (s : State) : Out := issueCtl 0x10 n b s

/-- JSR (R324). -/
def execMJsr (n : Nat) (b : BitVec 128) (s : State) : Out := issueCtl 0x11 n b s

/-- RTS (R324). -/
def execMRts (n : Nat) (b : BitVec 128) (s : State) : Out := issueCtl 0x12 n b s

/-- RTI (R298). -/
def execMRti (n : Nat) (b : BitVec 128) (s : State) : Out := issueCtl 0x13 n b s

/-- DO (R291). -/
def execMDo (n : Nat) (b : BitVec 128) (s : State) : Out := issueCtl 0x18 n b s

/-- DOV (R325). -/
def execMDov (n : Nat) (b : BitVec 128) (s : State) : Out := issueCtl 0x19 n b s

/-- REP (R292). -/
def execMRep (n : Nat) (b : BitVec 128) (s : State) : Out := issueCtl 0x1A n b s

/-- REPC (R325). -/
def execMRepc (n : Nat) (b : BitVec 128) (s : State) : Out := issueCtl 0x1B n b s

/-- LEAVE (R291). -/
def execMLeave (n : Nat) (b : BitVec 128) (s : State) : Out := issueCtl 0x1C n b s

/-- LDF (R326). -/
def execMLdf (n : Nat) (b : BitVec 128) (s : State) : Out := issueCtl 0x20 n b s

/-- STF (R326). -/
def execMStf (n : Nat) (b : BitVec 128) (s : State) : Out := issueCtl 0x21 n b s

/-- WAIT (R299). -/
def execMWait (n : Nat) (b : BitVec 128) (s : State) : Out := issueCtl 0x24 n b s

/-- ICLR (R297). -/
def execMIclr (n : Nat) (b : BitVec 128) (s : State) : Out := issueCtl 0x25 n b s

/-- SETIPL (R298). -/
def execMSetipl (n : Nat) (b : BitVec 128) (s : State) : Out := issueCtl 0x26 n b s

/-- SINIT (R320). -/
def execMSinit (n : Nat) (b : BitVec 128) (s : State) : Out := issueCtl 0x28 n b s

/-- SRED (R320). -/
def execMSred (n : Nat) (b : BitVec 128) (s : State) : Out := issueCtl 0x29 n b s

/-- BKPT (R588). -/
def execMBkpt (n : Nat) (b : BitVec 128) (s : State) : Out := issueCtl 0x2C n b s

end Sys2Proof.Machine
end

