-- ==== Sys2Proof/Machine/Marten.lean ====
section
/-! DEFINITION. The commands of the Marten family (R305, R306, R464); MARTEN_DMA stands with the far accesses.
(DESIGN CHOICE, log entry 7; DEDUCED, log entry 34). -/

namespace Sys2Proof.Machine

/-- A core index, then its owner (R305, R471). -/
def coreC (s : State) (d : Desc) (n : Nat) : Nat := firstBad [need (decide (n < 4)) stBAD, ownC s d (.core n)]

/-- A core serves a stream of the separation service (R569). -/
def coreServes (s : State) (n : Nat) : Bool := s.denrek.serving.any (fun e => e.2 == n)

/-- MARTEN_OPEN (R303, R305, R569): the runtime stops, X and Y are zeroed, STATE is IDLE. -/
def execMartenOpen (d : Desc) (s : State) : Out :=
  runCmd d 0x0901 [1] (fun s d => let n := d.arg [1] 0
      firstBad [need (decide (n < 4)) stBAD, claimC s d (.core n),
        need ((!s.getB GUST_MARTEN_CORE_MASK n || owns s .gust d.session)
          && (!s.getB FOX_MARTEN_CORE_MASK n || owns s .fox d.session)) stNOTOWN]) (fun s d =>
    let n := d.arg [1] 0
    checked [need (!coreServes s n) stCONFLICT] s
      (let s := stopNow n { (s.take d (.core n)) with cores := tabPut Core.reset n { s.core n with rep := 0 } s.cores }
       let s := (s.setReg (MARTEN_SESS n) (BitVec.ofNat 32 (d.session % 1024 + 65536))).zeroMem (coreX n) (coreX n + 0x8_0000)
       (s.setF (MARTEN_CTRL_STATE n) 0, .ok))) s

/-- MARTEN_LOAD_CODE (R304, R306, R327). -/
def execMartenLoadCode (d : Desc) (s : State) : Out :=
  let z := [1, 1, 4, 4, 8]
  runCmd d 0x0902 z (fun s d => coreC s d (d.arg z 0)) (fun s d =>
    let n := d.arg z 0
    let mem := d.arg z 1
    let ofs := d.arg z 2
    let len := d.arg z 3
    let st := coreState s n
    checked [need (decide (mem ≤ 2) && decide (ofs + len ≤ 0x4_0000) && (mem != 0 || len % 16 == 0)) stBAD,
      addrOk (d.arg z 4), need (mem != 0 || (st != 2 && st != 3 && st != 4)) stCONFLICT] s
      (withMem (readMem d (d.arg z 4) len s) (fun s bs =>
        let a := coreP n + mem * 0x4_0000 + ofs
        let s := s.overwrite a bs
        if mem = 0 then
          let s := noteSum n ((s.setCore n { s.core n with rerun := none }).setBytes (fwSlot n + ofs) bs)
          (when (st == 0) (fun s => s.setF (MARTEN_CTRL_STATE n) 1) s, .ok)
        else (s, .ok)))) s

/-- MARTEN_START (R306, R309, R311). -/
def execMartenStart (d : Desc) (s : State) : Out :=
  let z := [1, 2]
  runCmd d 0x0903 z (fun s d => coreC s d (d.arg z 0)) (fun s d =>
    let n := d.arg z 0
    checked [need (decide (d.arg z 1 < 16384)) stBAD, need (coreState s n == 1 || coreState s n == 5) stCONFLICT] s
      (coreStart n (s.setF (MARTEN_ENTRY_BUNDLE n) (d.arg z 1)), .ok)) s

/-- MARTEN_STOP (R306, R311, R594): completes with PC when the core has stopped. -/
def execMartenStop (d : Desc) (s : State) : Out :=
  runCmd d 0x0904 [1] (fun s d => coreC s d (d.arg [1] 0)) (fun s d =>
    let n := d.arg [1] 0
    let s := coreStop n s
    if coreStopped s n then (s, .done (s.getF (MARTEN_PC_BUNDLE n)) []) else (s, .later (.martenStop n))) s

/-- MARTEN_SIGNAL (R297). -/
def execMartenSignal (d : Desc) (s : State) : Out :=
  let z := [1, 4]
  runCmd d 0x0905 z (fun s d => coreC s d (d.arg z 0)) (fun s d =>
    checked [need (decide (d.arg z 1 < 2 ^ 24)) stBAD] s (signalWrite (d.arg z 0) (d.arg z 1 * 256 + 1) s, .ok)) s

/-- MARTEN_BIND_EVENT (R297, R302, R451): an EVSEL image, and the bindings of FAULT, OVERRUN and the DMA ends. -/
def execMartenBindEvent (d : Desc) (s : State) : Out :=
  let z := [1, 1, 2, 2, 2, 8]
  let ids := fun (d : Desc) => [d.arg z 3, d.arg z 4] ++ (List.range 4).map (d.elem 8 2)
  runCmd d 0x0906 z (fun s d => firstBad [coreC s d (d.arg z 0), bindOwn s d (ids d),
      need (d.arg z 1 == 0xFF || !evKnown (d.arg z 2 % 4096) || evRight s d.session (d.arg z 2 % 4096)) stNOTOWN])
    (fun s d =>
      let n := d.arg z 0
      let k := d.arg z 1
      let img := d.arg z 2
      let key := 0x09060 + 0x100000 * n
      checked [need (k == 0xFF || (decide (k < 16) && bitsOf img 12 3 == 0 && evKnown (img % 4096))) stBAD, bindOk (ids d)] s
        (withBinds d ([(key, 0x140 + n, d.arg z 3), (key + 1, 0x144 + n, d.arg z 4)]
            ++ (List.range 4).map (fun c => (key + 2 + c, 0x150 + 4 * n + c, d.elem 8 2 c))) s (fun s =>
          (when (k != 0xFF) (fun s => s.setReg (MARTEN_EVSEL n k) (BitVec.ofNat 32 img)) s, .ok)))) s

/-- MARTEN_STATUS (R305, R447). -/
def execMartenStatus (d : Desc) (s : State) : Out :=
  let z := [1, 8]
  runCmd d 0x0908 z (fun s d => coreC s d (d.arg z 0)) (fun s d =>
    let n := d.arg z 0
    outStatus d (d.arg z 1) [.w (MARTEN_CTRL n), .w (MARTEN_PC n), .w (MARTEN_FAULT n), .q (MARTEN_FADDR_LO n),
      .w (MARTEN_PERF_CYC n), .w (MARTEN_PERF_STALL_INFL n), .w (MARTEN_PERF_STALL_BANK n), .w (MARTEN_PERF_HOP_BUSY n),
      .w (MARTEN_PERF_HOP_MAX n), .w (MARTEN_PERF_HOP_OVR n), .w (MARTEN_PERF_INFL n)] s) s

/-- MARTEN_CLOSE (R303, R594): stops the core, in a REP after its last repetition, and releases it. -/
def execMartenClose (d : Desc) (s : State) : Out :=
  runCmd d 0x0909 [1] (fun s d => coreC s d (d.arg [1] 0)) (fun s d =>
    let n := d.arg [1] 0
    let s := coreStop n s
    if coreStopped s n then ((releaseCore n s).giveUp d (.core n), .ok) else (s, .later (.martenClose n))) s

/-- A MARTEN_CLOSE whose core has stopped ends (R303). -/
def settleCores (s : State) : State :=
  forN 4 (fun n s =>
    if coreStopped s n && awaited s (fun w => w == .martenClose n) then
      finishAwaits (fun w => w == .martenClose n) stDONE 0 (releaseCore n s)
    else s) s

end Sys2Proof.Machine
end

