-- ==== Sys2Proof/Machine/MemorySys.lean ====
section
/-! DEFINITION. The memory system's own rows (R391 to R395) and the memory family (R402 to R404, R410, R456): ranges,
their MPU regions, copies. (DEDUCED, log entry 39). -/

namespace Sys2Proof.Machine

/-! ### Controller (R391, R394, R395) -/

/-- A word the scrubber reads: on-chip SRAM, or 5X memory with inline ECC (R391, R392). -/
def scrubbed (s : State) (a : Nat) : Bool :=
  match kindOf s a with
  | .pool => true | .lynx _ => true | .core _ _ => true | .fog => true | .fox => true | .settRam => true | .dorm => true
  | .ddr => s.isSet MEMC_CFG_INLINE_ECC && s.isSet MEMC_STAT_TRAINED
  | _ => false

/-- MEMC_SCRUB (R391, R409): the scrubber reads a word, corrects a CE in place and logs a UE. -/
def execMemcScrub (word : Nat) (s : State) : Out :=
  let a := word / 8 * 8
  if !s.isSet MEMC_SCRUB_EN || !scrubbed s a then .next s
  else
    match errWords s.ues a 8 with
    | w :: _ => .next (logUe w 0xF 1023 true s)
    | [] => .next (fixCe a 8 s)

/-- MEMC_TRAIN (R394, R395): training of 5X memory starts. -/
def execMemcTrain (s : State) : Out :=
  if s.isSet MEMC_STAT_TRAINED then .next s else .next ((s.setF MEMC_CTRL_TRAIN 1).setF MEMC_STAT_TRAIN_FAIL 0)

/-- MEMC_TRAIN_DONE (R394, R395): training ends; the usable size is known, or every access is refused from now on. A start
written in this cycle starts training again (R21). -/
def execMemcTrainDone (ok : Bool) (s : State) : Out :=
  if s.getF MEMC_CTRL_TRAIN = 0 then .next s
  else
    let s := s.setF MEMC_CTRL_TRAIN (bit (s.marked MEMC_CTRL_TRAIN 0))
    if ok then .next ((s.setF MEMC_STAT_TRAINED 1).setF MEMC_USABLE_MIB ((ddrEnd s - ddrBase) / 2 ^ 20))
    else .next ((s.setF MEMC_STAT_TRAIN_FAIL 1).hitF MEMC_EVT_TRAIN_FAIL 1)

/-! ### Ranges and regions (R402) -/

/-- The lowest free region of sessions. -/
def freeRegion (s : State) : Option Nat :=
  (List.range 256).find? (fun r => decide (16 ≤ r) && s.getF (MPU_REG_CFG_EN r) == 0
    && !s.denrek.ranges.any (fun x => x.region == r))

/-- A command's write of a region is in force at once (R404). -/
def regionNow (r : Nat) (s : State) : State :=
  { s with cyc := { s.cyc with old := s.cyc.old.filter (fun e => decide (e.1 / 16 ≠ MPU_REG_BASE r / 16)) } }

/-- Write a region (R398). -/
def setRegion (r a n acc init sess : Nat) (s : State) : State :=
  let s := ((regionNow r s).setF (MPU_REG_BASE_PAGE r) (a / 4096)).setF (MPU_REG_LIMIT_PAGE r) ((a + n - 1) / 4096)
  s.setReg (MPU_REG_CFG r) (BitVec.ofNat 32 (1 + 2 * (acc % 4) + 256 * (init % 256) + 65536 * (sess % 1024)))

/-- Clear a region. -/
def clearRegion (r : Nat) (s : State) : State :=
  (((regionNow r s).setReg (MPU_REG_BASE r) 0).setReg (MPU_REG_LIMIT r) 0).setReg (MPU_REG_CFG r) 0

def State.addRange (s : State) (r : Range) : State :=
  { s with denrek := { s.denrek with ranges := s.denrek.ranges ++ [r] } }

/-- Remove the ranges that `p` names, clearing their regions at once (R404). -/
def dropRanges (p : Range → Bool) (s : State) : State :=
  (s.denrek.ranges.filter p).foldl (fun s r => clearRegion r.region s)
    { s with denrek := { s.denrek with ranges := s.denrek.ranges.filter (fun r => !p r) } }

/-- Bytes of the catch-up buffer (R552). -/
def catchupBytes : Nat := 134217728

/-- [a, a+n) meets an allocated range, or the catch-up buffer of a twin (R552). -/
def allocated (s : State) (a n : Nat) : Bool :=
  s.denrek.ranges.any (fun r => r.kind == 0 && decide (r.base < a + n) && decide (a < r.base + r.size))
    || (match s.twin.buf with | some b => decide (b < a + n) && decide (a < b + catchupBytes) | none => false)

/-- The lowest free page-aligned range of `n` bytes in [lo, hi): at `lo` or just past an allocation. -/
def findFree (s : State) (lo hi n : Nat) : Option Nat :=
  let cands := lo :: (match s.twin.buf with | some b => [b + catchupBytes] | none => [])
    ++ (s.denrek.ranges.filter (fun r => r.kind == 0)).map (fun r => r.base + r.size)
  (cands.filter (fun a => decide (lo ≤ a) && decide (a + n ≤ hi) && !allocated s a n)).foldl
    (fun best a => match best with | none => some a | some b => some (min a b)) none

/-- Firmware writes the pages with zero (R403). -/
def zeroPages (a n : Nat) (s : State) : State :=
  { s with ecc := { s.ecc with ue := coverErr a n s.ecc.ue, ce := coverErr a n s.ecc.ce } }.zeroMem a (a + n)

/-- The range of the session that starts at `a`. -/
def rangeAt (s : State) (a : Nat) : Option Range := s.denrek.ranges.find? (fun r => decide (r.kind ≤ 1) && r.base == a)

/-- Page alignment and size (R456). -/
def pagesOk (a n : Nat) : Bool := a % 4096 == 0 && n % 4096 == 0 && decide (0 < n) && decide (a + n ≤ 2 ^ 40)

/-! ### Transfers under way (R404, R410) -/

/-- [a, a+n) meets [lo, hi). -/
def meets (a n lo hi : Nat) : Bool := decide (a < hi) && decide (lo < a + n)

/-- A checked transfer that has not ended touches [lo, hi): a copy, or an admitted DMA transfer of a core. -/
def transferring (s : State) (lo hi : Nat) : Bool :=
  awaited s (fun w => match w with | .memCopy a b n => meets a n lo hi || meets b n lo hi | _ => false)
    || s.cores.any (fun c => c.2.dma.any (fun t => t.2.admitted && (meets t.2.srcA t.2.len lo hi || meets t.2.dst t.2.len lo hi)))

/-- Frees whose transfers have ended complete. -/
def settleFrees (s : State) : State :=
  finishAwaits (fun w => match w with | .memFree lo hi => !transferring s lo hi | _ => false) stDONE 0 s

/-! ### Commands (R402, R403, R456) -/

/-- MEM_ALLOC. -/
def execMemAlloc (d : Desc) (s : State) : Out :=
  let z := [8, 1, 1, 1]
  runCmd d 0x0201 z (fun _ _ => 0) (fun s d =>
    let n := d.arg z 0
    let lv := d.arg z 1
    let wait5x := lv == 2 && s.getF MEMC_STAT_TRAINED == 0 && s.getF MEMC_STAT_TRAIN_FAIL == 0
    checked [need (pagesOk 0 n && (lv == 1 || lv == 2) && decide (d.arg z 2 ≤ 3)) stBAD] s
      (if wait5x then (s, .stall)
       else
         let room := if lv = 1 then findFree s 0 (poolEnd - s.boot.lynxPages) n
           else if s.isSet MEMC_STAT_TRAIN_FAIL then none else findFree s ddrFwEnd (ddrEnd s) n
         match room, freeRegion s with
         | some a, some r =>
           let s := setRegion r a n (d.arg z 2) (d.arg z 3) d.session (zeroPages a n s)
           (s.addRange ⟨0, a, n, d.session, d.session, r⟩, .done a [])
         | _, _ => (s, .fail stNORES 0))) s

/-- MEM_HOST_DECLARE. -/
def execMemHostDeclare (d : Desc) (s : State) : Out :=
  let z := [8, 8, 1, 1]
  runCmd d 0x0202 z (fun _ _ => 0) (fun s d =>
    let a := d.arg z 0
    let n := d.arg z 1
    let p := portOf s d.src
    checked [addrOk a, need (pagesOk a n && decide (d.arg z 2 ≤ 3) && decide (p < 8) && decide (hostBase p ≤ a)
        && decide (a + n ≤ hostBase p + 2 ^ 36)) stBAD] s
      (match freeRegion s with
       | none => (s, .fail stNORES 0)
       | some r => ((setRegion r a n (d.arg z 2) (d.arg z 3) d.session s).addRange ⟨1, a, n, d.session, d.session, r⟩, .done a []))) s

/-- [a, a+n) lies in one range of the session: 0, NOT_OWNER where `a` is another session's, else BAD_FIELD. -/
def partC (s : State) (sess a n : Nat) : Nat :=
  let here := s.denrek.ranges.filter (fun r => decide (r.kind ≤ 1) && decide (r.base ≤ a) && decide (a < r.base + r.size))
  if here.any (fun r => r.owner == sess && decide (a + n ≤ r.base + r.size)) then 0
  else if here.any (fun r => r.owner == sess) then stBAD
  else if here.isEmpty then stBAD else stNOTOWN

/-- MEM_SHARE. -/
def execMemShare (d : Desc) (s : State) : Out :=
  let z := [8, 8, 2, 1, 1]
  runCmd d 0x0203 z (fun s d => if pagesOk (d.arg z 0) (d.arg z 1) then partC s d.session (d.arg z 0) (d.arg z 1) else stBAD)
    (fun s d =>
      let a := d.arg z 0
      let n := d.arg z 1
      let t := d.arg z 2
      checked [need (decide (t < 1024) && sessOpen s t && decide (d.arg z 3 ≤ 3)) stBAD] s
        (match freeRegion s with
         | none => (s, .fail stNORES 0)
         | some r => ((setRegion r a n (d.arg z 3) (d.arg z 4) t s).addRange ⟨2, a, n, d.session, t, r⟩, .done r []))) s

/-- Complete now, or when the transfers in [lo, hi) have ended (R404). -/
def afterTransfers (lo hi : Nat) (s : State) : State × Rsp :=
  if transferring s lo hi then (s, .later (.memFree lo hi)) else (s, .ok)

/-- MEM_UNSHARE (R404). -/
def execMemUnshare (d : Desc) (s : State) : Out :=
  let z := [8, 8, 2]
  let names := fun (d : Desc) (r : Range) => r.kind == 2 && r.base == d.arg z 0 && r.size == d.arg z 1 && r.target == d.arg z 2
  runCmd d 0x0204 z (fun s d =>
      let l := s.denrek.ranges.filter (names d)
      if l.isEmpty then (if pagesOk (d.arg z 0) (d.arg z 1) && partC s d.session (d.arg z 0) (d.arg z 1) == stNOTOWN then stNOTOWN else stBAD)
      else need (l.any (fun r => r.owner == d.session)) stNOTOWN)
    (fun s d =>
      let s := dropRanges (fun r => names d r && r.owner == d.session) s
      afterTransfers (d.arg z 0) (d.arg z 0 + d.arg z 1) s) s

/-- Free one range with its shares. -/
def freeRange (r : Range) (s : State) : State :=
  dropRanges (fun x => decide (x = r) || (x.kind == 2 && x.owner == r.owner && decide (r.base ≤ x.base) && decide (x.base + x.size ≤ r.base + r.size))) s

/-- MEM_FREE (R404). -/
def execMemFree (d : Desc) (s : State) : Out :=
  runCmd d 0x0205 [8] (fun s d => match rangeAt s (d.arg [8] 0) with
      | none => stBAD
      | some r => need (r.owner == d.session) stNOTOWN) (fun s d =>
    match rangeAt s (d.arg [8] 0) with
    | none => (s, .fail stBAD 0)
    | some r => afterTransfers r.base (r.base + r.size) (freeRange r s)) s

/-- MEM_COPY (R399, R400): source, then destination, are checked before any byte moves. -/
def execMemCopy (d : Desc) (s : State) : Out :=
  let z := [8, 8, 4]
  runCmd d 0x0206 z (fun _ _ => 0) (fun s d =>
    let a := d.arg z 0
    let b := d.arg z 1
    let n := d.arg z 2
    checked [addrOk a, addrOk b, need (decide (n ≤ 2 ^ 24)) stBAD] s
      (match checkRange s (settAcq d.session false) none a n, checkRange s (settAcq d.session true) none b n with
       | .bad x, _ => (rejectAccess (settAcq d.session false) x (decide (addrTop < a + n)) s, .fail stACCESS x)
       | _, .bad x => (rejectAccess (settAcq d.session true) x (decide (addrTop < b + n)) s, .fail stACCESS x)
       | .wait, _ => (s, .stall)
       | _, .wait => (s, .stall)
       | .ok, .ok =>
         (if (hostOf s a).isSome then readHost (.copy d.src d.seq) a n s else s, .later (.memCopy a b n)))) s

/-- Bytes of an admitted transfer are stored; the first word in error that a partial write meets ends it unwritten
(R389, R390). -/
def storeMoved (q : Acq) (core : Option Nat) (b : Nat) (bs : List Byte) (s : State) : State × Option Nat :=
  match rmwErrs s b bs.length with
  | w :: _ => (logUe w q.cls q.who.session false s, some w)
  | [] => (countBw q core b bs.length (noteOutst b bs.length 0 (s.overwrite b bs)), none)

/-- Move an admitted range: an uncorrected error ends it unread, or leaves a partly written word (R389, R390). -/
def moveBytes (q : Acq) (core : Option Nat) (a b n : Nat) (s : State) : State × Option Nat :=
  match errWords s.ues a n with
  | w :: _ => (logUe w q.cls q.who.session false s, some w)
  | [] =>
    storeMoved q core b (s.bytes a n) (countBw q core a n (noteOutst a n 0 (fixCe a n s)))

/-- A copy holds its entries of 5X memory: the oldest 112 of the other classes do (R393, R411). -/
def copyServed (s : State) (src : Src) (seq a b n : Nat) : Bool :=
  let older := s.denrek.awaits.takeWhile (fun e => !(decide (e.2.1 = src) && e.2.2 == seq))
  (List.range 2).all (fun ch => !(onChan s ch a n || onChan s ch b n)
    || decide (older.countP (fun e => match e.1 with | .memCopy x y k => onChan s ch x k || onChan s ch y k | _ => false) < 112))

/-- MEM_COPY_END (R399, R402): the copy of a command ends, once every host read it made has its data. -/
def execMemCopyEnd (src : Src) (seq : Nat) (s : State) : Out :=
  match s.denrek.awaits.find? (fun e => decide (e.2.1 = src) && e.2.2 == seq && (match e.1 with | .memCopy _ _ _ => true | _ => false)) with
  | some (.memCopy a b n, _, _) =>
    if !hostDone s (.copy src seq) || !copyServed s src seq a b n then .next s else
    let sess := match findCmd s src seq with | some c => c.desc.session | none => 1023
    let r := moveBytes (settAcq sess true) none a b n s
    let left := r.1.denrek.awaits.filter (fun e => !(decide (e.2.1 = src) && e.2.2 == seq))
    let s := { r.1 with denrek := { r.1.denrek with awaits := left } }
    .next (settleFrees (finishCmd src seq (if r.2.isSome then stECC else stDONE) (if r.2.isSome then 0 else n) [] s))
  | _ => .next s

/-- MEM_STATUS (R402, R447). -/
def execMemStatus (d : Desc) (s : State) : Out :=
  runCmd d 0x0207 [8] (fun _ _ => 0) (fun s d =>
    outStatus d (d.arg [8] 0) ([RecItem.w MEMC_STAT, .w MEMC_USABLE] ++ (List.range 4).map (fun c => .w (MEMC_BW c))
      ++ (List.range 8).map (fun g => .w (MEMC_ECC g))) s) s

/-- Every range of a session is freed (R403, R424). -/
def releaseRanges (sess : Nat) (s : State) : State :=
  (s.denrek.ranges.filter (fun r => decide (r.kind ≤ 1) && r.owner == sess)).foldl (fun s r => freeRange r s)
    (dropRanges (fun r => r.kind == 2 && (r.owner == sess || r.target == sess)) s)

end Sys2Proof.Machine
end

