-- ==== Sys2Proof/Machine/Clock.lean ====
section
/-! DEFINITION. Device time, the reference monitor and the loop: the meanings of the clock rows (R41 to R73). -/

namespace Sys2Proof.Machine

/-- Source `n` is qualified. -/
def qualified (s : State) (n : Nat) : Bool := decide (1 ≤ n) && decide (n ≤ 8) && s.getB CLK_REF_QUAL_QUAL (n - 1)

/-- The priority list in force (R45, R64). -/
def prioList (s : State) : List Nat := (List.range 8).map (fun k => bitsOf s.clk.prio.toNat (4 * k) 4)

/-- The highest-priority qualified source of the list (R45, R71). -/
def highestRef (s : State) : Option Nat := (prioList s).find? (fun n => qualified s n)

/-- The target of R50, from the controls in force. -/
def refTarget (s : State) : Option Nat :=
  let sel := s.getF CLK_STATUS_SEL
  if CLK_REF_CTRL_FORCE_EN.of s.clk.ctrl = 1 then
    let f := CLK_REF_CTRL_FORCE_SRC.of s.clk.ctrl
    if qualified s f then some f else none
  else if CLK_REF_CTRL_REVERT.of s.clk.ctrl = 0 ∧ qualified s sel then some sel
  else highestRef s

/-- The bits of CLK_EVT that raise the CLOCK notice (R453): LOST, SWITCH_START, SWITCH_DONE, HOLD_ENTER, XTAL_LOST. -/
def clkNoticeMask : Nat := 0x1E0001FE

/-- Apply `f`, then raise the CLOCK notice for the CLK_EVT bits it sets newly. -/
def withClkNotice (f : State → State) (s : State) : State :=
  let s' := f s
  let old := (s.reg CLK_EVT).toNat
  let new := (s'.reg CLK_EVT).toNat
  let n := (new - (new &&& old)) &&& clkNoticeMask
  if n = 0 then s' else s'.notice 1 n

/-! ### What the monitor asks of a source (R45's table, R47, R48, R71) -/

/-- The conditions a source can qualify under that registers show (R45's table, R71). -/
def srcUsable (s : State) (src : Nat) : Bool :=
  if src = 2 then decide (8000 ≤ s.getF CLK_REFIN_NOM_FREQ) && decide (s.getF CLK_REFIN_NOM_FREQ ≤ 24576000)
  else if 3 ≤ src ∧ src ≤ 6 then
    s.getF (TDM_CLK_ROLE (s.getF (TDM_CFG_CLK_SEL (src - 3) 1))) == 2 && decide (2 ≤ s.getF (TDM_CTRL_STATE (src - 3) 1))
  else if src = 7 then s.isSet SPDIF_STAT_LOCK
  else if src = 8 then s.getF TWIN_STAT_ROLE == 2 && decide (1 ≤ s.getF TWIN_STAT_STATE) && decide (s.getF TWIN_STAT_STATE ≤ 3)
  else src == 1 && (s.pwr.phase != .parked || s.isSet PWR_PARK_CFG_XTAL_ON)

/-- The reference monitor runs in every tick of fast counting, of start-up and of a wake; in PARK only the crystal that
PWR_PARK_CFG.XTAL_ON keeps running stays qualified (R57, R84). -/
def monitorRuns (s : State) : Bool := s.pwr.phase != .parked

/-- The nominal period of a source in ticks, as a fraction (R45's table); a TDM port's and the receiver's as they measure it. -/
def refPeriod (s : State) (src : Nat) : Nat × Nat :=
  if src = 1 then (4, 1)
  else if src = 2 then (98304000, max 1 (s.getF CLK_REFIN_NOM_FREQ))
  else if 3 ≤ src ∧ src ≤ 6 then
    let g := s.getF (TDM_CFG_CLK_SEL (src - 3) 1)
    (s.getF (TDM_BCLK_PER_PER g) * s.getF (TDM_CLK_FRAME_LEN g), 16)
  else if src = 7 then (s.getF SPDIF_PERIOD_PER, 16)
  else (128, 1)

/-- CLK_REF_TOL.TOL in force in ppb. -/
def refTolPpb (s : State) : Nat := clampN 50 1000 (s.getF CLK_REF_TOL_TOL) * 1000

/-- Ticks that one edge of the counting clock brings (R41). -/
def tickStep (s : State) : Nat := if s.clk.fast then 1 else 3000

/-- The last accepted edge of a source: a TDM port stamps its own, a standby its beats; of the other sources the row reports
it. (DESIGN CHOICE, log entry 11). -/
def lastEdge (s : State) (src edge : Nat) : Nat :=
  if 3 ≤ src ∧ src ≤ 6 then s.r64 (TDM_FS_TIME_LO (s.getF (TDM_CFG_CLK_SEL (src - 3) 1)))
  else if src = 8 then s.twin.beatAt
  else edge

/-- 2.5 periods have passed since an edge. -/
def missedTwo (s : State) (src edge t : Nat) : Bool :=
  let p := refPeriod s src
  decide (5 * p.1 ≤ 2 * p.2 * (t - edge))

/-- A loss is declared now: at the end of the second missing edge's window, 2.5 periods after the last accepted edge, or
because the measured offset has left the tolerance band (R48, R65). -/
def lossDue (s : State) (src edge : Nat) (band : Option Int) : Bool :=
  match band with
  | some o => decide (refTolPpb s < o.natAbs)
  | none =>
    let e := lastEdge s src edge
    missedTwo s src e s.now && !missedTwo s src e (s.now - tickStep s)

/-- Each edge lies within half a period of the instant predicted from the one before (R47). -/
def edgesInWindow (p : Nat × Nat) : List Nat → Bool
  | a :: b :: r => decide (p.1 ≤ 2 * p.2 * (b - a)) && decide (2 * p.2 * (b - a) ≤ 3 * p.1) && edgesInWindow p (b :: r)
  | _ => true

/-- The device-time offset the monitor measures against: the crystal's while it is qualified, else device time itself (R47). -/
def measureBase (s : State) : Int := if qualified s 1 then loopFreq s else 0

/-- The offset, in ppb, agrees with 16 periods from the first to the last edge, within the tick in which an edge is stamped
(R47). (DEDUCED, log entry 66). -/
def offsetFits (s : State) (src : Nat) (ofs : Int) (first last : Nat) : Bool :=
  let p := refPeriod s src
  let seen : Int := ((last - first) * p.2 : Nat) * (1000000000 + ofs)
  let due : Int := (16 * p.1 : Nat) * (1000000000 + measureBase s)
  decide ((seen - due).natAbs < (p.2 : Int) * (1000000000 + ofs))

/-- The last 17 accepted edges make 16 consecutive good periods, counted from the source's start or restart (R47, R49). -/
def goodPeriods (s : State) (src : Nat) (ofs : Int) (edges : List Nat) : Bool :=
  let first := edges.headD 0
  let last := edges.getLastD 0
  monitorRuns s && srcUsable s src && edges.length == 17 && edgesInWindow (refPeriod s src) edges
    && decide (tabGet 0 src s.clk.reqFrom ≤ first) && decide (last < s.now + tickStep s)
    && decide (ofs.natAbs ≤ refTolPpb s) && offsetFits s src ofs first last

/-! ### Switching and holdover (R46, R50 to R55) -/

/-- The loop takes the phase of its new target as its zero; TWIN is followed with zero offset (R46). -/
def takePhase (goal : Nat) (s : State) : State :=
  { s with clk := { s.clk with phaseZero := if goal = 8 then none else some s.now } }

/-- Start a switch from the current frequency (R46, R51). -/
def startSwitch (src goal : Nat) (freq : Int) (s : State) : State :=
  let s := takePhase goal (s.setReg CLK_FREQ (BitVec.ofNat 32 (ofSigned 32 freq)))
  let s := ((s.setF CLK_STATUS_STATE 2).setF CLK_STATUS_SEL goal).setF CLK_STATUS_FROM src
  { s with clk := { s.clk with slewFrom := freq, slewAt := s.now } }.hitF CLK_EVT_SWITCH_START 1

/-- Enter HOLDOVER at a frequency (R54). -/
def enterHoldover (freq : Int) (s : State) : State :=
  let w := BitVec.ofNat 32 (ofSigned 32 freq)
  let s := ((s.setF CLK_STATUS_STATE 3).setF CLK_STATUS_SEL 0).setF CLK_STATUS_FROM 0
  ((s.setReg CLK_HOLD_FREQ w).setReg CLK_FREQ w).hitF CLK_EVT_HOLD_ENTER 1

/-- Choose the target once, from the resulting set of qualified sources (R50, R51, R53, R54, R67, R68). `avg` is the
average device-time frequency of the last 1 s spent LOCKED. With REVERT 1 and no listed source qualified there is no target,
though an unlisted source may be qualified, and the loop enters HOLDOVER (R45, R54): DESIGN CHOICE, log entry 67. -/
def chooseTarget (avg : Int) (s : State) : State :=
  let s := { s with clk := { s.clk with choosing := false } }
  let sel := s.getF CLK_STATUS_SEL
  match s.getF CLK_STATUS_STATE with
  | 1 =>
    match refTarget s with
    | some n => if n = sel then s else startSwitch sel n (s.regS CLK_FREQ) s
    | none => enterHoldover (if 98304000 ≤ s.now - s.clk.lockedAt then avg else s.regS CLK_FREQ) s
  | 2 =>
    if qualified s sel then s
    else
      match refTarget s with
      | some n => startSwitch sel n (loopFreq s) s
      | none => enterHoldover (loopFreq s) s
  | 3 =>
    match refTarget s with
    | some n => startSwitch 0 n (s.regS CLK_HOLD_FREQ) s
    | none => s
  | _ => s

/-- The choice of the target, now or at the end of the tick (R68). -/
def chooseOr (more : Bool) (avg : Int) (s : State) : State :=
  if more then { s with clk := { s.clk with choosing := true } } else chooseTarget avg s

/-- The slew goes on from the frequency it has reached (R51, R67). -/
def rebaseSlew (s : State) : State :=
  if s.getF CLK_STATUS_STATE = 2 then
    let f := loopFreq s
    { s with clk := { s.clk with slewFrom := f, slewAt := s.now } }.setReg CLK_FREQ (BitVec.ofNat 32 (ofSigned 32 f))
  else s

/-- A source loses its qualification: its offset is no longer valid (R63), and with the crystal the PLLs' input moves to the
audio PLL (R44). A slew toward it stops where it stands (R67). -/
def unqualify (src : Nat) (s : State) : State :=
  let s := when (src == s.getF CLK_STATUS_SEL) rebaseSlew s
  let s := (s.clrB CLK_REF_QUAL_QUAL (src - 1)).setReg (CLK_REF_OFS src) 0
  when (src == 1) (fun s => s.setF CLK_STATUS_XTAL_OK 0) s

/-- The 24.576 MHz crystal is lost (R44). -/
def xtalGone (s : State) : State :=
  ({ s with clk := { s.clk with pllFromAudio := true } }.setF CLK_STATUS_XTAL_OK 0).hitF CLK_EVT_XTAL_LOST 1

/-- A source is declared lost (R48). -/
def declareLost (src : Nat) (s : State) : State :=
  let s := (unqualify src s).hitB CLK_EVT_LOST (src - 1)
  let s := { s with clk := { s.clk with lostMask := s.clk.lostMask ||| 2 ^ src } }
  when (src == 1) xtalGone s

/-- REF_LOST (R44, R48, R55, R68): the source loses its qualification; the target is chosen when the tick has no further
monitor event. `edge` is its last accepted edge where the part does not stamp it, `band` the offset that left the band. -/
def execRefLost (src edge : Nat) (band : Option Int) (freq : Int) (more : Bool) (s : State) : Out :=
  if !qualified s src || !monitorRuns s || !lossDue s src edge band then .next s
  else .next (withClkNotice (fun s => chooseOr more freq (declareLost src s)) s)

/-- A source becomes qualified with a measured offset (R44, R49). -/
def becomeQualified (src : Nat) (ofs freq : Int) (more : Bool) (s : State) : State :=
  withClkNotice (fun s =>
    let s := (s.setB CLK_REF_QUAL_QUAL (src - 1)).clrB CLK_REF_QUAL_REQ (src - 1)
    let s := (s.setReg (CLK_REF_OFS src) (BitVec.ofNat 32 (ofSigned 32 ofs))).hitB CLK_EVT_RETURN (src - 1)
    let s := when (src == 1)
      (fun s => { s with clk := { s.clk with pllFromAudio := false } }.setF CLK_STATUS_XTAL_OK 1) s
    chooseOr more freq s) s

/-- REF_INITIAL_QUALIFY (R49): 16 consecutive good periods of a source not lost since the last start-up or wake. -/
def execRefInitialQualify (src : Nat) (edges : List Nat) (ofs freq : Int) (more : Bool) (s : State) : Out :=
  if qualified s src || bitOf s.clk.lostMask src || !goodPeriods s src ofs edges then .next s
  else .next (becomeQualified src ofs freq more s)

/-- REQUAL in force, in ticks (R49). -/
def requalTicks (s : State) : Nat := clampN 1 600 (CLK_REF_CTRL_REQUAL.of s.clk.ctrl) * 9830400

/-- REF_REQUALIFY (R49): a lost source good continuously for REQUAL since its first accepted edge after the loss, or
since the edge that restarted the time. -/
def execRefRequalify (src : Nat) (edges : List Nat) (ofs freq : Int) (more : Bool) (s : State) : Out :=
  if qualified s src || !bitOf s.clk.lostMask src || !s.getB CLK_REF_QUAL_REQ (src - 1) || !goodPeriods s src ofs edges
      || decide (s.now < tabGet 0 src s.clk.reqFrom + requalTicks s) then .next s
  else .next (becomeQualified src ofs freq more s)

/-- REQUALIFICATION_RESTART (R49, R66, R69): the next accepted edge after one bad period restarts a source's count of good
periods or its requalification time. The first accepted edge after a loss, from which that time runs, is reported by the
same row (DESIGN CHOICE, log entry 66). While the source requalifies its measured offset stands in CLK_REF_OFS (R63). -/
def execRequalificationRestart (src edge : Nat) (ofs : Int) (s : State) : Out :=
  if src = 0 ∨ 8 < src ∨ qualified s src = true ∨ monitorRuns s = false ∨ srcUsable s src = false then .next s
  else
    let s := { s with clk := { s.clk with reqFrom := tabPut 0 src edge s.clk.reqFrom } }
    .next (if bitOf s.clk.lostMask src then
        (s.setB CLK_REF_QUAL_REQ (src - 1)).setReg (CLK_REF_OFS src) (BitVec.ofNat 32 (ofSigned 32 ofs))
      else s)

/-- Every source is unqualified, and none has been lost: at the commit of PARK and at a wake (R57). `keep` names sources that
stay as they are (R84). -/
def unqualifyAll (keep : Nat → Bool) (s : State) : State :=
  let s := forN 8 (fun k s =>
    if keep (k + 1) then s
    else (unqualify (k + 1) s).clrB CLK_REF_QUAL_REQ k) s
  let from' := (List.range 8).foldl (fun t k => tabPut 0 (k + 1) s.now t) []
  { s with clk := { s.clk with lostMask := 0, pllFromAudio := false, reqFrom := from' } }

/-- REF_SWITCH_DONE (R52, R66): within 0.05 ppm of the target the loop is LOCKED; the target is then chosen anew, at the end
of the tick (R68). -/
def execRefSwitchDone (s : State) : Out :=
  let sel := s.getF CLK_STATUS_SEL
  if s.getF CLK_STATUS_STATE ≠ 2 ∨ 50 < (loopFreq s - s.regS (CLK_REF_OFS sel)).natAbs ∨ qualified s sel = false then .next s
  else .next (withClkNotice (fun s =>
    let w := s.reg (CLK_REF_OFS sel)
    let s := ((s.setReg CLK_FREQ w).setF CLK_STATUS_STATE 1).setF CLK_STATUS_FROM 0
    { s with clk := { s.clk with lockedAt := s.now, choosing := true } }.hitF CLK_EVT_SWITCH_DONE 1) s)

/-- XTAL_LOST (R44): the crystal is lost, as a reference also, and the system and memory PLLs move to the audio PLL. The
target is chosen at the end of the tick (R68). -/
def execXtalLost (s : State) : Out :=
  if s.clk.pllFromAudio then .next s
  else .next (withClkNotice (fun s =>
    if qualified s 1 then chooseOr true 0 (declareLost 1 s) else xtalGone s) s)

/-- AUDIO_PLL_LOCK (R46, R56): in START or a wake, the loop locks to the first qualified target directly. -/
def execAudioPllLock (s : State) : Out :=
  let st := s.getF CLK_STATUS_STATE
  match refTarget s with
  | some n =>
    if (st = 0 ∨ (st = 4 ∧ s.pwr.phase = .waking)) ∧ !s.clk.handover then
      .next (takePhase n ({ s with clk := { s.clk with handover := true, lockSrc := n } }.setReg CLK_FREQ (s.reg (CLK_REF_OFS n))))
    else .next s
  | none => .next s

/-- At a wake's hand-over the island stops listening (R91), and PWR_LYNX_EN rises where the target needs the rail (R83). -/
def wakeFast (s : State) : State :=
  let s := (s.setF DORMOUSE_STATUS_FLL_LOCK 0).setF DORMOUSE_STATUS_LISTENING 0
  let need := s.isSet PWR_CTRL_WAKE_TARGET || decide (3 ≤ s.getF PWR_CTRL_REQ) || !s.isSet PWR_PARK_CFG_LYNX_OFF_DOZE
  if need && !s.pwr.lynxEn then { s with pwr := { s.pwr with lynxEn := true, lynxEnAt := s.now } } else s

/-- MCLK_OUT runs while it is enabled and the device-time clock counts; it starts and stops at an edge of that clock, and its
phase stays fixed while it runs (R59). -/
def settleMclk (s : State) : State :=
  let run := s.isSet CLK_MCLK_EN && s.clk.fast && s.pins.porN
  let m := if !run then none else if s.clk.mclkFrom.isSome then s.clk.mclkFrom else some s.now
  if m = s.clk.mclkFrom then s else { s with clk := { s.clk with mclkFrom := m } }

/-- The level of MCLK_OUT at the start of tick `t`: it rises where it starts, and has 2 periods of 196.608 MHz a tick (R59, R63);
low while it does not run. -/
def mclkLevel (s : State) (t : Nat) : Bool :=
  match s.clk.mclkFrom with
  | some f => decide (2 * (2 * (t - f) % s.getF CLK_MCLK_DIV) < s.getF CLK_MCLK_DIV)
  | none => false

/-- FAST_COUNT_HANDOVER (R56, R57): at a slow-clock edge fast counting resumes from the value reached, LOCKED to the source the
loop locked to. What has changed since is settled at the end of the tick (R68). -/
def execFastCountHandover (s : State) : Out :=
  if !s.clk.handover || s.clk.fast then .next s
  else
    let s := { s with clk := { s.clk with handover := false, fast := true, lockedAt := s.now, choosing := true } }
    let s := ((s.setF CLK_STATUS_STATE 1).setF CLK_STATUS_SEL s.clk.lockSrc).setF CLK_STATUS_FROM 0
    .next (settleMclk (when (s.pwr.phase == .waking) wakeFast s))

/-- The value of CLK_ALARM. -/
def alarmTime (s : State) : Nat := s.r64 CLK_ALARM_LO

/-- CLK_ALARM (R60, R73): the first tick at which device time reaches CLK_ALARM, after the tick that enabled it. -/
def execClkAlarm (s : State) : Out :=
  match s.clk.alarmFrom with
  | some t =>
    if s.isSet CLK_ALARM_CTRL_EN && decide (t < s.now) && decide (alarmTime s ≤ s.now) then
      .next (({ s with clk := { s.clk with alarmFrom := none } }.hitF CLK_EVT_ALARM 1).event 0x001)
    else .next s
  | none => .next s

/-- Arm or disarm the alarm after a write of its registers. -/
def armAlarm (s : State) : State :=
  { s with clk := { s.clk with alarmFrom := if s.isSet CLK_ALARM_CTRL_EN then some s.now else none } }

/-- The target is chosen at the end of a tick whose monitor events or controls call for it (R68). The average of the last 1 s
spent LOCKED, where it is held, is what the loop measured: left open. (DESIGN CHOICE, log entry 67). -/
def clkEndTick (s : State) : State :=
  if !s.clk.choosing then s
  else
    let r := s.fresh
    withClkNotice (chooseTarget (toSigned 32 (r.2 % 2 ^ 32))) r.1

/-- The controls written take effect; a slew under way goes on from where it stands at the new rate (R51, R55, R64). -/
def takeControls (s : State) : State :=
  if s.clk.prio = s.reg CLK_REF_PRIO ∧ s.clk.ctrl = s.reg CLK_REF_CTRL then s
  else
    let s := rebaseSlew s
    { s with clk := { s.clk with prio := s.reg CLK_REF_PRIO, ctrl := s.reg CLK_REF_CTRL, choosing := true } }

/-- A qualified source other than the crystal and TWIN that has become unusable is no longer qualified, without any event (R71). -/
def dropUnusable (s : State) : State :=
  forN 6 (fun k s =>
    if qualified s (k + 2) && !srcUsable s (k + 2) then
      let s := unqualify (k + 2) s
      { s with clk := { s.clk with choosing := true } }
    else s) s

/-- CLK_SLOW_CNT is measured anew every 32,768 slow ticks: exactly 98,304,000 while the slow clock counts, else what the two
oscillators give. (DESIGN CHOICE, log entry 68). -/
def slowCount (s : State) : State :=
  if s.now % 98304000 ≠ 0 then s
  else if !s.clk.fast then s.setF CLK_SLOW_CNT_TICKS 98304000
  else
    let r := s.fresh
    r.1.setF CLK_SLOW_CNT_TICKS r.2

/-- What a tick does in the CLK block. -/
def clkTick (s : State) : State := slowCount (dropUnusable (takeControls s))

/-! ### Commands (R61, R469) -/

/-- On a standby the clock owner's list and control stay in the mirrored state, and the loop keeps following TWIN (R535):
`s` is the state before the write and `s'` after it. -/
def standbyClk (s' s : State) : State :=
  if s.getF TWIN_STAT_ROLE ≠ 2 then s'
  else
    let kept := s'.reg CLK_REF_PRIO
    let keptC := s'.reg CLK_REF_CTRL
    ({ s' with twin := { s'.twin with clk := (kept, keptC) } }.setReg CLK_REF_PRIO (s.reg CLK_REF_PRIO)).setReg CLK_REF_CTRL
      (s.reg CLK_REF_CTRL)

/-- CLOCK_SET_REFS (R61). -/
def execClockSetRefs (d : Desc) (s : State) : Out :=
  let z := [4, 4, 4, 4]
  runCmd d 0x0D01 z (fun s d => claimC s d .clock) (fun s d =>
    let prio := d.arg z 0
    let ctrl := d.arg z 1
    let tol := d.arg z 2
    let freq := d.arg z 3
    let ign := [CLK_REF_CTRL_FORCE_EN, CLK_REF_CTRL_FORCE_SRC]
    let requal := CLK_REF_CTRL_REQUAL.img ctrl
    let slew := CLK_REF_CTRL_SLEW.img ctrl
    checked [need ((List.range 8).all (fun k => decide (bitsOf prio (4 * k) 4 ≤ 8))) stBAD, imgOk CLK_REF_CTRL [] ign ctrl,
      imgOk CLK_REF_TOL [] [] tol, imgOk CLK_REFIN_NOM [] [] freq,
      need (decide (CLK_REF_CTRL_BW.img ctrl ≤ 2) && decide (1 ≤ requal) && decide (requal ≤ 600) && decide (1 ≤ slew)
        && decide (slew ≤ 100) && decide (50 ≤ tol) && decide (tol ≤ 1000)
        && (freq == 0 || (decide (8000 ≤ freq) && decide (freq ≤ 24576000)))) stBAD] s
      (let s := standbyClk ((s.take d .clock).setReg CLK_REF_PRIO (BitVec.ofNat 32 prio) |>.setImg CLK_REF_CTRL [] ign ctrl) s
       let s := s.setImg CLK_REF_TOL [] [] tol
       (s.setImg CLK_REFIN_NOM [] [] freq, .ok))) s

/-- CLOCK_FORCE_REF (R50, R70). -/
def execClockForceRef (d : Desc) (s : State) : Out :=
  runCmd d 0x0D02 [1, 1] (fun s d => ownC s d .clock) (fun s d =>
    let en := d.arg [1, 1] 0
    let src := d.arg [1, 1] 1
    checked [need (decide (en ≤ 1) && decide (src ≤ 8)) stBAD] s
      (standbyClk ((s.setF CLK_REF_CTRL_FORCE_EN en).setF CLK_REF_CTRL_FORCE_SRC src) s, .ok)) s

/-- The record of CLOCK_STATUS: state, SEL, FROM, the qualification bits and all frequency offsets. -/
def clockRecord : List RecItem :=
  [.w CLK_STATUS, .w CLK_REF_QUAL, .w CLK_FREQ, .w CLK_HOLD_FREQ] ++ (List.range 8).map (fun k => .w (CLK_REF_OFS (k + 1)))

/-- CLOCK_STATUS. -/
def execClockStatus (d : Desc) (s : State) : Out :=
  runCmd d 0x0D03 [8] (fun _ _ => 0) (fun s d => outStatus d (d.arg [8] 0) clockRecord s) s

/-- CLOCK_SET_MCLK (R63). -/
def execClockSetMclk (d : Desc) (s : State) : Out :=
  runCmd d 0x0D04 [4] (fun s d => ownC s d .clock) (fun s d =>
    let m := d.arg [4] 0
    let div := CLK_MCLK_DIV.img m
    checked [imgOk CLK_MCLK [] [] m, need (div % 2 == 0 && decide (2 ≤ div) && decide (div ≤ 16)) stBAD] s
      (settleMclk (s.setImg CLK_MCLK [] [] m), .ok)) s

/-- CLOCK_SET_ALARM (R60, R73). -/
def execClockSetAlarm (d : Desc) (s : State) : Out :=
  let z := [1, 8, 2]
  runCmd d 0x0D05 z (fun s d => firstBad [ownC s d .clock, bindOwn s d [d.arg z 2]]) (fun s d =>
    checked [need (decide (d.arg z 0 ≤ 1)) stBAD, bindOk [d.arg z 2]] s
      (withBinds d [(0x0D050, 0x001, d.arg z 2)] s (fun s =>
        (armAlarm ((s.set64 CLK_ALARM_LO (d.arg z 1)).setF CLK_ALARM_CTRL_EN (d.arg z 0)), .ok)))) s

/-- The clock claim is released: firmware's configuration stands (R61). -/
def releaseClock (s : State) : State :=
  let s := [CLK_REF_PRIO, CLK_REF_CTRL, CLK_REF_TOL, CLK_REFIN_NOM, CLK_MCLK, CLK_ALARM_LO, CLK_ALARM_HI, CLK_ALARM_CTRL].foldl
    (fun s a => s.setReg a (resetWord a)) s
  unbindEvents (· == 0x001) (settleMclk (armAlarm (s.release .clock)))

end Sys2Proof.Machine
end

