-- ==== Sys2Proof/Machine/FogMath.lean ====
section
/-! DEFINITION. The arithmetic of Fog (R362 to R367): modular powers, primality, evaluation form, exact rescaling, and
binary64 scales as rationals rounded to nearest, ties to even. -/

namespace Sys2Proof.Machine

/-! ### Modular arithmetic -/

/-- b^e mod q, by the bits of e (n of them). -/
def powModN (q : Nat) : Nat → Nat → Nat → Nat
  | 0, _, _ => 1 % q
  | n + 1, b, e => let h := powModN q n (b * b % q) (e / 2)
    if e % 2 = 1 then h * b % q else h

/-- b^e mod q for e below 2^128. -/
def powMod (b e q : Nat) : Nat := powModN q 128 (b % q) e

/-- The inverse modulo a prime. -/
def invMod (b q : Nat) : Nat := powMod b (q - 2) q

/-- Difference modulo q. -/
def subMod (a b q : Nat) : Nat := (a + (q - b % q)) % q

/-- The odd part of n and the power of two taken out, with fuel. -/
def oddPart : Nat → Nat → Nat × Nat
  | 0, n => (n, 0)
  | k + 1, n => if n % 2 = 0 then let r := oddPart k (n / 2); (r.1, r.2 + 1) else (n, 0)

/-- x, x^2, x^4, … reaches q - 1 within r squarings. -/
def reachesMinus1 (q : Nat) : Nat → Nat → Bool
  | 0, _ => false
  | r + 1, x => x == q - 1 || reachesMinus1 q r (x * x % q)

/-- Miller–Rabin with the first 12 primes as bases (R362). -/
def millerRabin (q : Nat) : Bool :=
  let d := oddPart 64 (q - 1)
  decide (2 < q) && q % 2 == 1 && [2, 3, 5, 7, 11, 13, 17, 19, 23, 29, 31, 37].all (fun b =>
    b % q == 0 || (let x := powMod b d.1 q; x == 1 || reachesMinus1 q d.2 x))

/-! ### Evaluation form (R363) -/

/-- The least primitive root modulo q. -/
def leastRoot (q : Nat) : Nat :=
  ((List.range q).find? (fun g => decide (1 < g) && (List.range (q - 1)).all (fun e => e == 0 || powMod g e q != 1))).getD 0

/-- ψ of a limb. -/
def psiOf (logn q : Nat) : Nat := powMod (leastRoot q) ((q - 1) / (2 * 2 ^ logn)) q

/-- Reverse the n low bits of j. -/
def brv : Nat → Nat → Nat
  | 0, _ => 0
  | n + 1, j => j % 2 * 2 ^ n + brv n (j / 2)

/-- The point at which word j evaluates the polynomial. -/
def evalPoint (logn q j : Nat) : Nat := powMod (psiOf logn q) (2 * brv logn j + 1) q

/-- The value of a polynomial with integer coefficients at x modulo q. -/
def polyAt (cs : List Int) (x q : Nat) : Nat :=
  cs.foldr (fun c a => (((c % (q : Int)).toNat) + a * x) % q) 0

/-- The coefficients, in [0, q), of a polynomial in evaluation form. -/
def coeffsOf (logn q : Nat) (ws : List Nat) : List Nat :=
  let n := 2 ^ logn
  (List.range n).map (fun i =>
    let s := (List.range n).foldl (fun a j => (a + ws.getD j 0 * invMod (powMod (evalPoint logn q j) i q) q) % q) 0
    s * invMod n q % q)

/-- The representative of x modulo q nearest to zero. -/
def centred (q x : Nat) : Int := if 2 * x < q then (x : Int) else (x : Int) - q

/-- Limb i of component c of a register of `n` words a limb. -/
def limbOf (l n : Nat) (ws : List Nat) (c i : Nat) : List Nat := (ws.drop ((c * l + i) * n)).take n

/-- RESCALE (R367): each coefficient divided by the last modulus and rounded to the nearest integer, limb by limb. -/
def rescaleWords (logn : Nat) (qs : List Nat) (l comp : Nat) (ws : List Nat) : List Nat :=
  let n := 2 ^ logn
  let ql := qs.getD (l - 1) 1
  (List.range comp).flatMap (fun c =>
    let last := (coeffsOf logn ql (limbOf l n ws c (l - 1))).map (centred ql)
    (List.range (l - 1)).flatMap (fun i =>
      let q := qs.getD i 1
      let cur := limbOf l n ws c i
      (List.range n).map (fun j =>
        subMod (cur.getD j 0) (polyAt last (evalPoint logn q j) q) q * invMod ql q % q)))

/-! ### binary64 -/

/-- The value of a binary64 pattern; none for an infinity or NaN. -/
def f64Val (x : Nat) : Option Rat :=
  let e := x / 2 ^ 52 % 2048
  let m := x % 2 ^ 52
  if e = 2047 then none
  else
    let v : Rat := ((if e = 0 then m else 2 ^ 52 + m : Nat) : Rat) * 2 ^ (if e = 0 then 1 else e) / 2 ^ 1075
    some (if x / 2 ^ 63 % 2 = 1 then -v else v)

/-- The positive rational num / den rounded to binary64. -/
def f64Round (num den : Nat) : Nat :=
  if num = 0 then 0
  else
    let up := 60 + Nat.log2 den + 1 - Nat.log2 num
    let q := num * 2 ^ up / den
    let q2 := 2 * q + bit (decide (num * 2 ^ up % den ≠ 0))
    let e2 : Int := -(up : Int) - 1
    let lsb : Int := max ((Nat.log2 q2 : Int) + e2 - 52) (-1074)
    let m := (roundEvenShr (q2 : Int) (lsb - e2).toNat).toNat
    let biased := lsb + 1074
    let bits := if biased ≤ 0 then m else (biased.toNat + 1) * 2 ^ 52 + m - 2 ^ 52
    min bits 0x7FF0000000000000

/-- A non-negative rational as a binary64 pattern. -/
def f64Of (r : Rat) : Nat := f64Round r.num.natAbs r.den

/-- The product of two scales. -/
def scaleMul (a b : Nat) : Nat := match f64Val a, f64Val b with
  | some x, some y => f64Of (x * y)
  | _, _ => 0x7FF8000000000000

/-- A scale divided by a modulus. -/
def scaleDiv (a q : Nat) : Nat := match f64Val a with
  | some x => f64Of (x / q)
  | none => 0x7FF8000000000000

/-- Two scales agree within a relative 2^-20. -/
def scaleNear (a b : Nat) : Bool := match f64Val a, f64Val b with
  | some x, some y => decide ((if x ≤ y then y - x else x - y) * 2 ^ 20 ≤ max x y)
  | _, _ => a == b

/-- round_even of a rational. -/
def roundRat (r : Rat) : Int := roundEvenDiv r.num r.den

end Sys2Proof.Machine
end

