-- ==== Sys2Proof/Machine/Lynx.lean ====
section
/-! DEFINITION. The Lynx engines (R334 to R360, R463): arithmetic, placement, jobs and their schedule, verdicts, masks
and degradation, and the Lynx commands. (DEDUCED, log entry 36). -/

namespace Sys2Proof.Machine

/-! ### Arithmetic (R335, R336, R345) -/

/-- Saturate to `n` bits, noting whether the value changed. -/
def satFlag (n : Nat) (x : Int) (f : Bool) : Int × Bool := (satS n x, f || clipsS n x)

/-- The int32 accumulator over the products, each add saturating. -/
def tileAcc : List (Int × Int) → Int × Bool → Int × Bool
  | [], a => a
  | p :: r, a => tileAcc r (satFlag 32 (a.1 + p.1 * p.2) a.2)

/-- An activation table (R336). -/
def lutMap (wide : Bool) (t : List Int) (x : Int) : Int :=
  if t.isEmpty then x
  else if wide then
    let i := ((x + 32768) / 256).toNat
    let f := (x + 32768) % 256
    roundEvenDiv (t.getD i 0 * (256 - f) + t.getD (i + 1) 0 * f) 256
  else t.getD (x + 128).toNat 0

/-- One output element and whether any step saturated. -/
def tileOut (e : TileElem) : Int × Bool :=
  let a := tileAcc (e.xs.zip e.ws) (e.bias, false)
  let y := roundEvenDiv (a.1 * e.mult) (2 ^ (31 + e.shift)) + e.zp
  let r := satFlag (if e.wide then 16 else 8) y a.2
  (lutMap e.wide e.lut r.1, r.2)

/-- The predicted speech magnitude of a code (R345). -/
def speechOf (code : Nat) : Rat := if code = 0 then 0 else Config.speechMag code

/-- The mask of a bin (R345): predicted mask code, speech code, CORR, and |X_b|. -/
def maskBin (m sh d : Nat) (x : Rat) : Rat :=
  let mh : Rat := (m : Rat) / 255
  if x = 0 then mh else max (mh - (d : Rat) / 255) (min mh (speechOf sh / x))

/-! ### Engines, programs, jobs -/

/-- Lynx and Fog have power and clock (R83). -/
def railOn (s : State) : Bool := s.isSet PWR_STATUS_FOG_ON

/-- Engine n is powered, enabled and not in FAULT. -/
def engineRuns (s : State) (n : Nat) : Bool := s.getB PWR_STATUS_LYNX_ON n && s.isSet (LYNX_CTRL_EN n) && s.getF (LYNX_CTRL_STATE n) != 3

/-- The program of a handle; an unloaded one is none. -/
def lynxProg (s : State) (h : Nat) : Option LynxProg := (s.lynx.progs.find? (fun e => e.1 == h)).map (·.2)

/-- A handle names a program that commands can name. -/
def progLive (s : State) (h : Nat) : Bool := match lynxProg s h with | some p => !p.gone | none => false

/-- Handles of an engine's programs. -/
def progsOf (s : State) (n : Nat) : List (Nat × LynxProg) := s.lynx.progs.filter (fun e => e.1 % 8 == n)

def State.setJobs (s : State) (l : List LynxJob) : State := { s with lynx := { s.lynx with jobs := l } }
def State.setProgs (s : State) (t : Tab LynxProg) : State := { s with lynx := { s.lynx with progs := t } }

/-- Jobs of an engine. -/
def jobsOf (s : State) (n : Nat) : List LynxJob := s.lynx.jobs.filter (fun j => j.engine == n)

/-- Identities of the jobs whose tiles are in flight on an engine, oldest first. -/
def inflOf (s : State) (n : Nat) : List Nat := tabGet [] n s.lynx.infl
def State.setInfl (s : State) (n : Nat) (l : List Nat) : State :=
  { s with lynx := { s.lynx with infl := tabPut [] n l s.lynx.infl } }

/-- Local SRAM not placed (R338): 65,536 bytes are reserved once a program is loaded. -/
def localFree (s : State) (n : Nat) : Nat :=
  match progsOf s n with
  | [] => 2097152
  | l => 2097152 - 65536 - l.foldl (fun a e => a + e.2.sram) 0

/-- Bring an engine's registers up to date. -/
def lynxShow (n : Nat) (s : State) : State :=
  let q := (jobsOf s n).length
  let f := (inflOf s n).length
  let st := if s.getF (LYNX_CTRL_STATE n) = 3 then 3 else if !s.getB PWR_STATUS_LYNX_ON n then 0
    else if q != 0 || f != 0 then 2 else 1
  let s := (s.setF (LYNX_CTRL_STATE n) st).setF (LYNX_JOB_PUSH_DEPTH n) (min q 32)
  let s := (s.setF (LYNX_INFL_NOW n) f).maxF (LYNX_INFL_MAX n) f
  s.setF (LYNX_LOCAL_FREE_BYTES n) (localFree s n)

/-- A program that no job and no stream uses any more leaves (R348, R352). -/
def progPrune (s : State) : State :=
  let used := fun h => s.lynx.jobs.any (fun j => j.prog == h)
    || s.lynx.strs.any (fun e => e.2.prog == some h && (s.strm e.1).opened)
  forN 8 lynxShow (s.setProgs (s.lynx.progs.filter (fun e => !e.2.gone || used e.1)))

/-- EDF (R344): the earlier deadline, then the lower stream slot, then one-shot jobs in submission order. -/
def jobBefore (a b : LynxJob) : Bool :=
  decide (a.dl < b.dl) || (a.dl == b.dl && (decide (a.slot < b.slot) || (a.slot == b.slot && decide (a.id < b.id))))

/-- The first job of an engine that `p` holds of. -/
def edfFirst (s : State) (n : Nat) (p : LynxJob → Bool) : Option LynxJob :=
  ((jobsOf s n).filter p).foldl (fun best j => match best with
    | none => some j
    | some b => if jobBefore j b then some j else best) none

def noDeadline : Nat := 2 ^ 64 - 1

/-! ### Time of a job (R334, R340, R570) -/

/-- t_job with its engine otherwise idle at step S0, in 1/192 ps: MACS at 2,048 × 1.25 GHz, the levels at 320, 80, 16
and 3 GB/s, 2 µs and 40 ns a tile. -/
def tJob (p : LynxProg) : Nat :=
  let l := p.levels
  max (p.macs * 75) (l.getD 0 0 * 600 + l.getD 1 0 * 2400 + l.getD 2 0 * 12000 + l.getD 3 0 * 64000)
    + 384000000 + 7680000 * p.ntile

/-- The program a stream is bound to, or will be at its next release. -/
def boundProg (s : State) (k : Nat) : Option Nat :=
  if !(s.strm k).opened then none
  else match (s.lstr k).pend with
    | some (some b) => some b.1
    | some none => none
    | none => (s.lstr k).prog

/-- Streams bound to an engine, with their programs. -/
def boundOn (s : State) (n : Nat) : List (Nat × Nat) :=
  (List.range 24).filterMap (fun k => match boundProg s k with
    | some h => if h % 8 = n then some (k, h) else none
    | none => none)

/-- The load U of an engine at S0, in 1/192 ps a hop. -/
def engineLoad (s : State) (n : Nat) : Nat :=
  (boundOn s n).foldl (fun a e => a + match lynxProg s e.2 with | some p => tJob p | none => 0) 0

/-- What the clock of the throttling step in force multiplies MAC time by, as (numerator, denominator): 1.25 GHz, from S2
937.5 MHz, from S3 625 MHz (R88). -/
def lynxSlow (s : State) : Nat × Nat :=
  if 3 ≤ s.getF PWR_STATUS_STEP then (2, 1) else if s.getF PWR_STATUS_STEP = 2 then (4, 3) else (1, 1)

/-- t_job at the throttling step in force (R340), in 1/192 ps. -/
def tJobNow (s : State) (p : LynxProg) : Nat :=
  let l := p.levels
  max (p.macs * 75 * (lynxSlow s).1 / (lynxSlow s).2)
    (l.getD 0 0 * 600 + l.getD 1 0 * 2400 + l.getD 2 0 * 12000 + l.getD 3 0 * 64000) + 384000000 + 7680000 * p.ntile

/-- The load U of an engine in the present hop (R570), in 1/192 ps: every bound stream, and each queued LYNX_RUN job whose
deadline falls in the hop. -/
def loadNow (s : State) (n : Nat) : Nat :=
  let time := fun h => match lynxProg s h with | some p => tJobNow s p | none => 0
  (boundOn s n).foldl (fun a e => a + time e.2) 0
    + ((jobsOf s n).filter (fun j => j.slot == 0xFF && j.dl / 49152 == s.now / 49152)).foldl (fun a j => a + time j.prog) 0

/-- U is at most 1: 49,152 ticks are a hop of 500 µs (R570). -/
def loadFits (s : State) (n : Nat) : Bool := decide (loadNow s n ≤ 96000000000)

/-! ### Streams: verdicts, degradation, masks (R343 to R348) -/

/-- The hop whose mask the job of hop k supplies (R343). -/
def supplyHop (s : State) (k hop : Nat) : Nat := hop + s.getF (LYNX_STR_CFG_PRED k)

/-- Misses among the last MISS_W jobs (R347). -/
def missWindow (s : State) (k : Nat) : Nat :=
  let w := s.getF (LYNX_STR_POL_MISS_W k)
  (((s.lstr k).hist.take (if 1 ≤ w ∧ w ≤ 16 then w else 16)).filter id).length

/-- A stream becomes DEGRADED. -/
def degrade (k cause : Nat) (s : State) : State :=
  let s := s.setLstr k { s.lstr k with good := 0 }
  let s := (s.setF (LYNX_STR_STAT_STATE k) 2).setF (LYNX_STR_STAT_CAUSE k) cause
  (s.hitF LYNX_EVT_DEGRADE 1).event (0x1C0 + k)

/-- The job of hop `hop` is judged (R346, R347). -/
def judge (k hop : Nat) (ok : Bool) (s : State) : State :=
  let x := s.lstr k
  let due := x.due.map (fun e => if e.1 = hop then (hop, some ok) else e)
  let s := s.setLstr k { x with hist := ((!ok) :: x.hist).take 16, good := if ok then x.good + 1 else 0, gap := !ok, due := due }
  let told := s.lynx.verdicts.filter (fun e => decide (hop ≤ e.2.1 + 4)) ++ [(k, hop, ok)]
  let s := when (s.getF TWIN_STAT_ROLE == 1) (fun s => { s with lynx := { s.lynx with verdicts := told } }) s
  let s := s.setF (LYNX_STR_STAT_WIN k) (missWindow s k)
  if ok then
    if s.getF (LYNX_STR_STAT_STATE k) = 2 ∧ max 1 (s.getF (LYNX_STR_POL_RECOVER_N k)) ≤ (s.lstr k).good then
      let s := (s.setF (LYNX_STR_STAT_STATE k) 1).setF (LYNX_STR_STAT_CAUSE k) 0
      (s.hitF LYNX_EVT_RECOVER 1).event (0x1E0 + k)
    else s
  else
    let s := ((s.incF (LYNX_STR_STAT_MISSES k) 1).hitF LYNX_EVT_MISS 1).event (0x1A0 + k)
    if s.getF (LYNX_STR_STAT_STATE k) ≠ 2 ∧ max 1 (s.getF (LYNX_STR_POL_MISS_N k)) ≤ missWindow s k then degrade k 1 s
    else s

/-- The mask codes of the newest job in time; before any, each code is free. -/
def lastMask (s : State) (k b : Nat) : Nat :=
  match (s.lstr k).mask with
  | [] => (Config.freeByte s.freeCtr b).toNat
  | l => (l.getD b 0).toNat

/-- The mask of a hop in every bin, formed on the spectrum `mix` (R343, R345 to R347). -/
def formMask (s : State) (k kind : Nat) (mix : List Rat) : List Rat :=
  (List.range 65).map (fun b =>
    if kind = 4 then 0
    else if kind = 3 then Config.attenGain (s.getF (LYNX_STR_CFG_ATTEN k))
    else if s.isSet (LYNX_STR_CFG_PRED k) then
      maskBin (lastMask s k b) ((s.lstr k).speech.getD b 0).toNat (s.getF (LYNX_STR_CFG_CORR k)) (mix.getD b 0)
    else ((lastMask s k b : Nat) : Rat) / 255)

/-- How the mask of a hop is formed. -/
def maskKind (s : State) (k : Nat) (ok : Bool) : Nat :=
  if s.getF (LYNX_STR_STAT_STATE k) = 2 then
    match s.getF (LYNX_STR_CFG_POLICY k) with | 0 => 2 | 1 => 3 | _ => 4
  else if ok then 0 else 1

/-- Decide the mask that the job of hop `hop` was due to supply. -/
def decideMask (k hop : Nat) (ok : Bool) (mix : List Rat) (s : State) : State :=
  let kind := maskKind s k ok
  let x := s.lstr k
  let s := s.setLstr k { x with applied := formMask s k kind mix, due := x.due.filter (fun e => e.1 != hop),
                                kinds := ((supplyHop s k hop, kind) :: x.kinds).take 16 }
  { s with freeCtr := s.freeCtr + 1 }

/-! ### The end of a job (R342, R346, R349, R352) -/

/-- A standby follows the primary's verdicts (R360). -/
def standby (s : State) : Bool :=
  s.getF TWIN_STAT_ROLE == 2 && decide (2 ≤ s.getF TWIN_STAT_STATE) && decide (s.getF TWIN_STAT_STATE ≤ 3)

/-- The job record (R352's table); bytes moved by a job that did not run every tile are free. -/
def jobRecord (s : State) (j : LynxJob) (status fin : Nat) : List Byte :=
  let p := (lynxProg s j.prog)
  let all := match p with | some p => j.done == p.ntile | none => false
  let lv := match p with | some p => p.levels | none => []
  let degr := j.slot < 24 && s.getF (LYNX_STR_STAT_STATE j.slot) == 2
  let pred := j.slot < 24 && s.isSet (LYNX_STR_CFG_PRED j.slot)
  leBytes 8 j.rel ++ leBytes 8 j.dl ++ leBytes 8 fin ++ leBytes 8 j.hop ++ leBytes 2 status
    ++ leBytes 2 (bit j.sat + 2 * bit j.gap + 4 * bit degr + 8 * bit pred) ++ leBytes 1 j.engine ++ leBytes 1 j.slot ++ leBytes 2 0
    ++ (List.range 4).flatMap (fun i => leBytes 4 (if all then lv.getD i 0 else Config.freeValue (s.freeCtr + i)))
    ++ leBytes 8 0

/-- The rights of a job's accesses: the session's, or in direct mode firmware's. -/
def jobAcq (j : LynxJob) (write : Bool) : Acq :=
  ⟨clsLYNX, if j.cmd.isNone && j.slot == 0xFF then .fw else .sess [j.sess], write⟩

/-- Remove a job that ended: LAST_JOB, DONE and its event. -/
def dropJob (j : LynxJob) (fin : Nat) (s : State) : State :=
  let s := (s.setJobs (s.lynx.jobs.filter (fun x => x.id != j.id))).setF (LYNX_LAST_JOB_TICKS j.engine) (fin - j.rel)
  (s.hitB LYNX_EVT_DONE j.engine).event (0x200 + j.engine)

/-- Write the record of a stream's hop job to the stream's ring, and raise HOP_DONE. -/
def hopRecord (j : LynxJob) (bs : List Byte) (s : State) : State :=
  let m := s.strm j.slot
  let x := s.lstr j.slot
  if m.rcd = 0 then s.event (0x180 + j.slot)
  else
    let s := s.setLstr j.slot { x with records := x.records + 1 }
    match s.writeChecked ⟨clsLYNX, .sess [j.sess], true⟩ none (m.rcd + 64 * (x.records % 2 ^ m.rcdN)) bs with
    | (s, .data _) => s.event (0x180 + j.slot)
    | (s, _) => s

/-- A job ends with a status at tick `fin`; `addr` is a refused address. -/
def endJob (j : LynxJob) (status fin addr : Nat) (s : State) : State :=
  let s := dropJob j fin s
  if j.slot < 24 then
    let s := when ((s.strm j.slot).opened) (judge j.slot j.hop (status == stDONE)) s
    progPrune (hopRecord j (jobRecord s j status fin) { s with freeCtr := s.freeCtr + 4 })
  else
    let bs := jobRecord s j status fin
    let s := { s with freeCtr := s.freeCtr + 4 }
    let r := if status = stABORTED then (s, Acc2.data []) else s.writeChecked (jobAcq j true) none j.rcd bs
    let ended := fun st res => finishAwaits (fun w => w == .lynxRun j.id) st res r.1
    progPrune (match r.2 with
      | .refused a => ended stACCESS a
      | _ => ended status (if status = stDONE ∨ status = stMISS then fin - j.rel else addr))

/-- An engine enters FAULT (R358, R491, R608): registers, log; its jobs end and its streams degrade. -/
def lynxFaulted (n cause status addr : Nat) (s : State) : State :=
  let s := (s.setF (LYNX_CTRL_STATE n) 3).setF (LYNX_FAULT_CAUSE n) cause
  let s := (s.set64 (LYNX_FADDR_LO n) addr).hitB LYNX_EVT_FAULT n
  let s := withFaultPin (fun s => s.hitB ERR_STAT_1_LYNX n) s
  let s := s.errLog 3 n status 0xFFFF 0xFF 0 addr
  let s := (jobsOf s n).foldl (fun s j => endJob j stENGINE s.now 0 s) s
  let s := (List.range 24).foldl (fun s k =>
    when ((s.strm k).opened && (match (s.lstr k).prog with | some h => h % 8 == n | none => false)) (degrade k 3) s) s
  lynxShow n (s.setInfl n [])

/-- One engine enters FAULT, with its notice. -/
def lynxFault (n cause status addr : Nat) (s : State) : State := (lynxFaulted n cause status addr s).notice 6 (2 ^ n)

/-- An engine leaves FAULT (R358, R492). -/
def lynxUnfault (n : Nat) (s : State) : State :=
  if s.getF (LYNX_CTRL_STATE n) = 3 then
    lynxShow n (((s.setF (LYNX_CTRL_STATE n) 1).setF (LYNX_FAULT_CAUSE n) 0).clrB ERR_STAT_1_LYNX n)
  else s

/-! ### Rows of the engines -/

/-- The first ECC error of an engine's local SRAM (R358). -/
def localUe (s : State) (n : Nat) : Option Nat := (errWords s.ues (lynxBase n) 2097152).head?

/-- Check the spilled blocks of a program (R357): the first refused level's access and address. -/
def spillCheck (s : State) (j : LynxJob) (p : LynxProg) : List Nat → Chk
  | [] => .ok
  | l :: r => match checkRange s (jobAcq j false) none (p.spill.getD (l - 1) 0) (p.levels.getD l 0) with
    | .ok => spillCheck s j p r
    | c => c

/-- Issue the next tile (R344, R349): its MAC cycles and stalls by level are counted. -/
def lynxIssue (n cyc : Nat) (stalls : List Nat) (s : State) : State :=
  if 16 ≤ (inflOf s n).length then s
  else
    let ready := fun (j : LynxJob) => (match lynxProg s j.prog with | some p => decide (j.issued < p.ntile) | none => false)
      && (decide (0 < j.issued) || decide (24 ≤ j.slot) || !s.lynx.draining)
    match edfFirst s n ready with
    | none => s
    | some j =>
      match lynxProg s j.prog with
      | none => s
      | some p =>
        match localUe s n with
        | some a =>
          let s := logUe a clsLYNX j.sess false s
          lynxFault n 2 stECC a (endJob j stECC s.now a s)
        | none =>
          match (if j.issued = 0 then spillCheck s j p [1, 2, 3] else .ok) with
          | .wait => s
          | .bad a =>
            let s := rejectAccess (jobAcq j false) a false s
            endJob j stACCESS s.now a ((s.setF (LYNX_FAULT_CAUSE n) 1).set64 (LYNX_FADDR_LO n) a)
          | .ok =>
            let s := s.setJobs (s.lynx.jobs.map (fun x => if x.id = j.id then { x with issued := x.issued + 1 } else x))
            let s := (s.setInfl n (inflOf s n ++ [j.id])).incF (LYNX_PERF_MAC_CYC n) cyc
            forN 4 (fun l s => s.incF (LYNX_PERF_STALL_CYC n l) (stalls.getD l 0)) s

/-- The oldest tile in flight retires with its output elements (R335, R336); a cancelled job's tile is unused. -/
def lynxRetire (n : Nat) (elems : List TileElem) (s : State) : State :=
  match inflOf s n with
  | [] => s
  | i :: r =>
    let ys : List (Int × Bool) := elems.map tileOut
    let s := { s with lynx := { s.lynx with tile := tabPut [] n (ys.map Prod.fst) s.lynx.tile } }
    (s.setInfl n r).setJobs (s.lynx.jobs.map (fun (x : LynxJob) =>
      if x.id = i then { x with done := x.done + 1, sat := x.sat || ys.any Prod.snd } else x))

/-- LYNX_TILE_BOUNDARY (R344, R349): a tile in flight ends when `ends`, and the engine issues the next tile.
(DESIGN CHOICE, log entry 35). -/
def execLynxTileBoundary (n : Nat) (ends : Bool) (elems : List TileElem) (cyc : Nat) (stalls : List Nat)
    (s : State) : Out :=
  if !engineRuns s n then .next s
  else
    let s := when ends (lynxRetire n elems) s
    .next (lynxShow n (lynxIssue n cyc stalls s))

/-- Every tile of the job retired. -/
def allTiles (s : State) (j : LynxJob) : Bool := match lynxProg s j.prog with | some p => j.done == p.ntile | none => false

/-- Write a one-shot job's output tensors, in order. -/
def putOutputs (j : LynxJob) : List (Nat × List Byte) → State → State × Acc2
  | [], s => (s, .data [])
  | o :: r, s => match s.writeChecked (jobAcq j true) none o.1 o.2 with
    | (s, .data _) => putOutputs j r s
    | x => x

/-- LYNX_JOB_COMPLETE (R341, R342, R352, R354): the first job whose tiles all ended writes its last output. On a standby
a stream's job waits for the primary's verdict (R360). (DESIGN CHOICE, log entry 35). -/
def execLynxJobComplete (n : Nat) (outputs : List (List Byte)) (newState : List Byte) (s : State) : Out :=
  match edfFirst s n (allTiles s) with
  | none => .next s
  | some j =>
    if !engineRuns s n then .next s
    else if j.slot < 24 then
      let given := (s.lynx.verdicts.find? (fun v => v.1 == j.slot && v.2.1 == j.hop)).map (·.2.2)
      if standby s && given.isNone then .next s
      else
        let ok := if standby s then given.getD true else decide (s.now ≤ j.dl)
        if ok then
          let x := s.lstr j.slot
          let s := s.setLstr j.slot { x with state := newState, mask := outputs.getD 0 [], speech := outputs.getD 1 [] }
          .next (endJob j stDONE s.now 0 s)
        else .next (endJob j stMISS j.dl 0 s)
    else
      let nin := match lynxProg s j.prog with | some p => p.nin | none => 0
      match putOutputs j ((j.io.drop nin).zip outputs) s with
      | (_, .wait) => .next s
      | (s, .refused a) => .next (endJob j stACCESS s.now a ((s.setF (LYNX_FAULT_CAUSE n) 1).set64 (LYNX_FADDR_LO n) a))
      | (s, .ecc _) => .next (endJob j stECC s.now 0 s)
      | (s, .data _) => .next (endJob j (if j.dl < s.now then stMISS else stDONE) s.now 0 s)

/-- LYNX_JOB_DEADLINE (R346, R355): stream jobs past their deadline are missed; the masks due are decided on the mixture
magnitudes `mix` of each slot. -/
def execLynxJobDeadline (mix : List (List Rat)) (s : State) : Out :=
  let late := s.lynx.jobs.filter (fun j => j.slot < 24 && j.dl ≤ s.now
    && (!standby s || s.lynx.verdicts.contains (j.slot, j.hop, false)))
  let s := late.foldl (fun s j => endJob j stMISS j.dl 0 s) s
  .next (forN 8 lynxShow (forN 24 (fun k s =>
    ((s.lstr k).due.filter (fun e => decide (e.1 * 49152 + 86016 ≤ s.now) && e.2.isSome)).foldl (fun s e =>
      decideMask k e.1 (e.2.getD false) (mix.getD k []) s) s) s))

/-- What waits for the release of a stream's next job takes effect (R341, R352). -/
def strApply (k : Nat) (s : State) : State :=
  let x := s.lstr k
  let s := match x.pend with
    | some (some (h, cfg, pol)) =>
      ((s.setReg (LYNX_STR_CFG k) cfg).setReg (LYNX_STR_POL k) pol).setLstr k { x with prog := some h, pend := none, state := [] }
    | some none => s.setLstr k { x with prog := none, pend := none }
    | none => s
  let x := s.lstr k
  if x.resetReq then s.setLstr k { x with resetReq := false, state := [] } else s

/-- Release the job of hop `hop` of stream k, or degrade the stream (R342, R348, R358). -/
def releaseHop (hop k : Nat) (s : State) : State :=
  let s := strApply k s
  let s := s.setLstr k { s.lstr k with hop := hop }
  let stop := fun (cause : Nat) (s : State) =>
    let s := if s.getF (LYNX_STR_STAT_STATE k) = 2 ∧ s.getF (LYNX_STR_STAT_CAUSE k) = cause then s else degrade k cause s
    s.setLstr k { s.lstr k with due := (s.lstr k).due ++ [(hop, some false)] }
  match (match (s.lstr k).prog with | some h => (lynxProg s h).map (fun p => (h, p)) | none => none) with
  | none => stop 2 s
  | some (h, p) =>
    if p.gone || !s.isSet (LYNX_STR_CFG_EN k) then stop 2 s
    else if s.getF (LYNX_CTRL_STATE (h % 8)) = 3 then stop 3 s
    else
      let s := when (s.getF (LYNX_STR_STAT_STATE k) == 0) (fun s => s.setF (LYNX_STR_STAT_STATE k) 1) s
      let x := s.lstr k
      let j : LynxJob := ⟨s.lynx.nextId, h % 8, k, h, s.now, s.now + 49152, hop, [], 0, none,
        (s.owner (.stream k)).getD 1023, 0, 0, false, x.gap⟩
      let s := { s with lynx := { s.lynx with jobs := s.lynx.jobs ++ [j], nextId := s.lynx.nextId + 1 } }
      lynxShow (h % 8) (s.setLstr k { x with gap := false, due := x.due ++ [(hop, none)] })

/-- LYNX_JOB_RELEASE (R342): 36,864 ticks after a hop boundary, one job per hop for each stream served the whole hop. -/
def execLynxJobRelease (s : State) : Out :=
  let hop := s.now / 49152
  if s.now % 49152 ≠ 36864 ∨ s.pwr.phase == .parked then .next s
  else .next (progPrune (forN 24 (fun k s =>
    let m := s.strm k
    if m.opened && decide (m.first + 49152 ≤ hop * 49152) && decide ((s.lstr k).hop < hop) then releaseHop hop k s else s) s))

/-- Queue a one-shot job. -/
def queueJob (h dl : Nat) (io : List Nat) (rcd : Nat) (cmd : Option (Src × Nat)) (sess : Nat) (s : State) : State :=
  let j : LynxJob := ⟨s.lynx.nextId, h % 8, 0xFF, h, s.now, dl, 0, io, rcd, cmd, sess, 0, 0, false, false⟩
  lynxShow (h % 8) { s with lynx := { s.lynx with jobs := s.lynx.jobs ++ [j], nextId := s.lynx.nextId + 1 } }

/-- LYNX_JOB_PUSH (R349, R353): in direct mode the 64-byte request at LYNX_n_JOB is queued; a request that names no
program of the engine sets CAUSE ILLEGAL. -/
def execLynxJobPush (n : Nat) (s : State) : Out :=
  let a := s.getF (LYNX_JOB_LO_BASE n) * 64 + 2 ^ 32 * s.getF (LYNX_JOB_HI_BASE n)
  if !s.isSet HOSTIF_DIRECT_STAT_OPEN || !engineRuns s n || decide (32 ≤ (jobsOf s n).length) then .next s
  else match s.readChecked ⟨clsLYNX, .fw, false⟩ none a 64 with
    | (_, .wait) => .next s
    | (s, .data bs) =>
      let h := recField bs 0x38 8
      if h % 8 = n ∧ progLive s h then .next (queueJob h (recField bs 8 8) [] a none 1023 s)
      else .next ((s.setF (LYNX_FAULT_CAUSE n) 3).hitB LYNX_EVT_FAULT n)
    | (s, .refused b) => .next (((s.setF (LYNX_FAULT_CAUSE n) 1).set64 (LYNX_FADDR_LO n) b).hitB LYNX_EVT_FAULT n)
    | (s, .ecc b) => .next (((s.setF (LYNX_FAULT_CAUSE n) 2).set64 (LYNX_FADDR_LO n) b).hitB LYNX_EVT_FAULT n)

/-! ### Programs (R337 to R339) -/

/-- The header checks and section bounds of R337. -/
def headerOk (bs : List Byte) : Bool :=
  let f := recField bs
  let tot := f 8 4
  let sect := fun (o n : Nat) => n == 0 || (decide (128 ≤ o) && decide (o + n ≤ tot))
  f 0 4 == 0x584E594C && f 4 2 == 1 && (f 6 2 == 1 || f 6 2 == 2) && tot % 64 == 0 && decide (128 ≤ tot)
    && decide (1 ≤ f 0xC 2) && decide (f 0xC 2 ≤ 4096) && decide (2 ≤ f 0xE 2) && decide (f 0xE 2 ≤ 1024)
    && decide (f 0x20 4 ≤ 262144) && (f 6 2 == 1 || f 0x20 4 == 0) && decide (f 0x24 1 ≤ 8)
    && decide (1 ≤ f 0x25 1) && decide (f 0x25 1 ≤ 8) && decide (1 ≤ f 0x26 1) && decide (f 0x26 1 ≤ 8)
    && [0x28, 0x2C, 0x30, 0x34].all (fun o => f o 4 % 64 == 0) && f 0x3C 68 == 0
    && sect (f 0x28 4) (32 * f 0xE 2) && sect (f 0x2C 4) (64 * f 0xC 2) && sect (f 0x30 4) (256 * f 0x24 1)
    && sect (f 0x34 4) (f 0x18 4)

/-- What each of three ranges takes of the spill, in order (R338 step 5), and what is left. -/
def spillTake : Nat → List Nat → List Nat × Nat
  | sp, [] => ([], sp)
  | sp, n :: r => let t := spillTake (sp - min sp n) r
    (min sp n :: t.1, t.2)

/-- Free program slots of an engine. -/
def freeSlots (s : State) (n : Nat) : List Nat :=
  (List.range 4).filter (fun k => (lynxProg s (n + 16 * k)).isNone)

/-- Free local SRAM after the reservation of R338 step 1. -/
def placeRoom (s : State) (n : Nat) : Nat := if (progsOf s n).isEmpty then 2097152 - 65536 else localFree s n

/-- The least-loaded engine that can take the program (ties to the lower), or the one named. -/
def pickEngine (s : State) (e need : Nat) : Option Nat :=
  let fits := fun n => !(freeSlots s n).isEmpty && decide (need ≤ placeRoom s n) && s.getF (LYNX_CTRL_STATE n) != 3
  if e < 8 then (if !(freeSlots s e).isEmpty && decide (need ≤ placeRoom s e) then some e else none)
  else ((List.range 8).filter fits).foldl (fun best n => match best with
    | none => some n
    | some b => if engineLoad s n < engineLoad s b then some n else best) none

/-- Write the spilled weights of one range; their order within the spill is the compiler's, so each byte is free. -/
def spillBytes (ctr n : Nat) : List Byte := (List.range n).map (Config.freeByte ctr)

/-- Write the spills in order. -/
def putSpills (d : Desc) : List (Nat × Nat) → State → State × Acc2
  | [], s => (s, .data [])
  | (b, n) :: r, s => match s.writeChecked (settAcq d.session true) none b (spillBytes s.freeCtr n) with
    | (s, .data _) => putSpills d r { s with freeCtr := s.freeCtr + 1 }
    | x => x

/-- Enter a placed program: the engine is powered and enabled. -/
def enterProg (h : Nat) (p : LynxProg) (s : State) : State :=
  let n := h % 8
  let s := lynxUnfault n (s.setProgs (tabIns h p s.lynx.progs))
  lynxShow n ((s.setB PWR_STATUS_LYNX_ON n).setF (LYNX_CTRL_EN n) 1)

/-- LYNX_LOAD_PROGRAM (R337 to R339, R350, R463). (DESIGN CHOICE, log entry 35). -/
def execLynxLoadProgram (d : Desc) (s : State) : Out :=
  let z := [8, 8, 1, 1]
  runCmd d 0x0801 z (fun _ _ => 0) (fun s d =>
    let a := d.arg z 0
    let rg := d.arg z 1
    let e := d.arg z 2
    let ns := d.arg z 3
    if !railOn s || s.lynx.draining then (s, .stall) else
    checked [need ((decide (e < 8) || e == 0xFF) && decide (ns ≤ 6)) stBAD, addrOk a, addrOk rg] s
      (withMem (readMem d a 128 s) (fun s bs =>
        let f := recField bs
        checked [need (headerOk bs) stBAD] s
          (withMem (readMem d a (f 8 4) s) (fun s ps =>
            checked [need (Config.tilesOk ps) stBAD] s
            (withMem (readMem d rg 48 s) (fun s rr =>
              let room := f 0x1C 4 + f 0x20 4 * ns
              match pickEngine s e room with
              | none => (s, .fail stNORES 0)
              | some n =>
                if s.getF (LYNX_CTRL_STATE n) = 3 ∧ !(progsOf s n).isEmpty then (s, .fail stCONFLICT 0) else
                let here := min (f 0x18 4) (placeRoom s n - room)
                let t := spillTake (f 0x18 4 - here) ((List.range 3).map (fun i => recField rr (16 * i + 8) 8))
                if t.2 ≠ 0 then (s, .fail stNORES 0) else
                let bases := (List.range 3).map (fun i => recField rr (16 * i) 8)
                withMem (putSpills d ((bases.zip t.1).filter (fun x => x.2 != 0)) s) (fun s _ =>
                  withMem (s.writeChecked (settAcq d.session true) none (rg + 48)
                      ((here :: t.1).flatMap (leBytes 8))) (fun s _ =>
                    let h := n + 16 * (freeSlots s n).headD 0
                    let p : LynxProg := ⟨d.session, f 6 2, f 0xC 2, f 0x10 8, room + here, f 0x20 4, ns, f 0x25 1, f 0x26 1,
                      (here + 2 * f 0x1C 4) :: t.1, bases, false⟩
                    (enterProg h p (s.claim (.program h) d.session), .done h [])))))))))) s

/-- Check a handle: it names a loaded program, of the session (R351, R471). -/
def progC (s : State) (d : Desc) (h : Nat) : Nat :=
  firstBad [need (h &&& 0xC8 == 0 && progLive s h) stBAD, ownC s d (.program h)]

/-- Unload a program (R348, R352): it serves jobs released before; its streams are unbound at their next release. -/
def unloadProg (h : Nat) (s : State) : State :=
  let s := s.setProgs (s.lynx.progs.map (fun e => if e.1 = h then (h, { e.2 with gone := true }) else e))
  let s := forN 24 (fun k s => when (boundProg s k == some h)
    (fun s => s.setLstr k { s.lstr k with pend := some none }) s) s
  progPrune (s.release (.program h))

/-- LYNX_UNLOAD (R348, R352). -/
def execLynxUnload (d : Desc) (s : State) : Out :=
  runCmd d 0x0802 [1] (fun s d => progC s d (d.arg [1] 0)) (fun s d =>
    (unloadProg (d.arg [1] 0) s, .ok)) s

/-- Check a stream slot (R471). -/
def slotC (s : State) (d : Desc) (k : Nat) : Nat := firstBad [need (decide (k < 24)) stBAD, ownC s d (.stream k)]

/-- LYNX_STREAM_BIND (R350 to R352, R570): takes effect at the stream's next release. -/
def execLynxStreamBind (d : Desc) (s : State) : Out :=
  let z := [1, 1, 4, 4]
  runCmd d 0x0803 z (fun s d => firstBad [slotC s d (d.arg z 0), progC s d (d.arg z 1)]) (fun s d =>
    let k := d.arg z 0
    let h := d.arg z 1
    let cfg := d.arg z 2
    let pol := d.arg z 3
    let own := [LYNX_STR_CFG_ENGINE k, LYNX_STR_CFG_PROG k]
    let others := (boundOn s (h % 8)).filter (fun e => e.1 != k)
    match lynxProg s h with
    | none => (s, .fail stBAD 0)
    | some p =>
      checked [need (p.kind == 1) stBAD, imgOk (LYNX_STR_CFG k) own [] cfg, imgOk (LYNX_STR_POL k) [] [] pol,
        need (LYNX_STR_CFG_POLICY k |>.img cfg |> (fun x => decide (x ≤ 2))) stBAD,
        need (decide (1 ≤ (LYNX_STR_POL_MISS_N k).img pol) && decide (1 ≤ (LYNX_STR_POL_MISS_W k).img pol)
          && decide ((LYNX_STR_POL_MISS_W k).img pol ≤ 16) && decide (1 ≤ (LYNX_STR_POL_RECOVER_N k).img pol)) stBAD,
        need (decide ((others.filter (fun e => e.2 == h)).length < p.nstream) && decide (others.length < 6)) stNORES] s
        (let w := ((s.setImg (LYNX_STR_CFG k) own [] cfg).setF (LYNX_STR_CFG_ENGINE k) (h % 8)).setF (LYNX_STR_CFG_PROG k) (h / 16)
         let w2 := s.setImg (LYNX_STR_POL k) [] [] pol
         let s := s.setLstr k { s.lstr k with pend := some (some (h, w.reg (LYNX_STR_CFG k), w2.reg (LYNX_STR_POL k))) }
         (s, .done (engineLoad s (h % 8) * 100 / 96000000000) []))) s

/-- LYNX_STREAM_RESET (R341, R352). -/
def execLynxStreamReset (d : Desc) (s : State) : Out :=
  runCmd d 0x0804 [1] (fun s d => slotC s d (d.arg [1] 0)) (fun s d =>
    let k := d.arg [1] 0
    (s.setLstr k { s.lstr k with resetReq := true }, .ok)) s

/-- LYNX_STREAM_BIND_EVENTS (R346, R347, R451). -/
def execLynxStreamBindEvents (d : Desc) (s : State) : Out :=
  let z := [1, 2, 2, 2, 2]
  let ids := fun (d : Desc) => [d.arg z 1, d.arg z 2, d.arg z 3, d.arg z 4]
  runCmd d 0x0805 z (fun s d => firstBad [slotC s d (d.arg z 0), bindOwn s d (ids d)]) (fun s d =>
    let k := d.arg z 0
    checked [bindOk (ids d)] s
      (withBinds d ((List.range 4).map (fun i => (0x08050 + i + 0x100000 * k, 0x180 + 0x20 * i + k, d.arg z (1 + i)))) s
        (fun s => (s, .ok)))) s

/-- LYNX_RUN (R344, R349, R352, R463). -/
def execLynxRun (d : Desc) (s : State) : Out :=
  let z := [1, 8, 8, 8]
  runCmd d 0x0806 z (fun s d => progC s d (d.arg z 0)) (fun s d =>
    let h := d.arg z 0
    match lynxProg s h with
    | none => (s, .fail stBAD 0)
    | some p =>
      if !railOn s || s.lynx.draining then (s, .stall) else
      checked [need (p.kind == 2) stBAD, addrOk (d.arg z 2), addrOk (d.arg z 3)] s
        (withMem (readMem d (d.arg z 2) (8 * (p.nin + p.nout)) s) (fun s bs =>
          let io := (List.range (p.nin + p.nout)).map (fun i => recField bs (8 * i) 8)
          let chk := ((List.range (p.nin + p.nout)).map (fun i =>
              checkRange s ⟨clsLYNX, .sess [d.session], decide (p.nin ≤ i)⟩ none (io.getD i 0) 1))
            ++ [checkRange s ⟨clsLYNX, .sess [d.session], true⟩ none (d.arg z 3) 64]
          match chk.findSome? (fun c => match c with | .bad a => some a | _ => none) with
          | some a => (rejectAccess ⟨clsLYNX, .sess [d.session], false⟩ a false s, .fail stACCESS a)
          | none =>
            if s.getF (LYNX_CTRL_STATE (h % 8)) = 3 then (s, .fail stENGINE 0)
            else if 32 ≤ (jobsOf s (h % 8)).length then (s, .stall)
            else
              let id := s.lynx.nextId
              (queueJob h (d.arg z 1) io (d.arg z 3) (some (d.src, d.seq)) d.session s, .later (.lynxRun id))))) s

/-- LYNX_STATUS (R351, R447). -/
def execLynxStatus (d : Desc) (s : State) : Out :=
  runCmd d 0x0807 [8] (fun _ _ => 0) (fun s d =>
    outStatus d (d.arg [8] 0)
      ((List.range 8).flatMap (fun n => [RecItem.w (LYNX_CTRL n), .w (LYNX_INFL n), .w (LYNX_PERF_MAC n)]
          ++ (List.range 4).map (fun l => .w (LYNX_PERF_STALL n l)))
        ++ [.w LYNX_EVT] ++ (List.range 24).map (fun k => .w (LYNX_STR_STAT k))) s) s

/-! ### Draining and loss (R75, R80) -/

/-- No started job runs. -/
def lynxDrained (s : State) : Bool := s.lynx.jobs.all (fun j => j.issued == 0 && decide (j.slot < 24))

/-- Started jobs end: a one-shot with ABORTED, a stream's as missed (R80). -/
def lynxAbort (s : State) : State :=
  forN 8 lynxShow ((s.lynx.jobs.filter (fun j => j.issued != 0 || decide (24 ≤ j.slot))).foldl (fun s j =>
    endJob j (if j.slot < 24 then stMISS else stABORTED) s.now 0 s) { s with lynx := { s.lynx with infl := [] } })

/-- Models, recurrent state and results are lost (R75): every program leaves, and its one-shot jobs end ABORTED. -/
def lynxLose (s : State) : State :=
  let s := s.lynx.jobs.foldl (fun s j => endJob j (if j.slot < 24 then stMISS else stABORTED) s.now 0 s) s
  let s := s.lynx.progs.foldl (fun s e => s.release (.program e.1)) s
  let s := forN 24 (fun k s => s.setLstr k { s.lstr k with prog := none, pend := none, state := [], mask := [], speech := [] }) s
  forN 8 lynxShow ({ s with lynx := { s.lynx with infl := [], tile := [] } }.setProgs [])

end Sys2Proof.Machine
end

