-- ==== Sys2Proof/Machine/Fog.lean ====
section
/-! DEFINITION. Fog (R361 to R384, R465): key sets, admission of operation programs, the instructions, exchanges, and
the Fog commands. (DESIGN CHOICE, log entries 38 and 65). -/

namespace Sys2Proof.Machine

/-! ### Key sets and operations -/

def State.setFogKeys (s : State) (l : List (Nat × FogKeys)) : State := { s with fog := { s.fog with keys := l } }
def State.setFogOps (s : State) (l : List (Nat × FogOp)) : State := { s with fog := { s.fog with ops := l } }

/-- A registered key set. -/
def fogKeys (s : State) (h : Nat) : Option FogKeys := (s.fog.keys.find? (fun e => e.1 == h)).map (·.2)

/-- The operation at a place. -/
def fogOp (s : State) (p : Nat) : Option FogOp := (s.fog.ops.find? (fun e => e.1 == p)).map (·.2)

/-- Replace an operation. -/
def State.putOp (s : State) (p : Nat) (o : FogOp) : State :=
  s.setFogOps (s.fog.ops.map (fun e => if e.1 = p then (p, o) else e))

/-- The instruction streams an evaluation key: RELIN, ROT, CONJ, and POLY of degree 2 or more (R366, R369). -/
def streamsKey (i : FogInstr) : Bool := i.op == 0x0A || i.op == 0x0D || i.op == 0x0E || (i.op == 0x10 && decide (2 ≤ i.imm))

/-- Key streams of an operation (R372): one for its current key switch and one for its next.
(DESIGN CHOICE, log entry 38). -/
def opStreams (o : FogOp) : Nat :=
  if o.ended.isSome || o.wait.isSome then 0 else ((o.instrs.drop o.pc).take 2).countP streamsKey

/-- Key streams in flight (R372): 8 operations with two each never pass the device's 16. -/
def keyStreams (s : State) : Nat := s.fog.ops.foldl (fun a e => a + opStreams e.2) 0

/-- Fog runs: powered and enabled (R83, R377). -/
def fogOn (s : State) : Bool := railOn s && s.isSet FOG_CTRL_EN

/-- Bring FOG_STAT and FOG_OP_CTRL.DEPTH up to date. -/
def fogShow (s : State) : State :=
  let st := if s.getF FOG_STAT_STATE = 3 ∧ (!s.fog.ops.isEmpty || !s.pwr.lynxRailOk) then 3 else if !railOn s then 0
    else if s.fog.ops.isEmpty then 1 else 2
  let s := when (s.getF FOG_STAT_STATE == 3 && st != 3) (fun s => s.clrB ERR_STAT_1_FOG 0) s
  let s := (s.setF FOG_STAT_STATE st).setF FOG_STAT_OPS s.fog.ops.length
  let s := (s.setF FOG_STAT_KEYS (keyStreams s)).setF FOG_STAT_EXCH (s.fog.ops.filter (fun e => e.2.wait.isSome)).length
  s.setF FOG_OP_CTRL_DEPTH s.fog.queue.length

/-- The rights of an operation's accesses (R375). -/
def fogAcq (sess : Nat) (write : Bool) : Acq := ⟨clsFOG, if sess = 1023 then .fw else .sess [sess], write⟩

/-- The memory level of an address: 1 shared pool, 2 5X memory, 3 host memory. -/
def memLevel (s : State) (a : Nat) : Nat :=
  match kindOf s a with | .pool => 1 | .ddr => 2 | .host _ => 3 | _ => 0

/-- Count bytes moved at a level, in whole KiB. -/
def fogBytes (a n : Nat) (s : State) : State :=
  let l := memLevel s a
  if l = 0 then s
  else
    let t := tabGet 0 l s.fog.kib + n
    { s with fog := { s.fog with kib := tabPut 0 l (t % 1024) s.fog.kib } }.incF (FOG_PERF_KIB_KIB l) (t / 1024)

/-- d(l) of a key set. -/
def fogDigits (k : FogKeys) (l : Nat) : Nat := ceilDiv l k.alpha

/-- Words of a limb. -/
def fogN (k : FogKeys) : Nat := 2 ^ k.logn

/-- KEYBYTES (R362). -/
def keyBytes (k : FogKeys) : Nat := fogDigits k k.l1 * 2 * (k.l1 + k.k) * fogN k * 8

/-! ### Registration (R362) -/

/-- The descriptor as a key set. -/
def keysOf (sess : Nat) (bs : List Byte) : FogKeys :=
  let f := recField bs
  let n := f 8 1 + f 9 1
  ⟨sess, f 6 1, f 7 1, f 8 1, f 9 1, f 0xA 1, f 0xC 8, f 0x18 8, f 0x20 8,
    (List.range n).map (fun i => f (0x40 + 8 * i) 8),
    (List.range (f 0xB 1)).map (fun i => (f (0x40 + 8 * n + 16 * i) 4, f (0x40 + 8 * n + 16 * i + 8) 8)), [], false⟩

/-- No value occurs twice. -/
def allDiffer : List Nat → Bool
  | [] => true
  | x :: r => !r.contains x && allDiffer r

/-- The field ranges of the first 64 bytes. -/
def keyHeadOk (bs : List Byte) : Bool :=
  let f := recField bs
  f 0 4 == 0x53594B46 && f 4 2 == 1 && (f 6 1 == 1 || f 6 1 == 2) && decide (12 ≤ f 7 1) && decide (f 7 1 ≤ 16)
    && decide (1 ≤ f 8 1) && decide (f 8 1 ≤ 63) && decide (f 9 1 ≤ 16)
    && (if f 9 1 = 0 then f 0xA 1 == 0 else decide (1 ≤ f 0xA 1) && decide (f 0xA 1 ≤ f 9 1))
    && decide (f 0xB 1 ≤ 64) && (f 6 1 == 2 || f 0xC 8 == 0) && f 0x28 24 == 0 && decide (f 8 1 + f 9 1 ≤ 64)

/-- The checks of R362 on the whole descriptor. -/
def keysOk (bs : List Byte) (k : FogKeys) : Bool :=
  let two := 2 * fogN k
  k.moduli.all (fun q => decide (2 ^ 27 ≤ q) && decide (q < 2 ^ 60) && q % two == 1 && millerRabin q) && allDiffer k.moduli
    && (k.scheme == 1 || (decide (2 ≤ k.plainT) && decide (k.plainT ≤ k.moduli.getD 0 0 - 1) && k.plainT % two == 1))
    && k.keys.all (fun g => g.1 == 0 || (g.1 % 2 == 1 && decide (3 ≤ g.1) && decide (g.1 ≤ two - 1)))
    && allDiffer (k.keys.map (·.1))
    && (List.range k.keys.length).all (fun i => recField bs (0x40 + 8 * (k.l1 + k.k) + 16 * i + 4) 4 == 0)
    && decide (k.keys.length * keyBytes k ≤ 671088640)

/-- The lowest free handle. -/
def freeHandle (s : State) : Option Nat := (List.range 32).find? (fun h => (fogKeys s h).isNone)

/-- The 64-bit words of bytes. -/
def words64 (bs : List Byte) : List Nat := (List.range (bs.length / 8)).map (fun w => recField bs (8 * w) 8)

/-- Read and check a descriptor and its public key under the session's rights, once: the key's words are kept. -/
def readKeys (sess a : Nat) (s : State) (k : State → FogKeys → State × Rsp) : State × Rsp :=
  withMem (s.readChecked (fogAcq sess false) none a 64) (fun s hd =>
    checked [need (keyHeadOk hd) stBAD] s
      (let len := 0x40 + 8 * (recField hd 8 1 + recField hd 9 1) + 16 * recField hd 0xB 1
       withMem (s.readChecked (fogAcq sess false) none a len) (fun s bs =>
        let ks := keysOf sess bs
        checked [need (keysOk bs ks) stBAD] s
          (if ks.pk = 0 then k s ks
           else withMem (s.readChecked (fogAcq sess false) none ks.pk (2 * ks.l1 * fogN ks * 8)) (fun s w => k s { ks with pkWords := words64 w })))))

/-- FOG_KEYSET_REGISTER (R362, R375): a key set in place, Fog is enabled (DESIGN CHOICE, log entry 38). -/
def execFogKeysetRegister (d : Desc) (s : State) : Out :=
  runCmd d 0x0A01 [8] (fun _ _ => 0) (fun s d =>
    checked [addrOk (d.arg [8] 0)] s
      (readKeys d.session (d.arg [8] 0) s (fun s ks =>
        match freeHandle s with
        | none => (s, .fail stNORES 0)
        | some h => ((s.setFogKeys (s.fog.keys ++ [(h, ks)])).claim (.keyset h) d.session |>.setF FOG_CTRL_EN 1, .done h [])))) s

/-- Operations that use a handle. -/
def keysBusy (s : State) (h : Nat) : Bool := s.fog.ops.any (fun e => e.2.handle == h)

/-- A released key set whose operations have ended goes (R380). -/
def keysSettle (s : State) : State :=
  s.fog.keys.foldl (fun s e =>
    if e.2.leaving && !keysBusy s e.1 then
      finishAwaits (fun w => w == .fogKeys e.1) stDONE 0 ((s.setFogKeys (s.fog.keys.filter (fun x => x.1 != e.1))).release (.keyset e.1))
    else s) s

/-- The release of a handle starts. -/
def keysLeave (h : Nat) (s : State) : State :=
  s.setFogKeys (s.fog.keys.map (fun e => if e.1 = h then (h, { e.2 with leaving := true }) else e))

/-- A handle names a registered key set of the session (R375, R376, R471). -/
def keysC (s : State) (d : Desc) (h : Nat) : Nat :=
  match fogKeys s h with
  | none => stBAD
  | some k => firstBad [ownC s d (.keyset h), need (!k.leaving) stBAD]

/-- FOG_KEYSET_RELEASE (R380): completes once every operation using the key set has ended. -/
def execFogKeysetRelease (d : Desc) (s : State) : Out :=
  runCmd d 0x0A02 [1] (fun s d => keysC s d (d.arg [1] 0)) (fun s d =>
    let h := d.arg [1] 0
    if keysBusy s h then (keysLeave h s, .later (.fogKeys h))
    else (keysSettle (keysLeave h s), .ok)) s

/-- FOG_KS_REGISTER_GO (R362, R377): direct mode registers into the handle of FOG_KS_CTRL.SLOT. -/
def execFogKsRegisterGo (s : State) : Out :=
  let h := s.getF FOG_KS_CTRL_SLOT
  let a := s.getF FOG_KS_LO_BASE * 64 + 2 ^ 32 * s.getF FOG_KS_HI_BASE
  if !s.isSet HOSTIF_DIRECT_STAT_OPEN || s.getF FOG_KS_CTRL_OP != 1 then .next s
  else if (fogKeys s h).isSome then .next ((s.setF FOG_KS_CTRL_RESULT 2).setF FOG_KS_CTRL_GO 0)
  else match readKeys 1023 a s (fun s ks => (s.setFogKeys (s.fog.keys ++ [(h, ks)]), .ok)) with
    | (_, .stall) => .next (s.setF FOG_KS_CTRL_GO 1)
    | (s, .done _ _) => .next ((s.setF FOG_KS_CTRL_RESULT 0).setF FOG_KS_CTRL_GO 0)
    | (s, _) => .next ((s.setF FOG_KS_CTRL_RESULT 1).setF FOG_KS_CTRL_GO 0)

/-- FOG_KS_RELEASE_GO (R377, R380). -/
def execFogKsReleaseGo (s : State) : Out :=
  let h := s.getF FOG_KS_CTRL_SLOT
  if !s.isSet HOSTIF_DIRECT_STAT_OPEN || s.getF FOG_KS_CTRL_OP != 2 then .next s
  else
    let r := if (fogKeys s h).isNone then 1 else if keysBusy s h then 2 else 0
    let s := when (r == 0) (fun s => keysSettle (keysLeave h s)) s
    .next ((s.setF FOG_KS_CTRL_RESULT r).setF FOG_KS_CTRL_GO 0)

/-! ### Admission (R366, R372) -/

/-- Instruction `i` of a program's instruction bytes. -/
def instrOf (bs : List Byte) (i : Nat) : FogInstr :=
  let f := fun o n => recField bs (16 * i + o) n
  ⟨f 0 1, f 1 1, f 2 1, f 3 1, toSigned 32 (f 4 4), f 8 8⟩

/-- The Galois element of a ROT (R367). -/
def rotGalois (k : FogKeys) (r : Int) : Nat :=
  powMod 5 (r % ((fogN k / 2 : Nat) : Int)).toNat (2 * fogN k)

/-- The key set holds the key of a Galois element (0: relinearisation). -/
def hasKey (k : FogKeys) (g : Nat) : Bool := k.keys.any (fun e => e.1 == g)

/-- Operand ARG exists with a role. -/
def opndRole (ops : List (Nat × Nat × Nat)) (arg role : Nat) : Bool :=
  match ops[arg]? with | some o => o.2.2 == role | none => false

/-- Registers an instruction names are C0 to C15. -/
def regsOk (i : FogInstr) : Bool :=
  (i.op == 2 || decide (i.dst < 16)) && (i.op == 1 || i.op == 3 || decide (i.a < 16))
    && (!(i.op == 4 || i.op == 5 || i.op == 9) || decide (i.b < 16))

/-- The admission checks of one instruction. -/
def instrOk (k : FogKeys) (ops : List (Nat × Nat × Nat)) (i : FogInstr) : Bool :=
  let plainOk := fun lim => opndRole ops i.arg 3 && (match ops[i.arg]? with
    | some o => o.2.1 % 4 == 0 && decide (4 ≤ o.2.1) && decide (o.2.1 / 4 ≤ lim) | none => false)
  let slots := if k.scheme = 1 then fogN k / 2 else fogN k
  regsOk i && match i.op with
  | 0x01 => opndRole ops i.arg 1
  | 0x02 => opndRole ops i.arg 2
  | 0x03 => plainOk slots && (k.scheme == 2 || (decide (20 ≤ i.imm) && decide (i.imm ≤ 59)))
  | 0x04 => true
  | 0x05 => true
  | 0x06 => plainOk slots
  | 0x07 => k.scheme == 1 || decide (i.arg < k.plainT)
  | 0x08 => k.scheme == 1 || decide (i.arg < k.plainT)
  | 0x09 => true
  | 0x0A => k.k != 0 && hasKey k 0
  | 0x0B => true
  | 0x0C => true
  | 0x0D => k.k != 0 && hasKey k (rotGalois k i.imm) && decide (0 < i.imm.natAbs) && decide (i.imm.natAbs < fogN k / 2)
  | 0x0E => k.k != 0 && hasKey k (2 * fogN k - 1)
  | 0x0F => true
  | 0x10 => k.k != 0 && opndRole ops i.arg 4 && decide (1 ≤ i.imm) && decide (i.imm ≤ 63) && (i.imm == 1 || hasKey k 0)
      && (match ops[i.arg]? with | some o => decide (8 * (i.imm + 1) ≤ (o.2.1 : Int)) | none => false)
  | 0x11 => true
  | _ => false

/-- The program header's ranges (R366). -/
def progHeadOk (h : Nat) (bs : List Byte) : Bool :=
  let f := recField bs
  f 0 4 == 0x50474F46 && f 4 2 == 1 && f 6 2 == h && decide (1 ≤ f 8 2) && decide (f 8 2 ≤ 256) && decide (1 ≤ f 0xA 1)
    && decide (f 0xA 1 ≤ 32) && f 0xB 1 == 0 && decide (f 0xC 2 ≤ 60000) && f 0xE 2 == 0 && f 0x10 32 == 0 && f 0x30 16 == 0

/-- Fog takes operations now: powered and enabled, not in FAULT, below step S3, not draining, with a place free (R372, R376, R382). -/
def fogAccepts (s : State) : Bool :=
  fogOn s && s.getF FOG_STAT_STATE != 3 && decide (s.getF PWR_STATUS_STEP < 3) && !s.fog.draining && decide (s.fog.ops.length < 8)

/-- The record of a fault of Fog. -/
def fogCause (cause a : Nat) (s : State) : State := (s.setF FOG_FAULT_CAUSE cause).set64 FOG_FADDR_LO a

/-- An operation ends with a status; `at'` says whether the next instruction is the failing one. -/
def fogEnd (p : Nat) (o : FogOp) (status : Nat) (failing : Bool) (addr : Nat) (s : State) : State :=
  s.putOp p { o with ended := some (status, failing, addr), wait := none }

/-- Fog enters FAULT (R376, R491, R608): registers and log; its other operations end with ENGINE_FAULT. -/
def fogFaulted (cause a sess : Nat) (s : State) : State :=
  let s := (fogCause cause a s).setF FOG_STAT_STATE 3
  let s := (when (cause == 2) (fun s => s.hitF FOG_EVT_ECC 1) (s.hitF FOG_EVT_FAULT 1))
  let s := withFaultPin (fun s => s.hitF ERR_STAT_1_FOG 1) s
  let s := s.errLog 3 8 (if cause = 2 then stECC else stENGINE) sess 0xFF 0 a
  s.fog.ops.foldl (fun s e => if e.2.ended.isNone then fogEnd e.1 e.2 stENGINE true 0 s else s) s

/-- Fog enters FAULT after an uncorrected error, with its notice. -/
def fogFault (cause a sess : Nat) (s : State) : State := (fogFaulted cause a sess s).notice 6 256

/-- Go on with what a read for an operation gave; a forbidden or failing address is Fog's fault (R375, R376). -/
def withFog (sess : Nat) (r : State × Acc2) (k : State → List Byte → State × Rsp) : State × Rsp :=
  match r.2 with
  | .data bs => k r.1 bs
  | .refused a => (fogCause 1 a r.1, .fail stACCESS a)
  | .ecc a => (fogShow (fogFault 2 a sess r.1), .fail stECC 0)
  | .wait => (r.1, .stall)

/-- Read, check and enter a program; SEED is drawn (R366, R368). -/
def fogAdmit (cmd : Option (Src × Nat)) (sess h a : Nat) (s : State) : State × Rsp :=
  match fogKeys s h with
  | none => (s, .fail stBAD 0)
  | some ks =>
    let rd := fun a n (s : State) => s.readChecked (fogAcq sess false) none a n
    withFog sess (rd a 64 s) (fun s hd =>
      checked [need (progHeadOk h hd) stBAD] s
        (let no := recField hd 0xA 1
         let ni := recField hd 8 2
         withFog sess (rd (a + 64) (16 * (no + ni)) s) (fun s bs =>
          let ops := (List.range no).map (fun i => (recField bs (16 * i) 8, recField bs (16 * i + 8) 4, recField bs (16 * i + 12) 1))
          let is := (List.range ni).map (instrOf (bs.drop (16 * no)))
          checked [need ((List.range no).all (fun i => decide (1 ≤ recField bs (16 * i + 12) 1)
              && decide (recField bs (16 * i + 12) 1 ≤ 5) && recField bs (16 * i + 13) 3 == 0 && decide (recField bs (16 * i) 8 < 2 ^ 40))) stBAD,
            need (is.all (instrOk ks ops)) stBAD] s
            (match (List.range 8).find? (fun p => (fogOp s p).isNone) with
             | none => (s, .stall)
             | some p =>
               let r := s.fresh
               let o : FogOp := ⟨cmd, sess, h, ks, is, ops, if recField hd 0xC 2 = 0 then 5000 else recField hd 0xC 2, r.2, 0, [], 0,
                 none, none⟩
               (fogShow (r.1.setFogOps (r.1.fog.ops ++ [(p, o)])), .later (.fogOp p))))))

/-- FOG_EVAL (R366, R368, R372, R375, R376). -/
def execFogEval (d : Desc) (s : State) : Out :=
  let z := [8, 1]
  runCmd d 0x0A04 z (fun s d => keysC s d (d.arg z 1)) (fun s d =>
    if !fogAccepts s then (s, .stall)
    else checked [addrOk (d.arg z 0)] s (match fogAdmit (some (d.src, d.seq)) d.session (d.arg z 1) (d.arg z 0) s with
      | (s, .fail st r) => (s, .fail st (if st = stBAD then 0xFFFF * 2 ^ 32 else r))
      | r => r)) s

/-- FOG_OP_PUSH (R372, R377): direct mode queues a program, at most 32. -/
def execFogOpPush (s : State) : Out :=
  if !s.isSet HOSTIF_DIRECT_STAT_OPEN || decide (32 ≤ s.fog.queue.length) then .next s
  else
    let a := s.getF FOG_OP_LO_BASE * 64 + 2 ^ 32 * s.getF FOG_OP_HI_BASE
    .next (fogShow { s with fog := { s.fog with queue := s.fog.queue ++ [(a, s.getF FOG_OP_CTRL_KEYSET)] } })

/-- FOG_OP_ADMIT (R372, R382): the oldest queued program is admitted when a place is free. -/
def execFogOpAdmit (s : State) : Out :=
  match s.fog.queue with
  | [] => .next s
  | (a, h) :: r =>
    if !fogAccepts s then .next s
    else
      let s' := { s with fog := { s.fog with queue := r } }
      match fogAdmit none 1023 h a s' with
      | (_, .stall) => .next s
      | (s, .later _) => .next (fogShow s)
      | (s, .fail _ _) => .next (fogShow (s.hitF FOG_EVT_DONE 1))
      | (s, _) => .next (fogShow s)

/-! ### Running an instruction -/

/-- What an instruction's own work answers: a register value (none: nothing to write), a failure, a memory refusal. -/
inductive FogRes where
  | done (ct : Option FogCt)
  | bad
  | mem (r : Acc2)
deriving DecidableEq, Repr

/-- Run the next instruction of the operation at place `p` when its code is one of `codes`: `f` does the work and `cyc`
counts its unit cycles from the result (R371's table; stall cycles are free). -/
def fogRun (p : Nat) (code : Nat) (cyc : FogOp → FogInstr → Option FogCt → Nat) (f : State → FogOp → FogInstr → State × FogRes)
    (s : State) : Out :=
  match fogOp s p with
  | none => .next s
  | some o =>
    match o.instrs[o.pc]? with
    | none => .next s
    | some i =>
      if i.op ≠ code || o.ended.isSome || o.wait.isSome || !fogOn s then .next s
      else match f s o i with
        | (s, .done ct) =>
          let regs := match ct with | some c => tabIns i.dst c o.regs | none => o.regs
          let r := s.fresh
          let s := (r.1.incF FOG_PERF_BUSY_CYC (cyc o i ct)).incF FOG_PERF_STALL_MEM_CYC r.2
          .next (fogShow (s.putOp p { o with regs := regs, pc := o.pc + 1 }))
        | (s, .bad) => .next (fogEnd p o stBAD true 0 s)
        | (_, .mem .wait) => .next s
        | (s, .mem (.refused a)) => .next (fogEnd p o stACCESS true a (fogCause 1 a s))
        | (s, .mem (.ecc a)) => .next (fogShow (fogFault 2 a o.sess (fogEnd p o stECC true 0 s)))
        | (s, .mem (.data _)) => .next s

/-- A register that was written. -/
def fogReg (o : FogOp) (n : Nat) : Option FogCt := (o.regs.find? (fun e => e.1 == n)).map (·.2)

/-- Work on one source register. -/
def with1 (s : State) (o : FogOp) (n : Nat) (k : FogCt → State × FogRes) : State × FogRes :=
  match fogReg o n with | some c => k c | none => (s, .bad)

/-- Work on two source registers of one level and nearly one scale. -/
def with2 (s : State) (o : FogOp) (i : FogInstr) (k : FogCt → FogCt → State × FogRes) : State × FogRes :=
  with1 s o i.a (fun x => with1 s o i.b (fun y =>
    if x.level ≠ y.level || (o.keys.scheme == 1 && !scaleNear x.scale y.scale) then (s, .bad) else k x y))

/-- The modulus of word `w` of a register at level `l`. -/
def wordMod (k : FogKeys) (l w : Nat) : Nat := k.moduli.getD (w / fogN k % l) 1

/-- Combine the words of registers, each modulo its limb. -/
def mapWords (k : FogKeys) (l comp : Nat) (f : Nat → Nat → Nat) : List Nat :=
  (List.range (comp * l * fogN k)).map (fun w => f w (wordMod k l w))

/-- Everything of a key set and a register that an open value may depend on (R372: never scheduling). -/
def keyNats (k : FogKeys) : List Nat := k.scheme :: k.logn :: k.l1 :: k.k :: k.alpha :: k.plainT :: k.moduli
def ctNats (c : FogCt) : List Nat := c.level :: c.comp :: c.scale :: c.words

/-- Words whose values the specification leaves open, each below its modulus. -/
def freeWords (ins : List Nat) (k : FogKeys) (l comp : Nat) : List Nat := mapWords k l comp (fun w q => Config.fogWord ins w % q)

/-- u and t of the cost table, and C_KS(l). -/
def uOf (k : FogKeys) : Nat := fogN k / 1024
def tOf (k : FogKeys) : Nat := fogN k * k.logn / 2048
def cKs (k : FogKeys) (l : Nat) : Nat :=
  let d := fogDigits k l
  tOf k * (l + d * (l + k.k - k.alpha) + 2 * k.k + 2 * l)
    + uOf k * (d * k.alpha * (l + k.k - k.alpha) + 2 * d * (l + k.k) + 2 * k.k * l + 2 * l)

/-- Level and components of an instruction's source. -/
def srcLevel (o : FogOp) (i : FogInstr) : Nat := match fogReg o i.a with | some c => c.level | none => 0
def srcComp (o : FogOp) (i : FogInstr) : Nat := match fogReg o i.a with | some c => c.comp | none => 0

/-- Read one range for an operation. -/
def fogRead (o : FogOp) (a n : Nat) (s : State) (k : State → List Byte → State × FogRes) : State × FogRes :=
  match s.readChecked (fogAcq o.sess false) none a n with
  | (s, .data bs) => k (fogBytes a n s) bs
  | (s, r) => (s, .mem r)

/-! ### Ciphertexts in memory (R365) -/

/-- A ciphertext from its bytes when the header matches the key set and every word is below its modulus. -/
def ctOf (k : FogKeys) (hd bs : List Byte) : Option FogCt :=
  let f := recField hd
  let l := f 8 1
  let c := f 9 1
  let ws := (List.range (c * l * fogN k)).map (fun w => recField bs (64 + 8 * w) 8)
  if (List.range ws.length).all (fun w => decide (ws.getD w 0 < wordMod k l w)) then
    some ⟨l, c, if k.scheme = 1 then f 0x10 8 else 0, ws⟩
  else none

/-- The header checks of R365. -/
def ctHeadOk (k : FogKeys) (hd : List Byte) : Bool :=
  let f := recField hd
  f 0 4 == 0x54434746 && f 4 2 == 1 && f 6 1 == k.scheme && f 7 1 == k.logn && decide (1 ≤ f 8 1) && decide (f 8 1 ≤ k.l1)
    && (f 9 1 == 2 || f 9 1 == 3) && f 0x18 8 == k.tag

/-- Size of a ciphertext. -/
def ctBytes (k : FogKeys) (l c : Nat) : Nat := 64 + 8 * c * l * fogN k

/-- Read a ciphertext at `a`, at most `lim` bytes long. -/
def readCt (o : FogOp) (a lim : Nat) (s : State) (k : State → FogCt → State × FogRes) : State × FogRes :=
  fogRead o a 64 s (fun s hd =>
    let n := ctBytes o.keys (recField hd 8 1) (recField hd 9 1)
    if !ctHeadOk o.keys hd || decide (lim < n) then (s, .bad)
    else match s.readChecked (fogAcq o.sess false) none a n with
      | (s, .data bs) => match ctOf o.keys hd bs with
        | some c => k (fogBytes (a + 64) (n - 64) s) c
        | none => (s, .bad)
      | (s, r) => (s, .mem r))

/-- The bytes of a ciphertext with its header. -/
def ctToBytes (k : FogKeys) (c : FogCt) : List Byte :=
  leBytes 4 0x54434746 ++ leBytes 2 1 ++ leBytes 1 k.scheme ++ leBytes 1 k.logn ++ leBytes 1 c.level ++ leBytes 1 c.comp
    ++ leBytes 6 0 ++ leBytes 8 c.scale ++ leBytes 8 k.tag ++ leBytes 32 0 ++ c.words.flatMap (leBytes 8)

/-- Write bytes for an operation. -/
def fogWrite (o : FogOp) (a : Nat) (bs : List Byte) (s : State) : State × Acc2 :=
  match s.writeChecked (fogAcq o.sess true) none a bs with
  | (s, .data r) => (fogBytes a bs.length s, .data r)
  | x => x

/-- An operand of the program. -/
def opnd (o : FogOp) (i : FogInstr) : Nat × Nat × Nat := o.opnds.getD i.arg (0, 0, 0)

/-! ### The instructions (R365 to R370) -/

/-- LOAD: reads a ciphertext. -/
def execFLoad (op : Nat) (s : State) : Out :=
  fogRun op 0x01 (fun o _ r => match r with | some c => c.comp * c.level * uOf o.keys | none => 0) (fun s o i =>
    readCt o (opnd o i).1 (opnd o i).2.1 s (fun s c => (s, .done (some c)))) s

/-- STORE: writes a ciphertext with a header. -/
def execFStore (op : Nat) (s : State) : Out :=
  fogRun op 0x02 (fun o i _ => srcComp o i * srcLevel o i * uOf o.keys) (fun s o i =>
    with1 s o i.a (fun c =>
      if (opnd o i).2.1 < ctBytes o.keys c.level c.comp then (s, .bad)
      else match fogWrite o (opnd o i).1 (ctToBytes o.keys c) s with
        | (s, .data _) => (s, .done none)
        | (s, r) => (s, .mem r))) s

/-- The plain values of an operand, in LOW containers (R285, R368). -/
def plainVals (bs : List Byte) : List Int := (List.range (bs.length / 4)).map (fun j => fromLow (recField bs (4 * j) 4))

/-- The coefficients of encoded plain values (R368): below PLAIN_T for BGV. -/
def plainPoly (k : FogKeys) (imm : Int) (bs : List Byte) : List Int :=
  let ins := keyNats k ++ ofSigned 32 imm :: (plainVals bs).map (ofSigned 24)
  (List.range (fogN k)).map (fun j => if k.scheme = 1 then Config.fogMsg ins j else Config.fogMsg ins j % (k.plainT : Int))

/-- Word `w` of a register whose every component is the polynomial: its limb's evaluation form (R363). -/
def polyWord (k : FogKeys) (cs : List Int) (w q : Nat) : Nat := polyAt cs (evalPoint k.logn q (w % fogN k)) q

/-- The draws of one instruction (R368): v from -1 to 1, e0 and e1 within the binomial's -21 to 21. -/
def drawV (o : FogOp) : List Int :=
  (List.range (fogN o.keys)).map (fun j => ((Config.fogDraw (o.seed, o.pc) 0 j % 3 : Nat) : Int) - 1)
def drawE (o : FogOp) (c : Nat) : List Int :=
  (List.range (fogN o.keys)).map (fun j => ((Config.fogDraw (o.seed, o.pc) (c + 1) j % 43 : Nat) : Int) - 21)

/-- The words of an encryption under the public key (R368): v × pk + e, times PLAIN_T for BGV, and the message on
component 0. -/
def encWords (o : FogOp) (m : List Int) : List Nat :=
  let k := o.keys
  let v := drawV o
  let e0 := drawE o 0
  let e1 := drawE o 1
  mapWords k k.l1 2 (fun w q =>
    let low := decide (w < k.l1 * fogN k)
    (polyWord k v w q * k.pkWords.getD w 0 + (if k.scheme = 1 then 1 else k.plainT) * polyWord k (if low then e0 else e1) w q
      + if low then polyWord k m w q else 0) % q)

/-- ENCENC (R368): encodes plain values and encrypts them at level L1. -/
def execFEncenc (op : Nat) (s : State) : Out :=
  fogRun op 0x03 (fun o _ _ => let k := o.keys
      2 * fogN k * k.logn / 1024 + 4 * k.l1 * tOf k + 6 * k.l1 * uOf k) (fun s o i =>
    if o.keys.pk = 0 then (s, .bad)
    else fogRead o (opnd o i).1 (opnd o i).2.1 s (fun s bs =>
      (s, .done (some ⟨o.keys.l1, 2, if o.keys.scheme = 1 then f64Round (2 ^ i.imm.toNat) 1 else 0,
        encWords o (plainPoly o.keys i.imm bs)⟩)))) s

/-- The scale of a sum. -/
def sumScale (a b : Nat) : Nat := if a = b then a else Config.fogScale a b

/-- A word-by-word combination of two registers of one level. -/
def zipCt (k : FogKeys) (g : Nat → Nat → Nat → Nat) (x y : FogCt) : FogCt :=
  let c := max x.comp y.comp
  ⟨x.level, c, sumScale x.scale y.scale, mapWords k x.level c (fun w q => g (x.words.getD w 0) (y.words.getD w 0) q)⟩

/-- Sum modulo q. -/
def addMod (a b q : Nat) : Nat := (a + b) % q

/-- ADD and SUB: slot-wise, word by word modulo the limb. -/
def fogAddSub (op code : Nat) (g : Nat → Nat → Nat → Nat) (s : State) : Out :=
  fogRun op code (fun o i _ => srcComp o i * srcLevel o i * uOf o.keys) (fun s o i =>
    with2 s o i (fun x y => (s, .done (some (zipCt o.keys g x y))))) s

/-- FOG_ADD. -/
def execFAdd (op : Nat) (s : State) : Out := fogAddSub op 0x04 addMod s
/-- FOG_SUB. -/
def execFSub (op : Nat) (s : State) : Out := fogAddSub op 0x05 subMod s

/-- The scale after a multiplication by a plaintext of scale 2^IMM. -/
def immScale (o : FogOp) (i : FogInstr) (sc : Nat) : Nat :=
  if o.keys.scheme = 1 then
    scaleMul sc (if 0 ≤ i.imm then f64Round (2 ^ i.imm.toNat) 1 else f64Round 1 (2 ^ i.imm.natAbs))
  else 0

/-- MULP: by encoded plain values, word by word in evaluation form. -/
def execFMulp (op : Nat) (s : State) : Out :=
  fogRun op 0x06 (fun o i _ => 2 * fogN o.keys * o.keys.logn / 1024 + srcLevel o i * tOf o.keys + 2 * srcLevel o i * uOf o.keys)
    (fun s o i => with1 s o i.a (fun c => fogRead o (opnd o i).1 (opnd o i).2.1 s (fun s bs =>
      let m := plainPoly o.keys i.imm bs
      (s, .done (some ⟨c.level, c.comp, immScale o i c.scale,
        mapWords o.keys c.level c.comp (fun w q => c.words.getD w 0 * polyWord o.keys m w q % q)⟩))))) s

/-- A CKKS constant times a scale, rounded; none where the constant or scale is no number. -/
def constAt (arg : Nat) (scale : Rat) : Option Int := (f64Val arg).map (fun x => roundRat (x * scale))

/-- The constant of MULC as an integer: binary64 times 2^IMM for CKKS, the integer itself for BGV. -/
def mulConst (o : FogOp) (i : FogInstr) : Option Int :=
  if o.keys.scheme = 1 then constAt i.arg (if 0 ≤ i.imm then (2 ^ i.imm.toNat : Nat) else 1 / ((2 ^ i.imm.natAbs : Nat) : Rat))
  else some i.arg

/-- A register times an integer constant; where the constant is no number, no words are stated. -/
def mulcCt (k : FogKeys) (arg : Nat) (v : Option Int) (scale : Nat) (c : FogCt) : FogCt :=
  ⟨c.level, c.comp, scale, match v with
    | none => freeWords (0x07 :: arg :: keyNats k ++ ctNats c) k c.level c.comp
    | some v => mapWords k c.level c.comp (fun w q => c.words.getD w 0 * (v % (q : Int)).toNat % q)⟩

/-- MULC: every slot by a constant. -/
def execFMulc (op : Nat) (s : State) : Out :=
  fogRun op 0x07 (fun o i _ => 2 * srcLevel o i * uOf o.keys) (fun s o i =>
    with1 s o i.a (fun c => (s, .done (some (mulcCt o.keys i.arg (mulConst o i) (immScale o i c.scale) c))))) s

/-- The constant of ADDC as an integer: at the register's scale for CKKS. -/
def addConst (k : FogKeys) (arg scale : Nat) : Option Int :=
  if k.scheme = 1 then match f64Val scale with | some sc => constAt arg sc | none => none else some arg

/-- A register plus a constant in every slot, on component 0. -/
def addcCt (k : FogKeys) (arg : Nat) (c : FogCt) : FogCt :=
  ⟨c.level, c.comp, c.scale, match addConst k arg c.scale with
    | none => freeWords (0x08 :: arg :: keyNats k ++ ctNats c) k c.level c.comp
    | some v => mapWords k c.level c.comp (fun w q =>
      if w < c.level * fogN k then (c.words.getD w 0 + (v % (q : Int)).toNat) % q else c.words.getD w 0)⟩

/-- ADDC: a constant to every slot. -/
def execFAddc (op : Nat) (s : State) : Out :=
  fogRun op 0x08 (fun o i _ => srcLevel o i * uOf o.keys) (fun s o i =>
    with1 s o i.a (fun c => (s, .done (some (addcCt o.keys i.arg c))))) s

/-- The tensor product of two 2-component registers. -/
def tensor (k : FogKeys) (x y : FogCt) : List Nat :=
  let m := x.level * fogN k
  mapWords k x.level 3 (fun w q =>
    let j := w % m
    let x0 := x.words.getD j 0
    let x1 := x.words.getD (m + j) 0
    let y0 := y.words.getD j 0
    let y1 := y.words.getD (m + j) 0
    if w < m then x0 * y0 % q else if w < 2 * m then (x0 * y1 + x1 * y0) % q else x1 * y1 % q)

/-- The product of two registers: 3 components, the product of the scales (R367). -/
def mulCt (k : FogKeys) (x y : FogCt) : FogCt :=
  ⟨x.level, 3, if k.scheme = 1 then scaleMul x.scale y.scale else 0, tensor k x y⟩

/-- MUL: the tensor product, 3 components. -/
def execFMul (op : Nat) (s : State) : Out :=
  fogRun op 0x09 (fun o i _ => 4 * srcLevel o i * uOf o.keys) (fun s o i =>
    with2 s o i (fun x y => if x.comp = 3 ∨ y.comp = 3 then (s, .bad) else (s, .done (some (mulCt o.keys x y))))) s

/-- The ranges of a key that a key switch at level l streams (R364). -/
def ksRanges (k : FogKeys) (l base : Nat) : List (Nat × Nat) :=
  let limb := fogN k * 8
  let poly := (k.l1 + k.k) * limb
  (List.range (fogDigits k l)).flatMap (fun j => (List.range 2).flatMap (fun p =>
    let b := base + (2 * j + p) * poly
    [(b, l * limb), (b + k.l1 * limb, k.k * limb)]))

/-- Stream a key's ranges. -/
def streamKey (o : FogOp) : List (Nat × Nat) → State → (State → List Byte → State × FogRes) → State × FogRes
  | [], s, k => k s []
  | r :: rs, s, k => fogRead o r.1 r.2 s (fun s b => streamKey o rs s (fun s bs => k s (b ++ bs)))

/-- A key switch at level `l` of the polynomial with words `p`, with the key of a Galois element: the words of two
polynomials, of what they are computed from (their exact values are not stated). -/
def keySwitch (o : FogOp) (l : Nat) (p : List Nat) (g : Nat) (s : State) (k : State → List Nat → State × FogRes) :
    State × FogRes :=
  match o.keys.keys.find? (fun e => e.1 == g) with
  | none => (s, .bad)
  | some e => streamKey o (ksRanges o.keys l e.2) s (fun s bs =>
    k s (freeWords (keyNats o.keys ++ g :: l :: p ++ bs.map (·.toNat)) o.keys l 2))

/-- Component 2 switched away and added to components 0 and 1 (RELIN). -/
def relinCt (o : FogOp) (c : FogCt) (s : State) (k : State → FogCt → State × FogRes) : State × FogRes :=
  keySwitch o c.level (c.words.drop (2 * c.level * fogN o.keys)) 0 s (fun s ks =>
    k s ⟨c.level, 2, c.scale, mapWords o.keys c.level 2 (fun w q => (c.words.getD w 0 + ks.getD w 0) % q)⟩)

/-- RELIN: key switch of component 2 with the GALOIS 0 key. -/
def execFRelin (op : Nat) (s : State) : Out :=
  fogRun op 0x0A (fun o i _ => cKs o.keys (srcLevel o i)) (fun s o i =>
    with1 s o i.a (fun c => relinCt o c s (fun s r => (s, .done (some r))))) s

/-- A CKKS register rescaled by its last modulus. -/
def rescaleCt (k : FogKeys) (c : FogCt) : FogCt :=
  ⟨c.level - 1, c.comp, scaleDiv c.scale (k.moduli.getD (c.level - 1) 1), rescaleWords k.logn k.moduli c.level c.comp c.words⟩

/-- A BGV register switched to level l - 1; the words' exact values are not stated. -/
def modswCt (k : FogKeys) (c : FogCt) : FogCt :=
  ⟨c.level - 1, c.comp, c.scale, freeWords (0x0C :: keyNats k ++ ctNats c) k (c.level - 1) c.comp⟩

/-- RESCALE (CKKS): divides by q(l-1), exactly rounded; not at level 1. -/
def execFRescale (op : Nat) (s : State) : Out :=
  fogRun op 0x0B (fun o i _ => 2 * srcLevel o i * tOf o.keys + 2 * (srcLevel o i - 1) * uOf o.keys) (fun s o i =>
    with1 s o i.a (fun c =>
      if c.level ≤ 1 ∨ o.keys.scheme ≠ 1 then (s, .bad) else (s, .done (some (rescaleCt o.keys c))))) s

/-- MODSW (BGV): modulus switch to level l - 1. -/
def execFModsw (op : Nat) (s : State) : Out :=
  fogRun op 0x0C (fun o i _ => 2 * srcLevel o i * tOf o.keys + 2 * (srcLevel o i - 1) * uOf o.keys) (fun s o i =>
    with1 s o i.a (fun c =>
      if c.level ≤ 1 ∨ o.keys.scheme ≠ 2 then (s, .bad) else (s, .done (some (modswCt o.keys c))))) s

/-- Word `w` of a polynomial under X → X^g (R363, R367): evaluated at the g-th power of the point. -/
def autoIndex (k : FogKeys) (g w : Nat) : Nat :=
  let n := fogN k
  w / n * n + brv k.logn ((2 * brv k.logn (w % n) + 1) * g % (2 * n) / 2)

/-- A rotation or conjugation by a Galois element: 2-component sources only; component 1 is switched back. -/
def fogRotate (op code : Nat) (g : FogOp → FogInstr → Nat) (s : State) : Out :=
  fogRun op code (fun o i _ => 2 * srcLevel o i * uOf o.keys + cKs o.keys (srcLevel o i)) (fun s o i =>
    with1 s o i.a (fun c =>
      if c.comp = 3 then (s, .bad)
      else
        let m := c.level * fogN o.keys
        let ws := (List.range (2 * m)).map (fun w => c.words.getD (autoIndex o.keys (g o i) w) 0)
        keySwitch o c.level (ws.drop m) (g o i) s (fun s ks =>
          (s, .done (some { c with comp := 2, words := mapWords o.keys c.level 2 (fun w q =>
            if w < m then (ws.getD w 0 + ks.getD w 0) % q else ks.getD w 0) }))))) s

/-- ROT (R367). -/
def execFRot (op : Nat) (s : State) : Out := fogRotate op 0x0D (fun o i => rotGalois o.keys i.imm) s
/-- CONJ (R367). -/
def execFConj (op : Nat) (s : State) : Out := fogRotate op 0x0E (fun o _ => 2 * fogN o.keys - 1) s

/-- A register's limbs dropped down to a level; the scale is kept. -/
def levelCt (k : FogKeys) (l : Nat) (c : FogCt) : FogCt :=
  ⟨l, c.comp, c.scale, (List.range c.comp).flatMap (fun j => (c.words.drop (j * c.level * fogN k)).take (l * fogN k))⟩

/-- LEVEL: drops limbs down to a level; the scale is kept. -/
def execFLevel (op : Nat) (s : State) : Out :=
  fogRun op 0x0F (fun _ _ _ => 0) (fun s o i =>
    with1 s o i.a (fun c =>
      if i.imm < 1 ∨ (c.level : Int) < i.imm then (s, .bad) else (s, .done (some (levelCt o.keys i.imm.toNat c))))) s

/-! ### POLY (R369) -/

/-- Levels that POLY of degree d consumes (R369): ceil(log2(d + 1)) + 1. -/
def polyLevels (d : Nat) : Nat := Nat.log2 d + 2

/-- RESCALE for CKKS, MODSW for BGV. -/
def reduceCt (k : FogKeys) (c : FogCt) : FogCt := if k.scheme = 1 then rescaleCt k c else modswCt k c

/-- The power of two split off x^j: the largest below j. (DEDUCED, log entry 38). -/
def powSplit (j : Nat) : Nat := 2 ^ Nat.log2 (j - 1)

/-- The next n powers, after those formed (x first): relin of the product at a common level, then reduced. -/
def polyPowers (o : FogOp) : Nat → List FogCt → State → (State → List FogCt → State × FogRes) → State × FogRes
  | 0, ps, s, k => k s ps
  | n + 1, ps, s, k =>
    let j := ps.length + 1
    let h := powSplit j
    match ps[h - 1]?, ps[j - h - 1]? with
    | some x, some y =>
      let l := min x.level y.level
      relinCt o (mulCt o.keys (levelCt o.keys l x) (levelCt o.keys l y)) s (fun s r =>
        polyPowers o n (ps ++ [reduceCt o.keys r]) s k)
    | _, _ => (s, .bad)

/-- The sum of cj × x^j at a common level, reduced, plus c0. -/
def polySum (k : FogKeys) (cs : List Nat) (l : Nat) (ps : List FogCt) : Option FogCt :=
  let q := k.moduli.getD (l - 1) 1
  let sc := f64Round q 1
  let terms := (List.range ps.length).filterMap (fun j => (ps[j]?).map (fun p =>
    let c := cs.getD (j + 1) 0
    mulcCt k c (if k.scheme = 1 then constAt c q else some c) (if k.scheme = 1 then scaleMul p.scale sc else 0) (levelCt k l p)))
  match terms with
  | [] => none
  | t :: r => some (addcCt k (cs.getD 0 0) (reduceCt k (r.foldl (zipCt k addMod) t)))

/-- Unit cycles of POLY's parts, from a source at level l with c components. -/
def polyCycles (k : FogKeys) (d l c : Nat) : Nat :=
  let reduce := fun l => 2 * l * tOf k + 2 * (l - 1) * uOf k
  let m := l - (Nat.log2 d + 1)
  ((List.range (d - 1)).foldl (fun a i => let l := l - Nat.log2 (i + 1); a + 4 * l * uOf k + cKs k l + reduce l) 0)
    + d * (2 * m * uOf k) + (d - 1) * (c * m * uOf k) + reduce m + (m - 1) * uOf k

/-- POLY (R369): the powers of the source, then the sum. -/
def execFPoly (op : Nat) (s : State) : Out :=
  fogRun op 0x10 (fun o i _ => polyCycles o.keys i.imm.toNat (srcLevel o i) (srcComp o i)) (fun s o i =>
    with1 s o i.a (fun c =>
      let d := i.imm.toNat
      if c.level ≤ polyLevels d ∨ (2 ≤ d ∧ c.comp = 3) then (s, .bad)
      else fogRead o (opnd o i).1 (8 * (d + 1)) s (fun s bs => polyPowers o (d - 1) [c] s (fun s ps =>
        (s, match polySum o.keys (words64 bs) (c.level - (Nat.log2 d + 1)) ps with
          | some r => .done (some r)
          | none => .bad))))) s

/-! ### Exchange (R370, R374, R379) -/

/-- The ring a session set, with its requests. (DESIGN CHOICE, log entry 65). -/
def ringSet (s : State) (sess : Nat) : Option FogRing := (s.fog.rings.find? (fun e => e.1 == sess)).map (·.2)

/-- A session's exchange ring; in direct mode (1023) the FOG_EXR and FOG_EXB registers, a SIZE outside 2 to 64 acting as
the nearest bound (DESIGN CHOICE, log entry 65). -/
def fogRing (s : State) (sess : Nat) : Option FogRing :=
  if sess = 1023 then
    some ⟨s.getF FOG_EXR_LO_BASE * 64 + 2 ^ 32 * s.getF FOG_EXR_HI_BASE,
      s.getF FOG_EXB_LO_BASE * 64 + 2 ^ 32 * s.getF FOG_EXB_HI_BASE, clampN 2 64 (s.getF FOG_EXR_CFG_SIZE),
      64 * s.getF FOG_EXR_CFG_SLOT, match ringSet s 1023 with | some r => r.count | none => 0⟩
  else ringSet s sess
def State.setFogRing (s : State) (sess : Nat) (r : FogRing) : State :=
  { s with fog := { s.fog with rings := s.fog.rings.filter (fun e => e.1 != sess) ++ [(sess, r)] } }

/-- Ring slots on which the session's operations wait. -/
def slotsWaiting (s : State) (sess : Nat) : List Nat :=
  s.fog.ops.filterMap (fun e => if e.2.sess = sess then e.2.wait.map (fun w => w.2.2) else none)

/-- The 64-byte request. -/
def exchRequest (o : FogOp) (i : FogInstr) (c : FogCt) (id at' n dl : Nat) : List Byte :=
  leBytes 4 0x48435845 ++ leBytes 2 1 ++ leBytes 2 0 ++ leBytes 8 id ++ leBytes 2 o.sess ++ leBytes 1 o.pc
    ++ leBytes 1 o.handle ++ leBytes 4 (ofSigned 32 i.imm) ++ leBytes 1 c.level ++ leBytes 7 0 ++ leBytes 8 at' ++ leBytes 4 n
    ++ leBytes 4 0 ++ leBytes 8 c.scale ++ leBytes 8 dl

/-- EXCHANGE (R370): stores the source, writes the request, raises EXCH_REQ and waits. -/
def execFExchange (op : Nat) (s : State) : Out :=
  match fogOp s op with
  | none => .next s
  | some o =>
    match o.instrs[o.pc]? with
    | none => .next s
    | some i =>
      if i.op ≠ 0x11 || o.ended.isSome || o.wait.isSome || !fogOn s then .next s
      else match fogReg o i.a, fogRing s o.sess with
        | some c, some r =>
          let n := ctBytes o.keys c.level c.comp
          let id := r.count + 1
          match ((List.range r.size).map (fun k => (r.count + k) % r.size)).find? (fun k => !(slotsWaiting s o.sess).contains k) with
          | none => .next s
          | some k =>
            if r.slot < n then .next (fogEnd op o stBAD true 0 s)
            else
              let dl := s.now + o.exto * 98304
              let fin := fun (x : State × Acc2) (k : State → State) => match x with
                | (s, .data _) => k s
                | (_, .wait) => s
                | (s, .refused a) => fogEnd op o stACCESS true a (fogCause 1 a s)
                | (s, .ecc a) => fogShow (fogFault 2 a o.sess (fogEnd op o stECC true 0 s))
              .next (fin (fogWrite o (r.buf + k * r.slot) (ctToBytes o.keys c) s) (fun s =>
                fin (fogWrite o (r.req + 64 * k) (exchRequest o i c id (r.buf + k * r.slot) n dl) s) (fun s =>
                  let s := (s.setFogRing o.sess { r with count := id }).hitF FOG_EVT_EXCH_REQ 1
                  let s := fogShow (s.putOp op { o with wait := some (id, dl, k) })
                  s.event 0x211)))
        | _, _ => .next (fogEnd op o stBAD true 0 s)

/-- A return is tried on the waiting operation at place `p` (R370, R379): 0 accepted, 1 rejected, 2 unknown; none while
memory waits. -/
def fogReturn (p : Nat) (o : FogOp) (a : Nat) (s : State) : State × Option Nat × Acc2 :=
  match o.instrs[o.pc]?, o.wait with
  | some i, some w =>
    if w.2.1 < s.now then (s, some 2, .data [])
    else match fogReg o i.a with
      | none => (s, some 1, .data [])
      | some src =>
        match readCt o a (2 ^ 40) s (fun s c =>
            if c.comp = 2 ∧ c.level = src.level ∧ (o.keys.scheme = 2 ∨ scaleNear c.scale src.scale = true) then (s, .done (some c)) else (s, .bad)) with
        | (s, .done (some c)) =>
          (fogShow (s.putOp p { o with regs := tabIns i.dst c o.regs, pc := o.pc + 1, wait := none, exch := o.exch + 1 }), some 0, .data [])
        | (s, .mem r) => (s, some 1, r)
        | (s, _) => (s, some 1, .data [])
  | _, _ => (s, some 2, .data [])

/-- The operation of a session that waits on a request. -/
def findWaiting (s : State) (p : FogOp → Bool) (id : Nat) : Option (Nat × FogOp) :=
  s.fog.ops.find? (fun e => p e.2 && (match e.2.wait with | some w => w.1 == id | none => false))

/-- FOG_EXCHANGE_RETURN (R370, R375, R376, R379). -/
def execFogExchangeReturn (d : Desc) (s : State) : Out :=
  let z := [8, 8]
  runCmd d 0x0A05 z (fun s d => if (findWaiting s (fun o => o.sess == d.session) (d.arg z 0)).isSome then 0
      else if (findWaiting s (fun _ => true) (d.arg z 0)).isSome then stNOTOWN else 0) (fun s d =>
    checked [addrOk (d.arg z 1)] s
      (match findWaiting s (fun o => o.sess == d.session) (d.arg z 0) with
       | none => (s, .fail stBAD 0)
       | some e => match fogReturn e.1 e.2 (d.arg z 1) s with
         | (s, some 0, _) => (s, .ok)
         | (_, _, .wait) => (s, .stall)
         | (s, _, .refused a) => (s, .fail stACCESS a)
         | (s, _, .ecc _) => (s, .fail stECC 0)
         | (s, _, _) => (s, .fail stBAD 0))) s

/-- FOG_RET_GO (R377): the return of direct mode. -/
def execFogRetGo (s : State) : Out :=
  let id := s.r64 FOG_RET_ID_LO
  let a := s.getF FOG_RET_LO_BASE * 64 + 2 ^ 32 * s.getF FOG_RET_HI_BASE
  if !s.isSet HOSTIF_DIRECT_STAT_OPEN then .next s
  else match findWaiting s (fun o => o.sess == 1023) id with
    | none => .next (s.setF FOG_RET_CTRL_STATUS 2)
    | some e => match fogReturn e.1 e.2 a s with
      | (_, _, .wait) => .next s
      | (s, some r, _) => .next (s.setF FOG_RET_CTRL_STATUS r)
      | (s, none, _) => .next s

/-- FOG_EXCHANGE_TIMEOUT (R370, R379, R383): the DEADLINE passed without a valid return. -/
def execFogExchangeTimeout (op : Nat) (s : State) : Out :=
  match fogOp s op with
  | none => .next s
  | some o => match o.wait with
    | none => .next s
    | some w =>
      if s.now ≤ w.2.1 then .next s
      else
        let s := fogShow (fogEnd op o stTIMEOUT true 0 s)
        .next ((s.hitF FOG_EVT_EXCH_TIMEOUT 1).event 0x212)

/-- FOG_EXCHANGE_RING (R370, R376). -/
def execFogExchangeRing (d : Desc) (s : State) : Out :=
  let z := [8, 8, 1, 4]
  runCmd d 0x0A03 z (fun _ _ => 0) (fun s d =>
    let n := d.arg z 2
    checked [addrOk (d.arg z 0), addrOk (d.arg z 1),
      need (d.arg z 0 % 64 == 0 && d.arg z 1 % 64 == 0 && decide (2 ≤ n) && decide (n ≤ 64) && decide (d.arg z 3 < 2 ^ 24)) stBAD,
      need (slotsWaiting s d.session).isEmpty stCONFLICT] s
      (let count := match fogRing s d.session with | some r => r.count | none => 0
       let s := s.setFogRing d.session ⟨d.arg z 0, d.arg z 1, n, 64 * d.arg z 3, count⟩
       let s := (s.set64 FOG_EXR_LO (d.arg z 0)).set64 FOG_EXB_LO (d.arg z 1)
       ((s.setF FOG_EXR_CFG_SIZE n).setF FOG_EXR_CFG_SLOT (d.arg z 3), .ok))) s

/-! ### The end of an operation (R372, R375, R376) -/

/-- How an operation ended: its own end, or all instructions done. -/
def fogOutcome (o : FogOp) : Option (Nat × Bool × Nat) :=
  match o.ended with
  | some e => some e
  | none => if o.instrs.length ≤ o.pc then some (stDONE, false, 0) else none

/-- RESULT of FOG_EVAL: instructions completed, failing index or 0xFFFF, exchanges made. -/
def fogResult (o : FogOp) (failing : Bool) : Nat := o.pc + 2 ^ 32 * (if failing then o.pc else 0xFFFF) + 2 ^ 48 * o.exch

/-- The operation at place `p` leaves. -/
def fogLeave (p : Nat) (s : State) : State :=
  match fogOp s p with
  | none => s
  | some o => match fogOutcome o with
    | none => s
    | some e =>
      let s := s.setFogOps (s.fog.ops.filter (fun x => x.1 != p))
      let s := finishAwaits (fun w => w == .fogOp p) e.1 (fogResult o e.2.1) s
      keysSettle (fogShow ((s.hitF FOG_EVT_DONE 1).event 0x210))

/-- FOG_OP_END (R372, R376): an operation that ended completes its command. -/
def execFogOpEnd (op : Nat) (s : State) : Out := .next (fogLeave op s)

/-- FOG_STATUS (R375, R447). -/
def execFogStatus (d : Desc) (s : State) : Out :=
  runCmd d 0x0A06 [8] (fun _ _ => 0) (fun s d =>
    outStatus d (d.arg [8] 0) [.w FOG_STAT, .w (FOG_PERF_KIB 1), .w (FOG_PERF_KIB 2), .w (FOG_PERF_KIB 3), .w FOG_PERF_BUSY,
      .w FOG_PERF_STALL_MEM, .w FOG_EVT] s) s

/-! ### Draining and loss (R75, R80, R382) -/

/-- No operation runs. -/
def fogDrained (s : State) : Bool := s.fog.ops.isEmpty

/-- Operations in flight end with ABORTED. -/
def fogAbort (s : State) : State :=
  s.fog.ops.foldl (fun s e => fogLeave e.1 (match e.2.ended with
    | none => fogEnd e.1 e.2 stABORTED (decide (e.2.pc < e.2.instrs.length)) 0 s
    | some _ => s)) s

/-- Key sets and queued programs are lost (R75). -/
def fogLose (s : State) : State :=
  let s := fogAbort s
  let s := s.fog.keys.foldl (fun s e => s.release (.keyset e.1)) s
  fogShow { s with fog := { s.fog with keys := [], queue := [] } }

/-- A key set is released with its session (R424): its operations have ended. -/
def releaseKeys (h : Nat) (s : State) : State := keysSettle (keysLeave h s)

end Sys2Proof.Machine
end

