-- ==== Sys2Proof/Machine/Streams.lean ====
section
/-! DEFINITION. The separation service's streams (R29, R342, R457, R458, R569, R575), the global mute, and what happens
at a hop boundary. (DEDUCED, log entries 37 and 62). -/

namespace Sys2Proof.Machine

/-! ### Placement on cores (R569) -/

/-- The Marten cycles a stream reserves: 45,000 for a talker stream, 30,000 for a zone output. -/
def strReserve (k : Nat) : Nat := if k < 16 then 45000 else 30000

/-- Cycles reserved on a core. -/
def coreReserved (s : State) (n : Nat) : Nat :=
  s.denrek.serving.foldl (fun a e => if e.2 == n then a + strReserve e.1 else a) 0

/-- A core the service may use: no session holds it and it holds the runtime. -/
def coreForService (s : State) (n : Nat) : Bool := s.owner (.core n) == none

/-- The serving core with the most headroom that can take the reserve (ties to the lower), else the lowest idle one. -/
def pickCore (s : State) (k : Nat) : Option Nat :=
  let can := (List.range 4).filter (fun n => coreForService s n && coreServes s n
    && decide (coreReserved s n + strReserve k ≤ 400000))
  match can.foldl (fun (best : Option Nat) n => match best with
      | none => some n
      | some b => if coreReserved s n < coreReserved s b then some n else best) none with
  | some n => some n
  | none => (List.range 4).find? (fun n => coreForService s n && !coreServes s n)

/-! ### Blocks of a memory sink (R140, R458) -/

/-- A block in bytes, samples in HIGH form. -/
def strBlockBytes (s : State) (k n : Nat) (short : Bool) : List Byte :=
  let m := s.strm k
  leBytes 8 m.nextT ++ leBytes 4 m.seq ++ leBytes 2 n ++ leBytes 2 (bit m.sync + 2 * bit short)
    ++ (List.range n).flatMap (fun i => leBytes 4 (ofSigned 32 (separated s k (m.nextT + 2048 * i) * 256)))

/-- Write the next block of `n` samples; none where memory cannot be reached yet. A refused block is lost. -/
def strBlock (k n : Nat) (short : Bool) (s : State) : Option State :=
  let m := s.strm k
  let q : Acq := ⟨clsMARTEN, .sess [(s.owner (.stream k)).getD 1023], true⟩
  match s.writeChecked q none (blockSlot m.pos m.block m.nblk m.seq) (strBlockBytes s k n short) with
  | (_, .wait) => none
  | (s, _) => some (s.setStrm k { m with nextT := m.nextT + 2048 * n, seq := (m.seq + 1) % 2 ^ 32, sync := false })

/-- Write the whole blocks whose last sample's latency has passed at boundary `b`. -/
def strBlocks (b k : Nat) : Nat → State → State
  | 0, s => s
  | i + 1, s =>
    let m := s.strm k
    if m.nextT + (m.block - 1) * 2048 + strLat s k ≤ b then
      match strBlock k m.block false s with
      | some s => strBlocks b k i s
      | none => s
    else s

/-- Samples of the last block of a stream that stops at `b`. -/
def strTail (b k : Nat) (s : State) : State :=
  let m := s.strm k
  if b ≤ m.nextT then s
  else (strBlock k (min m.block (ceilDiv (b - m.nextT) 2048)) true s).getD s

/-! ### Stopping (R348, R458) -/

/-- Stream k stops: its Lynx jobs are cancelled, its binding, records and registers go, and its core is free of it. -/
def stopStream (k : Nat) (s : State) : State :=
  let s := s.setJobs (s.lynx.jobs.filter (fun j => j.slot != k))
  let s := (s.setLstr k LynxStr.reset).setStrm k Strm.reset
  let s := { s with denrek := { s.denrek with serving := s.denrek.serving.filter (fun e => e.1 != k) } }
  let s := s.clearRegs (LYNX_STR_CFG k) (LYNX_STR_CFG (k + 1))
  let s := unbindEvents (fun e => 0x180 ≤ e && e < 0x200 && e % 32 == k) s
  progPrune (s.release (.stream k))

/-- Fox has fixed a publication for `b`. -/
def publishes (s : State) (b : Nat) : Bool := match s.fox.pub with | some p => p.1 == b | none => false

/-- The service at hop boundary `b`: blocks, closes, and at a publication the route changes (R29, R458). -/
def streamBoundary (b : Nat) (s : State) : State :=
  let s := forN 24 (fun k s =>
    let m := s.strm k
    if !m.opened then s
    else
      let s := when (sinkKind m.sink == 1) (strBlocks b k 4) s
      if m.closing then
        finishAwaits (fun w => w == .streamClose k) stDONE 0 (stopStream k (when (sinkKind m.sink == 1) (strTail b k) s))
      else s) s
  if !publishes s b then s else
  let rs := s.denrek.awaits.filterMap (fun e => match e.1 with | .streamRoute k m t => some (k, m, t) | _ => none)
  let s := rs.foldl (fun s r => when ((s.strm r.1).opened) (fun s => s.setStrm r.1 { s.strm r.1 with mode := r.2.1, seat := r.2.2 }) s) s
  finishAwaits (fun w => match w with | .streamRoute _ _ _ => true | _ => false) stDONE b s

/-- HOP_BOUNDARY (R451): the HOP event, every core's HOP source, Fox, and the streams. -/
def execHopBoundary (s : State) : Out :=
  if s.now % hopTicks ≠ 0 ∨ s.pwr.phase == .parked then .next s
  else
    let s := forN 4 coreHop (s.event 0x000)
    .next (streamBoundary s.now (foxBoundary s.now s))

/-- FOX_PUBLISH (R265): the publication that waits is written. -/
def execFoxPublish (s : State) : Out := .next (publishNow s)

/-! ### PARK and wake (R74, R157) -/

/-- Hop collection stops. -/
def streamsPark (s : State) : State :=
  forN 24 (fun k s => when ((s.strm k).opened) (fun s => s.setStrm k { s.strm k with first := 2 ^ 64 }) s) s

/-- Streams resume from the next boundary with a SYNC block. -/
def streamsWake (s : State) : State :=
  let b := (s.now / hopTicks + 1) * hopTicks
  forN 24 (fun k s => when ((s.strm k).opened) (fun s =>
    s.setStrm k { s.strm k with first := b, nextT := b, sync := true }) s) s

/-! ### Commands (R457, R458) -/

/-- A resource held by the session: 0, NOT_OWNER where another session holds it, BAD_FIELD where nobody does (R458). -/
def heldC (s : State) (sess : Nat) (r : Res) : Nat :=
  match s.owner r with
  | none => stBAD
  | some n => need (n == sess) stNOTOWN

/-- Capture channels of a mask: open by the session with SEC at CALM. -/
def channelsC (s : State) (sess mask : Nat) : Nat :=
  firstBad (((List.range 32).filter (bitOf mask)).map (fun c =>
    firstBad [heldC s sess (.channel c), need (s.getF (DEC_CH_CFG_SEC c) == 2) stBAD]))

/-- The sink of R457 as R458 checks it; a line that an OUTWARD converter feeds conflicts, for no other producer may write its
ring (R193). (DESIGN CHOICE, log entry 76). -/
def sinkC (s : State) (sess k sink pos block nblk : Nat) : Nat :=
  match sinkKind sink with
  | 0 =>
    let n := sinkPort sink
    let l := sinkLine sink
    firstBad [need (decide (sink < 32)) stBAD, heldC s sess (.tdm n), need (framePeriod s (tdGroup s n 0) == 2048 && frameStart s (tdGroup s n 0) % 2048 == 0) stBAD,
      need (decide (pos < (fifoSlots s n 0 l).length)) stBAD,
      need ((streamsTo s (fun x => onLine n l x && x.pos == pos)).all (fun j => j == k)
        && (List.range 8).all (fun c => !lineFedBy s c n l)) stCONFLICT]
  | 1 =>
    firstBad [need (decide (sink < 4) && pos % 64 == 0 && decide (8 ≤ block) && decide (block ≤ 1024) && decide (1 ≤ nblk)
      && decide (nblk ≤ 15)) stBAD, addrOk pos, partC s sess pos ((nblk + 1) * (ceilDiv (16 + 4 * block) 64 * 64))]
  | 2 =>
    let n := sinkConv sink
    firstBad [need (decide (sink < 32)) stBAD, heldC s sess (.converter n),
      need (asrcOut s n && asrcPeriod s n == 2048 && decide (pos < asrcCh s n)) stBAD]
  | _ => stBAD

/-- STREAM_OPEN (R457, R458, R569): claims the slot; the service serves it from the next hop boundary. -/
def execStreamOpen (d : Desc) (s : State) : Out :=
  let z := [1, 1, 1, 1, 4, 8, 8, 2, 1, 1, 2]
  runCmd d 0x0301 z (fun s d => firstBad [need (decide (d.arg z 0 < 24)) stBAD, bindOwn s d [d.arg z 10]]) (fun s d =>
    let k := d.arg z 0
    let mode := d.arg z 1
    let seat := d.arg z 2
    let sink := d.arg z 3
    let src := d.arg z 4
    let pos := d.arg z 5
    let rc := d.arg z 6
    let rn := d.arg z 9
    checked [need (if k < 16 then decide (mode ≤ 1) && decide (seat < 32) && src != 0 else mode == 2 && seat == 0 && decide (src < 64))
        stBAD, addrOk rc, need ((decide (4 ≤ rn) && decide (rn ≤ 10)) || (rc == 0 && rn == 0)) stBAD, bindOk [d.arg z 10],
      (if k < 16 then channelsC s d.session src
       else firstBad [heldC s d.session (.converter (src % 8)),
         need (!asrcOut s (src % 8) && asrcPeriod s (src % 8) == 2048 && decide (src / 8 < asrcCh s (src % 8))) stBAD]),
      sinkC s d.session k sink pos (d.arg z 7) (d.arg z 8), need (s.owner (.stream k) == none) stNORES] s
      (match pickCore s k with
      | none => (s, .fail stNORES 0)
      | some c =>
        withBinds d [(0x03010 + 0x100000 * k, 0x180 + k, d.arg z 10)] s (fun s =>
          let s := s.take d (.stream k)
          let s := { s with denrek := { s.denrek with serving := s.denrek.serving ++ [(k, c)] } }
          let b := (s.now / hopTicks + 1) * hopTicks
          let s := (s.setLstr k LynxStr.reset).setStrm k
            ⟨true, b, false, mode, seat, sink, src, pos, rc, rn, d.arg z 7, d.arg z 8, s.freeCtr, b, 0, true⟩
          ({ s with freeCtr := s.freeCtr + 1 }, .done b [])))) s

/-- STREAM_CLOSE (R458): completes at the next hop boundary. -/
def execStreamClose (d : Desc) (s : State) : Out :=
  runCmd d 0x0302 [1] (fun s d => slotC s d (d.arg [1] 0)) (fun s d =>
    let k := d.arg [1] 0
    (s.setStrm k { s.strm k with closing := true }, .later (.streamClose k))) s

/-- STREAM_ROUTE (R29): applies at the next publication. -/
def execStreamRoute (d : Desc) (s : State) : Out :=
  let z := [1, 1, 1]
  runCmd d 0x0303 z (fun s d => slotC s d (d.arg z 0)) (fun s d =>
    let k := d.arg z 0
    checked [need (if k < 16 then decide (d.arg z 1 ≤ 1) && decide (d.arg z 2 < 32) else d.arg z 1 == 2 && d.arg z 2 == 0)
      stBAD] s (s, .later (.streamRoute k (d.arg z 1) (d.arg z 2)))) s

/-- The OR of the global-mute votes reaches GUST_MUTE (R226, R519). -/
def putGlobalMute (s : State) : State :=
  touchAll (s.setF GUST_MUTE_GLOBAL (bit (orVote s .globalMute != 0 || s.pwr.crit || s.pwr.phase == .drainPark
    || s.pwr.phase == .parkEntry)))

/-- ROUTE_GLOBAL_MUTE (R226). -/
def execRouteGlobalMute (d : Desc) (s : State) : Out :=
  runCmd d 0x0304 [1] (fun _ _ => 0) (fun s d =>
    checked [need (decide (d.arg [1] 0 ≤ 1)) stBAD] s
      (putGlobalMute (s.setVote .globalMute d.session (d.arg [1] 0)), .ok)) s

/-- STREAM_STATUS (R447): the slot's Lynx registers. -/
def execStreamStatus (d : Desc) (s : State) : Out :=
  let z := [1, 8]
  runCmd d 0x0305 z (fun _ d => need (decide (d.arg z 0 < 24)) stBAD) (fun s d =>
    let k := d.arg z 0
    outStatus d (d.arg z 1) [.w (LYNX_STR_CFG k), .w (LYNX_STR_POL k), .w (LYNX_STR_STAT k)] s) s

end Sys2Proof.Machine
end

