-- ==== Sys2Proof/Machine/Power.lean ====
section
/-! DEFINITION. Power states, votes, drains and the engine rail, throttling, the Dormouse island (R74 to R101, R608). The
commit of PARK and the end of a wake stand with the reset rows. (DEDUCED, log entry 18). -/

namespace Sys2Proof.Machine

/-! ### Requests (R77 to R79, R93, R97, R100) -/

/-- The state WAKE_TARGET names. -/
def wakeTarget (s : State) : Nat := if s.isSet PWR_CTRL_WAKE_TARGET then 3 else 2

/-- The requested state (R77): 1 PARK, 2 DOZE, 3 RUN. -/
def reqState (s : State) : Nat :=
  max (max 1 (maxVote s .state)) (if s.pwr.holdUntil.isSome then wakeTarget s else 1)

/-- The request that acts: PARK under CRIT (R100), else PWR_CTRL.REQ, where 0b00 acts as PARK. -/
def wantState (s : State) : Nat := if s.pwr.crit then 1 else max 1 (s.getF PWR_CTRL_REQ)

/-- The wake hold starts (R78). -/
def startHold (s : State) : State :=
  let n := s.getF PWR_CTRL_WAKE_HOLD
  { s with pwr := { s.pwr with holdUntil := if n = 0 then none else some (s.now + n * 983040) } }

/-- PWR_LYNX_EN goes to a level (R83). -/
def setLynxEn (b : Bool) (s : State) : State :=
  if s.pwr.lynxEn == b then s
  else { s with pwr := { s.pwr with lynxEn := b, lynxEnAt := if b then s.now else s.pwr.lynxEnAt } }

/-- Lynx and Fog start or stop draining. -/
def setDrain (b : Bool) (s : State) : State :=
  { s with lynx := { s.lynx with draining := b }, fog := { s.fog with draining := b } }

def setPhase (p : PwrPhase) (s : State) : State := { s with pwr := { s.pwr with phase := p } }

/-- Serial directions that are started. -/
def startedMask (s : State) : Nat :=
  (List.range 8).foldl (fun m i => if tdStarted s (i / 2) (i % 2) then m + 2 ^ i else m) 0

/-- Those of them that no stop of their own has reached. -/
def runningMask (s : State) : Nat :=
  (List.range 8).foldl (fun m i =>
    if tdStarted s (i / 2) (i % 2) && !s.isSet (TDM_CTRL_STOP (i / 2) (i % 2)) then m + 2 ^ i else m) 0

/-- PARK entry begins (R80, R81, the transitions table): ports stop silently, Gust is muted, Lynx and Fog drain. A trigger that
is pending stays so until the commit. -/
def startPark (from' : Nat) (s : State) : State :=
  let s := { s with pwr := { s.pwr with phase := .drainPark, drainFrom := s.now, origin := from', stopped := runningMask s } }
  setDrain true (forDirs stopDir (putGlobalMute (s.setF PWR_STATUS_STATE 4)))

/-- The DOZE to RUN transition begins (R83): the rail is asked for; its engines are ungated by LYNX_UNGATE. -/
def startRaise (s : State) : State :=
  if 4 ≤ s.getF PWR_STATUS_STEP then s.setF PWR_STATUS_STATE 3
  else setPhase .raising (setLynxEn true s)

/-- A steady DOZE or RUN moves toward a state; no transition starts before boot has ended or while the Sett controller is
held (R123, R590). -/
def steadyTo (want : Nat) (s : State) : State :=
  let st := s.getF PWR_STATUS_STATE
  if (st ≠ 2 ∧ st ≠ 3) ∨ s.getF (DBG_CORE_CTRL_STATE 4) ≠ 0 ∨ s.getF SYS_BOOT_STATUS_CODE ≠ 5 then s
  else if want = 1 then startPark st s
  else if want = 2 ∧ st = 3 then
    setDrain true ({ s with pwr := { s.pwr with phase := .drainDoze, drainFrom := s.now } }.setF PWR_STATUS_STATE 6)
  else if want = 3 ∧ st = 2 then startRaise s
  else s

/-- What a steady DOZE or RUN does about the request. -/
def steadyGo (s : State) : State := steadyTo (wantState s) s

/-- PARK entry is undone (R81, R96, R97): its steps are reversed, and the directions it stopped start again. -/
def undoPark (s : State) : State :=
  let s := setDrain false (setPhase .steady s)
  let s := (s.setF PWR_STATUS_STATE (if railOn s then s.pwr.origin else 2)).hitF PWR_EVT_ENTRY_UNDONE 1
  putGlobalMute (restartDirs s.pwr.stopped s)

/-- Firmware writes the combined vote (R93); direct mode leaves PWR_CTRL.REQ as it is. -/
def putReq (s : State) : State :=
  if s.isSet HOSTIF_DIRECT_STAT_OPEN then s else s.setF PWR_CTRL_REQ (reqState s)

/-- In DOZE, PWR_LYNX_EN is low when PWR_PARK_CFG.LYNX_OFF_DOZE is 1, and high when it is 0 (R83). -/
def settleRail (s : State) : State :=
  if s.pwr.phase = .steady ∧ s.getF PWR_STATUS_STATE = 2 ∧ s.getF SYS_BOOT_STATUS_CODE = 5 then
    setLynxEn (!s.isSet PWR_PARK_CFG_LYNX_OFF_DOZE) s
  else s

/-- The request is evaluated (R77, R97). -/
def powerMove (s : State) : State :=
  let s := putReq s
  let want := wantState s
  match s.pwr.phase with
  | .steady => steadyGo s
  | .raising => if want = 3 then s else steadyGo (setPhase .steady s)
  | .drainDoze =>
    if want = 3 then (setDrain false (setPhase .steady s)).setF PWR_STATUS_STATE 3
    else if want = 1 then startPark 3 s else s
  | .drainPark => if want = 1 then s else steadyGo (undoPark s)
  | .parkEntry => if want = 1 then s else steadyGo (undoPark s)
  | .parked => s
  | .waking => s

/-- The request is evaluated, and the rail follows the state reached (R77, R83, R97). -/
def powerEval (s : State) : State := settleRail (powerMove s)

/-- A wake before the commit undoes the entry; the part goes to the greater of the request and WAKE_TARGET, and the wake hold
runs (R78, R96). With no hold the request acts again at its next evaluation. (DEDUCED, log entry 19). -/
def undoWake (s : State) : State :=
  let s := putReq (startHold (undoPark s))
  settleRail (steadyTo (max (wantState s) (wakeTarget s)) s)

/-- WAKE_HOLD_END (R78). -/
def execWakeHoldEnd (s : State) : Out :=
  match s.pwr.holdUntil with
  | some t => if t ≤ s.now then .next (powerEval { s with pwr := { s.pwr with holdUntil := none } }) else .next s
  | none => .next s

/-! ### The engine rail (R75, R79, R80, R83, R608) -/

/-- The memory [lo, hi) loses its content: what it holds then is left open. (DESIGN CHOICE, log entry 2). -/
def loseMem (lo hi : Nat) (s : State) : State :=
  let es := s.mem.filter (fun e => decide (lo ≤ e.1) && decide (e.1 < hi))
  let c := s.freeCtr
  let keep := fun (l : List Nat) => l.filter (fun w => decide (w < lo) || decide (hi ≤ w))
  es.foldl (fun s e => s.setByte e.1 (Config.freeByte c e.1))
    { s with freeCtr := c + 1, ecc := { s.ecc with ce := keep s.ecc.ce, ue := keep s.ecc.ue } }

/-- Every engine and Fog is shown anew. -/
def showEngines (s : State) : State := fogShow (forN 8 lynxShow s)

/-- Lynx and Fog are gated. -/
def gateEngines (s : State) : State :=
  showEngines ((setDrain false s).setF PWR_STATUS_LYNX_ON 0 |>.setF PWR_STATUS_FOG_ON 0)

/-- Models, keys and both memories of the rail are lost (R75, the power-states table). (DEDUCED, log entry 20). -/
def loseEngines (s : State) : State :=
  loseMem fogBase (fogBase + 0x40_0000) (loseMem 0x1000_0000 0x1100_0000 (fogLose (lynxLose s)))

/-- The drain has ended: the transition gates the engines (R80). At S4 they are gated in their state (R88). -/
def drainEnds (s : State) : State :=
  match s.pwr.phase with
  | .drainDoze =>
    let s := gateEngines (loseEngines s)
    powerEval ((setPhase .steady s).setF PWR_STATUS_STATE 2)
  | .drainPark => setPhase .parkEntry (gateEngines (loseEngines s))
  | _ => gateEngines s

/-- A drain runs: of a transition, or of S4. -/
def drainRuns (s : State) : Bool :=
  s.lynx.draining && (s.pwr.phase == .drainDoze || s.pwr.phase == .drainPark || s.pwr.phase == .steady)

/-- DRAIN_DONE (R80). -/
def execDrainDone (s : State) : Out :=
  if drainRuns s && lynxDrained s && fogDrained s then .next (drainEnds s) else .next s

/-- DRAIN_TIMEOUT (R80): DRAIN_TO ms after the drain began, the rest completes with ABORTED. -/
def execDrainTimeout (s : State) : Out :=
  if drainRuns s && !(lynxDrained s && fogDrained s)
      && decide (s.pwr.drainFrom + max 1 (s.getF PWR_CTRL_DRAIN_TO) * 98304 ≤ s.now) then
    .next (drainEnds ((fogAbort (lynxAbort s)).hitF PWR_EVT_DRAIN_ABORT 1))
  else .next s

/-- The rail is to be ungated: a DOZE to RUN transition, a wake to RUN, or RUN after S4 or after a rail that failed. -/
def ungateDue (s : State) : Bool :=
  s.pwr.lynxEn && !railOn s && s.getF SYS_BOOT_STATUS_CODE == 5 && decide (s.getF PWR_STATUS_STEP < 4)
    && (s.pwr.phase == .raising || (s.pwr.phase == .steady && s.getF PWR_STATUS_STATE == 3)
      || (s.pwr.phase == .waking && s.clk.fast && max (wantState s) (wakeTarget s) == 3))

/-- Power reaches every engine and Fog: they leave FAULT (R608). -/
def ungateEngines (s : State) : State :=
  let s := (s.setF PWR_STATUS_LYNX_ON 0xFF).setF PWR_STATUS_FOG_ON 1
  showEngines (forN 8 lynxUnfault { s with pwr := { s.pwr with lynxRailOk := true } })

/-- LYNX_UNGATE (R83, R608): 1 ms after PWR_LYNX_EN rose, with VDD_LYNX at 0.70 V or above. -/
def execLynxUngate (railMv : Nat) (s : State) : Out :=
  if !ungateDue s || decide (s.now < s.pwr.lynxEnAt + 98304) || decide (railMv < 700) then .next s
  else
    let s := ungateEngines s
    if s.pwr.phase = .raising then .next (powerEval ((setPhase .steady s).setF PWR_STATUS_STATE 3)) else .next s

/-- VDD_LYNX_CHECK (R608, R626): still below 0.70 V 10 ms after PWR_LYNX_EN rose, every engine and Fog enter FAULT; the
rest of the part goes on to the state requested. -/
def execVddLynxCheck (railMv : Nat) (s : State) : Out :=
  if !ungateDue s || !s.pwr.lynxRailOk || decide (s.now < s.pwr.lynxEnAt + 983040) || decide (700 ≤ railMv) then .next s
  else
    let s := { s with pwr := { s.pwr with lynxRailOk := false } }
    let s := (fogFaulted 0 0 0xFFFF (forN 8 (fun n s => lynxFaulted n 0 stENGINE 0 s) s)).notice 6 0x1FF
    if s.pwr.phase = .raising then .next (powerEval ((setPhase .steady s).setF PWR_STATUS_STATE 3)) else .next s

/-- Engine n is powered and idle, with no program loaded (R79). -/
def engineIdle (s : State) (n : Nat) : Bool :=
  s.getB PWR_STATUS_LYNX_ON n && (progsOf s n).isEmpty && (jobsOf s n).isEmpty

/-- The tick from which each engine has been idle (R79). -/
def trackIdle (s : State) : State :=
  let t := (List.range 8).foldl (fun t n =>
    tabPut none n (if engineIdle s n then some ((tabGet none n s.pwr.idleFrom).getD s.now) else none) t) s.pwr.idleFrom
  if t = s.pwr.idleFrom then s else { s with pwr := { s.pwr with idleFrom := t } }

/-- LYNX_IDLE_GATE (R79): under AUTO an idle engine without a program is power-gated after GATE_IDLE µs of device time. -/
def execLynxIdleGate (n : Nat) (s : State) : Out :=
  match tabGet none n s.pwr.idleFrom with
  | some t =>
    if n < 8 && engineIdle s n && !s.isSet PWR_CTRL_HOLD_CLK
        && decide (max 1 (s.getF PWR_CTRL_GATE_IDLE) * 98304 ≤ (s.now - t) * 1000) then
      .next (lynxShow n (s.clrB PWR_STATUS_LYNX_ON n))
    else .next s
  | none => .next s

/-! ### Throttling (R88, R100) -/

/-- The maximum junction temperature of the part's grade (R19). -/
def tjLimit (s : State) : Int := if s.boot.gradeA then 125 else 105

/-- The threshold of step k, 1 to 5. -/
def stepAt (s : State) (k : Nat) : Int :=
  tjLimit s + (match k with | 1 => -10 | 2 => -6 | 3 => -3 | 4 => 0 | _ => 5)

/-- The step at Tj from the step in force: entered at its threshold, left 3 °C below it. -/
def nextStep (s : State) (tj : Int) (cur : Nat) : Nat :=
  (List.range 5).foldl (fun m i =>
    let k := i + 1
    if stepAt s k ≤ tj || (decide (k ≤ cur) && decide (stepAt s k - 3 < tj)) then max m k else m) 0

/-- The Fog clock of a step: FOG_STAT.CLK 0 full, 1 at S1, 2 from S2 on. -/
def fogClock (k : Nat) : Nat := min k 2

/-- The step changes (R88, R100). -/
def stepTo (k : Nat) (tj : Int) (s : State) : State :=
  let old := s.getF PWR_STATUS_STEP
  let s := withFaultPin (fun s =>
    let s := ((s.setF PWR_STATUS_STEP k).hitF PWR_EVT_STEP_CHANGE 1).setF FOG_STAT_CLK (fogClock k)
    let s := when (4 ≤ k && old < 4) (fun s => s.hitF ERR_STAT_3_STEP_S4 1) s
    when (k == 5) (fun s => (s.hitF ERR_STAT_3_CRIT 1).hitF PWR_EVT_CRIT 1) s) s
  let s := s.notice 2 (k + 65536 * ofSigned 9 tj)
  let s := if 4 ≤ k ∧ old < 4 ∧ railOn s ∧ s.pwr.phase = .steady then
      setDrain true { s with pwr := { s.pwr with drainFrom := s.now } }
    else if k < 4 ∧ 4 ≤ old ∧ s.pwr.phase = .steady then setDrain false s else s
  if k = 5 then powerEval (putGlobalMute { s with pwr := { s.pwr with crit := true } }) else s

/-- A wake detected at `at_` starts (R57, R85, R87, R100): the core powers up and the sources qualify anew, but for a crystal
that PWR_PARK_CFG.XTAL_ON kept running (R84). -/
def startWake (at_ : Nat) (s : State) : State :=
  let keep := s.isSet PWR_PARK_CFG_XTAL_ON
  unqualifyAll (fun k => k == 1 && keep)
    (({ s with pwr := { s.pwr with phase := .waking, wakeAt := at_, wakeDue := none } }).setF PWR_STATUS_STATE 5)

/-- Leaving CRIT (R100): Tj below L - 10. Where the entry to PARK that CRIT forced has not committed, it is undone as a wake
undoes it. (DESIGN CHOICE, log entry 69). -/
def leaveCrit (s : State) : State :=
  let s := putGlobalMute { s with pwr := { s.pwr with crit := false } }
  match s.pwr.phase with
  | .parked => startWake s.now s
  | .drainPark => undoWake s
  | .parkEntry => undoWake s
  | _ => powerEval s

/-- THERMAL_SAMPLE (R88, R100): the hottest of the six sensors, °C. (DEDUCED, log entries 19 and 22). -/
def execThermalSample (sensors : List Int) (s : State) : Out :=
  let six := sensors.take 6
  match six with
  | [] => .next s
  | x :: r =>
    let tj := satS 9 (r.foldl max x)
    let s := s.setF PWR_THERM_TJ (ofSigned 9 tj)
    let old := s.getF PWR_STATUS_STEP
    let k := nextStep s tj old
    let s := if k = old then s else stepTo k tj s
    .next (if s.pwr.crit && decide (tj < tjLimit s - 10) then leaveCrit s else s)

/-! ### Wake sources (R85, R86, R96, R98 to R100) -/

/-- A source bit of PWR_WAKE_SRC is set; WAKE_OUT_N is driven for it (R86). -/
def latchWake (bits : Nat) (s : State) : State :=
  let s := ((s.note PWR_WAKE_SRC).mark PWR_WAKE_SRC bits).setF PWR_WAKE_SRC_SRC (s.getF PWR_WAKE_SRC_SRC ||| bits)
  when (bits &&& s.getF PWR_WAKE_OUT_SRC != 0) (fun s => s.hitF PWR_WAKE_OUT_ACTIVE 1) s

/-- WAKE_IN is active: DEBOUNCE consecutive slow ticks at the active level POL names; with EDGE, at the tick that completes
them (the wake-sources table, PWR_WAKE_IN_CFG). `levels` are those of the last slow-clock edges, newest first. -/
def wakeInActive (s : State) (levels : List Bool) : Bool :=
  let act := fun (b : Bool) => b == s.isSet PWR_WAKE_IN_CFG_POL
  let n := max 1 (s.getF PWR_WAKE_IN_CFG_DEBOUNCE)
  decide (n ≤ levels.length) && (levels.take n).all act
    && (!s.isSet PWR_WAKE_IN_CFG_EDGE || (match levels[n]? with | some b => !act b | none => false))

/-- WHEEL is active: COUNT edges of the wheel ticks, as device-time instants, within WINDOW (the wake-sources table). -/
def wheelActive (s : State) (edges : List Nat) : Bool :=
  let span := max 1 (s.getF PWR_WHEEL_CFG_WINDOW) * 12288000
  decide (max 1 (s.getF PWR_WHEEL_CFG_COUNT) ≤ (edges.filter (fun t => decide (t ≤ s.now) && decide (s.now < t + span))).length)

/-- Sources active at the edge: the edges found at the balls of PCIE, SPIA, SPIB and TWIN, WAKE_IN and WHEEL as configured,
the keyword hit held (R99) and the alarm (R60). (DEDUCED, log entry 19). -/
def activeSources (pins : Nat) (wakeIn : List Bool) (wheel : List Nat) (s : State) : Nat :=
  (pins &&& 0x4E) + bit (s.isSet DORMOUSE_HIT_VALID) + 16 * bit (wakeInActive s wakeIn) + 32 * bit (wheelActive s wheel)
    + 128 * bit (s.isSet CLK_EVT_ALARM)

/-- WAKE_DETECT (R85, R96, R98, R100): sources are sampled at a slow-clock edge. Before the commit of PARK a wake undoes the
entry; at the edge of the commit it starts at the next edge; an SPI transaction whose chip select caused it is not executed. -/
def execWakeDetect (pins : Nat) (wakeIn : List Bool) (wheel : List Nat) (s : State) : Out :=
  let en := if s.pwr.crit then s.getF PWR_WAKE_EN_EN &&& 0x90 else s.getF PWR_WAKE_EN_EN
  let bits := activeSources pins wakeIn wheel s &&& en
  if bits = 0 then .next s
  else
    let s := latchWake bits s
    if s.pwr.crit then .next s
    else match s.pwr.phase with
      | .parked =>
        if s.now = s.pwr.parkedAt then .next { s with pwr := { s.pwr with wakeDue := some s.now } }
        else .next (startWake s.now s)
      | .drainPark => .next (undoWake { s with pwr := { s.pwr with csWake := bits / 4 % 4 } })
      | .parkEntry => .next (undoWake { s with pwr := { s.pwr with csWake := bits / 4 % 4 } })
      | _ => .next s

/-- What an edge of the counting clock does in the power unit: a wake detected at the commit edge starts (R96), and the idle
time of each engine is kept (R79). -/
def pwrTick (s : State) : State :=
  let s := trackIdle s
  match s.pwr.wakeDue with
  | some t => if s.pwr.phase = .parked ∧ t < s.now then startWake t s else s
  | none => s

/-- WAKE_OUT_RELEASE (R86). -/
def execWakeOutRelease (s : State) : Out := .next (s.wipeF PWR_WAKE_OUT_ACTIVE)

/-! ### The Dormouse island (R89 to R92, R99) -/

/-- Island microphones enabled. -/
def dormMics (ctrl : Nat) : Nat := popCount 4 (DORMOUSE_CTRL_MIC_MASK.img ctrl)

/-- Bytes of the pre-roll ring of a DORMOUSE_CTRL image (R90): 16 kHz, 16 bits. -/
def prerollBytes (ctrl : Nat) : Nat :=
  if DORMOUSE_CTRL_PREROLL_EN.img ctrl = 1 then min 2000 (DORMOUSE_CTRL_PREROLL_MS.img ctrl) * 32 * dormMics ctrl else 0

/-- The three users of Dormouse RAM fit (R92). -/
def dormFits (s : State) (ctrl model : Nat) : Bool :=
  decide (DORMOUSE_MODEL_SIZE.img model * 4096 + prerollBytes ctrl + s.pwr.islandCode ≤ 524288)

/-- The entry that hits: the highest score, ties to the lower index (R89, R99). -/
def kwsBest (s : State) (scores : List Nat) : Option (Nat × Nat) :=
  (List.range (min 64 (s.getF DORMOUSE_MODEL_ENTRIES))).foldl (fun best n =>
    let x := min 255 (scores.getD n 0)
    if s.isSet (DORMOUSE_THR_EN n) && decide (s.getF (DORMOUSE_THR_THR n) ≤ x) then
      match best with
      | some (m, y) => if y < x then some (n, x) else some (m, y)
      | none => some (n, x)
    else best) none

/-- The address of byte `k` of the pre-roll ring: the bytes of Dormouse RAM that neither the model nor the island code
occupies, in ascending order (R90, the allocation list). (DESIGN CHOICE, log entry 21). -/
def prerollAddr (s : State) (k : Nat) : Nat :=
  let m := (s.getF DORMOUSE_MODEL_BASE * 4096, (s.getF DORMOUSE_MODEL_BASE + s.getF DORMOUSE_MODEL_SIZE) * 4096)
  let code := (tabGet Image.reset 3 s.boot.images).addr - dormBase
  let c := (code, code + s.pwr.islandCode)
  let lo := if m.1 ≤ c.1 then m else c
  let hi := if m.1 ≤ c.1 then c else m
  let x := if lo.1 ≤ k then k + (lo.2 - lo.1) else k
  let from' := max hi.1 lo.2
  dormBase + (if from' ≤ x then x + (hi.2 - from') else x)

/-- The samples of a frame go to the ring, little-endian, in the order given (R90). -/
def prerollPut (audio : List (BitVec 16)) (s : State) : State :=
  let ring := prerollBytes (s.reg DORMOUSE_CTRL).toNat
  (audio.flatMap (fun x => leBytes 2 x.toNat)).foldl (fun s b =>
    let w := s.getF DORMOUSE_PREROLL_WR
    (s.setByte (prerollAddr s w) b).setF DORMOUSE_PREROLL_WR ((w + 1) % ring)) s

/-- The frame is one the island can have heard (R89, R90): its last sample lies the island's group delay back, within a slow
tick, and it holds 160 samples of each enabled microphone. -/
def frameFits (s : State) (lastSample : Nat) (audio : List (BitVec 16)) : Bool :=
  decide (s.now ≤ lastSample + 98304 + 3000) && decide (lastSample + 98304 ≤ s.now + 3000)
    && audio.length == 160 * dormMics (s.reg DORMOUSE_CTRL).toNat

/-- KWS_FRAME (R89, R90): the scores of a frame whose last sample has the acoustic instant given, and the frame's samples,
those of the enabled microphones ascending at each instant. (DESIGN CHOICE, log entry 21). -/
def execKwsFrame (scores : List Nat) (lastSample : Nat) (audio : List (BitVec 16)) (s : State) : Out :=
  if !s.isSet DORMOUSE_STATUS_LISTENING || !frameFits s lastSample audio then .next s
  else
    let s := when (s.pwr.preroll && prerollBytes (s.reg DORMOUSE_CTRL).toNat != 0) (prerollPut audio) s
    match (if s.isSet DORMOUSE_STATUS_MODEL_OK then kwsBest s scores else none) with
    | none => .next s
    | some (n, x) =>
      if s.isSet DORMOUSE_HIT_VALID then .next s
      else
        let s := ((s.setF DORMOUSE_HIT_INDEX n).setF DORMOUSE_HIT_SCORE x).hitF DORMOUSE_HIT_VALID 1
        .next { s.set64 DORMOUSE_HIT_TIME_LO lastSample with pwr := { s.pwr with preroll := false } }

/-- The hit is cleared and the pre-roll ring re-armed (R90). -/
def rearm (s : State) : State :=
  let s := s.wipeF DORMOUSE_HIT_VALID
  { s with pwr := { s.pwr with preroll := !s.isSet DORMOUSE_HIT_VALID } }

/-- DORMOUSE_HIT_VALID_WRITE (R90). -/
def execDormouseHitValidWrite (s : State) : Out := .next (rearm s)

/-! ### Commands (R93, R469) -/

/-- POWER_SET_STATE (R77). -/
def execPowerSetState (d : Desc) (s : State) : Out :=
  runCmd d 0x0D06 [1] (fun _ _ => 0) (fun s d =>
    checked [need (decide (d.arg [1] 0 ≤ 3)) stBAD] s
      (let s := s.setVote .state d.session (d.arg [1] 0)
       let r := reqState s
       (powerEval s, .done r []))) s

/-- The clock demand in force (R79): HOLD powers every engine of the rail. -/
def putClocks (s : State) : State :=
  let h := min 1 (maxVote s .clocks)
  let s := s.setF PWR_CTRL_HOLD_CLK h
  if h = 1 ∧ railOn s ∧ s.getF PWR_STATUS_LYNX_ON ≠ 0xFF then showEngines (s.setF PWR_STATUS_LYNX_ON 0xFF) else s

/-- POWER_SET_CLOCKS (R79). -/
def execPowerSetClocks (d : Desc) (s : State) : Out :=
  runCmd d 0x0D07 [1] (fun _ _ => 0) (fun s d =>
    checked [need (decide (d.arg [1] 0 ≤ 1)) stBAD] s
      (putClocks (s.setVote .clocks d.session (d.arg [1] 0)), .ok)) s

/-- POWER_STATUS: state, step, the combined votes, the wake sources and Tj. (DEDUCED, log entry 22). -/
def execPowerStatus (d : Desc) (s : State) : Out :=
  runCmd d 0x0D08 [8] (fun _ _ => 0) (fun s d =>
    outStatus d (d.arg [8] 0) [.w PWR_STATUS, .w PWR_CTRL, .w PWR_WAKE_SRC, .w PWR_THERM] s) s

/-- The registers of the wake configuration. -/
def wakeRegs : List Nat := [PWR_WAKE_EN, PWR_WAKE_IN_CFG, PWR_WHEEL_CFG, PWR_WAKE_OUT, PWR_CTRL, PWR_PARK_CFG]

/-- POWER_SET_WAKE (R93, R469). -/
def execPowerSetWake (d : Desc) (s : State) : Out :=
  let z := [4, 4, 4, 4, 4, 4]
  runCmd d 0x0D09 z (fun s d => claimC s d .wake) (fun s d =>
    let ign := fun i => if i = 4 then [PWR_CTRL_REQ, PWR_CTRL_HOLD_CLK] else []
    let wheel := d.arg z 2
    let ctrl := d.arg z 4
    checked ((List.range 6).map (fun i => imgOk (wakeRegs.getD i 0) [] (ign i) (d.arg z i))
        ++ [need (PWR_WHEEL_CFG_COUNT.img wheel != 0 && PWR_WHEEL_CFG_WINDOW.img wheel != 0
          && PWR_CTRL_GATE_IDLE.img ctrl != 0 && PWR_CTRL_DRAIN_TO.img ctrl != 0) stBAD]) s
      (let s := s.take d .wake
       (powerEval (forN 6 (fun i s => s.setImg (wakeRegs.getD i 0) [] (ign i) (d.arg z i)) s), .ok))) s

/-- DORMOUSE_LOAD_MODEL (R89, R92). (DESIGN CHOICE, log entry 21). -/
def execDormouseLoadModel (d : Desc) (s : State) : Out :=
  let z := [8, 4]
  runCmd d 0x0D0A z (fun s d => claimC s d .dormouse) (fun s d =>
    let m := d.arg z 1
    let size := DORMOUSE_MODEL_SIZE.img m
    let base := DORMOUSE_MODEL_BASE.img m
    let n := DORMOUSE_MODEL_ENTRIES.img m
    checked [addrOk (d.arg z 0), imgOk DORMOUSE_MODEL [] [] m,
      need (decide (1 ≤ size) && decide (size ≤ 64) && decide (1 ≤ n) && decide (n ≤ 64) && decide (base + size ≤ 128)) stBAD,
      need (dormFits s (s.reg DORMOUSE_CTRL).toNat m) stNORES] s
      (withMem (readMem d (d.arg z 0) (size * 4096) s) (fun s bs =>
        let s := ((s.take d .dormouse).setBytes (dormBase + base * 4096) bs).setImg DORMOUSE_MODEL [] [] m
        (s.setF DORMOUSE_STATUS_MODEL_OK 1, .ok)))) s

/-- DORMOUSE_SET_VOCAB (R89): COUNT images of DORMOUSE_THR_n from entry FIRST. -/
def execDormouseSetVocab (d : Desc) (s : State) : Out :=
  let z := [1, 1, 8]
  runCmd d 0x0D0B z (fun s d => claimC s d .dormouse) (fun s d =>
    let first := d.arg z 0
    let n := d.arg z 1
    checked [addrOk (d.arg z 2), need (decide (first + n ≤ 64)) stBAD] s
      (withMem (readMem d (d.arg z 2) (4 * n) s) (fun s bs =>
        let img := fun i => recField bs (4 * i) 4
        checked ((List.range n).map (fun i => imgOk (DORMOUSE_THR (first + i)) [] [] (img i))) s
          (forN n (fun i s => s.setImg (DORMOUSE_THR (first + i)) [] [] (img i)) (s.take d .dormouse), .ok)))) s

/-- DORMOUSE_CONFIG (R90, R92). -/
def execDormouseConfig (d : Desc) (s : State) : Out :=
  runCmd d 0x0D0C [4] (fun s d => claimC s d .dormouse) (fun s d =>
    let c := d.arg [4] 0
    checked [imgOk DORMOUSE_CTRL [] [] c, need (decide (DORMOUSE_CTRL_PREROLL_MS.img c ≤ 2000) && dormMics c != 0) stBAD,
      need (dormFits s c (s.reg DORMOUSE_MODEL).toNat) stNORES] s
      (((s.take d .dormouse).setImg DORMOUSE_CTRL [] [] c).setF DORMOUSE_PREROLL_WR 0, .ok)) s

/-- DORMOUSE_READ (R90, R469): the 16-byte hit record, then the pre-roll, oldest first; the ring is re-armed. -/
def execDormouseRead (d : Desc) (s : State) : Out :=
  let z := [8, 4]
  runCmd d 0x0D0D z (fun s d => claimC s d .dormouse) (fun s d =>
    let len := d.arg z 1
    checked [need (decide (16 ≤ len)) stBAD] s
      (let ring := prerollBytes (s.reg DORMOUSE_CTRL).toNat
       let w := s.getF DORMOUSE_PREROLL_WR
       let hit := leBytes 4 (s.reg DORMOUSE_HIT).toNat ++ leBytes 4 0 ++ leBytes 8 (s.r64 DORMOUSE_HIT_TIME_LO)
       let bs := hit ++ (List.range (min (len - 16) ring)).map (fun i => s.byte (prerollAddr s ((w + i) % ring)))
       match outRecord d (d.arg z 0) bs (s.take d .dormouse) with
       | (s, .done r x) => (rearm s, .done r x)
       | r => r)) s

/-- The wake configuration's claim is released: it returns to its reset values (R424). (DEDUCED, log entry 20). -/
def releaseWake (s : State) : State :=
  let keep := fldMask [PWR_CTRL_REQ, PWR_CTRL_HOLD_CLK]
  let c := (s.reg PWR_CTRL).toNat &&& keep
  let s := wakeRegs.foldl (fun s a => s.setImg a [] [] (resetWord a).toNat) s
  let r := (s.reg PWR_CTRL).toNat
  powerEval ((s.setReg PWR_CTRL (BitVec.ofNat 32 (r - (r &&& keep) + c))).release .wake)

/-- The Dormouse configuration's claim is released: it returns to its reset values (R424).
(DESIGN CHOICE, log entry 21). -/
def releaseDormouse (s : State) : State :=
  let s := (s.setReg DORMOUSE_CTRL (resetWord DORMOUSE_CTRL)).setReg DORMOUSE_MODEL (resetWord DORMOUSE_MODEL)
  let s := forN 64 (fun n s => s.setReg (DORMOUSE_THR n) (resetWord (DORMOUSE_THR n))) s
  (s.setF DORMOUSE_STATUS_MODEL_OK 0).release .dormouse

end Sys2Proof.Machine
end

