-- ==== Sys2Proof/Machine/Denrek.lean ====
section
/-! DEFINITION. Denrek: mailboxes, notices, rings, completions and their mirrors (R413 to R442, R476 to R490, R546),
sessions and what their closing releases (R422 to R425, R488), the session and sync families.
(DESIGN CHOICE, log entry 65; DEDUCED, log entry 41). -/

namespace Sys2Proof.Machine

/-! ### Indices and doorbells (R417, R419, R429, R437, R543) -/

/-- The pair runs in lockstep. -/
def paired (s : State) : Bool := s.getF TWIN_STAT_STATE == 3

/-- Port `p` is ready. -/
def portIsReady (s : State) (p : Nat) : Bool := decide (p < 10) && s.isSet (MBOX_STAT_READY p)

/-- Ring `r` is in use and assigned to port `p` (R413). -/
def ringOf (s : State) (p r : Nat) : Bool := decide (r < 64) && s.isSet (RING_CFG_EN r) && s.getF (RING_CFG_PORT r) == p

/-- A rejected mailbox index write. -/
def protoErr (p : Nat) (s : State) : State :=
  withFaultPin (fun s => s.hitF ERR_STAT_2_PROTO_ERR 1) (s.hitF (MBOX_STAT_PROTO_ERR p) 1)

/-- A rejected ring index write. -/
def dbErr (r : Nat) (s : State) : State :=
  withFaultPin (fun s => s.hitF ERR_STAT_2_DB_ERR 1) (s.hitF (RING_STAT_DB_ERR r) 1)

/-- IN_TAIL takes a value (R417). -/
def putInTail (p v : Nat) (s : State) : State :=
  let tail := s.getF (MBOX_IN_TAIL_TAIL p)
  let head := s.getF (MBOX_IN_HEAD_HEAD p)
  if idxDiff 8 v tail + idxDiff 8 tail head ≤ 4 then s.setF (MBOX_IN_TAIL_TAIL p) v else protoErr p s

/-- OUT_HEAD takes a value (R419). -/
def putOutHead (p v : Nat) (s : State) : State :=
  if idxDiff 8 v (s.getF (MBOX_OUT_HEAD_HEAD p)) ≤ outUsed s p then s.setF (MBOX_OUT_HEAD_HEAD p) v else protoErr p s

/-- SQ_TAIL takes a value, which serves from the next cycle (R429, R437). -/
def putSqTail (r v : Nat) (s : State) : State :=
  let head := s.getF (RING_SQ_HEAD_HEAD r)
  let n := idxDiff 16 v head
  if n ≤ ringDepth s r ∧ idxDiff 16 (s.getF (RING_SQ_TAIL_TAIL r)) head ≤ n then
    (s.defer (RING_SQ_TAIL r) (s.reg (RING_SQ_TAIL r))).setF (RING_SQ_TAIL_TAIL r) v
  else dbErr r s

/-- CQ_HEAD takes a value, which serves from the next cycle (R429, R437). -/
def putCqHead (r v : Nat) (s : State) : State :=
  let head := s.getF (RING_CQ_HEAD_HEAD r)
  if idxDiff 16 v head ≤ idxDiff 16 (s.getF (RING_CQ_TAIL_TAIL r)) head then
    (s.defer (RING_CQ_HEAD r) (s.reg (RING_CQ_HEAD r))).setF (RING_CQ_HEAD_HEAD r) v
  else dbErr r s

/-- The index register at an address takes a value. -/
def putIndex (a v : Nat) (s : State) : State :=
  let p := a % 65536 / 0x1000
  let r := a % 65536 / 0x400
  if a / 65536 = 0x2003 ∧ a % 0x1000 = 0x400 then putInTail p (v % 256) s
  else if a / 65536 = 0x2003 ∧ a % 0x1000 = 0x40C then putOutHead p (v % 256) s
  else if a / 65536 = 0x2004 ∧ a % 0x400 = 0x18 then putSqTail r (v % 65536) s
  else if a / 65536 = 0x2004 ∧ a % 0x400 = 0x24 then putCqHead r (v % 65536) s
  else s

/-- A host's index write: dropped unless its port is ready, and in PAIRED in force only at its APPLY (R518, R543). -/
def indexWrite (p : Nat) (mine : Bool) (f : State → State) (s : State) : Out :=
  if !portIsReady s p || !mine || paired s then .next s else .next (f s)

/-- MBOX_IN_TAIL_WRITE (R417, R442). -/
def execMboxInTailWrite (p v : Nat) (s : State) : Out := indexWrite p true (putInTail p (v % 256)) s

/-- MBOX_OUT_HEAD_WRITE (R419). -/
def execMboxOutHeadWrite (p v : Nat) (s : State) : Out := indexWrite p true (putOutHead p (v % 256)) s

/-- RING_SQ_TAIL_WRITE (R413, R429). -/
def execRingSqTailWrite (p r v : Nat) (s : State) : Out := indexWrite p (ringOf s p r) (putSqTail r (v % 65536)) s

/-- RING_CQ_HEAD_WRITE (R413, R429). -/
def execRingCqHeadWrite (p r v : Nat) (s : State) : Out := indexWrite p (ringOf s p r) (putCqHead r (v % 65536)) s

/-! ### Messages, completions and mirrors (R415, R416, R419, R420, R433, R546) -/

/-- Completions, fetches and notices of the port go out (R509, R518, R529, R590). -/
def portFlows (s : State) (p : Nat) : Bool :=
  portIsReady s p && s.getF (DBG_CORE_CTRL_STATE 4) == 0 && (decide (8 ≤ p) || !hostWaits s p)

/-- The 32-byte completion record of a command (R415's table). -/
def cmdRecord (c : Cmd) (seq : Nat) : List Byte :=
  leBytes 8 seq ++ leBytes 4 c.desc.tag ++ leBytes 2 c.status
    ++ leBytes 2 (bit c.signalled + 2 * bit c.waited + 4 * bit c.overlapped + 8 * bit c.haltedRing)
    ++ leBytes 8 c.result ++ leBytes 8 c.time

/-- The 64-byte message of a command (R419). -/
def cmdMessage (c : Cmd) (seq : Nat) : List Byte :=
  ((cmdRecord c seq ++ (c.ext.map (fun (w : Word) => leBytes 4 w.toNat)).flatten) ++ List.replicate 32 0).take 64

/-- The 64-byte message of a notice (R420). -/
def noticeMessage (n : Notice) (seq : Nat) : List Byte :=
  leBytes 8 seq ++ leBytes 4 n.code ++ leBytes 2 stDONE ++ leBytes 2 0x8000 ++ leBytes 4 n.detail ++ leBytes 4 n.count
    ++ leBytes 8 n.time ++ List.replicate 32 0

/-- A message is a notice. -/
def isNotice (bs : List Byte) : Bool := bitOf (recField bs 0xE 2) 15

/-- A command leaves the device. -/
def dropCmd (src : Src) (seq : Nat) (s : State) : State :=
  ({ s with denrek := { s.denrek with cmds := s.denrek.cmds.filter (fun c => !(decide (c.src = src) && c.seq == seq)) } }).countTable src

/-- Mirrors kept, with TWIN_JOURNAL.PENDING. -/
def putMirrors (l : List TwinMirror) (s : State) : State :=
  ({ s with twin := { s.twin with mirrors := l } }).setF TWIN_JOURNAL_PENDING (l.filter (fun (m : TwinMirror) => !m.finished)).length

/-- Mirrors of an origin. -/
def mirrorsOf (s : State) (src : Src) : List TwinMirror := s.twin.mirrors.filter (fun m => decide (m.src = src))

/-- The primary waits for the standby's FINISH (R546, R547). -/
def mirrorsOn (s : State) : Bool := paired s && s.getF TWIN_STAT_ROLE == 1 && s.getF TWIN_STAT_CAUSE != 4

/-- The SEQ a new message or completion of an origin takes. -/
def seqAt (s : State) : Src → Nat
  | .mbox p => s.r64 (MBOX_SEQ_LO p)
  | .ring r => s.r64 (RING_SEQ_LO r)

/-- Send a mirror (R546). -/
def sendMirror (src : Src) (seq : Nat) (bs : List Byte) (s : State) : State :=
  putMirrors (s.twin.mirrors ++ [⟨src, seq, seqAt s src - 1, bs, false, s.now⟩]) s

/-- Firmware clears the UE bits once the MEM_UE notice has been written to every eligible port (R492). -/
def clearUe (s : State) : State :=
  if (List.range 10).any (fun p => (s.port p).notices.any (fun n => n.code == 5)) then s
  else (s.setF ERR_STAT_0_UE_CHIP 0).setF ERR_STAT_0_UE_5X 0

/-- An outbound message is written (R419): slot OUT_TAIL mod 4, then OUT_TAIL, SEQ and PEND. -/
def outMessage (p : Nat) (bs : List Byte) (s : State) : State :=
  let slot := s.getF (MBOX_OUT_TAIL_TAIL p) % 4
  let s := forN 16 (fun j s => s.setReg (MBOX_OUT p slot j) (BitVec.ofNat 32 (recField bs (4 * j) 4))) s
  let s := (s.addF (MBOX_OUT_TAIL_TAIL p) 1).set64 (MBOX_SEQ_LO p) (s.r64 (MBOX_SEQ_LO p) + 1)
  let s := when (!isNotice bs && stIsError (recField bs 0xC 2)) (fun s => s.incF ERR_CMD_CNT_COUNT 1) s
  let s := if isNotice bs then s else dropCmd (.mbox p) 0 s
  let s := pendMbox p s
  if isNotice bs && recField bs 8 4 == 5 then clearUe s else s

/-- Set PEND when the count is reached or the time has passed (R433). -/
def coalCheck (r : Nat) (s : State) : State :=
  let x := s.ring r
  let t := s.getF (RING_IRQ_COAL_TIME r)
  let late := match x.coalFrom with
    | some f => t != 0 && decide (t * 98304 ≤ (s.now - f) * 1000)
    | none => false
  if !s.isSet (RING_IRQ_PEND r) && (decide (max 1 (s.getF (RING_IRQ_COAL_CNT r)) ≤ x.elig) || late) then
    pendRing r (s.setRing r { x with elig := 0, coalFrom := none })
  else s

/-- The completion of SEQ `seq` stands in the CQ: the command leaves the table, CQ_TAIL and SEQ advance, the interrupt is
counted (R416, R433); a RING_RESUME whose last halted completion this is ends (R490). -/
def ringWritten (r : Nat) (c : Cmd) (status : Nat) (s : State) : State :=
  let s := dropCmd (.ring r) c.seq s
  let s := (s.addF (RING_CQ_TAIL_TAIL r) 1).set64 (RING_SEQ_LO r) (c.seq + 1)
  let s := when (stIsError status) (fun s => s.incF ERR_CMD_CNT_COUNT 1) s
  let elig := c.desc.notify || (status != stDONE && s.isSet (RING_IRQ_ERR_IRQ r))
  let x := s.ring r
  let s := if elig then coalCheck r (s.setRing r { x with elig := x.elig + 1, coalFrom := some (x.coalFrom.getD s.now) }) else s
  finishAwaits (fun w => match w with | .ringResume q last => q == r && decide (last ≤ c.seq) | _ => false) stDONE 0 s

/-- A ring goes to FAULT (R439): 1 FETCH, 2 CQ. -/
def ringFails (r code a seq : Nat) (s : State) : State :=
  let s := (s.setF (RING_STAT_FAULT r) code).setF (RING_STAT_STATE r) 3
  let s := withFaultPin (fun s => s.hitF ERR_STAT_2_RING_FAULT 1) s
  s.errLog 2 r stACCESS (s.getF (RING_CFG_SESSION r)) (s.getF (RING_CFG_PORT r)) seq a

/-- The CQ slot of a SEQ (R415). -/
def cqSlot (s : State) (r seq : Nat) : Nat := s.r64 (RING_CQ_LO r) + 32 * ((seq - 1) % ringDepth s r)

/-- Write one completion (R416, R439); a standby writes nothing to host memory (R542). -/
def writeRing (r : Nat) (c : Cmd) (bs : List Byte) (s : State) : State :=
  let a := cqSlot s r c.seq
  let st := recField bs 0xC 2
  if isStandby s && (hostOf s a).isSome then ringWritten r c st s
  else
    match s.writeChecked (settAcq (s.getF (RING_CFG_SESSION r)) true) none a bs with
    | (s, .data _) => ringWritten r c st s
    | (_, .wait) => s
    | (s, _) => ringFails r 2 a c.seq s

/-- The ring writes completions: not faulted, and not closing without completions (R425, R439). -/
def ringWrites (s : State) (r : Nat) : Bool :=
  s.getF (RING_STAT_STATE r) != 0 && s.getF (RING_STAT_FAULT r) == 0 && !(s.ring r).quiet

/-- The mirror of a SEQ. -/
def mirrorAt (s : State) (src : Src) (seq : Nat) : Option TwinMirror :=
  (mirrorsOf s src).find? (fun m => m.seq == seq)

/-- Take a mirror away. -/
def dropMirror (src : Src) (seq : Nat) (s : State) : State :=
  putMirrors (s.twin.mirrors.filter (fun m => !(decide (m.src = src) && m.seq == seq))) s

/-- The standby has finished what a mirror reports, and sends FINISH (R546). -/
def sendFinish (src : Src) (seq : Nat) (s : State) : State :=
  putMirrors (s.twin.mirrors.map (fun m => if m.src = src ∧ m.seq = seq then { m with finished := true } else m)) s

/-- The finished command whose completion is the next of ring `r`. -/
def ringNext (s : State) (r : Nat) : Option Cmd :=
  match findCmd s (.ring r) (s.r64 (RING_SEQ_LO r)) with
  | some c => if c.phase == .finished then some c else none
  | none => none

/-- The finished command of a mailbox whose completion no queued notice precedes (R420). -/
def mboxNext (s : State) (p : Nat) : Option Cmd :=
  match findCmd s (.mbox p) 0 with
  | some c => if c.phase == .finished && !(s.port p).notices.any (fun n => decide (n.time ≤ c.time)) then some c else none
  | none => none

/-- The next completion of ring `r` is written, mirrored, or, on a standby, finished (R416, R546).
(DEDUCED, log entry 43). -/
def ringComplete (r : Nat) (s : State) : State :=
  let src := Src.ring r
  if !ringWrites s r then s
  else if isStandby s then
    match ringNext s r with
    | some c => (match mirrorAt s src c.seq with
        | some m => sendFinish src c.seq (writeRing r c m.bytes s)
        | none => s)
    | none => s
  else if !portFlows s (s.getF (RING_CFG_PORT r)) then s
  else if mirrorsOn s then
    let k := s.r64 (RING_SEQ_LO r) + (mirrorsOf s src).length
    match ringNext s r, findCmd s src k with
    | some c, next =>
      (match mirrorAt s src c.seq with
       | some m => if m.finished then writeRing r c m.bytes (dropMirror src c.seq s)
         else (match next with
           | some e => if e.phase == .finished then sendMirror src k (cmdRecord e k) s else s
           | none => s)
       | none => sendMirror src c.seq (cmdRecord c c.seq) s)
    | none, _ => s
  else
    match ringNext s r with
    | some c =>
      (match mirrorAt s src c.seq with
       | some m => writeRing r c m.bytes (dropMirror src c.seq s)
       | none => writeRing r c (cmdRecord c c.seq) s)
    | none => s

/-- A mailbox message is mirrored already. -/
def cmdMirrored (s : State) (p : Nat) : Bool := (mirrorsOf s (.mbox p)).any (fun m => !isNotice m.bytes)

/-- Write the mirrored messages of a mailbox that may go out, in SEQ order. -/
def flushMbox : Nat → Nat → State → State
  | 0, _, s => s
  | k + 1, p, s =>
    match mirrorAt s (.mbox p) (s.r64 (MBOX_SEQ_LO p)) with
    | some m =>
      if (m.finished || !mirrorsOn s) && decide (outUsed s p ≤ 3) && portFlows s p then
        flushMbox k p (outMessage p m.bytes (dropMirror (.mbox p) m.seq s))
      else s
    | none => s

/-- One message of a mailbox goes out, or is mirrored (R419, R546). -/
def postMessage (p : Nat) (f : Nat → List Byte) (s : State) : State :=
  let k := s.r64 (MBOX_SEQ_LO p) + (mirrorsOf s (.mbox p)).length
  if mirrorsOn s then sendMirror (.mbox p) k (f k) s else outMessage p (f k) s

/-- A standby's mailbox message: its own command has finished, or it is a notice (R546). -/
def standbyMessage (p : Nat) (s : State) : State :=
  match mirrorAt s (.mbox p) (s.r64 (MBOX_SEQ_LO p)) with
  | some m =>
    if m.finished || (!isNotice m.bytes && (mboxNext s p).isNone) then s
    else sendFinish (.mbox p) m.seq (outMessage p m.bytes s)
  | none => s

/-- The next message of a mailbox: the completion of its command. (DEDUCED, log entry 43). -/
def mboxComplete (p : Nat) (s : State) : State :=
  if isStandby s then standbyMessage p s
  else
    let s := flushMbox 4 p s
    if !portFlows s p || 3 < outUsed s p || cmdMirrored s p then s
    else match mboxNext s p with
      | some c => postMessage p (cmdMessage c) s
      | none => s

/-- NOTICE_WRITE (R420): the oldest queued notice takes the next SEQ. (DEDUCED, log entry 43). -/
def execNoticeWrite (p : Nat) (s : State) : Out :=
  if !portFlows s p || decide (3 < outUsed s p) || isStandby s then .next s
  else match (s.port p).notices with
    | n :: r => .next (postMessage p (noticeMessage n) (s.setPort p { s.port p with notices := r }))
    | [] => .next s

/-! ### Closing rings and sessions (R422 to R425, R428, R488) -/

/-- Clear a ring's page and what is kept beside it. -/
def clearRing (r : Nat) (s : State) : State :=
  ({ s with cyc := { s.cyc with old := tabClear (RING_SQ_LO r) (RING_SQ_LO (r + 1)) s.cyc.old } }.clearRegs (RING_SQ_LO r)
    (RING_SQ_LO (r + 1))).setRing r RingSt.reset

/-- A ring becomes CLOSING (R428): fetch stops, commands that have not started complete with ABORTED. -/
def closeRing (r : Nat) (s : State) : State :=
  let s := dropReads (.fetch r) (s.setF (RING_STAT_STATE r) 4)
  (s.denrek.cmds.filter (fun c => decide (c.src = .ring r) && c.unstarted)).foldl
    (fun s c => finishCmd c.src c.seq stABORTED 0 [] s) s

/-- A CLOSING ring without commands left becomes OFF; one that writes no more completions discards them (R428, R439). -/
def ringSettle (r : Nat) (s : State) : State :=
  let s :=
    if ringWrites s r then s
    else (s.denrek.cmds.filter (fun c => decide (c.src = .ring r) && c.phase == .finished)).foldl
      (fun s c => dropCmd c.src c.seq s) s
  if 0 < inTable s r then s
  else
    let s := finishAwaits (fun w => match w with | .ringResume q _ => q == r | _ => false) stABORTED 0 s
    finishAwaits (fun w => w == .ringDestroy r) stDONE 0 (clearRing r s)

/-- The CLOSING rings. -/
def closingRings (s : State) : List Nat :=
  s.regs.filterMap (fun e =>
    if RING_SQ_LO 0 ≤ e.1 ∧ e.1 < RING_SQ_LO 64 ∧ e.1 % 0x400 = 0x28 ∧ (RING_STAT_STATE 0).of e.2 = 4 then
      some (e.1 % 65536 / 0x400)
    else none)

/-- The rings that a session created. -/
def ringsOf (s : State) (n : Nat) : List Nat :=
  (List.range 64).filter (fun r => s.isSet (RING_CFG_EN r) && s.getF (RING_CFG_SESSION r) == n)

/-- A command that waits on object `i`. -/
def waitsOn (c : Cmd) (i : Nat) : Bool := c.unstarted && c.waited && c.desc.waitEn && c.desc.waitId == i

/-- An object becomes FREE (R482, R488, R501): its waiters complete with ABORTED, bindings and shares go.
(DEDUCED, log entry 46). -/
def freeObj (i : Nat) (s : State) : State :=
  let s := (s.denrek.cmds.filter (fun c => waitsOn c i)).foldl (fun s c => finishCmd c.src c.seq stABORTED 0 [] s) s
  let s := unbindObj i s
  let s := (s.set64 (SYNC_OBJ_LO i) 0).setReg (SYNC_OWN i) 0
  { s with denrek := { s.denrek with
      shares := s.denrek.shares.filter (fun e => e.1 != i)
      syncIn := tabPut none i none s.denrek.syncIn
      syncOvf := tabPut 0 i 0 s.denrek.syncOvf } }

/-- The objects a session owns. -/
def objsOf (s : State) (n : Nat) : List Nat :=
  s.regs.filterMap (fun e =>
    if SYNC_OWN 0 ≤ e.1 ∧ e.1 < SYNC_OWN 4096 ∧ (SYNC_OWN_VALID 0).of e.2 = 1 ∧ (SYNC_OWN_SESSION 0).of e.2 = n then
      some ((e.1 - SYNC_OWN 0) / 4)
    else none)

/-- A session becomes CLOSING (R424, steps 1 to 3). -/
def closeBegin (n : Nat) (s : State) : State :=
  let x := s.session n
  let s := s.setSession n { x with state := 2 }
  let s := s.setF (MBOX_STAT_SESSIONS x.port) (s.getF (MBOX_STAT_SESSIONS x.port) - 1)
  let s := (ringsOf s n).foldl (fun s r => closeRing r s) s
  (s.denrek.cmds.filter (fun c => (match c.src with | .ring _ => true | .mbox _ => false) && c.unstarted
      && !opNoSession c.desc.opcode && c.desc.session == n)).foldl
    (fun s c => finishCmd c.src c.seq stABORTED 0 [] s) s

/-- A session's votes are removed (R424, R519). -/
def dropVotes (n : Nat) (s : State) : State :=
  if !s.denrek.votes.any (fun v => v.2.1 == n) then s
  else
    let s := { s with denrek := { s.denrek with votes := s.denrek.votes.filter (fun v => v.2.1 != n) } }
    forN 4 putTxMute (putOutMute (putGlobalMute (putClocks (powerEval s))))

/-- The row of R423's table that a resource stands in. -/
def Res.row : Res → Nat
  | .clock => 0
  | .wake => 1
  | .dormouse => 1
  | .system => 2
  | .capture => 3
  | .channel _ => 3
  | .tdm _ => 4
  | .spdif => 5
  | .converter _ => 5
  | .gust => 6
  | .fox => 7
  | .subscriber _ => 7
  | .core _ => 8
  | .program _ => 9
  | .stream _ => 9
  | .keyset _ => 10

/-- The system claim is released: the watchdog returns to its reset values, and outside a pairing the twin configuration. -/
def releaseSystem (s : State) : State :=
  let s := s.setReg SYS_WDOG (resetWord SYS_WDOG)
  let s := if s.getF TWIN_STAT_STATE = 0 then s.setReg TWIN_CFG (resetWord TWIN_CFG) else s
  unbindEvents (fun e => inEv e 0x220 2 || e == 0x230) (s.release .system)

/-- A resource is released by the stop of its own chapter; it stays held while its stop runs on (R424). -/
def releaseRes (r : Res) (s : State) : State :=
  match r with
  | .clock => releaseClock s
  | .wake => releaseWake s
  | .dormouse => releaseDormouse s
  | .system => releaseSystem s
  | .capture => releaseCapture s
  | .channel n => releaseChannel n s
  | .tdm n =>
    let s := stopPort n s
    if portStopped s n then releaseTdm n s else s
  | .spdif => releaseSpdif s
  | .converter n => releaseConverter n s
  | .gust => releaseGust s
  | .fox => (releaseFox s).release .fox
  | .subscriber k => releaseSubscriber k s
  | .core n =>
    let s := coreStop n s
    if coreStopped s n then releaseCore n s else s
  | .program h => unloadProg h s
  | .stream k => stopStream k s
  | .keyset h => releaseKeys h s

/-- The next resource of a session to release: the latest row of R423's table, claimed last. -/
def lastRes (s : State) (n : Nat) : Option Res :=
  (s.denrek.owners.foldl (fun (best : Option Res) e =>
    if e.2 != n then best
    else match best with
      | none => some e.1
      | some b => if b.row ≤ e.1.row then some e.1 else some b) none)

/-- Release a session's resources until one is still stopping. (DEDUCED, log entry 44). -/
def releaseAll : Nat → Nat → State → State
  | 0, _, s => s
  | k + 1, n, s =>
    match lastRes s n with
    | none => s
    | some r =>
      let s := releaseRes r s
      if (s.owner r).isSome then s else releaseAll k n s

/-- A started command of the session that has not finished, its own close apart. -/
def runsCmd (s : State) (n : Nat) : Bool :=
  s.denrek.cmds.any (fun c => c.running && !opNoSession c.desc.opcode && c.desc.session == n
    && !(c.desc.opcode == 0x0102 && c.desc.arg [2] 0 == n))

/-- A session becomes FREE: what it bound and was given goes, its exchange ring with it (R370, R452, R487).
(DESIGN CHOICE, log entry 65). -/
def freeSession (n : Nat) (s : State) : State :=
  let s := unbindWhere (fun b => b.2.1 == n) s
  let s := { s with fog := { s.fog with rings := s.fog.rings.filter (fun e => e.1 != n) } }
  let d := s.denrek
  let s := { s with denrek := { d with
      shares := d.shares.filter (fun e => e.2.1 != n)
      grants := d.grants.filter (· != n)
      freeSeq := d.freeSeq + 1 } }
  let s := s.setSession n ⟨0, 0, 0, d.freeSeq⟩
  finishAwaits (fun w => w == .sessionClose n) stDONE 0 s

/-- What a CLOSING session can end now (R424, steps 4 and 5; R404, R488). (DEDUCED, log entry 44). -/
def settleSession (n : Nat) (s : State) : State :=
  if (s.session n).state ≠ 2 || runsCmd s n || !(ringsOf s n).isEmpty then s
  else
    let s := (objsOf s n).foldl (fun s i => freeObj i s) (dropVotes n s)
    let mine := s.denrek.ranges.filter (fun r => r.kind == 0 && r.owner == n)
    let s := releaseRanges n s
    let leave := (s.denrek.leaving ++ mine.map (fun r => (n, r.base, r.base + r.size))).filter
      (fun e => transferring s e.2.1 e.2.2)
    let s := { s with denrek := { s.denrek with leaving := leave } }
    let s := releaseAll s.denrek.owners.length n s
    if s.denrek.owners.any (fun e => e.2 == n) || leave.any (fun e => e.1 == n) then s else freeSession n s

/-- The sessions being closed. -/
def closingSessions (s : State) : List Nat := (s.denrek.sessions.filter (fun e => e.2.state == 2)).map (·.1)

/-- Whatever closes goes as far as it can. -/
def settleAll (s : State) : State :=
  let s := (closingRings s).foldl (fun s r => ringSettle r s) s
  (closingSessions s).foldl (fun s n => settleSession n s) s

/-! ### Taking, fetching, completing (R414, R418, R430 to R432, R439, R477) -/

/-- The descriptor in an inbound slot. -/
def inboundRaw (s : State) (p slot : Nat) : BitVec 512 :=
  BitVec.ofNat 512 (ofLe (((List.range 16).map (fun j => leBytes 4 (s.reg (MBOX_IN p slot j)).toNat)).flatten))

/-- MBOX_DESCRIPTOR_TAKE (R418): one at a time, and only with an outbound slot free for its completion. -/
def execMboxDescriptorTake (p : Nat) (s : State) : Out :=
  let head := s.getF (MBOX_IN_HEAD_HEAD p)
  if !portIsReady s p || !fwRuns s || mboxBusy s p || s.getF (MBOX_IN_TAIL_TAIL p) == head
      || decide (4 ≤ outUsed s p + (mirrorsOf s (.mbox p)).length) then .next s
  else .next (s.takeIn ⟨.mbox p, 0, inboundRaw s p (head % 4)⟩)

/-- Descriptors submitted and not fetched. -/
def sqWaiting (s : State) (r : Nat) : Nat := idxDiff 16 (s.inForce (RING_SQ_TAIL_TAIL r)) ((s.ring r).fetched % 65536)

/-- Ring `r` can fetch now (R431, R509): no read of its descriptors is outstanding. -/
def canFetch (s : State) (r : Nat) : Bool :=
  s.isSet (RING_CFG_EN r) && ringFetches s r && sqWaiting s r != 0 && ringRoom s r
    && portFlows s (s.getF (RING_CFG_PORT r)) && hostDone s (.fetch r)

/-- The ring whose turn it is (R432). -/
def fetchTurn (s : State) : Option Nat :=
  ((List.range 64).map (fun i => (s.denrek.turn + i) % 64)).find? (canFetch s)

/-- Descriptors one turn reads: up to 4, as far as R431 allows, not past the end of the SQ. -/
def fetchCount (s : State) (r : Nat) : Nat :=
  let d := ringDepth s r
  let n := inTable s r
  let unread := idxDiff 16 (s.getF (RING_CQ_TAIL_TAIL r)) (s.inForce (RING_CQ_HEAD_HEAD r))
  let entries := (8 - n) + (1536 - sharedUsed s)
  min (min 4 (sqWaiting s r)) (min (min (clampN 1 256 (s.getF (RING_LIMIT_MAXINF r)) - n) (d - n - unread))
    (min entries (d - (s.ring r).fetched % d)))

/-- Where the next descriptor of a ring stands. -/
def sqSlot (s : State) (r : Nat) : Nat := s.r64 (RING_SQ_LO r) + 64 * ((s.ring r).fetched % ringDepth s r)

/-- Descriptors read enter the command table in order (R477). -/
def enterAll (r : Nat) : List Byte → Nat → State → State
  | _, 0, s => s
  | bs, k + 1, s =>
    enterAll r (bs.drop 64) k (s.takeIn ⟨.ring r, (s.ring r).fetched + 1, BitVec.ofNat 512 (ofLe (bs.take 64))⟩)

/-- A fetch from host memory has its data: the descriptors enter, if the ring still fetches there. -/
def fetchDone (r a n : Nat) (s : State) : State :=
  if ringFetches s r && sqSlot s r == a then enterAll r (s.bytes a n) (n / 64) s else s

/-- A refused fetch (R439, R511). -/
def fetchRefused (r a : Nat) (s : State) : State := if ringFetches s r then ringFails r 1 a 0 s else s

/-- RING_FETCH (R430, R431, R432, R437, R439). (DESIGN CHOICE, log entry 5; DEDUCED, log entry 42). -/
def execRingFetch (r : Nat) (s : State) : Out :=
  if fetchTurn s ≠ some r || isStandby s then .next s
  else
    let s := { s with denrek := { s.denrek with turn := (r + 1) % 64 } }
    let a := sqSlot s r
    let n := 64 * fetchCount s r
    let q := settAcq (s.getF (RING_CFG_SESSION r)) false
    match hostOf s a, checkRange s q none a n with
    | some _, .ok => .next (readHost (.fetch r) a n s)
    | _, _ =>
      match s.readChecked q none a n with
      | (s, .data bs) => .next (enterAll r bs (n / 64) s)
      | (s, .refused b) => .next (fetchRefused r b s)
      | (s, .ecc b) => .next (fetchRefused r b s)
      | (_, .wait) => .next s

/-- Commands that need no evaluation finish: those of a HALTED ring that have not started, and opcodes that name no
command (R414, R443, R489). -/
def finishPlain (src : Src) (s : State) : State :=
  s.denrek.cmds.foldl (fun s c =>
    if c.src ≠ src || !c.unstarted then s
    else if ringHalted s src then finishCmd src c.seq stHALTED 0 [] s
    else if !opKnown c.desc.opcode && orderHolds s c.desc && twinLets s c then
      finishCmd src c.seq (preCheck s c.desc) 0 [] s
    else s) s

/-- COMPLETION_WRITE (R416, R477): the next completion or message of an origin, in SEQ order. -/
def execCompletionWrite (src : Src) (s : State) : Out :=
  let s := finishPlain src s
  match src with
  | .ring r => if r < 64 then .next (settleAll (ringComplete r s)) else .next s
  | .mbox p => if p < 10 then .next (settleAll (mboxComplete p s)) else .next s

/-- RING_COAL_TIMEOUT (R433). -/
def execRingCoalTimeout (r : Nat) (s : State) : Out :=
  if r < 64 && s.isSet (RING_CFG_EN r) then .next (coalCheck r s) else .next s

/-- RING_IRQ_PEND_CLEAR (R433): the host's write of 1. -/
def execRingIrqPendClear (p r : Nat) (s : State) : Out :=
  if portIsReady s p && ringOf s p r then .next (coalCheck r (s.wipeF (RING_IRQ_PEND r))) else .next s

/-- MBOX_WAIT_TIMEOUT (R481). -/
def execMboxWaitTimeout (p : Nat) (s : State) : Out :=
  match findCmd s (.mbox p) 0 with
  | some c =>
    if c.unstarted && c.waited && decide (c.time + max 1 (s.getF SYNC_MBOX_TO_MS) * 98304 ≤ s.now) then
      .next (finishCmd c.src c.seq stTIMEOUT 0 [] s)
    else .next s
  | none => .next s

/-! ### Port resets (R425, R442, R516 to R518) -/

/-- The conditions of readiness (R518, R535), the end of the last reset's closes apart. -/
def portCond (s : State) (p : Nat) : Bool :=
  s.getF SYS_BOOT_STATUS_CODE == 5 && s.getF PWR_STATUS_STATE != 1 && s.getF PWR_STATUS_STATE != 5 && !isStandby s
    && (decide (8 ≤ p) || ((s.getF HOSTIF_LINK_STATE == 2 || s.getF HOSTIF_LINK_STATE == 3)
      && s.getF (HOSTIF_F_STAT_DSTATE p) == 0 && s.isSet (HOSTIF_F_STAT_MSE p)))

/-- Ports whose conditions no longer hold leave readiness. -/
def lowerPorts (s : State) : State :=
  forN 10 (fun p s => when (s.isSet (MBOX_STAT_READY p) && !portCond s p) (fun s => s.setF (MBOX_STAT_READY p) 0) s) s

/-- A port reset begins (R425, R516, R517): its sessions close without completions. -/
def resetPortNow (p : Nat) (s : State) : State :=
  let s := s.setF (MBOX_STAT_READY p) 0
  let s := dropLatches (fun k => k == p) (s.setPort p ⟨[], (s.port p).mask, true⟩)
  let s := (withFaultPin (fun s => s.hitF ERR_STAT_2_PORT_RESET 1) s).errLog 7 p 0 0xFFFF p 0 0
  let s :=
    if p < 8 then
      let h := s.hostif
      { s with hostif := { h with msixUnmasked := tabClear (64 * p) (64 * p + 64) h.msixUnmasked
                                  msixPend := tabClear (64 * p) (64 * p + 64) h.msixPend } }.addF (HOSTIF_F_RST_COUNT p) 1
    else s
  let s := match findCmd s (.mbox p) 0 with
    | some c => if c.unstarted then dropCmd (.mbox p) 0 (dropWaiter c s) else s
    | none => s
  let s := putMirrors (s.twin.mirrors.filter (fun m => portOf s m.src != p)) s
  let s := (openSessions s p).foldl (fun s n => closeBegin n s) s
  let s := forN 64 (fun r s => when (ringOf s p r) (fun s => s.setRing r { s.ring r with quiet := true }) s) s
  settleAll s

/-- A cause of R516 at a port: in PAIRED the reset begins at its APPLY (R543). -/
def portReset (p : Nat) (s : State) : State := if paired s && !isStandby s then s else resetPortNow p s

/-! ### Reads of host memory that fail (R511, R516, R529) -/

/-- An access to host memory ends with ACCESS_FAULT: a ring's fetch, a command, or a core's access, which its own row then
refuses. `a` is the first address of the access. -/
def failAccess (o : RdOwner) (a : Nat) (s : State) : State :=
  let s := putTags (dropReads o s)
  match o with
  | .fetch r => fetchRefused r a s
  | .copy src seq =>
    let from' := match s.denrek.awaits.find? (fun e => decide (e.2.1 = src) && e.2.2 == seq) with
      | some (.memCopy x _ _, _, _) => x
      | _ => a
    let s := { s with denrek := { s.denrek with
      awaits := s.denrek.awaits.filter (fun e => !(decide (e.2.1 = src) && e.2.2 == seq)) } }
    settleFrees (finishCmd src seq stACCESS from' [] s)
  | .far 4 => s
  | .line n _ => ringFault n 0 s
  | o => if s.hostif.bad.contains o then s else { s with hostif := { s.hostif with bad := s.hostif.bad ++ [o] } }

/-- The requests of function `f` that are outstanding, and those of any unmapped window that wait, are refused. -/
def failReads (f : Nat) (s : State) : State :=
  let base := hostBase f
  let out := (s.hostif.tags.filter (fun e => decide (base ≤ e.addr) && decide (e.addr < hostBase (f + 1)))).map (fun e => (e.own, e.addr))
  let off := (s.hostif.todo.filter (fun e => (hostOf s e.2.1).isNone)).map (fun e => (e.1, e.2.1))
  let s := { s with hostif := { s.hostif with
    tags := s.hostif.tags.filter (fun e => !(decide (base ≤ e.addr) && decide (e.addr < hostBase (f + 1)))) } }
  (out ++ off).foldl (fun s e => failAccess e.1 e.2 s) (putTags s)

/-- PORT_READY (R415, R442, R453, R518): after a reset the mailbox starts anew. -/
def execPortReady (p : Nat) (s : State) : Out :=
  let left := s.denrek.sessions.any (fun e => e.2.state != 0 && e.2.port == p)
  let runs := match findCmd s (.mbox p) 0 with | some c => c.running | none => false
  let was := (s.port p).resetBusy
  if p < 10 && !s.isSet (MBOX_STAT_READY p) && portCond s p && !(was && (left || runs)) then
    let s :=
      if was then
        (dropCmd (.mbox p) 0 (s.clearRegs (MBOX_IN p 0 0) (MBOX_IN (p + 1) 0 0))).setPort p PortSt.reset
      else s.setPort p { s.port p with mask := 0xFFFFFFFF }
    .next (s.setF (MBOX_STAT_READY p) 1)
  else .next s

/-! ### Session and ring commands (R435, R455) -/

/-- The FREE session number that has been FREE the longest (R422). -/
def longestFree (s : State) : Option Nat :=
  (List.range 1024).foldl (fun best n =>
    let x := s.session n
    if x.state != 0 then best
    else match best with
      | none => some n
      | some m => if x.freedAt < (s.session m).freedAt then some n else some m) none

/-- SESSION_OPEN (R422). -/
def execSessionOpen (d : Desc) (s : State) : Out :=
  runCmd d 0x0101 [8] (fun _ _ => 0) (fun s d =>
    match longestFree s with
    | none => (s, .fail stNORES 0)
    | some n =>
      let p := portOf s d.src
      ((s.setSession n ⟨1, p, d.arg [8] 0, 0⟩).addF (MBOX_STAT_SESSIONS p) 1, .done n [])) s

/-- TARGET names a session of the carrying port (R435, R471). -/
def targetC (s : State) (d : Desc) (n : Nat) : Nat :=
  firstBad [need (decide (n < 1024)) stBAD,
    need ((s.session n).state != 0 && (s.session n).port == portOf s d.src) stNOSESS]

/-- SESSION_CLOSE (R424). (DEDUCED, log entry 44). -/
def execSessionClose (d : Desc) (s : State) : Out :=
  runCmd d 0x0102 [2] (fun s d => targetC s d (d.arg [2] 0)) (fun s d =>
    let n := d.arg [2] 0
    checked [need (sessOpen s n) stCONFLICT] s
      (let s := settleAll (closeBegin n s)
       if (s.session n).state = 0 then (s, .ok) else (s, .later (.sessionClose n)))) s

/-- The rows of R423's table of which a session holds something. -/
def heldRows (s : State) (n : Nat) : Nat :=
  let m := s.denrek.owners.foldl (fun m e => if e.2 == n then m ||| 2 ^ e.1.row else m) 0
  m + 2048 * bit (s.denrek.ranges.any (fun r => r.owner == n)) + 4096 * bit (!(ringsOf s n).isEmpty)
    + 8192 * bit (!(objsOf s n).isEmpty) + 16384 * bit (s.denrek.votes.any (fun v => v.2.1 == n))

/-- SESSION_INFO (R422). -/
def execSessionInfo (d : Desc) (s : State) : Out :=
  runCmd d 0x0103 [2] (fun s d => targetC s d (d.arg [2] 0)) (fun s d =>
    let n := d.arg [2] 0
    let x := s.session n
    let rings := (ringsOf s n).foldl (fun m r => m + 2 ^ r) 0
    (s, .done (x.state + 256 * x.port) (wordsOf (leBytes 8 x.label ++ leBytes 8 (heldRows s n) ++ leBytes 8 rings)))) s

/-- The lowest free ring pair. -/
def freeRing (s : State) : Option Nat := (List.range 64).find? (fun r => s.getF (RING_STAT_STATE r) == 0)

/-- A range lies in the shared pool or in 5X memory. -/
def inDevice (a n : Nat) : Bool := decide (a + n ≤ poolEnd) || (decide (ddrBase ≤ a) && decide (a + n ≤ 0x80_0000_0000))

/-- The image checks of RING_CREATE and RING_CONFIG (R445). -/
def ringImgs (limit irq vec : Nat) (ownIrq : List Fld) : List Nat :=
  let maxinf := (RING_LIMIT_MAXINF 0).img limit
  [imgOk (RING_LIMIT 0) [] [] limit, imgOk (RING_IRQ 0) [] ownIrq irq, imgOk (RING_VEC 0) [] [] vec,
    need (decide (1 ≤ maxinf) && decide (maxinf ≤ 256) && (RING_IRQ_COAL_CNT 0).img irq != 0) stBAD]

/-- The ring's registers at its creation (R426). -/
def startRing (r sq cq cfg limit irq vec p n : Nat) (s : State) : State :=
  let own := [RING_CFG_EN r, RING_CFG_PORT r, RING_CFG_SESSION r]
  let s := ((clearRing r s).set64 (RING_SQ_LO r) sq).set64 (RING_CQ_LO r) cq
  let s := (s.setImg (RING_CFG r) own [] cfg).setImg (RING_LIMIT r) [] [] limit
  let s := (s.setImg (RING_IRQ r) [] [] irq).setImg (RING_VEC r) [] [] vec
  let s := ((s.setF (RING_CFG_EN r) 1).setF (RING_CFG_PORT r) p).setF (RING_CFG_SESSION r) n
  s.setF (RING_STAT_STATE r) 1

/-- RING_CREATE (R426, R427). (DEDUCED, log entry 45). -/
def execRingCreate (d : Desc) (s : State) : Out :=
  let z := [8, 8, 4, 4, 4, 4]
  runCmd d 0x0104 z (fun _ _ => 0) (fun s d =>
    let sq := d.arg z 0
    let cq := d.arg z 1
    let cfg := d.arg z 2
    let depth := (RING_CFG_DEPTH 0).img cfg
    let n := 2 ^ depth
    let p := portOf s d.src
    checked ([addrOk sq, addrOk cq, imgOk (RING_CFG 0) [RING_CFG_EN 0, RING_CFG_PORT 0, RING_CFG_SESSION 0] [] cfg,
        need (sq % 64 == 0 && cq % 64 == 0 && decide (4 ≤ depth) && decide (depth ≤ 12)) stBAD]
        ++ ringImgs (d.arg z 3) (d.arg z 4) (d.arg z 5) []
        ++ [need (decide (p < 8) || (inDevice sq (64 * n) && inDevice cq (32 * n))) stBAD]) s
      (match freeRing s with
       | none => (s, .fail stNORES 0)
       | some r =>
         let qr := settAcq d.session false
         let qw := settAcq d.session true
         match checkRange s qr none sq (64 * n), checkRange s qw none cq (32 * n) with
         | .bad a, _ => (rejectAccess qr a (decide (addrTop < sq + 64 * n)) s, .fail stACCESS a)
         | _, .bad a => (rejectAccess qw a (decide (addrTop < cq + 32 * n)) s, .fail stACCESS a)
         | .wait, _ => (s, .stall)
         | _, .wait => (s, .stall)
         | .ok, .ok =>
           (startRing r sq cq cfg (d.arg z 3) (d.arg z 4) (d.arg z 5) p d.session (zeroPages cq (32 * n) s), .done r []))) s

/-- The ring named is one of the port's, and the session its creator (R428, R435, R471). -/
def ringC (s : State) (d : Desc) (r : Nat) : Nat :=
  firstBad [need (decide (r < 64)) stBAD, need (s.isSet (RING_CFG_EN r)) stNOTOWN,
    need (s.getF (RING_CFG_PORT r) == portOf s d.src) stNOSESS, need (s.getF (RING_CFG_SESSION r) == d.session) stNOTOWN]

/-- RING_DESTROY (R428). -/
def execRingDestroy (d : Desc) (s : State) : Out :=
  runCmd d 0x0105 [2] (fun s d => ringC s d (d.arg [2] 0)) (fun s d =>
    let r := d.arg [2] 0
    let s := ringSettle r (closeRing r s)
    if s.getF (RING_STAT_STATE r) = 0 then (s, .ok) else (s, .later (.ringDestroy r))) s

/-- RING_CONFIG (R435): only ERR_MODE of CFG is taken, and EN of IRQ is the host's. (DEDUCED, log entry 45). -/
def execRingConfig (d : Desc) (s : State) : Out :=
  let z := [2, 4, 4, 4, 4]
  runCmd d 0x0106 z (fun s d => ringC s d (d.arg z 0)) (fun s d =>
    let r := d.arg z 0
    let cfg := d.arg z 1
    let ign := [RING_CFG_EN r, RING_CFG_DEPTH r, RING_CFG_PORT r, RING_CFG_SESSION r]
    checked ([imgOk (RING_CFG r) [] ign cfg] ++ ringImgs (d.arg z 2) (d.arg z 3) (d.arg z 4) [RING_IRQ_EN 0]
        ++ [need (ringFetches s r) stCONFLICT]) s
      (let s := (s.setImg (RING_CFG r) [] ign cfg).setImg (RING_LIMIT r) [] [] (d.arg z 2)
       let s := (s.setImg (RING_IRQ r) [] [RING_IRQ_EN r] (d.arg z 3)).setImg (RING_VEC r) [] [] (d.arg z 4)
       (s, .ok))) s

/-- RING_RESUME (R490, R500): what was fetched before completes with RING_HALTED. -/
def execRingResume (d : Desc) (s : State) : Out :=
  runCmd d 0x0107 [2] (fun s d => ringC s d (d.arg [2] 0)) (fun s d =>
    let r := d.arg [2] 0
    checked [need (s.getF (RING_STAT_STATE r) == 2) stCONFLICT] s
      (let s := s.setF (RING_STAT_STATE r) 1
       let s := (s.denrek.cmds.filter (fun c => decide (c.src = .ring r) && c.unstarted)).foldl
         (fun s c => finishCmd c.src c.seq stHALTED 0 [] s) s
       let last := (s.ring r).fetched
       if last < s.r64 (RING_SEQ_LO r) then (s, .ok) else (s, .later (.ringResume r last)))) s

/-- Every register of a ring, in table order (R447). -/
def ringRecord (r : Nat) : List RecItem :=
  [.q (RING_SQ_LO r), .q (RING_CQ_LO r), .w (RING_CFG r), .w (RING_LIMIT r), .w (RING_SQ_TAIL r), .w (RING_SQ_HEAD r),
    .w (RING_CQ_TAIL r), .w (RING_CQ_HEAD r), .w (RING_STAT r), .w (RING_IRQ r), .q (RING_SEQ_LO r), .q (RING_HALT_LO r),
    .w (RING_VEC r)]

/-- RING_STATUS (R447). (DEDUCED, log entry 45). -/
def execRingStatus (d : Desc) (s : State) : Out :=
  let z := [2, 8]
  runCmd d 0x0108 z (fun s d => firstBad [need (decide (d.arg z 0 < 64)) stBAD,
      need (ringOf s (portOf s d.src) (d.arg z 0)) stNOTOWN]) (fun s d =>
    outStatus d (d.arg z 1) (ringRecord (d.arg z 0)) s) s

/-- NOTICE_MASK (R453, R470): bit 0 and the TWIN_DIVERGE bit are ignored. (DEDUCED, log entry 43). -/
def execNoticeMask (d : Desc) (s : State) : Out :=
  runCmd d 0x0E07 [4] (fun _ _ => 0) (fun s d =>
    let p := portOf s d.src
    let old := (s.port p).mask
    let m := d.arg [4] 0
    let m := m - (m &&& 0x101) + (old &&& 0x101)
    (s.setPort p { s.port p with mask := m }, .done m [])) s

/-- NOP (R470). -/
def execNop (d : Desc) (s : State) : Out :=
  runCmd d 0x0E08 [8] (fun _ _ => 0) (fun s d => (s, .done (d.arg [8] 0) [])) s

/-! ### Sync objects (R466, R467, R482 to R488) -/

/-- An object that exists, owned by the session or shared with it with the right asked for (R467, R487). -/
def syncC (s : State) (d : Desc) (i : Nat) (right : Option Nat) : Nat :=
  firstBad [need (decide (i < 4096)) stBAD,
    need (match right with
      | some b => syncRight s i d.session b
      | none => syncOwner s i == some d.session) stNOTOWN]

/-- [i, i+n) is free. -/
def runFree (s : State) (i n : Nat) : Bool :=
  !s.regs.any (fun e => decide (SYNC_OWN i ≤ e.1) && decide (e.1 < SYNC_OWN (i + n)) && (SYNC_OWN_VALID 0).of e.2 == 1)

/-- SYNC_ALLOC (R467). -/
def execSyncAlloc (d : Desc) (s : State) : Out :=
  let z := [2, 8]
  runCmd d 0x0B01 z (fun _ _ => 0) (fun s d =>
    let n := d.arg z 0
    checked [need (decide (1 ≤ n) && decide (n ≤ 64)) stBAD] s
      (match (List.range (4097 - n)).find? (fun i => runFree s i n) with
       | none => (s, .fail stNORES 0)
       | some i =>
         (forN n (fun k s => (s.set64 (SYNC_OBJ_LO (i + k)) (d.arg z 1)).setReg (SYNC_OWN (i + k))
            (BitVec.ofNat 32 (d.session % 1024 + 32768))) s, .done i []))) s

/-- A command waits on the object. -/
def hasWaiter (s : State) (i : Nat) : Bool := s.denrek.cmds.any (fun c => waitsOn c i)

/-- SYNC_FREE (R467). -/
def execSyncFree (d : Desc) (s : State) : Out :=
  let z := [2, 2]
  let ids := fun (d : Desc) => (List.range (min 4096 (d.arg z 1))).map (d.arg z 0 + ·)
  runCmd d 0x0B02 z (fun s d => firstBad [need (decide (d.arg z 0 + d.arg z 1 ≤ 4096)) stBAD,
      need ((ids d).all (fun i => syncOwner s i == some d.session)) stNOTOWN]) (fun s d =>
    checked [need (d.arg z 1 != 0) stBAD, need (!(ids d).any (hasWaiter s)) stCONFLICT] s
      ((ids d).foldl (fun s i => freeObj i s) s, .ok)) s

/-- SYNC_SIGNAL (R482). -/
def execSyncSignal (d : Desc) (s : State) : Out :=
  let z := [2, 8]
  runCmd d 0x0B03 z (fun s d => syncC s d (d.arg z 0) (some 1)) (fun s d =>
    let s := syncSignalNow (d.arg z 0) (d.arg z 1) s
    (s, .done (syncValue s (d.arg z 0)) [])) s

/-- SYNC_ADD (R482, R483). -/
def execSyncAdd (d : Desc) (s : State) : Out :=
  let z := [2, 8]
  runCmd d 0x0B04 z (fun s d => syncC s d (d.arg z 0) (some 1)) (fun s d =>
    let s := syncInc placeAdd (d.arg z 0) (d.arg z 1) s
    (s, .done (syncValue s (d.arg z 0)) [])) s

/-- SYNC_READ. -/
def execSyncRead (d : Desc) (s : State) : Out :=
  runCmd d 0x0B05 [2] (fun s d => syncC s d (d.arg [2] 0) (some 0)) (fun s d =>
    (s, .done (syncValue s (d.arg [2] 0)) [])) s

/-- The event exists, and the session may bind it to an object of its own (R451, R487). -/
def bindC (s : State) (d : Desc) (ev i : Nat) : Nat :=
  firstBad [need (evKnown ev) stBAD, syncC s d i none, need (evRight s d.session ev) stNOTOWN]

/-- SYNC_BIND_EVENT (R451, R452). -/
def execSyncBindEvent (d : Desc) (s : State) : Out :=
  let z := [2, 2]
  runCmd d 0x0B06 z (fun s d => bindC s d (d.arg z 0) (d.arg z 1)) (fun s d =>
    match bindAdd d.session 0x0B060 (d.arg z 0) (d.arg z 1) s with
    | .ok s' => (s', .ok)
    | .error st => (s, .fail st 0)) s

/-- SYNC_UNBIND_EVENT (R452, R467). -/
def execSyncUnbindEvent (d : Desc) (s : State) : Out :=
  let z := [2, 2]
  runCmd d 0x0B07 z (fun s d => firstBad [need (evKnown (d.arg z 0)) stBAD, syncC s d (d.arg z 1) none]) (fun s d =>
    let hit := fun (b : Nat × Nat × Nat) => s.getF (SYNC_BIND_EVENT b.1) == d.arg z 0 && s.getF (SYNC_BIND_OBJ b.1) == d.arg z 1
    checked [need (s.denrek.binders.any hit) stBAD] s (unbindWhere hit s, .ok)) s

/-- SYNC_SHARE (R487, R488): ACC 0 revokes; a waiter whose right is revoked completes with ABORTED. -/
def execSyncShare (d : Desc) (s : State) : Out :=
  let z := [2, 2, 1]
  runCmd d 0x0B08 z (fun s d => syncC s d (d.arg z 0) none) (fun s d =>
    let i := d.arg z 0
    let t := d.arg z 1
    let acc := d.arg z 2
    let others := s.denrek.shares.filter (fun e => !(e.1 == i && e.2.1 == t))
    checked [need (decide (t < 1024) && sessOpen s t && decide (acc ≤ 3)) stBAD,
        need (acc == 0 || decide ((others.filter (fun e => e.1 == i)).length < 8)) stNORES] s
      (let s := { s with denrek := { s.denrek with shares := if acc = 0 then others else others ++ [(i, t, acc)] } }
       (s.denrek.cmds.foldl (fun s c =>
          if waitsOn c i && c.desc.session == t && !syncRight s i t 0 then finishCmd c.src c.seq stABORTED 0 [] s else s) s,
        .ok))) s

/-- SYNC_OVERFLOW_APPLY (R483): a new fabric cycle, whose first input of each object is the sum carried over. -/
def execSyncOverflowApply (s : State) : Out := .next (syncCycle s)

/-- SYNC_OBJ_SIGNAL_WRITE (R482, R495): a direct-mode commit signals; a FREE object keeps value zero. -/
def execSyncObjSignalWrite (i v : Nat) (s : State) : Out :=
  if decide (i < 4096) && s.isSet (SYNC_OWN_VALID i) then .next (syncSignalNow i (v % 2 ^ 64) s) else .next s

/-- SYNC_ADD_DELTA_WRITE (R482). -/
def execSyncAddDeltaWrite (delta : Nat) (s : State) : Out :=
  let i := s.getF SYNC_ADD_ID_ID
  if s.isSet (SYNC_OWN_VALID i) && decide (delta % 2 ^ 32 ≠ 0) then
    .next (syncInc placeAdd i (delta % 2 ^ 32) s)
  else .next s

/-- SYNC_OWN_FREE_WRITE (R482, R488). -/
def execSyncOwnFreeWrite (i : Nat) (s : State) : Out :=
  if decide (i < 4096) && s.isSet (SYNC_OWN_VALID i) then .next (freeObj i s) else .next s

end Sys2Proof.Machine
end

