-- ==== Sys2Proof/Machine/Twin.lean ====
section
/-! DEFINITION. Twin pairing (R533 to R567): the link's frames and beats, liveness, the journal, mirrors, digests, the
pairing states, catch-up, takeover and role swap. The bytes a link frame carries reach these rows as operands.
(DEDUCED, log entries 58 and 59 and 60). -/

namespace Sys2Proof.Machine

/-! ### Role and state (R535, R550, R604) -/

def twSOLO : Nat := 0
def twPAIRING : Nat := 1
def twCATCHUP : Nat := 2
def twPAIRED : Nat := 3
def twDETACHED : Nat := 4

def twinState (s : State) : Nat := s.getF TWIN_STAT_STATE
def twinRole (s : State) : Nat := s.getF TWIN_STAT_ROLE

/-- PREF in force: 0b11 acts as 0. -/
def twinPref (s : State) : Nat := if s.getF TWIN_CFG_PREF = 3 then 0 else s.getF TWIN_CFG_PREF

/-- RESULT of the TWIN_ROLE notice (R453). -/
def roleDetail (st role : Nat) : Nat := role + 256 * st

/-- The pairing state and the role take values; a change raises TWIN_ROLE and its notice, and a twin that takes the role
primary or SOLO drives the shared outputs (R550, R604). Ports of a standby are not ready (R535). -/
def setTwin (st role : Nat) (s : State) : State :=
  if twinState s = st ∧ twinRole s = role then s
  else
    let was := twinRole s
    let s := (s.setF TWIN_STAT_STATE st).setF TWIN_STAT_ROLE role
    let s := ((s.hitF TWIN_EVT_ROLE 1).event 0x220).notice 7 (roleDetail st role)
    let s := when (was != role && role != 2) (fun s => s.setF PINMUX_SHARED_OE 1) s
    lowerPorts s

/-- The standby becomes ineligible for a cause (R547, R549, R550). -/
def ineligible (cause : Nat) (s : State) : State := (s.setF TWIN_STAT_ELIGIBLE 0).setF TWIN_STAT_CAUSE cause

/-- Commands that wait for PAIRED end, and ATTACH reads 0. -/
def attachEnds (status result : Nat) (s : State) : State :=
  finishAwaits (fun w => w == .twinAttach) status result (s.setF TWIN_CTRL_ATTACH 0)

/-- A pending swap is dropped (R566). -/
def dropSwap (s : State) : State :=
  let s := ({ s with twin := { s.twin with swap := none } }.setF TWIN_SWAP_CTRL_PENDING 0).setF TWIN_SWAP_CTRL_GO 0
  finishAwaits (fun w => w == .twinSwap) stFAILOVER 0 s

/-- Write out what mirrors hold back (R547, R564). -/
def flushMirrors (s : State) : State :=
  let l := s.twin.mirrors
  l.foldl (fun s m => match m.src with | .ring r => ringComplete r s | .mbox p => flushMbox 4 p s)
    (putMirrors (l.map (fun m => { m with finished := true })) s)

/-- SQ_HEAD, as ports read it, passes the descriptors whose COMMAND record the standby has acknowledged (R546). -/
def passHeads (acked : Nat → Bool) (s : State) : State :=
  (s.twin.unacked.filter (fun e => acked e.2.2)).foldl (fun s e => s.setF (RING_SQ_HEAD_HEAD e.1) e.2.1)
    { s with twin := { s.twin with unacked := s.twin.unacked.filter (fun e => !acked e.2.2) } }

/-- FSEQ `f` is not past `ack`, in serial order modulo 2^32. -/
def fseqPast (ack f : Nat) : Bool := decide ((ack + 2 ^ 32 - f % 2 ^ 32) % 2 ^ 32 < 2 ^ 31)

/-- Journaling ends: what awaited an APPLY goes on at once. -/
def journalEnds (s : State) : State :=
  let s := s.twin.unapplied.foldl (fun s e => match e.1 with
    | .ring r => s.setF (RING_SQ_HEAD_HEAD r) e.2
    | .mbox _ => s) s
  let s := passHeads (fun _ => true) s
  flushMirrors { s with twin := { s.twin with unapplied := [], starts := [] } }

/-- Catch-up is over: its buffer is freed. -/
def catchupOver (s : State) : State :=
  { s with twin := { s.twin with buf := none } }.setF TWIN_CATCHUP_PHASE 0

/-- Every OPEN session closes (R424, R551, R553). -/
def closeAll (s : State) : State :=
  settleAll ((List.range 10).foldl (fun s p => (openSessions s p).foldl (fun s n => closeBegin n s) s) s)

/-- Pairing or catch-up ends in SOLO (R550, R553, R561): a standby keeps its outputs high-impedance and no session. No
record of this journal takes effect any more. -/
def leavePairing (status : Nat) (s : State) : State :=
  let was := twinRole s
  let s := attachEnds status 0 (catchupOver s)
  let s := { s with twin := { s.twin with ctl := none, adopted := false, j := 0 } }
  let s := setTwin twSOLO 0 s
  when (was == 2) (fun s => closeAll (s.setF PINMUX_SHARED_OE 0)) s

/-- CATCHUP begins (R552): both twins await the boundary J. -/
def enterCatchup (s : State) : State :=
  let s := { s with twin := { s.twin with pairFrom := s.now, take := none } }
  let s := journalEnds (dropSwap s)
  setTwin twCATCHUP (twinRole s) ((s.setF TWIN_CATCHUP_PHASE 1).setF TWIN_CATCHUP_ELAPSED 0)

/-- TWIN_SYNC is pulled low for 4 slow ticks (R534). -/
def pullSync (s : State) : State :=
  { s with pins := { s.pins with twinSync := false }, twin := { s.twin with syncLow := some s.now } }

/-- PAIRING begins (R550, R551). -/
def enterPairing (s : State) : State :=
  let s := { s with twin := { s.twin with ctl := none, adopted := false, take := none, j := 0 } }
  setTwin twPAIRING 0 (pullSync (s.setF TWIN_CTRL_ATTACH 1))

/-- A fault of the link, of the sideband or of acknowledgement: PAIRED becomes ineligible, its first cause stands, and with
AUTO it catches up anew, unless it diverged (R538, R540, R547, R550, R567). (DEDUCED, log entry 59). -/
def pairFault (cause : Nat) (s : State) : State :=
  if twinState s ≠ twPAIRED then s
  else
    let s := if s.isSet TWIN_STAT_ELIGIBLE then ineligible cause s else s
    if s.isSet TWIN_CFG_AUTO && s.getF TWIN_STAT_CAUSE != 1 then enterCatchup s else s

/-! ### Commands and direct mode (R557, R558) -/

/-- TWIN_CONFIG (R558). -/
def execTwinConfig (d : Desc) (s : State) : Out :=
  let z := [1, 1, 2]
  runCmd d 0x0C01 z (fun s d => claimC s d .system) (fun s d =>
    let ms := d.arg z 2
    checked [need (decide (d.arg z 0 ≤ 2) && decide (d.arg z 1 ≤ 1) && decide (100 ≤ ms) && decide (ms ≤ 2000)) stBAD] s
      (((((s.take d .system).setF TWIN_CFG_PREF (d.arg z 0)).setF TWIN_CFG_AUTO (d.arg z 1)).setF TWIN_CFG_CATCHUP_MS ms), .ok)) s

/-- What ATTACH starts: pairing from SOLO, catch-up from DETACHED or from PAIRED while not eligible (R550). -/
def attachGo (s : State) : State :=
  if twinState s = twSOLO then (if twinPref s = 0 then s else enterPairing s)
  else if twinState s = twDETACHED ∨ (twinState s = twPAIRED ∧ s.getF TWIN_STAT_ELIGIBLE = 0) then
    enterCatchup (s.setF TWIN_CTRL_ATTACH 1)
  else s

/-- Pairing or catch-up ends in SOLO; an ATTACH written in this cycle starts it again (R21). -/
def abandon (status : Nat) (s : State) : State :=
  let again := s.marked TWIN_CTRL_ATTACH 0
  when again attachGo (leavePairing status s)

/-- A catch-up failure of R553. -/
def catchupFails (status : Nat) (s : State) : State := abandon status (s.hitF TWIN_EVT_CATCHUP_FAIL 1)

/-- ATTACH cannot succeed: PAIRED and eligible, no partner beat, or SOLO without a preference (R558). -/
def attachConflict (s : State) : Bool :=
  (twinState s == twPAIRED && s.isSet TWIN_STAT_ELIGIBLE) || s.getF TWIN_STAT_BEATS_OK == 0
    || (twinState s == twSOLO && twinPref s == 0)

/-- TWIN_ATTACH (R558). -/
def execTwinAttach (d : Desc) (s : State) : Out :=
  runCmd d 0x0C02 [] (fun s d => claimC s d .system) (fun s d =>
    checked [need (!attachConflict s) stCONFLICT] s (attachGo (s.take d .system), .later .twinAttach)) s

/-- What DETACH does (R550): pairing ends, or the standby is held. -/
def detachGo (s : State) : State :=
  if twinState s = twPAIRING ∨ twinState s = twCATCHUP then abandon stABORTED s
  else if twinState s = twPAIRED then
    setTwin twDETACHED (twinRole s) (journalEnds (dropSwap (ineligible 5 s)))
  else s

/-- TWIN_DETACH (R558): the state change comes about within the command. -/
def execTwinDetach (d : Desc) (s : State) : Out :=
  runCmd d 0x0C03 [] (fun s d => claimC s d .system) (fun s d => (detachGo (s.take d .system), .ok)) s

/-- A SWAP record is sent for the tick AT (R557). -/
def swapGo (at' : Nat) (s : State) : State :=
  (s.set64 TWIN_SWAP_AT_LO at').setF TWIN_SWAP_CTRL_PENDING 1

/-- TWIN_ROLE_SWAP (R557, R558). -/
def execTwinRoleSwap (d : Desc) (s : State) : Out :=
  runCmd d 0x0C04 [8] (fun s d => claimC s d .system) (fun s d =>
    checked [need (twinState s == twPAIRED && s.getF TWIN_SWAP_CTRL_PENDING == 0) stCONFLICT] s
      (swapGo (d.arg [8] 0) (s.take d .system), .later .twinSwap)) s

/-- TWIN_BIND_EVENTS (R451, R558). -/
def execTwinBindEvents (d : Desc) (s : State) : Out :=
  let z := [2, 2]
  runCmd d 0x0C05 z (fun s d => firstBad [claimC s d .system, bindOwn s d [d.arg z 0, d.arg z 1]]) (fun s d =>
    checked [bindOk [d.arg z 0, d.arg z 1]] s
      (withBinds d [(0x0C050, 0x220, d.arg z 0), (0x0C051, 0x221, d.arg z 1)] s (fun s => (s.take d .system, .ok)))) s

/-- Every TWIN register, in table order. -/
def twinRecord : List RecItem :=
  [.w TWIN_CFG, .w TWIN_STAT, .w TWIN_CTRL, .q TWIN_SWAP_AT_LO, .w TWIN_SWAP_CTRL, .q TWIN_T_LO, .w TWIN_MISS,
    .w TWIN_LINK_ERR, .q TWIN_DIV_HOP_LO, .w TWIN_CATCHUP, .q TWIN_SNAP_BYTES_LO, .w TWIN_JOURNAL, .w TWIN_EVT,
    .w TWIN_INT_EN, .q TWIN_LAST_BEAT_LO]

/-- TWIN_STATUS (R447, R558). -/
def execTwinStatus (d : Desc) (s : State) : Out :=
  runCmd d 0x0C06 [8] (fun _ _ => 0) (fun s d => outStatus d (d.arg [8] 0) twinRecord s) s

/-- TWIN_CTRL_ATTACH: a write of 1 to TWIN_CTRL.ATTACH. -/
def execTwinCtrlAttach (s : State) : Out := if attachConflict s then .next s else .next (attachGo s)

/-- TWIN_CTRL_DETACH: a write of 1 to TWIN_CTRL.DETACH. -/
def execTwinCtrlDetach (s : State) : Out := .next (detachGo s)

/-- TWIN_SWAP_GO: a write of 1 to TWIN_SWAP_CTRL.GO, which reads 1 until T (R12, R557). -/
def execTwinSwapGo (s : State) : Out :=
  if twinState s = twPAIRED ∧ s.getF TWIN_SWAP_CTRL_PENDING = 0 then
    .next ((swapGo (s.r64 TWIN_SWAP_AT_LO) s).setF TWIN_SWAP_CTRL_GO 1)
  else .next s

/-! ### The link's slots and frames (R536, R537) -/

/-- When slot i of the beat interval that begins with the slot announcing 128k begins to leave, in tenths of a tick. -/
def slotTenths (k i : Nat) : Nat := 1280 * k - 640 + 64 * i

/-- Record bytes a beat interval carries at most in one direction. -/
def intervalBytes : Nat := 19 * 52

/-- One bit of the CRC-32 of IEEE 802.3, least significant first. -/
def crcBit (c : BitVec 32) : BitVec 32 := if c.getLsbD 0 then (c >>> 1) ^^^ 0xEDB88320#32 else c >>> 1

/-- The CRC-32 of a byte string. -/
def crc32 (l : List Byte) : BitVec 32 :=
  ~~~(l.foldl (fun c b => (List.range 8).foldl (fun c _ => crcBit c) (c ^^^ b.setWidth 32)) 0xFFFFFFFF#32)

/-- The 64 bytes of the beat slot sent last: K28.5 and K28.0 stand as their octets 0xBC and 0x1C. -/
def beatSlot (s : State) : List Byte :=
  match s.twin.sent with
  | none => []
  | some (k, role, st, ack, flags) =>
    let body := leBytes 1 role ++ leBytes 1 st ++ leBytes 8 k ++ leBytes 4 ack ++ leBytes 1 flags ++ leBytes 15 0
    List.replicate 2 0xBC ++ body ++ leBytes 4 (crc32 body).toNat ++ List.replicate 28 0x1C

/-- The place of a frame type in the order in which free slots are filled (R537): DIGEST, CONTROL, MIRROR and FINISH,
JOURNAL, SNAPSHOT, IDLE. -/
def frameRank (type : Nat) : Nat :=
  match type with | 4 => 0 | 6 => 1 | 2 => 2 | 3 => 2 | 1 => 3 | 5 => 4 | _ => 5

/-- The type a free slot carries when frames of the types `waiting` wait: the first of the lowest rank, else IDLE. -/
def nextFrame (waiting : List Nat) : Nat :=
  waiting.foldl (fun b t => if frameRank t < frameRank b then t else b) 0

/-- The FSEQ of a frame: one more for each that is not IDLE. -/
def frameFseq (last type : Nat) : Nat := if type = 0 then last else (last + 1) % 2 ^ 32

/-- The 64 bytes of a frame (R536). -/
def frameBytes (type : Nat) (more : Bool) (fseq : Nat) (payload : List Byte) : List Byte :=
  let body := leBytes 1 type ++ leBytes 1 (bit more) ++ leBytes 2 payload.length ++ leBytes 4 fseq
    ++ (payload ++ List.replicate 52 0).take 52
  body ++ leBytes 4 (crc32 body).toNat

/-! ### Beats, toggles and frames (R538 to R540) -/

/-- This twin sends beats and toggles (R539). -/
def beatsOn (s : State) : Bool :=
  (twinState s != twSOLO || twinPref s != 0) && s.clk.fast && !s.boot.inReset

/-- TWIN_BEAT_SEND (R539): the slot announcing 128k leaves at 128k - 64. -/
def execTwinBeatSend (s : State) : Out :=
  if beatsOn s && s.now % 128 == 64 then
    let flags := s.getF TWIN_STAT_ELIGIBLE + 2 * s.getF TWIN_STAT_BEATS_OK + 4 * s.getF TWIN_STAT_LIVE_OK
    .next { s with twin := { s.twin with sent := some ((s.now + 64) / 128, twinRole s, twinState s, s.twin.inOrder, flags) } }
  else .next s

/-- TWIN_LIVE_TOGGLE (R539): at 128k - 16. -/
def execTwinLiveToggle (s : State) : Out :=
  if beatsOn s && s.now % 128 == 112 then .next { s with pins := { s.pins with liveOut := !s.pins.liveOut } } else .next s

/-- A standby follows its primary's pairing state, as its beats announce it. -/
def followPrimary (st : Nat) (s : State) : State :=
  if st = twCATCHUP ∧ (twinState s = twPAIRED ∨ twinState s = twDETACHED) then
    enterCatchup (if s.isSet TWIN_STAT_ELIGIBLE then ineligible 0 s else s)
  else if st = twDETACHED ∧ twinState s = twPAIRED then detachGo s
  else if st = twSOLO ∧ (twinState s = twPAIRING ∨ twinState s = twCATCHUP) then abandon stABORTED s
  else s

/-- A PAIRED twin whose PAIRED partner announces that the standby may not take over follows it (R547, R562); which cause
the partner had is open. (DEDUCED, log entry 59). -/
def followEligible (st flags : Nat) (s : State) : State :=
  if twinState s = twPAIRED ∧ st = twPAIRED ∧ s.isSet TWIN_STAT_ELIGIBLE = true ∧ bitOf flags 0 = false then
    let r := s.fresh
    ineligible (2 + r.2 % 3) r.1
  else s

/-- TWIN_BEAT_RECEIVE (R540, R546, R550): a beat slot with a valid CRC; AUTO starts pairing from SOLO and recovers from a
fault. -/
def execTwinBeatReceive (boundary role state ack flags : Nat) (s : State) : Out :=
  let s := passHeads (fseqPast ack)
    { s with twin := { s.twin with beat := some (boundary / 128, role, state), beatAt := s.now, ack := ack } }
  if twinState s = twSOLO ∧ s.isSet TWIN_CFG_AUTO ∧ twinPref s ≠ 0 then .next (enterPairing s)
  else if twinRole s = 2 ∧ role = 1 then .next (followPrimary state (followEligible state flags s))
  else if twinRole s = 1 ∧ role = 2 then
    let s := followEligible state flags s
    .next (if 2 ≤ s.getF TWIN_STAT_CAUSE ∧ s.getF TWIN_STAT_ELIGIBLE = 0 then pairFault 2 s else s)
  else .next s

/-- The partner is dead (R540, R550, R554, R561, R564): an eligible standby takes over at the next boundary, an ineligible
one never does; a primary drives on alone. -/
def partnerDead (s : State) : State :=
  let s := { s with twin := { s.twin with badAt := none } }.hitF TWIN_EVT_PARTNER_DEAD 1
  if twinState s = twSOLO then s
  else if twinState s = twPAIRING ∨ twinState s = twCATCHUP then abandon stABORTED s
  else if twinRole s = 2 then
    (if twinState s = twPAIRED ∧ s.isSet TWIN_STAT_ELIGIBLE then
      { s with twin := { s.twin with take := some (s.now + 8) } }
    else s)
  else
    let s := dropSwap (s.setF TWIN_STAT_ELIGIBLE 0)
    journalEnds (setTwin twSOLO 0 s)

/-- A fault that is no death (R540): bit `b` of TWIN_EVT, cause `c`. -/
def declareFault (f : Fld) (c : Nat) (s : State) : State := pairFault c (s.hitF f 1)

/-- Both device times agree, so that beats are matched by number: from adoption on (R539, R551). -/
def aligned (s : State) : Bool := twinState s != twSOLO && (twinState s != twPAIRING || s.twin.adopted)

/-- The judgements of R540 at 128k - 8, of a beat received in symbol or not and in toggle or not. -/
def judgeBeat (symbol toggle : Bool) (s : State) : State :=
  let sm := !symbol
  let tm := !toggle
  let was := s.twin
  let s := (s.setF TWIN_STAT_BEATS_OK (bit symbol)).setF TWIN_STAT_LIVE_OK (bit toggle)
  let s := when sm (fun s => s.incF TWIN_MISS_SYMBOL 1) s
  let s := when tm (fun s => s.incF TWIN_MISS_TOGGLE 1) s
  let s := when (symbol && toggle) (fun s => match s.twin.beat with
    | some b => s.set64 TWIN_LAST_BEAT_LO (128 * b.1)
    | none => s) s
  let s := { s with twin := { s.twin with symMiss := sm, togMiss := tm } }
  if sm && tm && (was.symMiss || was.togMiss) then partnerDead s
  else if sm && was.symMiss then declareFault TWIN_EVT_LINK_FAULT 2 s
  else if tm && was.togMiss then declareFault TWIN_EVT_SIDEBAND_FAULT 3 s
  else s

/-- TWIN_BEAT_JUDGE (R540): `liveAt` is the tick of the last change of level seen at TWIN_LIVE_IN, 0 for none. -/
def execTwinBeatJudge (liveAt : Nat) (s : State) : Out :=
  let at' := if liveAt ≤ s.now then max liveAt s.pins.liveInAt else s.pins.liveInAt
  let s := { s with pins := { s.pins with liveInAt := at' } }
  let s := s.setF PINMUX_SHARED_LIVE_SEEN (bit (at' != 0 && decide (s.now ≤ at' + 1024)))
  if !beatsOn s || s.now % 128 != 120 then .next s
  else
    let symbol := match s.twin.beat with
      | some b => if aligned s then b.1 == (s.now + 8) / 128 else decide (s.now < s.twin.beatAt + 128)
      | none => false
    let toggle := at' != 0 && (if aligned s then decide (s.now ≤ at' + 16) else decide (s.now < at' + 128))
    .next (judgeBeat symbol toggle s)

/-- TWIN_FRAME_RECEIVE (R537, R538): a frame that repeats the last FSEQ is IDLE. -/
def execTwinFrameReceive (fseq : Nat) (crcOk : Bool) (s : State) : Out :=
  let last := s.twin.fseq
  let bad := fun (f : Fld) (s : State) =>
    { s with twin := { s.twin with badAt := some (s.twin.badAt.getD ((s.now / 128 + 3) * 128)) } }.incF f 1
  if !crcOk then .next (bad TWIN_LINK_ERR_CRC s)
  else if fseq = last then .next s
  else
    let ok := fseq == (last + 1) % 2 ^ 32
    let s := { s with twin := { s.twin with fseq := fseq } }
    .next (if ok then { s with twin := { s.twin with inOrder := fseq } } else bad TWIN_LINK_ERR_SEQ s)

/-- LINK_FAULT (R538): the partner was not declared dead by the end of the second interval after a bad frame. -/
def execLinkFault (s : State) : Out :=
  match s.twin.badAt with
  | some t =>
    if t ≤ s.now then .next (declareFault TWIN_EVT_LINK_FAULT 2 { s with twin := { s.twin with badAt := none } }) else .next s
  | none => .next s

/-! ### Mirrors and digests (R546 to R549) -/

/-- Complete what an origin can. -/
def completeNext (src : Src) (s : State) : State :=
  match src with
  | .ring r => ringComplete r s
  | .mbox p => mboxComplete p s

/-- MIRROR (R546): a standby in PAIRED receives a record of 32 bytes, or a message of 64. -/
def execMirror (src : Src) (seq written : Nat) (record : List Byte) (s : State) : Out :=
  let size := match src with | .ring _ => 32 | .mbox _ => 64
  if twinRole s ≠ 2 ∨ twinState s ≠ twPAIRED ∨ record.length ≠ size ∨ seq ≤ written then .next s
  else
    let keep := s.twin.mirrors.filter (fun m => !(decide (m.src = src) && (decide (m.seq ≤ written) || m.seq == seq)))
    .next (completeNext src (putMirrors (keep ++ [⟨src, seq, written, record, false, s.now⟩]) s))

/-- FINISH (R546): the primary writes the completion, in SEQ order. -/
def execFinish (src : Src) (seq : Nat) (s : State) : Out :=
  if !mirrorsOn s then .next s else .next (completeNext src (sendFinish src seq s))

/-- A divergence at hop `h` (R549): only the first is reported. -/
def diverge (h : Nat) (s : State) : State :=
  if s.getF TWIN_STAT_ELIGIBLE = 0 ∨ twinState s ≠ twPAIRED then s
  else
    let s := ((ineligible 1 s).set64 TWIN_DIV_HOP_LO h).hitF TWIN_EVT_DIVERGE 1
    if twinRole s ≠ 1 then s
    else
      let s := withFaultPin (fun s => s.hitF ERR_STAT_3_DIVERGE 1) (s.event 0x221)
      (s.errLog 8 0 0 0xFFFF 0xFF 0 h).notice 8 (h % 2 ^ 32)

/-- Compare the digests of a hop once both stand. -/
def compareDigests (h : Nat) (s : State) : State :=
  match s.twin.own.find? (·.1 == h), s.twin.theirs.find? (·.1 == h) with
  | some a, some b => if a.2 = b.2 then s else diverge h s
  | _, _ => s

/-- Digests of the last hops. -/
def keepHops (h : Nat) (l : List (Nat × Nat)) : List (Nat × Nat) := l.filter (fun e => decide (h ≤ e.1 + 3))

/-- The primary's verdicts on jobs whose deadline is D_h: bit s of IN_TIME (low word) where bit s of HAD_JOB (high word) is
set (R360, R548). A job of hop x has its deadline at D of x + 1. -/
def takeVerdicts (h v : Nat) (s : State) : State :=
  let new := (List.range 24).filterMap (fun k => if bitOf v (32 + k) then some (k, h - 1, bitOf v k) else none)
  { s with lynx := { s.lynx with verdicts := s.lynx.verdicts.filter (fun e => decide (h ≤ e.2.1 + 4)) ++ new } }

/-- DIGEST (R548, R549): the partner's DIGEST_h, and on a standby the primary's verdicts. -/
def execDigest (hop partner verdicts : Nat) (s : State) : Out :=
  if twinState s ≠ twPAIRED then .next s
  else
    let s := { s with twin := { s.twin with
      theirs := keepHops hop (s.twin.theirs.filter (·.1 != hop)) ++ [(hop, partner % 2 ^ 128)] } }
    let s := if twinRole s = 2 then takeVerdicts hop verdicts s else s
    .next (compareDigests hop s)

/-- The verdict word of D_h that a primary sends (R548): HAD_JOB above IN_TIME; a job not judged yet is not in time. -/
def ownVerdicts (s : State) (h : Nat) : Nat :=
  (List.range 24).foldl (fun v k =>
    match s.lynx.verdicts.find? (fun e => e.1 == k && e.2.1 + 1 == h) with
    | some e => v + 2 ^ (32 + k) + (if e.2.2 then 2 ^ k else 0)
    | none => if s.lynx.jobs.any (fun j => j.slot == k && j.hop + 1 == h) then v + 2 ^ (32 + k) else v) 0

/-- One word goes before another in a digest (R548): by first-bit tick, port, line and slot. -/
def wordBefore (a b : Nat × Nat × Nat × Nat × Nat) : Bool :=
  decide (a.1 < b.1) || (a.1 == b.1 && decide (64 * a.2.1 + 32 * a.2.2.1 + a.2.2.2.1 < 64 * b.2.1 + 32 * b.2.2.1 + b.2.2.2.1))

/-- Insert a word in that order. -/
def insWord (e : Nat × Nat × Nat × Nat × Nat) : List (Nat × Nat × Nat × Nat × Nat) → List (Nat × Nat × Nat × Nat × Nat)
  | [] => [e]
  | x :: r => if wordBefore e x then e :: x :: r else x :: insWord e r

/-- The 65 codes of the mask a stream applied last. (DEDUCED, log entry 80). -/
def maskCodes (s : State) (k : Nat) : List Byte :=
  (List.range 65).map (fun b => BitVec.ofInt 8 (255 * (s.lstr k).applied.getD b 0 + 1 / 2).floor)

/-- The byte stream of DIGEST_h (R548). -/
def digestBytes (s : State) (h : Nat) : List Byte :=
  let ws := (s.twin.words.filter (fun e => decide (49152 * (h - 1) ≤ e.1) && decide (e.1 < 49152 * h))).foldl
    (fun l e => insWord e l) []
  ws.flatMap (fun e => leBytes 1 e.2.1 ++ leBytes 1 e.2.2.1 ++ leBytes 1 e.2.2.2.1 ++ leBytes 1 0 ++ leBytes 4 e.2.2.2.2)
    ++ (match s.twin.pubs.find? (fun e => e.1 == 49152 * (h - 1)) with | some e => e.2 | none => [])
    ++ (List.range 24).flatMap (fun k => if (s.strm k).opened then maskCodes s k else [])

/-- DIGEST_h (R548): the first 16 bytes of SHA-256. -/
def digestOf (s : State) (h : Nat) : Nat := Config.sha256 (digestBytes s h) / 2 ^ 128 % 2 ^ 128

/-- TWIN_DIGEST_SEND (R548, R549): at D_h; the partner's digest of hop h - 2 must have arrived. -/
def execTwinDigestSend (hop : Nat) (s : State) : Out :=
  if twinState s ≠ twPAIRED ∨ s.now < hop * 49152 + 36864 ∨ (s.twin.own.any (·.1 == hop)) then .next s
  else
    let late := decide (2 ≤ hop) && s.twin.own.any (·.1 + 2 == hop) && !s.twin.theirs.any (·.1 + 2 == hop)
    let s := { s with twin := { s.twin with own := keepHops hop s.twin.own ++ [(hop, digestOf s hop)] } }
    .next (compareDigests hop (when late (diverge (hop - 2)) s))

/-- Completions are written without waiting from now on (R547); the cause ACK_TIMEOUT says so. (DEDUCED, log entry 60). -/
def noMirrors (s : State) : State := ineligible 4 s

/-- ACK_TIMEOUT (R547). -/
def execAckTimeout (s : State) : Out :=
  let late := clampN 1 255 (s.getF TWIN_CFG_ACK_TO) * 49152
  if mirrorsOn s && s.twin.mirrors.any (fun m => !m.finished && decide (m.sentAt + late ≤ s.now)) then
    .next (pairFault 4 (flushMirrors (noMirrors (s.hitF TWIN_EVT_ACK_TIMEOUT 1))))
  else .next s

/-! ### The journal (R542, R543) -/

/-- Whether a record is the journal's next, at its APPLY: in PAIRED on both twins, in CATCHUP, and, for records sent before
the pair ended, on the twin that drives on or took over (R543, R552, R565). -/
def journalNext (jseq apply : Nat) (s : State) : Bool :=
  jseq == s.twin.jseq + 1 && apply % 128 == 0 && decide (apply ≤ s.now)
    && (twinState s == twPAIRED || twinState s == twCATCHUP
      || ((twinState s == twSOLO || (twinState s == twDETACHED && twinRole s == 1)) && s.twin.j != 0))

/-- In CATCHUP the primary has already given the item its effect (R543). -/
def effectDue (s : State) : Bool := !(twinState s == twCATCHUP && twinRole s == 1)

/-- A record takes its effect: the model takes LEAD, the delay measured, as a free value. -/
def journal (jseq apply : Nat) (f : State → State) (s : State) : Out :=
  if !journalNext jseq apply s then .next s
  else
    let (s, lead) := s.fresh
    let s := { s with twin := { s.twin with jseq := jseq } }.setF TWIN_JOURNAL_LEAD lead
    .next (if effectDue s then f s else s)

/-- The SEQ a new descriptor of an origin has. -/
def nextSeq (s : State) : Src → Nat
  | .mbox _ => 0
  | .ring r => (s.ring r).fetched + 1

/-- The APPLY of a COMMAND's descriptor, whose record's last frame is FSEQ `f`: on a primary the command it fetched may
start, and SQ_HEAD passes it once the standby has acknowledged the frame; on the other twin it enters (R543, R546).
(DEDUCED, log entry 80). -/
def applyDesc (f : Nat) (src : Src) (raw : BitVec 512) (s : State) : State :=
  let pass := fun (k : Nat) (s : State) => match src with
    | .ring r =>
      if twinRole s = 1 ∧ twinState s = twPAIRED ∧ fseqPast s.twin.ack f = false then
        { s with twin := { s.twin with unacked := s.twin.unacked ++ [(r, k, f)] } }
      else s.setF (RING_SQ_HEAD_HEAD r) k
    | .mbox _ => s
  if twinRole s = 1 ∨ (twinState s = twSOLO ∧ s.twin.take = none) then
    match s.twin.unapplied.find? (fun e => decide (e.1 = src)) with
    | some e => pass e.2 { s with twin := { s.twin with unapplied := s.twin.unapplied.erase e } }
    | none => s
  else if (match src with | .mbox p => mboxBusy s p | .ring _ => false) then s
  else
    let k := nextSeq s src
    let s := s.takeIn ⟨src, k, raw⟩
    pass k { s with twin := { s.twin with unapplied := s.twin.unapplied.filter (fun e => !(decide (e.1 = src) && e.2 == k)) } }

/-- JOURNAL_COMMAND (R543). -/
def execJournalCommand (jseq apply : Nat) (src : Src) (descs : List (BitVec 512)) (fseq : Nat) (s : State) : Out :=
  journal jseq apply (fun s => descs.foldl (fun s raw => applyDesc fseq src raw s) s) s

/-- JOURNAL_START (R543). -/
def execJournalStart (jseq apply : Nat) (src : Src) (seq : Nat) (s : State) : Out :=
  journal jseq apply (fun s => { s with twin := { s.twin with starts := s.twin.starts ++ [(src, seq)] } }) s

/-- JOURNAL_INDEX (R543). -/
def execJournalIndex (jseq apply : Nat) (addr : Nat) (v : Nat) (s : State) : Out :=
  journal jseq apply (putIndex addr v) s

/-- Bytes enter memory. -/
def journaledBytes (addr : Nat) (data : List Byte) (s : State) : State := s.overwrite addr data

/-- JOURNAL_HOST_WRITE (R543). -/
def execJournalHostWrite (jseq apply : Nat) (addr : Nat) (data : List Byte) (s : State) : Out :=
  journal jseq apply (journaledBytes addr data) s

/-- JOURNAL_HOST_READ (R543). -/
def execJournalHostRead (jseq apply : Nat) (addr : Nat) (data : List Byte) (s : State) : Out :=
  journal jseq apply (fun s => landLines (readServed addr data.length (journaledBytes addr data s))) s

/-- JOURNAL_PORT_EVENT (R543). -/
def execJournalPortEvent (jseq apply : Nat) (p : Nat) (s : State) : Out := journal jseq apply (resetPortNow p) s

/-- JOURNAL_RANDOM (R368, R543): the seed of an operation of Fog. -/
def execJournalRandom (jseq apply : Nat) (op : Nat) (data : List Nat) (s : State) : Out :=
  journal jseq apply (fun s => { s with fog := { s.fog with
    ops := s.fog.ops.map (fun e => if e.1 = op then (e.1, { e.2 with seed := data.headD e.2.seed }) else e) } }) s

/-- The first multiple of 128 at or past a tick. -/
def up128 (t : Nat) : Nat := (t + 127) / 128 * 128

/-- T of a swap (R557): AT at zero names the next hop boundary. -/
def swapTick (at' apply : Nat) : Nat := up128 (max (if at' = 0 then (apply / 49152 + 1) * 49152 else at') apply)

/-- JOURNAL_SWAP (R557). -/
def execJournalSwap (jseq apply : Nat) (t : Nat) (s : State) : Out :=
  journal jseq apply (fun s =>
    if twinState s = twPAIRED then
      { s with twin := { s.twin with swap := some (swapTick t apply) } }.setF TWIN_SWAP_CTRL_PENDING 1
    else s) s

/-- A primary that commits PARK becomes SOLO, and its standby DETACHED (R550). -/
def parkDetach (s : State) : State :=
  if twinState s = twSOLO ∨ twinRole s = 2 then s
  else
    let s := dropSwap (ineligible 5 s)
    journalEnds (setTwin twSOLO 0 (attachEnds stABORTED 0 (catchupOver s)))

/-- DETACH_RECORD_APPLY (R550). -/
def execDetachRecordApply (jseq apply : Nat) (s : State) : Out :=
  journal jseq apply (fun s =>
    if twinRole s = 2 then setTwin twDETACHED 2 (journalEnds (dropSwap (ineligible 5 (catchupOver s)))) else parkDetach s) s

/-! ### Takeover and role swap (R554, R555, R557) -/

/-- A mirrored completion is written again, or for the first time, with the mirror's bytes (R555, step 1). -/
def rewriteMirror (m : TwinMirror) (s : State) : State :=
  match m.src with
  | .mbox p => if m.finished then s else outMessage p m.bytes s
  | .ring r =>
    if m.finished then (s.writeChecked (settAcq (s.getF (RING_CFG_SESSION r)) true) none (cqSlot s r m.seq) m.bytes).1
    else
      let s := finishCmd m.src m.seq (recField m.bytes 0xC 2) (recField m.bytes 0x10 8) [] s
      match findCmd s m.src m.seq with
      | some c => if s.r64 (RING_SEQ_LO r) = m.seq then writeRing r c m.bytes s else s
      | none => s

/-- The highest WRITTEN received of an origin. -/
def lastWritten (l : List TwinMirror) (src : Src) : Nat :=
  l.foldl (fun w m => if m.src = src then max w m.written else w) 0

/-- R555, step 1: mirrors past the last WRITTEN, in SEQ order. -/
def rewriteMirrors (s : State) : State :=
  let l := s.twin.mirrors
  l.foldl (fun s m => if lastWritten l m.src < m.seq then rewriteMirror m s else s) (putMirrors [] s)

/-- The command's completion was mirrored. -/
def wasMirrored (l : List TwinMirror) (s : State) (c : Cmd) : Bool :=
  match c.src with
  | .ring _ => l.any (fun m => decide (m.src = c.src) && m.seq == c.seq)
  | .mbox p => l.any (fun m => m.src == .mbox p && !isNotice m.bytes && decide (s.r64 (MBOX_SEQ_LO p) ≤ m.seq))

/-- The command waits on an exchange or a deadline. -/
def waitsLong (s : State) (c : Cmd) : Bool :=
  s.denrek.awaits.any (fun e => e.2.1 == c.src && e.2.2 == c.seq && match e.1 with
    | .fogOp op => s.fog.ops.any (fun o => o.1 == op && o.2.wait.isSome)
    | .lynxRun _ => true
    | _ => false)

/-- The run that a started command waits for is cancelled: an operation of Fog, a job of Lynx, a copy, a transfer, a load, a
swap not made yet (R555). -/
def cancelWait (src : Src) (seq : Nat) (w : Await) (s : State) : State :=
  let mine := fun (c : Option (Src × Nat)) => decide (c = some (src, seq))
  match w with
  | .fogOp op => keysSettle (fogShow (s.setFogOps (s.fog.ops.filter (fun e => e.1 != op))))
  | .lynxRun j =>
    progPrune (forN 8 (fun n s => s.setInfl n ((inflOf s n).filter (fun i => i != j)))
      (s.setJobs (s.lynx.jobs.filter (fun x => x.id != j))))
  | .memCopy _ _ _ => putTags (dropReads (.copy src seq) s)
  | .martenDma n c =>
    let s := putTags (dropReads (.dma n c) (s.setCore n { s.core n with dma := (s.core n).dma.filter (fun e => e.1 != c) }))
    (s.setF (MARTEN_DMA_CTRL_BUSY n c) 0).setF (MARTEN_DMA_CTRL_GO n c) 0
  | .gustLoad =>
    let g := s.gust
    let s := { s with gust := { g with load := none, swaps := g.swaps.map (fun (e : Option Nat × Option (Src × Nat)) => (some (e.1.getD s.now), e.2)) } }
    (s.setF GUST_STAT_LOAD_BUSY 0).setF GUST_LOAD_CTRL_GO 0
  | .gustSwap =>
    let rest := s.gust.swaps.filter (fun e => !mine e.2)
    { s with gust := { s.gust with swaps := rest } }.setF GUST_STAT_PENDING rest.length
  | .decSwap p =>
    let rest := s.dec.swaps.filter (fun e => !mine e.2.2)
    let held := s.dec.held.filter (fun e => !decide (e.2 = (src, seq)))
    { s with dec := { s.dec with swaps := rest, held := held } }.setF (DEC_FIR_CTRL_PENDING p)
      (rest.filter (fun (e : Nat × Nat × Option (Src × Nat)) => e.1 == p)).length
  | _ => s

/-- Whatever run of a command is in progress is cancelled. -/
def cancelRun (c : Cmd) (s : State) : State :=
  let mine := fun (e : Await × Src × Nat) => e.2.1 == c.src && e.2.2 == c.seq
  let ws := s.denrek.awaits.filter mine
  ws.foldl (fun s e => cancelWait c.src c.seq e.1 s)
    { s with denrek := { s.denrek with awaits := s.denrek.awaits.filter (fun e => !mine e) } }

/-- A command that started before T and has no mirror (R555, step 2). -/
def settleCmd (c : Cmd) (s : State) : State :=
  if c.desc.idempotent then (cancelRun c s).putCmd { c with phase := .again, time := s.now }
  else if c.phase = .finished then s.putCmd { c with status := stFAILOVER, result := 0, ext := [], signalled := false }
  else if waitsLong s c then finishCmd c.src c.seq stFAILOVER 0 [] (cancelRun c s)
  else s.putCmd { c with phase := .lost }

/-- R555, steps 1 and 2. -/
def settleCommands (s : State) : State :=
  let l := s.twin.mirrors
  let s := rewriteMirrors s
  (s.denrek.cmds.filter (fun c => c.begun && !wasMirrored l s c)).foldl (fun s c => settleCmd c s) s

/-- The notice waits at every port with an OPEN session, to be written once the port is ready (R555). -/
def noticeAll (code detail : Nat) (s : State) : State :=
  forN 10 (fun p s => if (openSessions s p).isEmpty then s
    else s.setPort p { s.port p with notices := queueNotice code detail s.now (s.port p).notices }) s

/-- PDM bits are substituted from the last beat received; the new primary's PDM clocks start at T (R147). -/
def gapFrom (t : Nat) (s : State) : State :=
  { s with dec := { s.dec with gap := some (s.r64 TWIN_LAST_BEAT_LO, t) } }

/-- TAKEOVER (R554, R555). -/
def execTakeover (s : State) : Out :=
  match s.twin.take with
  | none => .next s
  | some t =>
    if s.now < t ∨ twinRole s ≠ 2 ∨ twinState s ≠ twPAIRED then .next s
    else
      let s := ((gapFrom t s).set64 TWIN_T_LO t).hitF TWIN_EVT_TAKEOVER 1
      let s := withFaultPin (fun s => s.hitF ERR_STAT_3_FAILOVER 1) s
      let s := (s.setReg CLK_REF_PRIO s.twin.clk.1).setReg CLK_REF_CTRL s.twin.clk.2
      let s := settleCommands (dropSwap s)
      let s := { s with twin := { s.twin with starts := [] } }
      let s := (setTwin twSOLO 0 s).setF TWIN_STAT_ELIGIBLE 0
      .next (noticeAll 7 (roleDetail twSOLO 0) s)

/-- The loop is held at TWIN, and what the primary's clock owner set is kept (R535). -/
def holdTwinRef (s : State) : State :=
  let s := { s with twin := { s.twin with clk := (s.reg CLK_REF_PRIO, s.reg CLK_REF_CTRL) } }
  (s.setReg CLK_REF_PRIO 8).setF CLK_REF_CTRL_REVERT 1

/-- ROLE_SWAP_EXECUTE (R557): the roles change at T on both twins; a GO written in this cycle asks for the next (R21). -/
def execRoleSwapExecute (s : State) : Out :=
  match s.twin.swap with
  | none => .next s
  | some t =>
    if s.now < t ∨ twinState s ≠ twPAIRED then .next s
    else
      let again := s.marked TWIN_SWAP_CTRL_GO 0
      let s := (s.set64 TWIN_T_LO t).setF TWIN_SWAP_CTRL_PENDING 0 |>.setF TWIN_SWAP_CTRL_GO 0
      let redo := when again (fun s => (swapGo (s.r64 TWIN_SWAP_AT_LO) s).setF TWIN_SWAP_CTRL_GO 1)
      let s := { s with twin := { s.twin with swap := none } }
      let s := finishAwaits (fun w => w == .twinSwap) stDONE t s
      let s := if s.isSet TWIN_STAT_ELIGIBLE then s else ineligible 1 s
      if twinRole s = 1 then .next (redo (holdTwinRef (setTwin twPAIRED 2 (flushMirrors s))))
      else
        let s := (s.setReg CLK_REF_PRIO s.twin.clk.1).setReg CLK_REF_CTRL s.twin.clk.2
        .next (redo (setTwin twPAIRED 1 (rewriteMirrors s)))

/-! ### TWIN_SYNC (R534) -/

/-- TWIN_SYNC_RELEASE (R534): after 4 slow ticks. -/
def execTwinSyncRelease (s : State) : Out :=
  match s.twin.syncLow with
  | some t =>
    if t + 12000 ≤ s.now then
      .next { s with pins := { s.pins with twinSync := true }, twin := { s.twin with syncLow := none } }
    else .next s
  | none => .next s

/-- TWIN_SYNC_EDGE (R534, R85): a rising edge of the partner's pulse is the TWIN wake source. -/
def execTwinSyncEdge (s : State) : Out := if s.twin.syncLow.isSome then .next s else execWakeDetect 64 [] [] s

/-! ### Pairing and catch-up (R551 to R553) -/

/-- SEC_VERSION and BUILD of every running image, in their order. -/
def ownVersions (s : State) : List Nat :=
  (s.boot.images.filter (fun e => e.2.present)).flatMap (fun e => [e.1, e.2.secVersion, e.2.build])

/-- CONTROL (R551, steps 2 to 4): the partner's preference and versions. -/
def execControl (versions : List Nat) (pref : Nat) (s : State) : Out :=
  if twinState s ≠ twPAIRING ∨ s.twin.ctl.isSome then .next s
  else if pref = twinPref s then .next (abandon stCONFLICT (s.hitF TWIN_EVT_ROLE_CLASH 1))
  else if versions ≠ ownVersions s then .next (abandon stCONFLICT (s.hitF TWIN_EVT_VERSION_MISMATCH 1))
  else
    let s := { s with twin := { s.twin with ctl := some (versions, pref) } }
    if twinPref s = 2 then .next (holdTwinRef (setTwin twPAIRING 2 (closeAll s)))
    else .next (setTwin twPAIRING 1 s)

/-- TWIN_TIME_ADOPT (R43, R551, step 5): at a beat boundary of its own the standby takes `t`, the primary's device time. -/
def execTwinTimeAdopt (t : Nat) (s : State) : Out :=
  if twinState s = twPAIRING ∧ twinRole s = 2 ∧ s.twin.ctl.isSome ∧ !s.twin.adopted ∧ s.now % 128 = 0 ∧ t % 128 = 0 then
    .next { s with clk := { s.clk with time := t % 2 ^ 64 }, twin := { s.twin with adopted := true } }
  else .next s

/-- PAIRING_DONE (R551): the standby's loop locks on TWIN, as R56 has it; the primary sees its partner in CATCHUP. -/
def execPairingDone (s : State) : Out :=
  if twinState s ≠ twPAIRING then .next s
  else if twinRole s = 2 then
    (if s.twin.adopted && qualified s 8 then
      let s := ((s.setF CLK_STATUS_STATE 1).setF CLK_STATUS_SEL 8).setF CLK_STATUS_FROM 0
      let s := { s with clk := { s.clk with lockedAt := s.now } }.setReg CLK_FREQ (s.reg (CLK_REF_OFS 8))
      .next (enterCatchup s)
    else .next s)
  else if twinRole s = 1 ∧ s.twin.beat.any (fun b => b.2.1 == 2 && b.2.2 == twCATCHUP) then .next (enterCatchup s)
  else .next s

/-- The busiest Marten core leaves time for a replay faster than real time: s exceeds 1 (R552, R553). -/
def replayGains (s : State) : Bool := (List.range 4).all (fun n => decide (s.getF (MARTEN_PERF_HOP_BUSY_CYC n) < 500000))

/-- CATCHUP_SNAPSHOT (R552, phases 1 and 2): at the hop boundary J; the primary first takes its buffer (R553). -/
def execCatchupSnapshot (s : State) : Out :=
  if twinState s ≠ twCATCHUP ∨ s.getF TWIN_CATCHUP_PHASE ≠ 1 ∨ s.now % 49152 ≠ 0 then .next s
  else
    let start := fun (s : State) =>
      ({ s with twin := { s.twin with j := s.now, jseq := 0, own := [], theirs := [] } }.setF TWIN_CATCHUP_PHASE 2).set64
        TWIN_SNAP_BYTES_LO 0
    if twinRole s = 2 then .next (start s)
    else if !replayGains s then .next (catchupFails stTIMEOUT s)
    else match findFree s ddrFwEnd (ddrEnd s) catchupBytes with
      | some b => .next (start { s with twin := { s.twin with buf := some b } })
      | none => .next (catchupFails stNORES s)

/-- Registers of a snapshot that stay this twin's own: the twin and host blocks, clocks, power and debug. -/
def snapOwn (a : Nat) : Bool :=
  a / 65536 == 0x2011 || a / 65536 == 0x2012 || a / 65536 == 0x2013
    || (match specOf a with | some r => decide (r.dom ≠ .core) | none => true)

/-- Words of a snapshot enter registers; the clock configuration enters the mirrored state (R535). -/
def snapRegs : Nat → List Word → State → State
  | _, [], s => s
  | a, w :: r, s =>
    let s :=
      if a = CLK_REF_PRIO then { s with twin := { s.twin with clk := (w, s.twin.clk.2) } }
      else if a = CLK_REF_CTRL then { s with twin := { s.twin with clk := (s.twin.clk.1, w) } }
      else if snapOwn a then s else s.setReg a w
    snapRegs (a + 4) r s

/-- What a snapshot holds beside memory and registers: the internal state of every unit that runs in lockstep, and firmware's
tables; and, after a replay, what it left in memory and in registers. -/
structure Lockstep where
  denrek : Denrek
  cores : Tab Core
  dec : Dec
  tdm : Tdm
  rate : Rate
  gust : Gust
  sense : Sense
  fox : Fox
  lynx : Lynx
  fog : Fog
  cells : List (Nat × Byte)
  words : List (Nat × Word)
deriving DecidableEq, Repr

/-- The state at a tick of a twin that installs the snapshot whose last record holds the bytes and runs every unit from J on
the inputs and journal recorded since (R552, phase 4): the format of that record and the recording are open, so nothing
constrains it. (DESIGN CHOICE, log entry 81). -/
opaque Config.replayed : List Byte → Nat → Option Lockstep

/-- Install what a replay has reached at a tick (R40, R229, R552). -/
def installReplay (t : Nat) (s : State) : State :=
  match Config.replayed s.twin.snap t with
  | none => s
  | some x =>
    let s := { s with denrek := x.denrek, cores := x.cores, dec := x.dec, tdm := x.tdm, rate := x.rate, gust := x.gust,
                      sense := x.sense, fox := x.fox, lynx := x.lynx, fog := x.fog }
    let s := x.cells.foldl (fun s e => s.setByte e.1 e.2) s
    x.words.foldl (fun s e => snapRegs e.1 [e.2] s) s

/-- SNAPSHOT (R552, phases 3 and 4): the standby installs the bytes; the last record carries what has no address, which is
installed as the state at J, and starts the replay. -/
def execSnapshot (addr : Nat) (data : List Byte) (last : Bool) (s : State) : Out :=
  if twinState s ≠ twCATCHUP ∨ twinRole s ≠ 2 ∨ s.getF TWIN_CATCHUP_PHASE < 2 ∨ 3 < s.getF TWIN_CATCHUP_PHASE then .next s
  else
    let s :=
      if last then installReplay s.twin.j { s with twin := { s.twin with snap := data } }
      else if kindOf s addr = .regs then snapRegs addr (wordsOf data) s
      else journaledBytes addr data s
    let s := s.set64 TWIN_SNAP_BYTES_LO (s.r64 TWIN_SNAP_BYTES_LO + data.length)
    .next (lowerPorts (s.setF TWIN_CATCHUP_PHASE (if last then 4 else 3)))

/-- CATCHUP_JOIN (R552, phase 5): the standby has replayed to the present at a boundary; the primary sees it PAIRED. -/
def execCatchupJoin (s : State) : Out :=
  let ready :=
    if twinRole s = 2 then s.getF TWIN_CATCHUP_PHASE == 4 && s.now % 49152 == 0
    else decide (2 ≤ s.getF TWIN_CATCHUP_PHASE) && s.twin.beat.any (fun b => b.2.1 == 2 && b.2.2 == twPAIRED)
  if twinState s ≠ twCATCHUP ∨ !ready then .next s
  else
    let s := when (twinRole s == 2) (installReplay s.now) s
    let s := ((catchupOver s).setF TWIN_STAT_ELIGIBLE 1).setF TWIN_STAT_CAUSE 0
    let s := setTwin twPAIRED (twinRole s) (s.hitF TWIN_EVT_CATCHUP_DONE 1)
    .next (attachEnds stDONE s.now s)

/-- CATCHUP_TIMEOUT (R553): CATCHUP_MS have passed, or, as `full` reports, the buffer overflowed or the standby's recording
space ran out. (DEDUCED, log entry 81). -/
def execCatchupTimeout (full : Bool) (s : State) : Out :=
  if full = true ∧ twinState s = twCATCHUP ∧ 2 ≤ s.getF TWIN_CATCHUP_PHASE then .next (catchupFails stTIMEOUT s)
  else if twinState s = twCATCHUP ∧ s.twin.pairFrom + clampN 100 2000 (s.getF TWIN_CFG_CATCHUP_MS) * 98304 ≤ s.now then
    .next (catchupFails stTIMEOUT s)
  else .next s

/-- What time alone changes: ELAPSED counts from J, and LIVE_SEEN follows the last change (R552, R604). -/
def twinTick (s : State) : State :=
  let s := if 2 ≤ s.getF TWIN_CATCHUP_PHASE then s.setF TWIN_CATCHUP_ELAPSED ((s.now - s.twin.j) / 98304) else s
  if s.isSet PINMUX_SHARED_LIVE_SEEN && decide (s.pins.liveInAt + 1024 < s.now) then s.setF PINMUX_SHARED_LIVE_SEEN 0 else s

end Sys2Proof.Machine
end

