-- ==== Sys2Proof/Machine/Boot.lean ====
section
/-! DEFINITION. Resets, boot, firmware images, OTP and the watchdog (R102 to R127, R604, R607); the commit of PARK and the
end of a wake (R74, R81, R87, R101). (DEDUCED, log entry 23). -/

namespace Sys2Proof.Machine

/-! ### Resets (R102 to R107) -/

/-- The number of leading steps set, of 128 (R118). -/
def stepsSet : Nat → Nat → Nat
  | 0, _ => 0
  | k + 1, v => if bitOf v 0 then 1 + stepsSet k (v / 2) else 0

/-- The rollback count: a step counts as set in either copy (R118). -/
def rollbackCount (o : Otp) : Nat := stepsSet 128 (o.rollbackA ||| o.rollbackB)

/-- A PROVISIONED part (R117). -/
def secure (o : Otp) : Bool := o.lifecycle != 0

/-- What SYS shows of the OTP shadow (R122's table). -/
def showOtp (s : State) : State :=
  let o := s.boot.otp
  ((s.setF SYS_ROLLBACK_COUNT (rollbackCount o)).setF SYS_LIFECYCLE_SECURE (bit (secure o))).setF SYS_LIFECYCLE_REVOKED o.revoke

/-- The registers of a pair belong to a domain that the CORE reset resets. -/
def resetsWithCore (a : Nat) : Bool :=
  match specOf a with
  | some r => r.dom == .core || r.dom == .link
  | none => true

/-- The hidden state of the CORE domain at its reset. The debug port, which POR_N alone resets, keeps its latches (R22). -/
def coreHidden (s : State) : State :=
  { dropLatches (fun k => k != initKey .debug) s with
    hostif := Hostif.reset, denrek := Denrek.reset, cores := [], dec := Dec.reset, tdm := Tdm.reset, rate := Rate.reset
    gust := Gust.reset, sense := Sense.reset, fox := Fox.reset, lynx := Lynx.reset, fog := Fog.reset, twin := Twin.reset
    pairLast := s.pairLast.filter (fun e => !resetsWithCore e.1)
    boot := { s.boot with inReset := true, sramFilled := false, srcIdx := 0, images := [], wdogFrom := 0, resetAt := none,
                          lynxPages := 0, start := none }
    pins := { s.pins with liveOut := false, twinSync := true }
    pwr := { s.pwr with phase := if s.clk.fast then .steady else .waking, holdUntil := none, stopped := 0,
                        coresRunning := 0, coresLoaded := 0 }
    dbg := { s.dbg with access := none, halting := 0, stepping := 0, gpr := [] } }

/-- A CORE reset (R102, R103): CORE and PCIE_LINK return to their Reset values, transactions in flight are aborted, Dormouse
RAM and 5X memory are undefined; `cause` is the bit of SYS_RST_CAUSE set.
(DESIGN CHOICE, log entry 2; DEDUCED, log entry 24). -/
def coreReset (cause : Fld) (s : State) : State :=
  let s := loseMem dormBase (dormBase + 0x8_0000) (loseMem ddrBase (hostBase 0) s)
  let s := showOtp (coreHidden ((s.resetDomain .core).resetDomain .link))
  let s := forN 6 (fun c s => dbgRunning c s) (s.setF DBG_STAT_BUSY 0)
  s.hitF cause 1

/-- The reset value of PWR_THERM.LIMIT, which the grade gives (R15, R19, R94). -/
def setLimit (s : State) : State := if s.boot.gradeA then s else s.setF PWR_THERM_LIMIT 105

/-- POR_ASSERT (R104): every domain resets; OTP, the balls' levels from outside and host memory stay. -/
def execPorAssert (s : State) : Out :=
  let s := loseMem 0 (hostBase 0) s
  .next (setLimit <| showMuteN <| showOtp { State.reset with
    pending := s.pending
    mem := s.mem
    boot := { Boot.reset with otp := s.boot.otp, gradeA := s.boot.gradeA }
    pins := { Pins.reset with porN := false, muteN := s.pins.muteN, startIn := s.pins.startIn, syncIn := s.pins.syncIn }
    freeCtr := s.freeCtr })

/-- AON_BROWNOUT (R607): the internal reset is equal to POR_N low. (DEDUCED, log entry 24). -/
def execAonBrownout (s : State) : Out := execPorAssert s

/-- POR_RELEASE (R108, R583, R602): straps and the VDDIO_B level are latched; the debug port locks as OTP says. -/
def execPorRelease (straps : Nat) (vio33 : Bool) (s : State) : Out :=
  if s.pins.porN then .next s
  else
    let s := { s with pins := { s.pins with porN := true } }
    let s := (s.setF SYS_STRAP_BOOT_SEL straps).setF PINMUX_STAT_VIOB (bit vio33)
    let o := s.boot.otp
    let lock := if o.dbgLock = 0 then 0 else if o.dbgLock = 0x5A then 1 else 2
    .next (((s.setF DBG_STAT_LOCK lock).setF DBG_STAT_UNLOCKED (bit (lock == 0))).setF DBG_STAT_SCOPE (if lock = 0 then 63 else 0))

/-- RESET_N_PULSE (R104): a pulse of 20 to 100 ns, which the integrator must not drive, resets or not: left open.
(DESIGN CHOICE, log entry 15). -/
def execResetNPulse (lowNs : Nat) (s : State) : Out :=
  if !s.pins.porN || decide (lowNs < 20) then .next s
  else if 100 ≤ lowNs then .next (coreReset SYS_RST_CAUSE_PIN s)
  else
    let (s, v) := s.fresh
    .next (if v % 2 = 1 then coreReset SYS_RST_CAUSE_PIN s else s)

/-- CORE_RST_WRITE (R102): a write of 1 to SYS_RST_CTRL.CORE_RST. -/
def execCoreRstWrite (s : State) : Out := if s.pins.porN then .next (coreReset SYS_RST_CAUSE_SW s) else .next s

/-- Every on-chip SRAM but Dormouse RAM reads zero with valid ECC (R103). -/
def zeroSram (s : State) : State :=
  let dorm := fun (w : Nat) => decide (dormBase ≤ w) && decide (w < dormBase + 0x8_0000)
  let off := fun (w : Nat) => decide (ddrBase ≤ w) || dorm w
  ((({ s with ecc := { s.ecc with ce := s.ecc.ce.filter off, ue := s.ecc.ue.filter off } }).zeroMem 0 settRom).zeroMem
    (settRom + 0x4_0000) dormBase).zeroMem (dormBase + 0x8_0000) regBase

/-! ### Boot sources (R108 to R111) -/

/-- The Sett controller halts at the first ROM instruction: RESET_HALT, or DEBUG_WAIT (R108, R585, R590). -/
def romHalts (s : State) : Bool :=
  (s.getF SYS_STRAP_BOOT_SEL == 7 || s.isSet (DBG_CORE_CTRL_RESET_HALT 4)) && s.isSet DBG_STAT_UNLOCKED
    && s.getB DBG_STAT_SCOPE 1

/-- The sources tried, as SYS_BOOT_STATUS.SOURCE codes: 1 flash A, 2 flash B, 3 PCIe, 4 SPI_A (R108). Under DEBUG_WAIT
whether debug is locked is judged at every verification step. (DESIGN CHOICE, log entry 72). -/
def bootSources (s : State) : List Nat :=
  match s.getF SYS_STRAP_BOOT_SEL with
  | 1 => [3]
  | 2 => [4]
  | 3 => [1, 2, 3]
  | 4 => [1, 2, 4]
  | 7 => if s.isSet DBG_STAT_UNLOCKED && s.getB DBG_STAT_SCOPE 1 then [] else [1, 2]
  | _ => [1, 2]

/-- The source in turn. -/
def bootSource (s : State) : Option Nat := (bootSources s)[s.boot.srcIdx]?

/-- The ROM runs and has not yet started firmware. -/
def romRuns (s : State) : Bool :=
  s.pins.porN && !s.boot.inReset && s.boot.sramFilled && decide (s.getF SYS_BOOT_STATUS_CODE < 4) && !dbgHeld s 4

/-- A download source waits for the host. -/
def romWaits (s : State) : State := match bootSource s with
  | some k => if 3 ≤ k then s.setF SYS_BOOT_STATUS_CODE 2 else s
  | none => s

/-- Registers 0 to 33 of debug unit c, the Sett controller or the Dormouse core, take values the specification leaves open.
(DESIGN CHOICE, log entry 6). -/
def freeGprs (c : Nat) (s : State) : State :=
  forN 34 (fun k s =>
    let r := s.fresh
    { r.1 with dbg := { r.1.dbg with gpr := tabPut 0 (64 * c + k) (BitVec.ofNat 32 r.2) r.1.dbg.gpr } }) s

/-- Debug unit c, the Sett controller or the Dormouse core, is halted (R586, R590). -/
def unitHalted (c cause : Nat) (s : State) : State :=
  let s := freeGprs c (dbgRunning c s)
  (((s.setF (DBG_CORE_CTRL_STATE c) 2).setF (DBG_CORE_CTRL_CAUSE c) cause).setF (DBG_CORE_CTRL_HIT c) 0).hitB DBG_EVT_HALTED c

/-- SYSTEM_PLL_LOCK (R103): the boot ROM starts on the Sett controller; PWR_STATUS shows booting, with Lynx and Fog gated.
(DEDUCED, log entry 24). -/
def execSystemPllLock (s : State) : Out :=
  if !s.pins.porN || !s.boot.inReset then .next s
  else
    let s := { s with boot := { s.boot with inReset := false } }
    let s := ((s.setF CLK_STATUS_SYS_LOCK 1).setF CLK_STATUS_MEM_LOCK 1).setF CLK_STATUS_SLOW_OK 1
    let s := ((s.setF PWR_STATUS_STATE 5).setF PWR_STATUS_LYNX_ON 0).setF PWR_STATUS_FOG_ON 0
    .next (if romHalts s then unitHalted 4 6 { s with dbg := { s.dbg with settAt := s.now } } else s)

/-- SRAM_FILL_DONE (R103). -/
def execSramFillDone (s : State) : Out :=
  if s.boot.inReset || s.boot.sramFilled then .next s
  else .next (romWaits (zeroSram { s with boot := { s.boot with sramFilled := true } }))

/-! ### Bundles and images (R109 to R117) -/

/-- The number of big-endian bytes (R112). -/
def beNat (bs : List Byte) : Nat := bs.foldl (fun n b => 256 * n + b.toNat) 0

/-- Image header `i` of a bundle. -/
def imgHdr (bs : List Byte) (i : Nat) : List Byte := (bs.drop (64 + 256 * i)).take 256

def hdrType (h : List Byte) : Nat := recField h 6 2
def hdrSec (h : List Byte) : Nat := recField h 8 4
def hdrLoad (h : List Byte) : Nat := recField h 0x10 8
def hdrSize (h : List Byte) : Nat := recField h 0x18 4
def hdrEntry (h : List Byte) : Nat := recField h 0x1C 4
def hdrOfs (h : List Byte) : Nat := recField h 0x20 4
def hdrMask (h : List Byte) : Nat := recField h 0x24 1

/-- The payload of an image. -/
def hdrPayload (bs h : List Byte) : List Byte := (bs.drop (hdrOfs h)).take (hdrSize h)

/-- A header's own fields (R113, first item; the header table). -/
def hdrOk (bs h : List Byte) : Bool :=
  h.length == 256 && recField h 0 4 == 0x4F505948 && recField h 4 2 == 1 && decide (1 ≤ hdrType h) && decide (hdrType h ≤ 4)
    && decide (hdrSec h ≤ 128) && hdrSize h % 16 == 0 && hdrOfs h % 16 == 0 && decide (hdrOfs h + hdrSize h ≤ bs.length)
    && recField h 0x25 27 == 0 && recField h 0xE0 32 == 0

/-- The OTP slot whose hash is the header's key hash (R112). -/
def hdrSlot (o : Otp) (h : List Byte) : Option Nat :=
  let k := Config.sha256 ((h.drop 0x60).take 64)
  (List.range 4).find? (fun n => tabGet 0 n o.keyHash != 0 && tabGet 0 n o.keyHash == k)

/-- The signature verifies over the header's first 160 bytes (R113, R117). -/
def hdrSigned (h : List Byte) : Bool :=
  Config.ecdsaVerify (Config.sha256 (h.take 0xA0)) (beNat ((h.drop 0x60).take 64)) (beNat ((h.drop 0xA0).take 64))

/-- The load range lies in the memory permitted for the type (R114, R115). -/
def hdrLoads (h : List Byte) : Bool :=
  let a := hdrLoad h
  let n := hdrSize h
  match hdrType h with
  | 1 => decide (settRam ≤ a) && decide (a + n ≤ settRam + 0x8_0000)
  | 2 => decide (a + n ≤ 0x4_0000) && hdrMask h != 0 && decide (hdrMask h < 16)
  | 3 => decide (dormBase ≤ a) && decide (a + n ≤ dormBase + 0x8_0000)
  | _ => decide (n ≤ 0x40_0000) && decide (a + n ≤ 0x100_0000)

/-- The payload digest equals DIGEST (R113). -/
def hdrDigest (bs h : List Byte) : Bool := Config.sha256 (hdrPayload bs h) == beNat ((h.drop 0x40).take 32)

/-- A programmed slot that is not revoked exists (R117). -/
def keyLeft (o : Otp) : Bool := (List.range 4).any (fun n => tabGet 0 n o.keyHash != 0 && !bitOf o.revoke n)

/-- The checks of one header from the key hash on, in the order of R113, as (holds, code, TYPE). `slot` is the one every
image must use. -/
def hdrChecks (o : Otp) (slot : Option Nat) (bs : List Byte) (hs : List (List Byte)) : List (Bool × Nat × Nat) :=
  let sec := secure o
  hs.map (fun h => (!sec || (keyLeft o && (hdrSlot o h).isSome), 0x82, hdrType h))
    ++ hs.map (fun h => (!sec || (match hdrSlot o h with | some k => !bitOf o.revoke k | none => true), 0x83, hdrType h))
    ++ hs.map (fun h => (!sec || hdrSlot o h == slot, 0x82, hdrType h))
    ++ hs.map (fun h => (hdrSigned h, 0x84, hdrType h))
    ++ hs.map (fun h => (decide (rollbackCount o ≤ hdrSec h), 0x86, hdrType h))
    ++ hs.map (fun h => (hdrLoads h, 0x87, hdrType h))
    ++ hs.map (fun h => (hdrDigest bs h, 0x85, hdrType h))

/-- The first check that fails, as (code, TYPE). -/
def firstFail (l : List (Bool × Nat × Nat)) : Option (Nat × Nat) := (l.find? (fun c => !c.1)).map (·.2)

/-- The image headers of a bundle. -/
def bundleHdrs (bs : List Byte) : List (List Byte) := (List.range (min 8 (recField bs 4 2))).map (imgHdr bs)

/-- Exactly one SETT image and at most one of each other type (R113). -/
def typesOk (hs : List (List Byte)) : Bool :=
  let n := fun (t : Nat) => (hs.filter (fun h => hdrType h == t)).length
  n 1 == 1 && decide (n 2 ≤ 1) && decide (n 3 ≤ 1) && decide (n 4 ≤ 1)

/-- The descriptor (R109, R110, R113). A download whose TOTAL exceeds its length is BAD_HEADER.
(DESIGN CHOICE, log entry 71). -/
def descOk (flash : Bool) (bs : List Byte) : Bool :=
  let total := recField bs 8 4
  let cmd := recField bs 6 1
  let div := recField bs 7 1
  recField bs 0 4 == 0x444E5542 && decide (1 ≤ recField bs 4 2) && decide (recField bs 4 2 ≤ 8) && recField bs 0xC 52 == 0
    && decide (total ≤ (if flash then 0x80_0000 else 0x100_0000)) && decide (64 + 256 * recField bs 4 2 ≤ total)
    && decide (total ≤ bs.length)
    && (!flash || ((cmd == 3 || cmd == 0x6B || cmd == 0xEB) && div % 2 == 0 && decide (8 ≤ div) && decide (div ≤ 32)))

/-- Why a bundle fails, as (code, TYPE), or none (R113). A failure of OTP's or of memory's ECC comes before every check,
with IMAGE 0. (DESIGN CHOICE, log entry 71). -/
def bundleFails (s : State) (flash : Bool) (bs : List Byte) (otpFail eccFail : Bool) : Option (Nat × Nat) :=
  let magic := recField bs 0 4
  let o := s.boot.otp
  let bs := bs.take (recField bs 8 4)
  let hs := bundleHdrs bs
  if otpFail || o.eccBad then some (0x88, 0)
  else if eccFail then some (0x89, 0)
  else if flash && (magic == 0 || magic == 0xFFFFFFFF) then some (0x80, 0)
  else if !descOk flash bs then some (0x81, 0)
  else firstFail (hs.map (fun h => (hdrOk bs h, 0x81, hdrType h % 16)) ++ [(typesOk hs, 0x81, 0)]
    ++ hdrChecks o (hdrSlot o (imgHdr bs 0)) bs hs)

/-- The load addresses of an image. -/
def hdrPlaces (h : List Byte) : List Nat :=
  if hdrType h = 2 then ((List.range 4).filter (bitOf (hdrMask h))).map (fun n => coreP n + hdrLoad h) else [hdrLoad h]

/-- A payload is copied to its load addresses. -/
def loadImage (bs h : List Byte) (s : State) : State := (hdrPlaces h).foldl (fun s a => journaledBytes a (hdrPayload bs h) s) s

/-- An image runs. -/
def runImage (h : List Byte) (slot : Nat) (s : State) : State :=
  let i : Image := ⟨true, hdrSec h, recField h 0xC 4, slot, hdrLoad h, hdrSize h, if hdrType h = 2 then hdrMask h else 0,
    if hdrType h = 1 ∨ hdrType h = 3 then hdrLoad h + hdrEntry h else 0, beNat ((h.drop 0x40).take 32)⟩
  let s := { s with boot := { s.boot with images := tabPut Image.reset (hdrType h) i s.boot.images } }
  if hdrType h = 3 then { s with pwr := { s.pwr with islandCode := hdrSize h } } else s

/-- The PINMUX registers that a board configuration may hold (R614). -/
def boardRegs : List Nat := PINMUX_I2C :: ((List.range 7).map PINMUX_PAD ++ (List.range 16).map PINMUX_GPIO)

/-- Firmware applies the board configuration that the running SETT image, known by its digest, holds (R614): what it holds
is the integrator's. (DESIGN CHOICE, log entry 24). -/
def boardConfig (s : State) : State :=
  let d := (tabGet Image.reset 1 s.boot.images).digest
  boardRegs.foldl (fun s a => match Config.boardPin d a with | some w => s.setReg a w | none => s) s

/-- A source is accepted: Sett firmware starts at LOAD_ADDR + ENTRY and applies the board configuration before it reports
FW_STARTED (R116, R614). -/
def bootAccept (src : Nat) (bs : List Byte) (s : State) : State :=
  let bs := bs.take (recField bs 8 4)
  let hs := bundleHdrs bs
  let slot := (hdrSlot s.boot.otp (imgHdr bs 0)).getD 0
  let s := hs.foldl (fun s h => runImage h slot (loadImage bs h s)) s
  let s := { s with boot := { s.boot with start := some (tabGet Image.reset 1 s.boot.images).entry } }
  let s := (s.setF SYS_BOOT_STATUS_SOURCE src).setF SYS_LIFECYCLE_SLOT (if secure s.boot.otp then slot else 0)
  (boardConfig s).setF SYS_BOOT_STATUS_CODE 4 |>.setF SYS_DL_GO 0

/-- A source fails (R109, R113, R116): payload copies made are zeroed; a download waits again, another source is tried, or
boot has failed. -/
def bootReject (src : Nat) (bs : List Byte) (why : Nat × Nat) (s : State) : State :=
  let bs := bs.take (recField bs 8 4)
  let s := if why.1 = 0x85 then
      (bundleHdrs bs).foldl (fun s h => (hdrPlaces h).foldl (fun s a => zeroPages a (hdrSize h) s) s) s
    else s
  let s := ((s.setF SYS_BOOT_STATUS_LAST_ERR why.1).setF SYS_BOOT_STATUS_IMAGE why.2).setF SYS_DL_GO 0
  if 3 ≤ src then s.setF SYS_BOOT_STATUS_CODE 2
  else
    let s := { s with boot := { s.boot with srcIdx := s.boot.srcIdx + 1 } }
    match bootSource s with
    | some _ => romWaits s
    | none => s.setF SYS_BOOT_STATUS_CODE 0xFF

/-- One attempt at a source. -/
def bootTry (src : Nat) (bs : List Byte) (otpFail eccFail : Bool) (s : State) : State :=
  let s := s.setB SYS_BOOT_STATUS_TRIED (src - 1)
  match bundleFails s (decide (src < 3)) bs otpFail eccFail with
  | none => bootAccept src bs s
  | some why => bootReject src bs why s

/-- BOOT_SOURCE_VERIFY (R109, R113): `bundle` is what the flash copy in turn holds; the two failures are those of OTP and
of memory during the read. -/
def execBootSourceVerify (bundle : List Byte) (otpFail eccFail : Bool) (s : State) : Out :=
  match bootSource s with
  | some src => if romRuns s && decide (src < 3) then .next (bootTry src bundle otpFail eccFail s) else .next s
  | none => .next s

/-- SYS_DL_GO (R111, R125): the region is verified as it stands; an uncorrected error in it ends the attempt. -/
def execSysDlGo (port : Nat) (s : State) : Out :=
  let src := if port = 0 then 3 else if port = 8 then 4 else 0
  if romRuns s && s.getF SYS_BOOT_STATUS_CODE == 2 && bootSource s == some src then
    let n := min 0x100_0000 (s.getF SYS_DL_LEN)
    .next (bootTry src (s.bytes 0 n) false (!(errWords s.ues 0 n).isEmpty) s)
  else .next s

/-! ### READY (R114, R115, R123, R604) -/

/-- Where firmware keeps the LYNX payload in the firmware region. (DEDUCED, log entry 25). -/
def fwLynx : Nat := ddrBase + 0x20_0000

/-- Where firmware keeps the digest of the image of a TYPE in the firmware region. (DEDUCED, log entry 25). -/
def fwDigest (t : Nat) : Nat := ddrBase + 0xFF_FF00 + 32 * t

/-- The digest of the image of a TYPE enters the firmware region (R114), in the order of the header's DIGEST bytes. -/
def placeDigest (t : Nat) (s : State) : State :=
  let i := tabGet Image.reset t s.boot.images
  when i.present (fun s => s.setBytes (fwDigest t) (leBytes 32 i.digest).reverse) s

/-- The Lynx runtime pages stand at the top of the shared pool, under a region of firmware's own (R115). -/
def placeLynx (src n : Nat) (s : State) : State :=
  let pages := ceilDiv n 4096 * 4096
  if n = 0 then s
  else
    let s := (s.copyMem src fwLynx n).copyMem src (poolEnd - pages) n
    let s := { s with boot := { s.boot with lynxPages := pages } }
    let s := ((s.setF (MPU_REG_BASE_PAGE 0) ((poolEnd - pages) / 4096)).setF (MPU_REG_LIMIT_PAGE 0) (poolEnd / 4096 - 1))
    ((((((s.setF (MPU_REG_CFG_FW 0) 1).setF (MPU_REG_CFG_ANY 0) 0).setF (MPU_REG_CFG_R 0) 1).setF (MPU_REG_CFG_W 0) 0).setF
      (MPU_REG_CFG_INIT 0) (2 ^ clsLYNX)).setF (MPU_REG_CFG_EN 0) 1)

/-- The images of the MARTEN and LYNX types and their digests enter the firmware region, and the runtime pages their place (R114, R115). -/
def placeImages (s : State) : State :=
  let m := tabGet Image.reset 2 s.boot.images
  let l := tabGet Image.reset 4 s.boot.images
  let s := placeDigest 4 (placeDigest 2 s)
  let s := forN 4 (fun n s => when (bitOf m.mask n) (fun s => s.copyMem (coreP n) (fwRuntime n) 0x4_0000) s) s
  if l.present then
    let s := placeLynx l.addr l.size s
    s.zeroMem l.addr (l.addr + l.size)
  else s

/-- TWIN_LIVE_IN changed within the last 1,024 ticks (R604). -/
def liveSeen (s : State) : Bool := s.pins.liveInAt != 0 && decide (s.now ≤ s.pins.liveInAt + 1024)

/-- Ports whose conditions hold are ready (R518). -/
def raisePorts (s : State) : State :=
  forN 10 (fun p s => when (!s.isSet (MBOX_STAT_READY p) && portCond s p && !(s.port p).resetBusy)
    (fun s => (s.setPort p { s.port p with mask := 0xFFFFFFFF }).setF (MBOX_STAT_READY p) 1) s) s

/-- DOZE is reached and the wake hold runs (R78); the rail follows PWR_PARK_CFG (R83). -/
def enterDoze (s : State) : State :=
  let s := (setPhase .steady s).setF PWR_STATUS_STATE 2
  raisePorts (powerEval (startHold s))

/-- Without a clock claim firmware's configuration stands: XTAL alone in PRIO_0, not forced (R61). -/
def fwClock (s : State) : State :=
  if s.owner .clock = none then (s.setReg CLK_REF_PRIO (resetWord CLK_REF_PRIO)).setReg CLK_REF_CTRL (resetWord CLK_REF_CTRL)
  else s

/-- BOOT_READY (R61, R106, R122, R123). (DEDUCED, log entries 9 and 24). -/
def execBootReady (s : State) : Out :=
  if s.getF SYS_BOOT_STATUS_CODE ≠ 4 || !s.clk.fast || dbgHeld s 4 || !s.pins.porN then .next s
  else
    let s := placeImages (fwClock s)
    let s := forN 4 (fun n s => restartRuntime n s) s
    let s := s.setF SYS_BOOT_STATUS_CODE 5
    let s := when (!liveSeen s) (fun s => s.setF PINMUX_SHARED_OE 1) s
    .next (enterDoze (showEngines s))

/-! ### Watchdog, PERST_N (R107, R121, R126) -/

/-- WATCHDOG_KICK (R121). -/
def execWatchdogKick (key : Nat) (s : State) : Out :=
  if key = 0x5A3C then .next { s with boot := { s.boot with wdogFrom := s.now } } else .next s

/-- The watchdog has run out; its count is frozen while the Sett controller is halted, and it has no power in PARK (R121,
R590). (DEDUCED, log entry 70). -/
def wdogOut (s : State) : Bool :=
  s.isSet SYS_WDOG_EN && !dbgHeld s 4 && s.pwr.phase != .parked && s.pwr.phase != .waking && decide (s.boot.wdogFrom + max 1 (s.getF SYS_WDOG_TIMEOUT) * 98304 ≤ s.now)

/-- WATCHDOG_EXPIRE (R121). -/
def execWatchdogExpire (s : State) : Out :=
  if wdogOut s then .next ((coreReset SYS_RST_CAUSE_WDOG s).hitF ERR_STAT_3_WDOG 1) else .next s

/-- A cause of R516 at every PCIe port: the link and every function's configuration, its translation apart, reset (R517).
(DESIGN CHOICE, log entry 51). -/
def pciePortsReset (s : State) : State :=
  let s := forN 8 (fun f s => s.setReg (HOSTIF_F_STAT f) 0) ((s.resetDomain .link).setF HOSTIF_LINK_STATE 0)
  forN 8 (fun p s => failReads p (portReset p s)) (lowerPorts s)

/-- PERST_N_ASSERT (R107, R126, R516): a download in progress is abandoned. -/
def execPerstNAssert (s : State) : Out :=
  if !s.pins.porN then .next s else .next (pciePortsReset (s.hitF HOSTIF_EVT_PERST 1))

/-! ### Commands (R119 to R121, R470) -/

/-- SEC_VERSION and BUILD of the running image of a TYPE. -/
def imgItems (s : State) (t : Nat) : List RecItem :=
  let i := tabGet Image.reset t s.boot.images
  [.raw 4 i.secVersion, .raw 4 i.build]

/-- DEVICE_INFO (R449, R470). -/
def execDeviceInfo (d : Desc) (s : State) : Out :=
  runCmd d 0x0E01 [8] (fun _ _ => 0) (fun s d => outStatus d (d.arg [8] 0)
    ([.w SYS_ID, .w SYS_BOOT_STATUS, .w SYS_RST_CAUSE, .w SYS_LIFECYCLE, .w SYS_ROLLBACK, .raw 4 0]
      ++ imgItems s 1 ++ imgItems s 2 ++ imgItems s 3 ++ imgItems s 4) s) s

/-- DEVICE_RESET: a CORE reset starts 1 ms after the command completes. -/
def execDeviceReset (d : Desc) (s : State) : Out :=
  runCmd d 0x0E02 [] (fun s d => claimC s d .system) (fun s d =>
    let s := s.take d .system
    ({ s with boot := { s.boot with resetAt := some (s.now + 98304) } }, .ok)) s

/-- DEVICE_RESET_DELAY_END (R102). -/
def execDeviceResetDelayEnd (s : State) : Out :=
  match s.boot.resetAt with
  | some t => if t ≤ s.now then .next (coreReset SYS_RST_CAUSE_SW s) else .next s
  | none => .next s

/-- The smallest SEC_VERSION of the running images. -/
def minSec (s : State) : Nat :=
  (s.boot.images.filter (fun e => e.2.present)).foldl (fun m e => min m e.2.secVersion) 128

/-- ROLLBACK_ADVANCE (R118, R120): the steps are programmed in both copies. -/
def execRollbackAdvance (d : Desc) (s : State) : Out :=
  runCmd d 0x0E03 [1] (fun s d => claimC s d .system) (fun s d =>
    let n := d.arg [1] 0
    checked [need (decide (n ≤ minSec s) && decide (rollbackCount s.boot.otp ≤ n)) stBAD] s
      (let s := s.take d .system
       let o := s.boot.otp
       let m := 2 ^ n - 1
       let s := showOtp { s with boot := { s.boot with otp := { o with rollbackA := o.rollbackA ||| m, rollbackB := o.rollbackB ||| m } } }
       (s, .done n []))) s

/-- KEY_REVOKE (R120). -/
def execKeyRevoke (d : Desc) (s : State) : Out :=
  runCmd d 0x0E04 [1] (fun s d => claimC s d .system) (fun s d =>
    let k := d.arg [1] 0
    checked [need (decide (k < 4) && !(secure s.boot.otp && s.getF SYS_LIFECYCLE_SLOT == k)) stBAD] s
      (let s := s.take d .system
       (showOtp { s with boot := { s.boot with otp := { s.boot.otp with revoke := s.boot.otp.revoke ||| 2 ^ k } } }, .ok))) s

/-- Why an image of session memory fails: its header stands first, its payload at PAYLOAD_OFS (R113, R120). -/
def imageFails (s : State) (bs : List Byte) : Option (Nat × Nat) :=
  let h := bs.take 256
  let slot := some (s.getF SYS_LIFECYCLE_SLOT)
  firstFail ([(hdrOk bs h && hdrType h != 1, 0x81, 0)] ++ hdrChecks s.boot.otp slot bs [h])

/-- The new image replaces the running one. -/
def replaceImage (bs h : List Byte) (s : State) : State :=
  let s := runImage h (s.getF SYS_LIFECYCLE_SLOT) s
  match hdrType h with
  | 2 => forN 4 (fun n s => if !bitOf (hdrMask h) n then s
      else
        let s := journaledBytes (fwRuntime n + hdrLoad h) (hdrPayload bs h) (zeroPages (fwRuntime n) 0x4_0000 s)
        if s.owner (.core n) = none then restartRuntime n s else s) s
  | 3 => journaledBytes (hdrLoad h) (hdrPayload bs h) s
  | _ =>
    let n := hdrSize h
    let s := zeroPages (poolEnd - s.boot.lynxPages) s.boot.lynxPages s
    let s := journaledBytes fwLynx (hdrPayload bs h) s
    placeLynx fwLynx n s

/-- IMAGE_LOAD (R115, R120): a LYNX image waits for the end of every Lynx job, and finds room at the top of the pool.
(DEDUCED, log entry 24). -/
def execImageLoad (d : Desc) (s : State) : Out :=
  let z := [8, 4]
  runCmd d 0x0E05 z (fun s d => claimC s d .system) (fun s d =>
    let a := d.arg z 0
    let n := d.arg z 1
    checked [addrOk a, need (decide (256 ≤ n) && decide (n ≤ 0x100_0000)) stBAD] s
      (withMem (readMem d a n s) (fun s bs =>
        let h := bs.take 256
        let pages := ceilDiv (hdrSize h) 4096 * 4096
        match imageFails s bs with
        | some why => (s, .fail stVERIFY why.1)
        | none =>
          if hdrType h = 4 ∧ s.lynx.jobs ≠ [] then (s, .stall)
          else if hdrType h = 4 ∧ s.boot.lynxPages < pages ∧ allocated s (poolEnd - pages) (pages - s.boot.lynxPages) then
            (s, .fail stNORES 0)
          else (replaceImage bs h (s.take d .system), .done (hdrType h) [])))) s

/-- WATCHDOG_SET (R121). -/
def execWatchdogSet (d : Desc) (s : State) : Out :=
  runCmd d 0x0E06 [4] (fun s d => claimC s d .system) (fun s d =>
    let w := d.arg [4] 0
    checked [imgOk SYS_WDOG [] [] w, need (SYS_WDOG_TIMEOUT.img w != 0) stBAD] s
      (wdogFrom s ((s.take d .system).setImg SYS_WDOG [] [] w), .ok)) s

/-! ### PARK and wake (R57, R74, R81, R84, R87, R101, R304, R596) -/

/-- Register blocks whose state firmware saves whole, or that stay powered (R74, R394, R604). -/
def parkKeeps (a : Nat) : Bool :=
  let b := a / 65536
  b == 0x2000 || b == 0x2001 || b == 0x2002 || b == 0x2003 || b == 0x2004 || b == 0x2005 || b == 0x2011 || b == 0x2017
    || a == MEMC_STAT || a == HOSTIF_DIRECT_STAT
    || (match specOf a with | some r => decide (r.dom ≠ .core) | none => true)

/-- What decimation keeps beside its RW fields (R74, R157): which bank is active and the swaps that wait, a scheduled reset
and SEQ. -/
def decKeeps (a : Nat) : Bool :=
  a == DEC_SYNC_STAT || (List.range 4).any (fun p => a == DEC_FIR_CTRL p) || (List.range 32).any (fun ch => a == DEC_CH_BUF_STAT ch)

/-- Of every other register the configuration (its RW fields, and a decimator's bank) returns at wake, and the rest is lost
(R74). -/
def parkRegs (s : State) : State :=
  showMuteN ((s.regs.filter (fun e => !parkKeeps e.1)).foldl (fun s e =>
    let m := if decKeeps e.1 then 0xFFFFFFFF else rwMask e.1
    let d := (resetWord e.1).toNat
    s.setReg e.1 (BitVec.ofNat 32 ((e.2.toNat &&& m) + (d - (d &&& m))))) s)

/-- Cores of a mask of states. -/
def coresIn (s : State) (l : List Nat) : Nat :=
  (List.range 4).foldl (fun m n => if l.contains (coreState s n) then m + 2 ^ n else m) 0

/-- A halted core is released by PARK (R596). -/
def releaseHalted (s : State) : State :=
  forN 6 (fun c s => when (dbgHeld s c) (fun s => (dbgRunning c s).hitB DBG_EVT_RELEASED c) s) s

/-- The memories that lose power in PARK. Fox's tables, its configuration, are saved and restored (R74). -/
def parkMem (s : State) : State :=
  loseMem (foxBase + 0x2000) (foxBase + 0x8_0000) (loseMem fogBase (fogBase + 0x40_0000) (loseMem 0x1000_0000 0x1440_0000 (loseMem 0 poolEnd s)))

/-- PARK_COMMIT (R57, R74, R80, R81): once every direction has stopped, fast counting stops and the core loses power. A
trigger that is still pending is withdrawn. (DEDUCED, log entry 20). -/
def execParkCommit (s : State) : Out :=
  if s.pwr.phase ≠ .parkEntry || dbgHeld s 4 || startedMask s != 0 then .next s
  else
    let s := { s with pwr := { s.pwr with coresRunning := coresIn s [2, 3], coresLoaded := coresIn s [1, 4, 5] } }
    let s := parkDetach (releaseHalted (when (s.isSet TDM_TRIG_CTRL_PENDING) dropTrigger s))
    let s := streamsPark (gustPark (decPark (foxPark s)))
    let s := parkMem s
    let s := parkRegs s
    let s := { s with cores := [], hostif := { s.hostif with tags := [], todo := [], late := [], bad := [], asked := [] } }
    let s := forN 4 (fun n s => (s.setF (MARTEN_CTRL_STATE n) 0)) s
    let s := { s with denrek := { s.denrek with log := [] }, clk := { s.clk with fast := false, handover := false } }
    let s := (((s.setF CLK_STATUS_STATE 4).setF CLK_STATUS_SEL 0).setF CLK_STATUS_FROM 0).setF CLK_STATUS_SYS_LOCK 0
    let xtal := s.isSet PWR_PARK_CFG_XTAL_ON
    let s := settleMclk (unqualifyAll (fun k => k == 1 && xtal) (s.setF CLK_STATUS_MEM_LOCK 0))
    let s := { s with pwr := { s.pwr with parkedAt := s.now, wakeDue := none, csWake := 0 } }
    let s := when (s.getF HOSTIF_LINK_STATE != 0) (fun s => s.setF HOSTIF_LINK_STATE 4) s
    let s := when (s.isSet DORMOUSE_CTRL_EN)
      (fun s => (s.setF DORMOUSE_STATUS_FLL_LOCK 1).setF DORMOUSE_STATUS_LISTENING 1) s
    let s := when (s.isSet PWR_PARK_CFG_LYNX_OFF_PARK) (setLynxEn false) s
    let s := ((setPhase .parked s).setF PWR_STATUS_STATE 1).hitF PWR_EVT_ENTERED_PARK 1
    .next (lowerPorts s)

/-- P memory is reloaded, and each core wakes as R304 has it. -/
def wakeCore (n : Nat) (s : State) : State :=
  let s := s.copyMem (fwSlot n) (coreP n) 0x4_0000
  if bitOf s.pwr.coresRunning n then (coreStart n s).hitB MARTEN_EVT_RESTART n
  else if bitOf s.pwr.coresLoaded n then s.setF (MARTEN_CTRL_STATE n) 1
  else s

/-- The target of the wake can be entered: fast counting runs, and the rail is up where the target needs it (R85, R608). -/
def wakeReady (s : State) : Bool :=
  s.pwr.phase == .waking && s.clk.fast && s.getF SYS_BOOT_STATUS_CODE == 5 && !dbgHeld s 4
    && (max (wantState s) (wakeTarget s) != 3 || railOn s || !s.pwr.lynxRailOk || decide (4 ≤ s.getF PWR_STATUS_STEP))

/-- Firmware resume succeeds (R74, R85, R87, R534, R614). -/
def resume (s : State) : State :=
  let s := forN 4 wakeCore { s with boot := { s.boot with wdogFrom := s.now } }
  let l := tabGet Image.reset 4 s.boot.images
  let s := if l.present then s.copyMem fwLynx (poolEnd - s.boot.lynxPages) l.size else s
  let s := streamsWake (decWake (foxWake (boardConfig s)))
  let s := (s.setF CLK_STATUS_SYS_LOCK 1).setF CLK_STATUS_MEM_LOCK 1
  let lat := s.now - s.pwr.wakeAt
  let s := (s.setReg PWR_WAKE_LAT (BitVec.ofNat 32 lat)).hitF PWR_EVT_LEFT_PARK 1
  let s := when (s.getF HOSTIF_LINK_STATE == 4) (fun s => s.setF HOSTIF_LINK_STATE 1) s
  let s := when (s.isSet TWIN_CFG_AUTO) pullSync s
  let run := max (wantState s) (wakeTarget s) == 3 && railOn s
  let s := (setPhase .steady (s.setF PWR_STATUS_STATE (if run then 3 else 2)))
  let s := raisePorts (showEngines s)
  let s := s.notice 3 (s.getF PWR_WAKE_SRC_SRC % 256 + lat / 256 % 2 ^ 24 * 256)
  powerEval (startHold (putGlobalMute s))

/-- WAKE_COMPLETE (R87, R101): a failed digest of a P memory's slot or a failed check of Sett RAM, which `digestsOk` reports,
ends in a full boot. -/
def execWakeComplete (digestsOk : Bool) (s : State) : Out :=
  if !wakeReady s then .next s
  else if digestsOk && sumsHold s then .next (resume s)
  else .next (coreReset SYS_RST_CAUSE_RESUME_FAIL s)

end Sys2Proof.Machine
end

