-- ==== Sys2Proof/Machine/Debug.lean ====
section
/-! DEFINITION. The debug port's attachment, lock and unlock, the halting, stepping and resuming of its units, their
registers, and the test access port (R578 to R597). Its accesses stand with the register accesses.
(DEDUCED, log entries 34 and 55). -/

namespace Sys2Proof.Machine

/-- DBG_STAT.CAUSE codes. -/
def dcUNMAPPED : Nat := 1
def dcECC : Nat := 2
def dcLOCKED : Nat := 3
def dcALIGN : Nat := 4
def dcABORTED : Nat := 5
def dcPARITY : Nat := 6
def dcBUSY : Nat := 7

/-- A sticky fault of the port (R580). -/
def dbgFail (cause : Nat) (s : State) : State := (s.setF DBG_STAT_CAUSE cause).hitF DBG_STAT_FAULT 1

/-- The scope bit that controls unit c (R584). -/
def unitScope (c : Nat) : Nat := if c < 4 then 0 else c - 3

/-- The port is unlocked with a scope bit granted (R583, R585). -/
def granted (s : State) (b : Nat) : Bool := s.isSet DBG_STAT_UNLOCKED && s.getB DBG_STAT_SCOPE b

/-! ### Halt, step, resume (R586, R587, R590) -/

/-- A held unit runs on (R587): a Marten core from PC, or in its WAIT; the Sett controller with the watchdog counting on and
the power request evaluated (R590). -/
def resumeUnit (c : Nat) (s : State) : State :=
  let s := dbgRunning c s
  if c < 4 then s.setF (MARTEN_CTRL_STATE c) (if (s.core c).waiting then 3 else 2)
  else if c = 4 then
    let w := s.boot.wdogFrom
    powerEval { s with boot := { s.boot with wdogFrom := if w < s.dbg.settAt then w + (s.now - s.dbg.settAt) else s.now } }
  else s

/-- Every held unit is released, and breakpoints and watchpoints are disabled (R585). -/
def releaseUnits (s : State) : State :=
  let s := forN 4 (fun c s =>
    forN 2 (fun k s => s.setF (DBG_CORE_WP_CFG_EN c k) 0) (forN 4 (fun k s => s.setF (DBG_CORE_BP_EN c k) 0) s)) s
  forN 6 (fun c s => when (dbgHeld s c) (fun s => (resumeUnit c s).hitB DBG_EVT_RELEASED c) s) s

/-- DBG_HALT (R586, R594, R595): a core that does not issue has nothing to halt. -/
def execDbgHalt (c : Nat) (s : State) : Out :=
  if 6 ≤ c then .next s
  else if !granted s (unitScope c) then .next (dbgFail dcLOCKED s)
  else if dbgHeld s c then .next s
  else if c < 4 then
    if coreState s c = 2 ∨ coreState s c = 3 then
      .next (if (s.core c).rep = 0 then haltNow c 1 0 s else s.setCore c { s.core c with haltReq := true })
    else .next s
  else
    let s := when (c == 4) (fun s => { s with dbg := { s.dbg with settAt := s.now } }) s
    let s := (s.setF (DBG_CORE_CTRL_STATE c) 1).setF (DBG_CORE_CTRL_CAUSE c) 1
    .next { s with dbg := { s.dbg with halting := s.dbg.halting ||| 2 ^ c } }

/-- DBG_HALT_COMPLETE (R586): everything in flight has retired. -/
def execDbgHaltComplete (c : Nat) (s : State) : Out :=
  if 6 ≤ c || s.getF (DBG_CORE_CTRL_STATE c) ≠ 1 then .next s
  else if c < 4 then
    if coreQuiet s c then .next (((dbgRunning c s).setF (DBG_CORE_CTRL_STATE c) 2).hitB DBG_EVT_HALTED c) else .next s
  else .next (unitHalted c 1 s)

/-- DBG_RESUME (R587). -/
def execDbgResume (c : Nat) (s : State) : Out :=
  if 6 ≤ c then .next s
  else if !granted s (unitScope c) then .next (dbgFail dcLOCKED s)
  else if s.getF (DBG_CORE_CTRL_STATE c) = 2 then .next (resumeUnit c s)
  else .next s

/-- DBG_STEP (R587): a Marten core issues its next bundle and halts after it; what one instruction of firmware does to its
registers is not given. -/
def execDbgStep (c : Nat) (s : State) : Out :=
  if 6 ≤ c then .next s
  else if !granted s (unitScope c) then .next (dbgFail dcLOCKED s)
  else if s.getF (DBG_CORE_CTRL_STATE c) ≠ 2 then .next s
  else if c < 4 then
    let s := resumeUnit c s
    .next { s with dbg := { s.dbg with stepping := s.dbg.stepping ||| 2 ^ c } }
  else .next (unitHalted c 2 s)

/-! ### REGSEL and REGDATA (R589) -/

/-- Lane LANE of a class of core c, as REGDATA reads it; nothing where INDEX or CLASS names no register. -/
def coreReg (k : Core) (cls idx lane : Nat) : Option Nat :=
  match cls with
  | 0 => if crExists idx then some (k.crVal idx % 2 ^ 32) else none
  | 1 => if idx < 16 then some (ofSigned 32 (k.vlane idx lane)) else none
  | 2 => if idx < 8 then some (ofSigned 56 (k.alane idx lane) % 2 ^ 32) else none
  | 3 => if idx < 8 then some (ofSigned 56 (k.alane idx lane) / 2 ^ 32) else none
  | 4 => some (ofSigned 32 (tabGet 0 lane k.sv).toInt)
  | 5 => some (tabGet 0 lane k.si).toNat
  | _ => none

/-- The core with lane LANE of a class written. -/
def coreRegPut (k : Core) (cls idx lane v : Nat) : Core :=
  match cls with
  | 0 =>
    if idx = 0x2B then k.setPc v
    else if crWritable idx then k.putCr idx (if crWidth idx = 40 then k.crVal idx / 2 ^ 32 * 2 ^ 32 + v else v)
    else k
  | 1 => k.setV idx lane (toSigned 24 v)
  | 2 => k.setA idx lane (ofSigned 56 (k.alane idx lane) / 2 ^ 32 * 2 ^ 32 + v)
  | 3 => k.setA idx lane (v % 2 ^ 24 * 2 ^ 32 + ofSigned 56 (k.alane idx lane) % 2 ^ 32)
  | 4 => { k with sv := tabPut 0 lane (BitVec.ofNat 24 v) k.sv }
  | 5 => { k with si := tabPut 0 lane (BitVec.ofNat 16 v) k.si }
  | _ => k

/-- The value REGSEL selects in unit c. -/
def unitReg (s : State) (c : Nat) : Option Nat :=
  let idx := s.getF (DBG_CORE_REGSEL_INDEX c)
  if c < 4 then coreReg (s.core c) (s.getF (DBG_CORE_REGSEL_CLASS c)) idx (s.getF (DBG_CORE_REGSEL_LANE c))
  else if idx < (if c = 4 then 32 else 16) ∨ idx = 32 ∨ idx = 33 then some (tabGet 0 (64 * c + idx) s.dbg.gpr).toNat
  else none

/-- REGDATA reaches unit c's registers: it is HALTED, or a core FAULTED. -/
def unitOpen (s : State) (c : Nat) : Bool :=
  s.getF (DBG_CORE_CTRL_STATE c) == 2 || (decide (c < 4) && coreState s c == 5)

/-- A read of REGDATA (R585, R589): the state after it and the value read, or none where it faults.
(DEDUCED, log entry 56). -/
def regdataRead (c : Nat) (s : State) : State × Option Nat :=
  if !granted s (unitScope c) then (dbgFail dcLOCKED s, none)
  else if !unitOpen s c then (dbgFail dcBUSY s, none)
  else match unitReg s c with
    | some v => (s.setReg (DBG_CORE_REGDATA c) (BitVec.ofNat 32 v), some v)
    | none => (dbgFail dcBUSY s, none)

/-- A write of REGDATA (R585, R589). (DEDUCED, log entry 56). -/
def regdataWrite (c v : Nat) (s : State) : State :=
  let idx := s.getF (DBG_CORE_REGSEL_INDEX c)
  if !granted s (unitScope c) then dbgFail dcLOCKED s
  else if !unitOpen s c || (unitReg s c).isNone then dbgFail dcBUSY s
  else
    let s := s.setReg (DBG_CORE_REGDATA c) (BitVec.ofNat 32 v)
    if c < 4 then
      s.setCore c (coreRegPut (s.core c) (s.getF (DBG_CORE_REGSEL_CLASS c)) idx (s.getF (DBG_CORE_REGSEL_LANE c)) (v % 2 ^ 32))
    else { s with dbg := { s.dbg with gpr := tabPut 0 (64 * c + idx) (BitVec.ofNat 32 v) s.dbg.gpr } }

/-- DBG_REGDATA_ACCESS (R589): an access of unit c's REGDATA, a write with the value, or a read. -/
def execDbgRegdataAccess (c : Nat) (w : Option Word) (s : State) : Out :=
  if 6 ≤ c then .next s
  else match w with
    | some v => .next (regdataWrite c v.toNat s)
    | none =>
      match regdataRead c s with
      | (s, some v) => .next (s.answer .debug .dbgOk (leBytes 4 v))
      | (s, none) => .next (s.answer .debug .dbgFault [])

/-! ### Lock and unlock (R583 to R585) -/

/-- DBG_CHALLENGE_NEW (R584): a nonce of the hardware random source, UID and the device time. -/
def execDbgChallengeNew (s : State) : Out :=
  let s := forN 4 (fun j s =>
    let r := s.fresh
    r.1.setReg (DBG_CHAL j) (BitVec.ofNat 32 r.2)) s
  let put := fun (j v : Nat) (s : State) => (s.setReg (DBG_CHAL j) (BitVec.ofNat 32 v)).setReg (DBG_CHAL (j + 1)) (BitVec.ofNat 32 (v / 2 ^ 32))
  .next ((put 6 s.now (put 4 s.boot.otp.uid s)).setF DBG_CHAL_CTRL_VALID 1)

/-- A failed attempt (R584). -/
def unlockFails (s : State) : State := (s.setF DBG_UNLOCK_RESULT 2).incF DBG_STAT_TRIES 1

/-- DBG_UNLOCK_GO (R584): refused after 8 failures; each attempt consumes the challenge. GO reads 1 while the verification
runs (R12), and one that runs is not disturbed (R21). -/
def execDbgUnlockGo (s : State) : Out :=
  if s.dbg.verifying.isSome then .next s
  else if 8 ≤ s.getF DBG_STAT_TRIES then .next (s.setF DBG_UNLOCK_RESULT 3)
  else if !s.isSet DBG_CHAL_CTRL_VALID then .next (unlockFails s)
  else
    let s := (s.setF DBG_CHAL_CTRL_VALID 0).setF DBG_UNLOCK_GO 1
    .next { s with dbg := { s.dbg with verifying := some (s.getF DBG_UNLOCK_SCOPE) } }

/-- The bytes of `n` registers from `a`. -/
def regBytes (s : State) (a n : Nat) : List Byte := (List.range n).flatMap (fun j => leBytes 4 (s.reg (a + 4 * j)).toNat)

/-- The token verifies for a scope (R584). -/
def tokenGood (s : State) (scope : Nat) : Bool :=
  Config.ecdsaVerify (Config.sha256 (regBytes s (DBG_CHAL 0) 8 ++ leBytes 4 scope)) s.boot.otp.dbgKey
    (beNat (regBytes s (DBG_TOKEN 0) 16))

/-- The verification of a token for a scope ends (R583, R584): a CLOSED part is never unlocked. -/
def verifyOver (scope : Nat) (s : State) : State :=
    let s := { s with dbg := { s.dbg with verifying := none } }.setF DBG_UNLOCK_GO 0
    if tokenGood s scope && s.getF DBG_STAT_LOCK != 2 then
      ((((s.setF DBG_UNLOCK_RESULT 1).setF DBG_STAT_UNLOCKED 1).setF DBG_STAT_SCOPE (s.getF DBG_STAT_SCOPE ||| scope))).setF
        DBG_STAT_TRIES 0
    else unlockFails s

/-- DBG_TOKEN_VERIFY_DONE (R583, R584); a GO written in this cycle starts the next attempt (R21). -/
def execDbgTokenVerifyDone (s : State) : Out :=
  match s.dbg.verifying with
  | none => .next s
  | some scope =>
    let t := verifyOver scope s
    if s.marked DBG_UNLOCK_GO 0 then execDbgUnlockGo t else .next t

/-- DBG_RELOCK (R583, R585): an OPEN part stays unlocked. -/
def execDbgRelock (s : State) : Out :=
  let free := s.getF DBG_STAT_LOCK == 0
  .next ((releaseUnits s).setF DBG_STAT_UNLOCKED (bit free) |>.setF DBG_STAT_SCOPE (if free then 63 else 0))

/-- LINE_RESET (R578, R585): `periods` high periods, then 32 bits. -/
def execLineReset (periods select : Nat) (s : State) : Out :=
  if !s.pins.porN || periods < 64 then .next s
  else
    let s := { s with dbg := { s.dbg with deaf := false } }
    if select = 0x48424447 then .next (s.setF DBG_STAT_ATTACHED 1)
    else if s.isSet DBG_STAT_ATTACHED then .next (releaseUnits (s.setF DBG_STAT_ATTACHED 0))
    else .next s

/-! ### Test access port (R591, R592) -/

/-- The TAP selects an instruction, and its data register captures. -/
def tapSelect (ir dr : Nat) (s : State) : Out :=
  if s.pins.porN then .next { s with dbg := { s.dbg with tapIr := ir, tapDr := dr } } else .next s

/-- The boundary register captures and is updated. -/
def tapBoundary (ir : Nat) (captured shifted : List Bool) (s : State) : Out :=
  if s.pins.porN then
    .next { s with dbg := { s.dbg with tapIr := ir, boundary := captured, boundaryHold := shifted } }
  else .next s

/-- EXTEST: the balls follow the boundary register. -/
def execTapExtest (captured shifted : List Bool) (s : State) : Out := tapBoundary 0x00 captured shifted s

/-- SAMPLE/PRELOAD. -/
def execTapSamplePreload (captured shifted : List Bool) (s : State) : Out := tapBoundary 0x02 captured shifted s

/-- IDCODE. -/
def execTapIdcode (s : State) : Out := tapSelect 0x01 0x1482054B s

/-- CLAMP. -/
def execTapClamp (s : State) : Out := tapSelect 0x04 0 s

/-- HIGHZ. -/
def execTapHighz (s : State) : Out := tapSelect 0x05 0 s

/-- BYPASS. -/
def execTapBypass (s : State) : Out := tapSelect 0x1F 0 s

/-- MBIST: BYPASS unless TAP_PRIVATE is granted; what its control register captures is not given.
(DEDUCED, log entry 57). -/
def execTapMbist (s : State) : Out :=
  if granted s 5 then
    let r := s.fresh
    tapSelect 0x18 (r.2 % 2 ^ 64) r.1
  else tapSelect 0x1F 0 s

/-- TRST_N_ASSERT: Test-Logic-Reset, where IDCODE is selected and the balls are in functional mode. -/
def execTrstNAssert (s : State) : Out := .next { s with dbg := { s.dbg with tapIr := 0x01 } }

end Sys2Proof.Machine
end

