-- ==== Sys2Proof/Machine/MartenDma.lean ====
section
/-! DEFINITION. The start of a Marten core's DMA transfers (R288, R306). Their end stands with the register accesses.
(DEDUCED, log entry 48). -/

namespace Sys2Proof.Machine

/-- The rights of core n's far and DMA accesses: its owning session's, else firmware's (R288). -/
def coreAcq (s : State) (n : Nat) (write : Bool) : Acq :=
  ⟨clsMARTEN, if s.isSet (MARTEN_SESS_VALID n) then .sess [s.getF (MARTEN_SESS_ID n)] else .fw, write⟩

/-- The registers of a range that core n does not reach (R225, R254, R288). -/
def regRangeC (s : State) (n : Nat) (write : Bool) : Nat → Nat → Chk
  | 0, _ => .ok
  | k + 1, a => if reaches s (.marten n) a write then regRangeC s n write k (a + 4) else .bad a

/-- Check a far or DMA range of core n (R399, R400). -/
def coreRange (s : State) (n a len : Nat) (write : Bool) : Chk :=
  if kindOf s a = .regs then regRangeC s n write (len / 4) a else checkRange s (coreAcq s n write) (some n) a len

/-- Check a transfer whole: the source, then the destination. -/
def dmaCheck (s : State) (n : Nat) (t : DmaRun) : Chk :=
  match coreRange s n t.srcA t.len false, coreRange s n t.dst t.len true with
  | .bad a, _ => .bad a
  | _, .bad a => .bad a
  | .wait, _ => .wait
  | _, .wait => .wait
  | .ok, .ok => .ok

/-- A running transfer. -/
def dmaOf (s : State) (n c : Nat) : Option DmaRun := ((s.core n).dma.find? (fun e => e.1 == c)).map (·.2)

/-- A transfer starts (R288). -/
def dmaStart (n c src dst len : Nat) (s : State) : State :=
  let t : DmaRun := ⟨src, dst, len, false⟩
  let ok := dmaCheck s n t == .ok
  let k := s.core n
  let s := s.setCore n { k with dma := tabPut DmaRun.reset c { t with admitted := ok } k.dma }
  let s := (s.setF (MARTEN_DMA_CTRL_BUSY n c) 1).setF (MARTEN_DMA_CTRL_GO n c) 1
  if ok && (hostOf s src).isSome then readHost (.dma n c) src len s else s

/-- MARTEN_DMA_GO (R288): GO, which reads 1 while the transfer runs, with the channel's registers; a busy channel keeps its transfer, a length of zero moves
nothing. -/
def execMartenDmaGo (n c : Nat) (s : State) : Out :=
  let len := min 262144 (4 * s.getF (MARTEN_DMA_LEN_BYTES n c))
  if 4 ≤ n || 4 ≤ c || s.isSet (MARTEN_DMA_CTRL_BUSY n c) || len == 0 then .next s
  else .next (dmaStart n c (s.r64 (MARTEN_DMA_SRC_LO n c)) (s.r64 (MARTEN_DMA_DST_LO n c)) len s)

/-- MARTEN_DMA (R288, R306). -/
def execMartenDma (d : Desc) (s : State) : Out :=
  let z := [1, 1, 4, 8, 8]
  runCmd d 0x0907 z (fun s d => coreC s d (d.arg z 0)) (fun s d =>
    let n := d.arg z 0
    let c := d.arg z 1
    let len := d.arg z 2
    let src := d.arg z 3
    let dst := d.arg z 4
    checked [addrOk src, addrOk dst, need (decide (c < 4) && len % 4 == 0 && decide (0 < len) && decide (len ≤ 262144)
        && src % 4 == 0 && dst % 4 == 0) stBAD, need (!s.isSet (MARTEN_DMA_CTRL_BUSY n c)) stCONFLICT] s
      (let s := ((s.set64 (MARTEN_DMA_SRC_LO n c) src).set64 (MARTEN_DMA_DST_LO n c) dst).setF (MARTEN_DMA_LEN_BYTES n c) (len / 4)
       (dmaStart n c src dst len s, .later (.martenDma n c)))) s

end Sys2Proof.Machine
end

