-- ==== Sys2Proof/Machine/Hosts.lean ====
section
/-! DEFINITION. The hosts' interfaces apart from their memory and register accesses: configuration requests, MSI-X, read
completions, port resets, RESET_EN, direct mode (R503 to R512, R516, R517, R522, R529, R532).
(DEDUCED, log entry 50). -/

namespace Sys2Proof.Machine

/-! ### Configuration requests and MSI-X (R505, R509, R512, R530) -/

/-- Configuration requests reach the part: not under reset, and not in PARK. -/
def cfgOpen (s : State) : Bool := s.pins.porN && !s.boot.inReset && s.getF PWR_STATUS_STATE != 1

/-- A configuration request comes over a link that is up; the rate and width it trained to are left open (R503). -/
def linkUp (s : State) : State :=
  if s.getF HOSTIF_LINK_STATE = 2 ∨ s.getF HOSTIF_LINK_STATE = 3 then s
  else
    let a := s.fresh
    let b := a.1.fresh
    ((b.1.setF HOSTIF_LINK_STATE 2).setF HOSTIF_LINK_SPEED (1 + a.2 % 4)).setF HOSTIF_LINK_WIDTH (1 + b.2 % 2)

/-- XLAT_WRITE (R505, R509): the upper or the lower half of function f's capability. What stands in host memory behind a base
that changes is not known. (DEDUCED, log entry 52). -/
def execXlatWrite (f : Nat) (hi : Bool) (v : Word) (s : State) : Out :=
  if 8 ≤ f || !cfgOpen s then .next s
  else
    let s := linkUp s
    let was := (s.getF (HOSTIF_F_XLAT_LO_BASE f), s.getF (HOSTIF_F_XLAT_HI_BASE f))
    let s :=
      if hi then s.setF (HOSTIF_F_XLAT_HI_BASE f) v.toNat
      else (s.setF (HOSTIF_F_XLAT_LO_EN f) (v.toNat % 2)).setF (HOSTIF_F_XLAT_LO_BASE f) (v.toNat / 4096)
    let now := (s.getF (HOSTIF_F_XLAT_LO_BASE f), s.getF (HOSTIF_F_XLAT_HI_BASE f))
    let s := when (was != now) (loseMem (hostBase f) (hostBase (f + 1))) s
    let off := (s.hostif.todo.filter (fun e => (hostOf s e.2.1).isNone)).map (fun e => (e.1, e.2.1))
    .next (off.foldl (fun s e => failAccess e.1 e.2 s) s)

/-- PCIE_POWER_STATE_CHANGE (R509, R518, R530): a function's power state, Bus Master Enable and Memory Space Enable. -/
def execPciePowerStateChange (f dstate : Nat) (bme mse : Bool) (s : State) : Out :=
  if 8 ≤ f || !cfgOpen s || (dstate ≠ 0 && dstate ≠ 3) then .next s
  else
    let s := (((linkUp s).setF (HOSTIF_F_STAT_DSTATE f) dstate).setF (HOSTIF_F_STAT_BME f) (bit bme)).setF (HOSTIF_F_STAT_MSE f) (bit mse)
    .next (issueReads 256 (lowerPorts s))

/-- Messages whose vector no longer is masked are sent (R512). -/
def sendPending (f : Nat) (s : State) : State :=
  if s.isSet (HOSTIF_F_STAT_MSIX_EN f) && !s.isSet (HOSTIF_F_STAT_MSIX_MASK f) then
    forN 64 (fun v s =>
      let k := 64 * f + v
      let h := s.hostif
      if tabGet false k h.msixPend && tabGet false k h.msixUnmasked then
        { s with hostif := { h with msixPend := tabPut false k false h.msixPend
                                    msixSent := tabPut 0 k (tabGet 0 k h.msixSent + 1) h.msixSent } }
      else s) s
  else s

/-- MSIX_UNMASK (R512): the mask of a vector clears, or that of the function, with MSI-X enabled. -/
def execMsixUnmask (f : Nat) (vec : Option Nat) (s : State) : Out :=
  if 8 ≤ f || !cfgOpen s then .next s
  else match vec with
    | some v =>
      if 64 ≤ v then .next s
      else .next (sendPending f { s with hostif := { s.hostif with msixUnmasked := tabPut false (64 * f + v) true s.hostif.msixUnmasked } })
    | none => .next (sendPending f (((linkUp s).setF (HOSTIF_F_STAT_MSIX_EN f) 1).setF (HOSTIF_F_STAT_MSIX_MASK f) 0))

/-! ### What a function reports, and the SPI interrupt balls (R434, R503, R504, R515, R524) -/

/-- What function f's configuration space reports: identity, BAR sizes, the Interrupt Pin, MSI-X vectors, No_Soft_Reset, and
whether ACS says that requests are forwarded to another function. -/
structure FnReport where
  vendor : Nat
  device : Nat
  revision : Nat
  classCode : Nat
  subVendor : Nat
  subDevice : Nat
  barBytes : List Nat
  interruptPin : Nat
  msixVectors : Nat
  noSoftReset : Bool
  forwards : Bool
deriving DecidableEq, Repr

/-- The report of every function (R503, R504, R524, R530). -/
def fnReport (s : State) : FnReport :=
  let c := fun k => (tabGet 0 k s.boot.otp.customer).toNat
  { vendor := 0x1F5E, device := 0x4820, revision := s.getF SYS_ID_REV, classCode := 0x040100,
    subVendor := c 0 + 256 * c 1, subDevice := c 2 + 256 * c 3, barBytes := [0x20000, 0x2000000, 0x2000],
    interruptPin := 0, msixVectors := 64, noSoftReset := true, forwards := false }

/-- A PEND with EN at 1 of the mailbox or of a ring of SPI port x is set (R434). -/
def spiPends (s : State) (x : Nat) : Bool :=
  let p := 8 + x
  (s.isSet (MBOX_IRQ_PEND p) && s.isSet (MBOX_IRQ_EN p))
    || (List.range 64).any (fun r => ringOf s p r && s.isSet (RING_IRQ_PEND r) && s.isSet (RING_IRQ_EN r))

/-- SPIA_IRQ_N (x = 0) or SPIB_IRQ_N (x = 1): its level, none when not driven (R434, R515). -/
def spiIrqBall (s : State) (x : Nat) : Option Bool :=
  if !s.pins.porN || s.boot.inReset then none
  else if spiPends s x then some false
  else if s.isSet (HOSTIF_SPI_CFG_IRQ_OD x) then none
  else some true

/-! ### Completions of reads (R510, R511, R543) -/

/-- The request of a tag. -/
def tagOf (s : State) (t : Nat) : Option HostRead := s.hostif.tags.find? (fun e => e.tag == t)

/-- A tag is free again. -/
def freeTag (t : Nat) (s : State) : State :=
  putTags { s with hostif := { s.hostif with tags := s.hostif.tags.filter (fun e => e.tag != t) } }

/-- The first address of the access a request is part of: the lowest not yet answered. -/
def accessFirst (s : State) (e : HostRead) : Nat :=
  (s.hostif.tags.filter (fun x => decide (x.own = e.own))).foldl (fun m x => min m x.addr) e.addr

/-- The data of a request arrives. A fetch takes its descriptors; elsewhere the data enters memory, on a paired primary at its
APPLY (R543). -/
def readArrives (e : HostRead) (data : List Byte) (s : State) : State :=
  let s := freeTag e.tag s
  match e.own with
  | .far 4 => s
  | .fetch r => fetchDone r e.addr e.len (s.setBytes e.addr data)
  | _ =>
    if paired s then { s with hostif := { s.hostif with late := s.hostif.late ++ [e] } }
    else landLines (s.setBytes e.addr data)

/-- HOST_READ_COMPLETION (R510, R511): the data of a request, or a completion without success. -/
def execHostReadCompletion (tag : Nat) (ok : Bool) (data : List Byte) (s : State) : Out :=
  match tagOf s tag with
  | none => .next s
  | some e =>
    if ok && data.length ≠ e.len then .next s
    else if ok then .next (settleAll (issueReads 256 (readArrives e data s)))
    else .next (settleAll (issueReads 256 (failAccess e.own (accessFirst s e) (freeTag tag s))))

/-- COMPLETION_TIMEOUT (R511). -/
def execCompletionTimeout (tag : Nat) (s : State) : Out :=
  match tagOf s tag with
  | none => .next s
  | some e =>
    .next (settleAll (issueReads 256 (failAccess e.own (accessFirst s e) (freeTag tag (s.hitF HOSTIF_EVT_CPL_TIMEOUT 1)))))

/-! ### Resets (R516, R517, R529, R532) -/

/-- FUNCTION_LEVEL_RESET (R516, R517, R529). (DESIGN CHOICE, log entry 51; DEDUCED, log entry 52). -/
def execFunctionLevelReset (f : Nat) (s : State) : Out :=
  if 8 ≤ f || !cfgOpen s then .next s
  else
    let s := ((s.hitB HOSTIF_EVT_FLR f).setReg (HOSTIF_F_STAT f) 0).setReg (HOSTIF_F_XLAT_LO f) 0
    let s := loseMem (hostBase f) (hostBase (f + 1)) (s.setReg (HOSTIF_F_XLAT_HI f) 0)
    .next (issueReads 256 (failReads f (portReset f (lowerPorts s))))

/-- The link is up or trains: a reset of it resets the ports. -/
def linkLives (s : State) : Bool := s.pins.porN && s.getF HOSTIF_LINK_STATE != 0 && s.getF HOSTIF_LINK_STATE != 4

/-- LINK_DOWN (R516). (DESIGN CHOICE, log entry 51). -/
def execLinkDown (s : State) : Out := if linkLives s then .next (pciePortsReset (s.hitF HOSTIF_EVT_LINK_DOWN 1)) else .next s

/-- HOT_RESET (R516). (DESIGN CHOICE, log entry 51). -/
def execHotReset (s : State) : Out := if linkLives s then .next (pciePortsReset (s.hitF HOSTIF_EVT_HOT_RESET 1)) else .next s

/-- The transaction's chip select causes a wake: PARK entry is under way and its source is enabled, or WAKE_DETECT has found
it (R85). -/
def csWakes (s : State) (x : Nat) : Bool :=
  bitOf s.pwr.csWake x || (s.getF PWR_STATUS_STATE == 4 && s.getB PWR_WAKE_EN_EN (2 + x) && !s.pwr.crit)

/-- The transaction that a wake kept from being executed is over (R85). -/
def csDone (x : Nat) (s : State) : State :=
  if bitOf s.pwr.csWake x then { s with pwr := { s.pwr with csWake := s.pwr.csWake - 2 ^ x } } else s

/-- SPI transactions of target x reach the part: neither boot, PARK nor wake, and the transaction itself wakes nothing (R85,
R122, R531). -/
def spiOpen (s : State) (x : Nat) : Bool :=
  s.pins.porN && s.getF SYS_BOOT_STATUS_CODE == 5 && s.getF PWR_STATUS_STATE != 1 && s.getF PWR_STATUS_STATE != 5
    && !csWakes s x

/-- Any transaction but RESET disarms the reset (R532). -/
def disarm (x : Nat) (s : State) : State := { s with hostif := { s.hostif with rstArmed := tabPut false x false s.hostif.rstArmed } }

/-- RESET_EN (R516). -/
def execResetEn (x : Nat) (s : State) : Out :=
  if 2 ≤ x then .next s
  else if !spiOpen s x then .next (csDone x s)
  else .next { s with hostif := { s.hostif with rstArmed := tabPut false x true s.hostif.rstArmed } }

/-- RESET (R516, R532): nothing unless the transaction before was RESET_EN. -/
def execReset (x : Nat) (s : State) : Out :=
  if 2 ≤ x then .next s
  else if !spiOpen s x || !tabGet false x s.hostif.rstArmed then .next s
  else .next (portReset (8 + x) ((disarm x s).hitB HOSTIF_EVT_SPI_RESET x))

/-! ### Direct mode (R522) -/

/-- The initiator may write HOSTIF_DIRECT.KEY with effect: SPI_A, or the debug port; the debug port's DIRECT scope opens. -/
def keyOpens (s : State) : Initiator → Bool
  | .port p => p == 8 && spiOpen s 0 && (!s.isSet SYS_LIFECYCLE_SECURE || granted s 4)
  | .debug => granted s 4
  | _ => false

/-- Direct mode opens: every host port is reset. -/
def directOpen (s : State) : State :=
  if s.isSet HOSTIF_DIRECT_STAT_OPEN then s
  else forN 10 (fun p s => portReset p s) (s.setF HOSTIF_DIRECT_STAT_OPEN 1)

/-- DIRECT_MODE_OPEN (R522, R585): a control of the debug port outside its scope faults. -/
def execDirectModeOpen (i : Initiator) (s : State) : Out :=
  if keyOpens s i then .next (directOpen s)
  else if i = .debug then .next (dbgFail dcLOCKED s)
  else .next s

/-- DIRECT_MODE_CLOSE (R522): any value but the key. -/
def execDirectModeClose (i : Initiator) (key : Word) (s : State) : Out :=
  match i with
  | .port p => if p = 8 ∧ key ≠ 0x44524D4F ∧ spiOpen s 0 = true then .next (s.setF HOSTIF_DIRECT_STAT_OPEN 0) else .next s
  | .debug => if key ≠ 0x44524D4F ∧ granted s 3 = true then .next (s.setF HOSTIF_DIRECT_STAT_OPEN 0) else .next s
  | _ => .next s

end Sys2Proof.Machine
end

