-- ==== Sys2Proof/Machine/Registers.lean ====
section
/-! DEFINITION. Register accesses by an initiator (R11 to R14, R20 to R24, R413, R436, R506, R514): the access codes, the
halves of pairs, and what a write starts in each block, with the rows of single register accesses.
(DEDUCED, log entry 53). -/

namespace Sys2Proof.Machine

/-- The state a meaning leaves. -/
def outSt (o : Out) (s : State) : State :=
  match o with
  | .next t => t
  | _ => s

/-! ### Halves of pairs (R14, R22, R23) -/

/-- `a` is the low half of a pair. -/
def isPairLo (a : Nat) : Bool :=
  match specOf a, specOf (a + 4) with
  | some l, some h => l.pair == 1 && h.pair == 2
  | _, _ => false

/-- `a` is the high half of a pair. -/
def isPairHi (a : Nat) : Bool := decide (4 ≤ a) && isPairLo (a - 4)

/-! ### Reads (R12, R14) -/

/-- The level of GPIO n with nothing driving it from outside: what its FUNC drives, else its pull (R614's table). -/
def gpioLevel (s : State) (n : Nat) : Bool :=
  let pull := s.getF (PINMUX_GPIO_PULL n) == 2
  match s.getF (PINMUX_GPIO_FUNC n) with
  | 1 => if s.isSet (PINMUX_GPIO_OUT n) then (if s.isSet (PINMUX_GPIO_OD n) then pull else true) else false
  | 2 => s.pwr.lynxEn
  | _ => pull

/-- What a read of the register at `a` returns, its WO fields as zero. (DEDUCED, log entry 13). -/
def regVal (s : State) (a : Nat) : Word :=
  if a = GUST_COEF_DATA then
    let w := s.getF GUST_COEF_ADDR_WORD
    if w ≤ 51 then (tabGet 0 (gustKey (1 - gustActive s) (s.getF GUST_COEF_ADDR_PATH) w) s.gust.coef).setWidth 32 else 0
  else if a = PINMUX_SHARED then PINMUX_SHARED_LIVE_SEEN.insert (s.reg a) (bit (liveSeen s))
  else if a = PINMUX_GPIO_IN then
    BitVec.ofNat 32 ((List.range 16).foldl (fun m n => if gpioLevel s n then m + 2 ^ n else m) 0)
  else s.cycLook a &&& ~~~(BitVec.ofNat 32 (accMask (fun c => c == .wo) a))

/-- The debug unit whose REGDATA is at `a`. -/
def regdataUnit (a : Nat) : Option Nat := (List.range 6).find? (fun c => a == DBG_CORE_REGDATA c)

/-- A read of an aligned register that the initiator reaches: the high half of a pair comes from the latch; RC fields clear. -/
def regRead (i : Initiator) (a : Nat) (s : State) : State × Word :=
  match regdataUnit a with
  | some c =>
    match regdataRead c s with
    | (s, some v) => (s, BitVec.ofNat 32 v)
    | (s, none) => (s, 0)
  | none =>
    if isPairHi a then
      (s, match tabGet none (latchKey i (a - 4)) s.pairRead with
        | some h => h
        | none => resetWord a)
    else
      let v := regVal s a
      let s := if isPairLo a then
          { s with pairRead := tabPut none (latchKey i a) (some (regVal s (a + 4))) s.pairRead }
        else s
      let s := when (a == GUST_COEF_DATA) coefAdvance s
      (clearRC a s, v)

/-! ### Writes (R12, R13) -/

/-- RW bits take the value, W1C bits written 1 clear unless an event of this cycle set them (R20), a WO word that is kept is
stored; other bits stay. A W1S bit written 1 while its action still runs is marked (R21). -/
def genWrite (a : Nat) (v : Word) (s : State) : State :=
  let rw := BitVec.ofNat 32 (accMask (fun c => c == .rw) a)
  let wo := if decide (DBG_TOKEN 0 ≤ a) && decide (a < DBG_TOKEN 16) then BitVec.ofNat 32 (accMask (fun c => c == .wo) a) else 0
  let w1c := BitVec.ofNat 32 (accMask (fun c => c == .w1c) a)
  let m := rw ||| wo
  let w1s := BitVec.ofNat 32 (accMask (fun c => c == .w1s) a)
  let kept := tabGet 0 a s.cyc.hits
  let s' := s.setReg a (((s.reg a &&& ~~~m) ||| (v &&& m)) &&& ~~~(v &&& w1c &&& ~~~kept))
  let was := match tabGet none a s.cyc.was with
    | some w => tabPut none a (some (w &&& ~~~(v &&& w1c))) s.cyc.was
    | none => s.cyc.was
  ({ s' with cyc := { s'.cyc with was := was } }).mark a (v &&& w1s &&& s.reg a).toNat

/-- Index of a register within an array of the given base and stride. -/
def nth (a base stride : Nat) : Nat := (a - base) / stride

/-- `a` is entry `k < n` of an array. -/
def inArr (a base stride n : Nat) : Bool :=
  decide (base ≤ a) && decide (a < base + stride * n) && (a - base) % stride == 0

/-- SYS, CLK, PWR and DORMOUSE (R60, R63, R64, R77, R79, R90, R102, R111, R121). -/
def actSys (port a : Nat) (v : Word) (old s : State) : State :=
  let b := fun k => bitOf v.toNat k
  if a = SYS_RST_CTRL then (if b 0 then outSt (execCoreRstWrite s) s else s)
  else if a = SYS_WDOG then wdogFrom old s
  else if a = SYS_WDOG_KICK then outSt (execWatchdogKick (v.toNat % 65536) s) s
  else if a = SYS_DL then (if b 31 then outSt (execSysDlGo port s) s else s)
  else if a = CLK_MCLK then
    let d := CLK_MCLK_DIV.of v
    settleMclk (if d % 2 = 0 ∧ 2 ≤ d ∧ d ≤ 16 then s else s.setF CLK_MCLK_DIV (old.getF CLK_MCLK_DIV))
  else if a = CLK_ALARM_CTRL ∨ a = CLK_ALARM_HI then armAlarm s
  else if a = PWR_PARK_CFG then settleRail s
  else if a = PWR_CTRL then
    let s := if s.isSet PWR_CTRL_HOLD_CLK && railOn s && s.getF PWR_STATUS_LYNX_ON != 0xFF then
      showEngines (s.setF PWR_STATUS_LYNX_ON 0xFF) else s
    powerEval s
  else if a = DORMOUSE_HIT then (if b 31 then rearm s else s)
  else s

/-- MBOX and RING: slot words, indices and PEND (R417, R419, R429, R433, R436). -/
def actRings (a : Nat) (v : Word) (old s : State) : State :=
  let p := a % 65536 / 0x1000
  let r := a % 65536 / 0x400
  if a / 65536 = 0x2003 then
    if a % 0x1000 < 0x100 then
      let slot := a % 0x1000 / 64
      let head := old.getF (MBOX_IN_HEAD_HEAD p)
      if idxDiff 8 (old.getF (MBOX_IN_TAIL_TAIL p)) head ≤ (slot + 4 - head % 4) % 4 then s else old
    else if a = MBOX_IN_TAIL p ∨ a = MBOX_OUT_HEAD p then putIndex a v.toNat old
    else s
  else if a = RING_SQ_TAIL r ∨ a = RING_CQ_HEAD r then putIndex a v.toNat old
  else if a = RING_IRQ r then (if bitOf v.toNat 0 then coalCheck r s else s)
  else s

/-- SYNC (R451, R482, R488, R495). -/
def actSync (a : Nat) (v : Word) (old s : State) : State :=
  if a < SYNC_OBJ_LO 4096 then
    let i := nth a (SYNC_OBJ_LO 0) 8
    outSt (execSyncObjSignalWrite i (s.r64 (SYNC_OBJ_LO i)) old) old
  else if a < SYNC_OWN 4096 then
    let i := nth a (SYNC_OWN 0) 4
    if old.isSet (SYNC_OWN_VALID i) && (SYNC_OWN_VALID i).of v == 0 then outSt (execSyncOwnFreeWrite i old) old else s
  else if a < SYNC_BIND 1024 then
    let e := nth a (SYNC_BIND 0) 4
    if evKnown ((SYNC_BIND_EVENT 0).of v) then
      { s with denrek := { s.denrek with binders := s.denrek.binders.filter (fun b => b.1 != e) } }
    else old
  else if a = SYNC_ADD_DELTA then outSt (execSyncAddDeltaWrite v.toNat s) s
  else s

/-- DEC (R135, R138, R151, R152). -/
def actDec (a : Nat) (v : Word) (old s : State) : State :=
  let b := fun k => bitOf v.toNat k
  if a = DEC_SYNC_CTRL then (if b 0 then goSync s else s)
  else if inArr a (DEC_FIR_CTRL 0) 4 4 then
    if b 1 then outSt (execDecSwapRequest (nth a (DEC_FIR_CTRL 0) 4) s) s else s
  else if a = DEC_CTRL ∨ inArr a (DEC_LINE 0) 4 16 then settlePdm s
  else if inArr a (DEC_CLK 0) 4 4 then
    let n := nth a (DEC_CLK 0) 4
    settlePdm (if old.isSet (DEC_CLK_EN n) then s.setF (DEC_CLK_RATE n) (old.getF (DEC_CLK_RATE n)) else s)
  else if inArr a (DEC_FIR_DLY 0) 4 4 then
    let p := nth a (DEC_FIR_DLY 0) 4
    if old.isSet (DEC_FIR_CTRL_ACTIVE p) then s.setF (DEC_FIR_DLY_DLY_B p) (old.getF (DEC_FIR_DLY_DLY_B p))
    else s.setF (DEC_FIR_DLY_DLY_A p) (old.getF (DEC_FIR_DLY_DLY_A p))
  else if DEC_COEF 0 0 0 ≤ a then
    let p := nth a (DEC_COEF 0 0 0) 0x200
    if (a - DEC_COEF 0 0 0) % 0x200 / 0x100 = old.getF (DEC_FIR_CTRL_ACTIVE p) then old.hitB DEC_EVT_ACTIVE_WR p else s
  else if DEC_CH_CFG 0 ≤ a then
    let ch := nth a (DEC_CH_CFG 0) 0x40
    let s := if a == DEC_CH_BUF_CFG ch && s.isSet (DEC_CH_BUF_CFG_EN ch) && !old.isSet (DEC_CH_BUF_CFG_EN ch) then
      s.setCh ch { s.ch ch with cur := none, sync := true } else s
    if a = DEC_CH_CFG ch ∨ a = DEC_CH_BUF_CFG ch ∨ a = DEC_CH_BUF_HI ch then decSnap ch s else s
  else s

/-- TDM (R167, R170 to R173, R180, R182, R185). -/
def actTdm (a : Nat) (v : Word) (old s : State) : State :=
  let n := a % 65536 / 0x1000
  let o := a % 0x1000
  let d := o / 0x100 - 1
  if a = TDM_TRIG_CTRL then (if bitOf v.toNat 10 then outSt (execTdmTrigGo s) s else s)
  else if 4 ≤ n then s
  else if a = TDM_CLK n then
    if clkOk v.toNat && framesFit old n v.toNat && !grpServes old n then s.setReg (TDM_CLK_STAT n) 0 else old
  else if a = TDM_TX_TOUT_VOTE n then touchPort n s
  else if 0x400 ≤ o ∧ o < 0x500 then
    let l := (o - 0x400) / 0x80
    let k := (o - 0x400) % 0x80 / 4
    let f := fun (w : State) => imgSrc (w.reg a) == 1
    let s := if tdStarted s n 0 && decide (k < tdSlots s n 0) && f s != f old then
      s.setF (TDM_TX_SLOT_SRC n l k) (old.getF (TDM_TX_SLOT_SRC n l k)) else s
    touchSlot n l k s
  else if 0x100 ≤ o ∧ o < 0x300 then
    if a = TDM_CFG n d then
      if tdState old n d == tsIDLE && cfgDataOk v.toNat
          && cfgFits v.toNat (old.getF (TDM_CLK_FRAME_LEN ((TDM_CFG_CLK_SEL 0 0).of v))) then
        when (d == 0) (touchPort n) s
      else old
    else if a = TDM_CTRL n d then (if bitOf v.toNat 1 then outSt (execTdmCtrlStop n d s) s else s)
    else
      let l := (o % 0x100 - 0x20) / 0x10
      if a = TDM_RING_PTR n d l ∨ a = TDM_RING_CFG n d l then withMark n d l (fun _ => s) old else s
  else s

/-- ASRC (R196, R209): a converter enabled starts to lock; one disabled is idle. -/
def actAsrc (a : Nat) (old s : State) : State :=
  let n := a % 65536 / 0x100
  if n < 8 ∧ a = ASRC_CFG n ∧ s.getF (ASRC_CFG_EN n) ≠ old.getF (ASRC_CFG_EN n) then
    ((s.setReg (ASRC_RING_PTR n) 0).setAsrc n Asrc.reset).setF (ASRC_STAT_STATE n) (s.getF (ASRC_CFG_EN n))
  else s

/-- GUST (R219, R221, R223, R226, R228). -/
def actGust (i : Initiator) (a : Nat) (v : Word) (old s : State) : State :=
  if a = GUST_CTRL then (if bitOf v.toNat 1 then outSt (execGustSwapRequest s) s else s)
  else if a = GUST_MUTE then touchAll s
  else if a = GUST_LOAD_CTRL then (if bitOf v.toNat 31 then outSt (execGustLoadGo i s) s else s)
  else if a = GUST_COEF_DATA then outSt (execGustCoefWrite i v old) old
  else if a = GUST_DIV_STAT then outSt (execGustTripClear v.toNat old) old
  else if inArr a (GUST_PATH 0) 4 256 then outSt (execGustPathWrite i (nth a (GUST_PATH 0) 4) v old) old
  else s

/-- LYNX (R350, R353): a stream's configuration binds the program its ENGINE and PROG name, at the next release. -/
def actLynx (a : Nat) (v : Word) (s : State) : State :=
  let n := a % 65536 / 0x1000
  let k := nth a (LYNX_STR_CFG 0) 0x10
  if n < 8 ∧ a = LYNX_JOB_PUSH n then (if bitOf v.toNat 0 then outSt (execLynxJobPush n s) s else s)
  else if k < 24 ∧ a = LYNX_STR_CFG k then
    let h := s.getF (LYNX_STR_CFG_ENGINE k) + 16 * s.getF (LYNX_STR_CFG_PROG k)
    let x := s.lstr k
    if !s.isSet (LYNX_STR_CFG_EN k) then s.setLstr k { x with pend := some none }
    else if (lynxProg s h).isSome then s.setLstr k { x with pend := some (some (h, s.reg a, s.reg (LYNX_STR_POL k))) }
    else s
  else s

/-- FOG (R372, R377). -/
def actFog (a : Nat) (v : Word) (s : State) : State :=
  if a = FOG_OP_CTRL then (if bitOf v.toNat 31 then outSt (execFogOpPush s) s else s)
  else if a = FOG_KS_CTRL then
    if bitOf v.toNat 16 then
      (if FOG_KS_CTRL_OP.of v = 1 then outSt (execFogKsRegisterGo s) s else outSt (execFogKsReleaseGo s) s)
    else s
  else if a = FOG_RET_CTRL then (if bitOf v.toNat 0 then outSt (execFogRetGo s) s else s)
  else s

/-- MARTEN (R288, R297, R306, R451). -/
def actMarten (a : Nat) (v : Word) (old s : State) : State :=
  let n := a % 65536 / 0x1000
  if a = MARTEN_XCORE then outSt (execMartenXcoreRaise (v.toNat % 16) s) s
  else if 4 ≤ n then s
  else if a = MARTEN_CTRL n then
    let s := if bitOf v.toNat 0 then outSt (execMartenCtrlRun n s) s else s
    if bitOf v.toNat 1 then outSt (execMartenCtrlStop n s) s else s
  else if a = MARTEN_SIGNAL n then outSt (execMartenSignalRaise n v s) s
  else if a = MARTEN_TIMER_HI n then s.setCore n { s.core n with timed := false }
  else if inArr a (MARTEN_EVSEL n 0) 4 16 then
    if evKnown ((MARTEN_EVSEL_EVENT 0 0).of v) then s else old
  else
    let c := nth a (MARTEN_DMA_CTRL n 0) 0x20
    if c < 4 ∧ a = MARTEN_DMA_CTRL n c ∧ bitOf v.toNat 0 = true then outSt (execMartenDmaGo n c s) s else s

/-- DBG (R584 to R589, R593). -/
def actDbg (i : Initiator) (a : Nat) (v : Word) (old s : State) : State :=
  let b := fun k => bitOf v.toNat k
  let open' := i == .debug
  let c := nth a (DBG_CORE_CTRL 0) 0x40
  if a = DBG_CHAL_CTRL then (if open' && b 0 then outSt (execDbgChallengeNew s) s else s)
  else if a = DBG_UNLOCK then
    if !open' then old
    else
      let s := if b 8 then outSt (execDbgUnlockGo s) s else s
      if b 9 then outSt (execDbgRelock s) s else s
  else if decide (DBG_TOKEN 0 ≤ a) && decide (a < DBG_TOKEN 16) then (if open' then s else old)
  else if DBG_CORE_CTRL 0 ≤ a ∧ c < 6 then
    if a = DBG_CORE_CTRL c then
      let s := if granted old (unitScope c) || (v.toNat &&& 0x10008) == ((old.reg a).toNat &&& 0x10008) then s
        else dbgFail dcLOCKED old
      let s := if b 0 then outSt (execDbgHalt c s) s else s
      let s := if b 1 then outSt (execDbgResume c s) s else s
      if b 2 then outSt (execDbgStep c s) s else s
    else if a = DBG_CORE_REGDATA c then regdataWrite c v.toNat old
    else if granted old (unitScope c) then s
    else dbgFail dcLOCKED old
  else s

/-- What a write of a register starts; `old` is the state before the write, `s` the state with its access codes applied.
(DEDUCED, log entry 54). -/
def regAct (i : Initiator) (a : Nat) (v : Word) (old s : State) : State :=
  match a / 65536 with
  | 0x2000 | 0x2001 | 0x2002 | 0x2014 => actSys (match i with | .port p => p | _ => 255) a v old s
  | 0x2003 | 0x2004 => actRings a v old s
  | 0x2005 => actSync a v old s
  | 0x2006 => actDec a v old s
  | 0x2007 => actTdm a v old s
  | 0x2008 =>
    let g := (a - GUARD_CFG 0) / 0x20
    if g < 9 ∧ (a = GUARD_CFG g ∨ a = GUARD_PAIRS g) then guardKeep g old s else s
  | 0x2009 => actAsrc a old s
  | 0x200A => actGust i a v old s
  | 0x200B => if a = FOX_DOA_PTR then doaPush (v.toNat / 65536) old else s
  | 0x200C => actLynx a v s
  | 0x200D => actFog a v s
  | 0x200E => actMarten a v old s
  | 0x200F =>
    if a = MEMC_CTRL then (if bitOf v.toNat 0 then outSt (execMemcTrain s) s else s)
    else if a = MEMC_CFG ∧ old.isSet MEMC_STAT_TRAINED = true then old
    else s
  | 0x2010 =>
    if MPU_REG_BASE 0 ≤ a then s.defer a (old.reg a) else s
  | 0x2011 =>
    if a = TWIN_CTRL then
      let s := if bitOf v.toNat 0 then outSt (execTwinCtrlAttach s) s else s
      if bitOf v.toNat 1 then outSt (execTwinCtrlDetach s) s else s
    else if a = TWIN_SWAP_CTRL then (if bitOf v.toNat 0 then outSt (execTwinSwapGo s) s else s)
    else s
  | 0x2012 =>
    if a = HOSTIF_DIRECT then
      outSt (if v.toNat = 0x44524D4F then execDirectModeOpen i s else execDirectModeClose i v s) s
    else if a = HOSTIF_TAGS_CFG then issueReads 256 s
    else s
  | 0x2013 => actDbg i a v old s
  | 0x2015 =>
    let n := nth a (SENSE_SYNC_CTRL 0) 0x20
    let k := nth a (SENSE_SPORT_CFG 0) 0x40
    if n < 2 ∧ a = SENSE_SYNC_CTRL n then (if s.isSet (SENSE_SYNC_CTRL_EN n) then senseEnable n s else s)
    else if n < 2 ∧ s.isSet (SENSE_SYNC_CTRL_EN n) ∧ (a = SENSE_SYNC_PERIOD n ∨ a = SENSE_SYNC_START_HI n) then senseRetime n s
    else if k < 2 ∧ a = SENSE_SPORT_CFG k then (if sportSettable old k v then sportFollow k old s else old)
    else if k < 2 ∧ a = SENSE_SPORT_RING_CFG k then sportFollow k old s
    else s
  | _ => s

/-- A register, or both halves of a pair, takes a value; FAULT_N and its notice follow (R492). -/
def regPut (i : Initiator) (a : Nat) (v : Word) (lo : Option Word) (s : State) : State :=
  withFaultPin (fun s =>
    let t := match lo with
      | some l => genWrite (a - 4) l s
      | none => s
    regAct i a v s (genWrite a v t)) s

/-- The lower half last committed to the pair at `lo`, its Reset value before any commit (R23). (DEDUCED, log entry 13). -/
def lastLow (s : State) (lo : Nat) : Word := (tabGet none lo s.pairLast).getD (resetWord lo)

/-- The lower half a write of the high half commits: the one the initiator's latch holds, else the last committed (R23). -/
def commitLow (s : State) (i : Initiator) (lo : Nat) : Word := (tabGet none (latchKey i lo) s.pairWrite).getD (lastLow s lo)

/-- An initiator later in the order of R24 has committed the pair in this cycle: host ports in ascending number, the Sett
controller, the Marten cores, the debug port (R24, R598). -/
def outranked (s : State) (i : Initiator) (lo : Nat) : Bool := decide (initKey i + 1 < tabGet 0 lo s.cyc.commits)

/-- A commit of both halves of a pair. Of the commits of one cycle the last in the order of R24 remains; a sync object takes
every signal (R482). -/
def pairCommit (i : Initiator) (a : Nat) (v : Word) (s : State) : State :=
  let lo := a - 4
  let l := commitLow s i lo
  let out := outranked s i lo && a / 65536 != 0x2005
  let s := { s with pairWrite := tabPut none (latchKey i lo) none s.pairWrite }
  if out then s
  else
    let s := { s with pairLast := tabPut none lo (some l) s.pairLast,
                      cyc := { s.cyc with commits := tabPut 0 lo (max (initKey i + 1) (tabGet 0 lo s.cyc.commits)) s.cyc.commits } }
    regPut i a v (some l) s

/-- A write by an initiator that reaches the whole register: the low half of a pair is held, the high half commits both
(R14, R23). That one initiator's held lower half and its captured upper half stand in separate tables, so that neither access
disturbs the other, is the model's choice (DESIGN CHOICE, log entry 13). A core's write of GUST_CTRL acts on SWAP alone
(R225). -/
def fullWrite (i : Initiator) (a : Nat) (v : Word) (s : State) : State :=
  if isPairLo a then { s with pairWrite := tabPut none (latchKey i a) (some v) s.pairWrite }
  else if isPairHi a then pairCommit i a v s
  else match i with
    | .marten _ => if a = GUST_CTRL then (if bitOf v.toNat 1 then outSt (execGustSwapRequest s) s else s) else regPut i a v none s
    | _ => regPut i a v none s

/-! ### Hosts (R122, R413, R436, R514, R518) -/

/-- BAR0 of a function maps the address (R413). -/
def bar0Maps (p a : Nat) : Bool :=
  (decide (0x20000000 ≤ a) && decide (a < 0x20001000)) || (decide (MBOX_IN p 0 0 ≤ a) && decide (a < MBOX_IN (p + 1) 0 0))
    || a / 65536 == 0x2004

/-- The register stands in the MBOX page or a ring page. -/
def inPages (a : Nat) : Bool := a / 65536 == 0x2003 || a / 65536 == 0x2004

/-- A host port sees the register: not a page of a port that is not ready, nor another port's ring (R413, R518). -/
def hostSees (s : State) (p a : Nat) : Bool := sysOpen p a || (ownPage s p a && portIsReady s p) || directOn s p

/-- Bits of a page that a host may write (R436). (DEDUCED, log entry 52). -/
def hostBits (a : Nat) : Nat :=
  if a / 65536 = 0x2003 then
    let o := a % 0x1000
    if o < 0x100 then 0xFFFFFFFF else if o = 0x400 ∨ o = 0x40C then 0xFF else if o = 0x410 then 2 else if o = 0x414 then 3 else 0
  else
    let o := a % 0x400
    if o = 0x18 ∨ o = 0x24 then 0xFFFF else if o = 0x28 then 0x100 else if o = 0x2C then 3 else 0

/-- A host's write of a page: indices in PAIRED wait for their APPLY (R543). -/
def pageWrite (i : Initiator) (a : Nat) (v : Word) (s : State) : State :=
  let m := BitVec.ofNat 32 (hostBits a)
  let index := a % 0x1000 == 0x400 || a % 0x1000 == 0x40C
  let index := (a / 65536 == 0x2003 && index) || (a / 65536 == 0x2004 && (a % 0x400 == 0x18 || a % 0x400 == 0x24))
  let rw := BitVec.ofNat 32 (accMask (fun c => c == .rw) a) &&& m
  if hostBits a = 0 ∨ (index = true ∧ paired s = true) then s
  else regPut i a ((v &&& m) ||| (s.reg a &&& BitVec.ofNat 32 (accMask (fun c => c == .rw) a) &&& ~~~rw)) none s

/-- A write of an aligned register that the initiator reaches. (DEDUCED, log entry 50). -/
def regWrite (i : Initiator) (a : Nat) (v : Word) (s : State) : State :=
  match i with
  | .port p =>
    if directOn s p then fullWrite i a v s
    else if sysOpen p a || a == HOSTIF_DIRECT then fullWrite i a v s
    else if hostSees s p a then pageWrite i a v s
    else s
  | _ => fullWrite i a v s

/-! ### Single accesses -/

/-- An SPI transaction before its access: SYS registers alone before READY, nothing under reset, in PARK or during wake
(R85, R122, R531). -/
def spiReg (s : State) (p a : Nat) (write shaped : Bool) : RespCode :=
  let boots := s.pins.porN && !s.boot.inReset && s.getF SYS_BOOT_STATUS_CODE != 5
  if boots && shaped && sysOpen p a then .ok
  else if !spiOpen s (p - 8) then .notReady
  else if !shaped || !reaches s (.port p) a write then .accessFault
  else if inPages a && !directOn s p && !portIsReady s p then .notReady
  else .ok

/-- A function's BARs answer: the link is up, the function in D0 with Memory Space Enable set (R518). -/
def barOpen (s : State) (f : Nat) : Bool :=
  s.pins.porN && decide (f < 8) && (s.getF HOSTIF_LINK_STATE == 2 || s.getF HOSTIF_LINK_STATE == 3)
    && s.getF (HOSTIF_F_STAT_DSTATE f) == 0 && s.isSet (HOSTIF_F_STAT_MSE f)

/-- How a register access is answered before it is made (R11, R122, R413, R506, R514, R583). -/
def regStatus (s : State) (i : Initiator) (a size : Nat) (write : Bool) : RespCode :=
  let shaped := size == 4 && a % 4 == 0 && decide (kindOf s a = .regs)
  match i with
  | .port p =>
    if p < 8 then
      if barOpen s p && shaped && bar0Maps p a then .ok else if write then .dropped else .completerAbort
    else if p < 10 then spiReg s p a write shaped
    else .accessFault
  | .debug => if shaped && reaches s i a write then .ok else .dbgFault
  | _ => if shaped && reaches s i a write then .ok else .accessFault

/-- A refused access is counted or recorded where its initiator's chapter says so (R506, R513, R581, R583). -/
def refuseReg (i : Initiator) (a : Nat) (write : Bool) (code : RespCode) (s : State) : State :=
  let s := match i with
    | .port p =>
      if p < 8 then when (barOpen s p) (fun s => s.incF (HOSTIF_F_REFUSED_COUNT p) 1) s
      else if p < 10 then s.incF (HOSTIF_SPI_ERR_REFUSED (p - 8)) 1
      else s
    | .debug => dbgFail (if a % 4 ≠ 0 then dcALIGN else if reaches s i a write then dcUNMAPPED else dcLOCKED) s
    | _ => s
  s.answer i code []

/-- A read by an initiator (R11, R12). (DEDUCED, log entry 13). -/
def readReg (i : Initiator) (a size : Nat) (s : State) : Out :=
  match regStatus s i a size false with
  | .ok =>
    let seen := match i with | .port p => hostSees s p a | _ => true
    if seen then
      let r := regRead i a s
      .next (r.1.answer i .ok (leBytes 4 r.2.toNat))
    else .next (s.answer i .ok (leBytes 4 0))
  | c => .next (refuseReg i a false c s)

/-- A write by an initiator (R11, R12). (DEDUCED, log entry 13). -/
def writeReg (i : Initiator) (a size : Nat) (v : Word) (s : State) : Out :=
  match regStatus s i a size true with
  | .ok => .next ((regWrite i a v s).answer i .ok [])
  | c => .next (refuseReg i a true c s)

/-- REGISTER_WRITE (R11, R12, R13, R413, R436). -/
def execRegisterWrite (i : Initiator) (addr size : Nat) (v : Word) (s : State) : Out := writeReg i addr size v s

/-- REGISTER_READ_CLEAR (R11, R12, R20). -/
def execRegisterReadClear (i : Initiator) (addr size : Nat) (s : State) : Out := readReg i addr size s

/-- PAIR_LO_READ (R14, R22). -/
def execPairLoRead (i : Initiator) (addr : Nat) (s : State) : Out := if isPairLo addr then readReg i addr 4 s else .next s

/-- PAIR_LO_WRITE (R14, R23). -/
def execPairLoWrite (i : Initiator) (addr : Nat) (v : Word) (s : State) : Out :=
  if isPairLo addr then writeReg i addr 4 v s else .next s

/-- PAIR_HI_WRITE (R14, R23, R24). -/
def execPairHiWrite (i : Initiator) (addr : Nat) (v : Word) (s : State) : Out :=
  if isPairHi addr then writeReg i addr 4 v s else .next s

end Sys2Proof.Machine
end

