-- ==== Sys2Proof/Machine/Access.lean ====
section
/-! DEFINITION. Accesses of hosts to memory, SPI transactions, the debug port's packets, and the ends of a Marten core's far
accesses and DMA transfers (R288, R301, R400, R504 to R508, R513, R514, R578 to R582).
(DEDUCED, log entries 48 and 53). -/

namespace Sys2Proof.Machine

/-! ### Memory accesses of hosts (R504, R506, R507, R514, R543) -/

/-- A checked read of a host port on behalf of its OPEN sessions. -/
def hostAcq (s : State) (p : Nat) (write : Bool) : Acq := ⟨clsHOST, .sess (openSessions s p), write⟩

/-- A host's memory write: in PAIRED it is checked, and enters memory at its APPLY (R543). -/
def hostWrite (p a : Nat) (bs : List Byte) (s : State) : State × Acc2 :=
  if paired s then
    match checkRange s (hostAcq s p true) none a bs.length with
    | .ok => (s, .data [])
    | .bad x => (rejectAccess (hostAcq s p true) x false s, .refused x)
    | .wait => (s, .wait)
  else s.writeChecked (hostAcq s p true) none a bs

/-- A download before READY: PCIE_F0 or SPI_A writes the first 16 MiB of the shared pool (R122, R507, R514). -/
def downloads (s : State) (p a n : Nat) : Bool :=
  s.getF SYS_BOOT_STATUS_CODE != 5 && (p == 0 || p == 8) && decide (a + n ≤ 0x100_0000)

/-- Bytes written unchecked. -/
def putBytes (a : Nat) (bs : List Byte) (s : State) : State := journaledBytes a bs s

/-- BAR2_ACCESS (R504, R506, R507): one access of function f at a BAR2 offset. -/
def execBar2Access (f offset len : Nat) (wr : Bool) (data : List Byte) (s : State) : Out :=
  let n := if wr then data.length else len
  let no : RespCode := if wr then .dropped else .completerAbort
  let refuse := fun (s : State) => (s.incF (HOSTIF_F_REFUSED_COUNT f) 1).answer (.port f) no []
  if !barOpen s f || n = 0 then .next s
  else if s.getF SYS_BOOT_STATUS_CODE ≠ 5 then
    if wr && downloads s f offset n then .next ((putBytes offset data s).answer (.port f) .ok [])
    else .next (refuse s)
  else if poolEnd < offset + n || isStandby s then .next (refuse s)
  else
    let r := if wr then hostWrite f offset data s else s.readChecked (hostAcq s f false) none offset n
    match r with
    | (s, .data bs) => .next (s.answer (.port f) .ok bs)
    | (s, .refused _) => .next (refuse s)
    | (s, .ecc _) => .next (s.answer (.port f) no [])
    | (s, .wait) => .next s

/-! ### SPI transactions (R513, R514, R516, R531, R532) -/

/-- A status byte. -/
def spiCode : RespCode → Nat
  | .ok => 0 | .notReady => 1 | .accessFault => 2 | .timeout => 3 | .badCmd => 4 | _ => 0xFF

/-- A transaction of target x ends with a status: it is counted, and the status of a write is kept. -/
def spiEnd (x : Nat) (write : Bool) (c : RespCode) (data : List Byte) (s : State) : State :=
  let s := when (c == .accessFault || c == .notReady) (fun s => s.incF (HOSTIF_SPI_ERR_REFUSED x) 1) s
  let s := when (c == .badCmd) (fun s => s.incF (HOSTIF_SPI_ERR_FRAME x) 1) s
  let s := when (write || c == .badCmd) (fun s => (s.setF (HOSTIF_SPI_STAT_LAST x) (spiCode c)).setF (HOSTIF_SPI_STAT_BUSY x) 0) s
  csDone x (s.answer (.port (8 + x)) c data)

/-- WAIT_MAX in force. -/
def waitMax (s : State) (x : Nat) : Nat := max 1 (s.getF (HOSTIF_SPI_CFG_WAIT_MAX x))

/-- A read whose result is not there after WAIT_MAX bytes, or behind a write in progress, is not made (R513). -/
def spiLate (s : State) (x waits : Nat) : Bool := decide (waitMax s x < waits) || s.isSet (HOSTIF_SPI_STAT_BUSY x)

/-- REG_READ (R513, R514): `waits` WAIT bytes passed before the result; `early`: CS_N rose early. -/
def execRegRead (x addr waits : Nat) (early : Bool) (s : State) : Out :=
  let p := 8 + x
  if 2 ≤ x || !s.pins.porN then .next s
  else
    let s := disarm x s
    if early then .next (spiEnd x false .badCmd [] s)
    else match regStatus s (.port p) addr 4 false with
      | .ok =>
        if spiLate s x waits then .next (spiEnd x false .timeout [] s)
        else if hostSees s p addr then
          let r := regRead (.port p) addr s
          .next (spiEnd x false .ok (leBytes 4 r.2.toNat) r.1)
        else .next (spiEnd x false .ok (leBytes 4 0) s)
      | c => .next (spiEnd x false c [] s)

/-- REG_WRITE (R513, R514). -/
def execRegWrite (x addr : Nat) (data : List Byte) (s : State) : Out :=
  let p := 8 + x
  if 2 ≤ x || !s.pins.porN then .next s
  else
    let s := disarm x s
    if data.length ≠ 4 then .next (spiEnd x true .badCmd [] s)
    else match regStatus s (.port p) addr 4 true with
      | .ok => .next (spiEnd x true .ok [] (regWrite (.port p) addr (BitVec.ofNat 32 (ofLe data)) s))
      | c => .next (spiEnd x true c [] s)

/-- LEN of a memory transaction. -/
def spiLenOk (len : Nat) : Bool := len % 4 == 0 && decide (4 ≤ len) && decide (len ≤ 256)

/-- The range lies in the shared pool or in 5X memory. -/
def spiMem (s : State) (a n : Nat) : Bool :=
  (kindOf s a == .pool && kindOf s (a + n - 1) == .pool) || (kindOf s a == .ddr && kindOf s (a + n - 1) == .ddr)

/-- MEM_READ (R513, R514). -/
def execMemRead (x addr len waits : Nat) (early : Bool) (s : State) : Out :=
  if 2 ≤ x || !s.pins.porN then .next s
  else
    let s := disarm x s
    if early || !spiLenOk len then .next (spiEnd x false .badCmd [] s)
    else if !spiOpen s x || isStandby s then .next (spiEnd x false .notReady [] s)
    else if !spiMem s addr len then .next (spiEnd x false .accessFault [] s)
    else if spiLate s x waits then .next (spiEnd x false .timeout [] s)
    else match s.readChecked (hostAcq s (8 + x) false) none addr len with
      | (s, .data bs) => .next (spiEnd x false .ok bs s)
      | (s, .wait) => .next (spiEnd x false .timeout [] s)
      | (s, _) => .next (spiEnd x false .accessFault [] s)

/-- MEM_WRITE (R513, R514): a write that must wait stays in progress until the same transaction is evaluated again. -/
def execMemWrite (x addr len : Nat) (data : List Byte) (s : State) : Out :=
  if 2 ≤ x || !s.pins.porN then .next s
  else
    let s := disarm x s
    if !spiLenOk len || data.length ≠ len then .next (spiEnd x true .badCmd [] s)
    else if downloads s (8 + x) addr len && !s.boot.inReset then .next (spiEnd x true .ok [] (putBytes addr data s))
    else if !spiOpen s x || isStandby s then .next (spiEnd x true .notReady [] s)
    else if !spiMem s addr len then .next (spiEnd x true .accessFault [] s)
    else match hostWrite (8 + x) addr data s with
      | (s, .data _) => .next (spiEnd x true .ok [] s)
      | (s, .wait) => .next (s.setF (HOSTIF_SPI_STAT_BUSY x) 1)
      | (s, _) => .next (spiEnd x true .accessFault [] s)

/-- STATUS (R513): the status of the last write, then READY and the write in progress. -/
def execStatus (x : Nat) (s : State) : Out :=
  if 2 ≤ x || !s.pins.porN then .next s
  else
    let s := disarm x s
    if !spiOpen s x then .next (spiEnd x false .notReady [] s)
    else .next (s.answer (.port (8 + x)) .ok [BitVec.ofNat 8 (s.getF (HOSTIF_SPI_STAT_LAST x)),
      BitVec.ofNat 8 (bit (portIsReady s (8 + x)) + 2 * s.getF (HOSTIF_SPI_STAT_BUSY x))])

/-! ### The debug port's packets (R579 to R583) -/

/-- The bit of even parity over the low n bits of a field (R579). -/
def evenParity (n v : Nat) : Bool := (List.range n).foldl (fun p i => p != bitOf v i) false

/-- The header spells operation `op`: OP in [3:0], a SIZE that is not reserved, 0 in [6], and even parity in [7] (R579). -/
def hdrGood (op hdr : Nat) : Bool :=
  hdr % 16 == op && bitsOf hdr 4 2 != 3 && !bitOf hdr 6 && bitOf hdr 7 == evenParity 7 hdr

/-- SIZE of a header. -/
def hdrWords (hdr : Nat) : Nat :=
  match bitsOf hdr 4 2 with | 0 => 1 | 1 => 4 | _ => 16

/-- The packet is heard: the port is attached and does not wait for a line reset. -/
def dbgHears (s : State) : Bool := s.pins.porN && s.isSet DBG_STAT_ATTACHED && !s.dbg.deaf

/-- A packet whose header is wrong receives no ACK, and the port waits for a line reset (R579). -/
def dbgDeaf (s : State) : State :=
  ({ s with dbg := { s.dbg with deaf := true } }.hitF DBG_STAT_PROTO_ERR 1).answer .debug .dbgNoAck []

/-- The locked set of R583 holds every word of the access, or the port reaches beyond it. -/
def dbgReaches (s : State) (a n : Nat) (write : Bool) : Bool :=
  granted s 3 || (List.range n).all (fun k => dbgLockedSet (a + 4 * k) write)

/-- A READ or WRITE is accepted, or answered without an access. -/
def dbgAccept (a : Nat) (write : Bool) (n : Nat) (ws : List (Option Word)) (s : State) : State :=
  if s.isSet DBG_STAT_FAULT && !(write && a / 65536 == 0x2013) then s.answer .debug .dbgFault []
  else if s.dbg.access.isSome then s.answer .debug .dbgWait []
  else if a % 4 ≠ 0 then (dbgFail dcALIGN s).answer .debug .dbgFault []
  else if !dbgReaches s a n write then (dbgFail dcLOCKED s).answer .debug .dbgFault []
  else
    let d := { s.dbg with access := some (write, a, ws), readLen := if write then s.dbg.readLen else n,
                            readDone := write && s.dbg.readDone, readBuf := if write then s.dbg.readBuf else [] }
    ({ s with dbg := d }.setF DBG_STAT_BUSY 1).answer .debug .dbgOk []

/-- The address of a packet had a parity error. -/
def dbgAddrParity (s : State) : State := ((dbgFail dcPARITY s).hitF DBG_STAT_PARITY_ERR 1).answer .debug .dbgFault []

/-- READ (R579 to R581, R583). (DEDUCED, log entry 57). -/
def execRead (hdr addr : Nat) (parity : Bool) (s : State) : Out :=
  if !dbgHears s then .next s
  else if !hdrGood 1 hdr then .next (dbgDeaf s)
  else if parity != evenParity 40 addr then .next (dbgAddrParity s)
  else .next (dbgAccept addr false (hdrWords hdr) [] s)

/-- WRITE (R579 to R581, R583): a word whose parity is bad is not written. (DEDUCED, log entry 57). -/
def execWrite (hdr addr : Nat) (parity : Bool) (words : List Word) (parities : List Bool) (s : State) : Out :=
  if !dbgHears s then .next s
  else if !hdrGood 2 hdr || words.length ≠ hdrWords hdr || parities.length ≠ hdrWords hdr then .next (dbgDeaf s)
  else if parity != evenParity 40 addr then .next (dbgAddrParity s)
  else
    let ws := (words.zip parities).map (fun e => if e.2 == evenParity 32 e.1.toNat then some e.1 else none)
    let t := dbgAccept addr true (hdrWords hdr) ws s
    if ws.any (fun w => w.isNone) && t.dbg.access.isSome && s.dbg.access.isNone then
      .next ((dbgFail dcPARITY t).hitF DBG_STAT_PARITY_ERR 1)
    else .next t

/-- RDBUF (R579, R580). -/
def execRdbuf (hdr : Nat) (s : State) : Out :=
  if !dbgHears s then .next s
  else if !hdrGood 3 hdr then .next (dbgDeaf s)
  else if s.isSet DBG_STAT_FAULT then .next (s.answer .debug .dbgFault [])
  else if !s.dbg.readDone && s.dbg.access.isSome then .next (s.answer .debug .dbgWait [])
  else .next (s.answer .debug .dbgOk (s.dbg.readBuf.flatMap (fun w => leBytes 4 w.toNat)))

/-- STATUS (R579): the DBG_STAT image. -/
def execDebugStatus (hdr : Nat) (s : State) : Out :=
  if !dbgHears s then .next s
  else if !hdrGood 4 hdr then .next (dbgDeaf s)
  else .next (s.answer .debug .dbgOk (leBytes 4 (s.reg DBG_STAT).toNat))

/-- The first byte of an access that is not mapped for it, or that its memory refuses (R287, R381, R395, R581).
(DEDUCED, log entry 56). -/
def dbgCheck (s : State) (write : Bool) (a n : Nat) : Chk :=
  let one := fun (b : Nat) => match kindOf s b with
    | .unmapped => Adm.bad
    | .settRom => if write then .bad else .ok
    | .core c k => if write && k == 0 && (coreState s c == 2 || coreState s c == 3) then .bad else .ok
    | .ddr => if s.isSet MEMC_STAT_TRAIN_FAIL then .bad else if s.getF MEMC_STAT_TRAINED == 0 then .wait else .ok
    | .host f => if hostWaits s f then .wait else if busOverflows s f b then .bad else .ok
    | _ => .ok
  let bs := (List.range (n / 4)).map (fun k => a + 4 * k)
  if addrTop < a + n then .bad 0
  else match bs.find? (fun b => one b == .bad) with
    | some b => .bad b
    | none => if bs.any (fun b => one b == .wait) then .wait else .ok

/-- Words written by the debug port in ascending order. -/
def dbgPut (a : Nat) : List (Option Word) → State → State
  | [], s => s
  | w :: r, s =>
    let s := match w with
      | none => s
      | some w => if kindOf s a = .regs then regWrite .debug a w s else putBytes a (leBytes 4 w.toNat) s
    dbgPut (a + 4) r s

/-- Words read by the debug port in ascending order. -/
def dbgGet : Nat → Nat → State → State × List Word
  | 0, _, s => (s, [])
  | n + 1, a, s =>
    let r := if kindOf s a = .regs then regRead .debug a s else (s, BitVec.ofNat 32 (s.le a 4))
    let t := dbgGet n (a + 4) r.1
    (t.1, r.2 :: t.2)

/-- The outstanding access is over. -/
def dbgOver (s : State) : State := { s.setF DBG_STAT_BUSY 0 with dbg := { s.dbg with access := none } }

/-- ABORT (R579, R580): how many words an abandoned write has written is left open. (DEDUCED, log entry 57). -/
def execAbort (hdr : Nat) (s : State) : Out :=
  if !dbgHears s then .next s
  else if !hdrGood 5 hdr then .next (dbgDeaf s)
  else match s.dbg.access with
    | none => .next (s.answer .debug .dbgOk [])
    | some (w, a, ws) =>
      let r := s.fresh
      let k := r.2 % (ws.length + 1)
      let s := dbgOver r.1
      let s := if w && dbgCheck s w a (4 * k) == .ok then dbgPut a (ws.take k) s else s
      .next ((s.setF DBG_STAT_CAUSE dcABORTED).answer .debug .dbgOk [])

/-- DBG_ACCESS_DONE (R581, R582): the access is made whole, faults, or goes on waiting for its memory. -/
def execDbgAccessDone (s : State) : Out :=
  match s.dbg.access with
  | none => .next s
  | some (w, a, ws) =>
    let n := if w then ws.length else s.dbg.readLen
    match dbgCheck s w a (4 * n) with
    | .wait => .next s
    | .bad b => .next ((dbgFail dcUNMAPPED (dbgOver s)).set64 DBG_FADDR_LO b)
    | .ok =>
      let mem := kindOf s a != .regs
      let ue := if mem then (if w then rmwErrs s a (4 * n) else errWords s.ues a (4 * n)) else []
      match ue with
      | x :: _ => .next (((dbgFail dcECC (dbgOver (logUe x 15 1023 false s))).set64 DBG_FADDR_LO x))
      | [] =>
        if w then .next (dbgPut a ws (dbgOver s))
        else
          let r := dbgGet n a (if mem then fixCe a (4 * n) s else s)
          .next (dbgOver { r.1 with dbg := { r.1.dbg with readBuf := r.2, readDone := true } })

/-! ### Far accesses of a Marten core (R288, R301) -/

/-- Bytes of a far access. -/
def farLen (f : FarAcc) : Nat := if f.vec then 16 else 4

/-- The oldest far access of core n leaves the queue. -/
def farPop (n : Nat) (s : State) : State :=
  let c := s.core n
  let o := RdOwner.far n
  noteInflight n { s.setCore n { c with far := c.far.drop 1 } with
    hostif := { s.hostif with asked := s.hostif.asked.filter (fun e => !(e == o)), bad := s.hostif.bad.filter (fun e => !(e == o)) } }

/-- A refused far access: SR.FERR is set, and a core that runs or is halted faults (R301, R594). -/
def farFault (n cause a : Nat) (s : State) : State :=
  let c := s.core n
  let s := if cause = fcACCESS then s.setCore n (c.setCreg 0x1C (c.sr ||| 0x1000)) else s
  if coreState s n = 2 ∨ coreState s n = 3 ∨ coreState s n = 4 then coreFault n cause true a s else s

/-- Loaded containers enter the vector register. -/
def farLoad (n : Nat) (f : FarAcc) (ws : List Nat) (s : State) : State :=
  let c := s.core n
  let c := if f.vec then (ws.zip (List.range 4)).foldl (fun (c : Core) w => c.setV f.reg w.2 (unbox f.hi w.1)) c
    else c.setV f.reg f.lane (unbox f.hi (ws.headD 0))
  s.setCore n c

/-- Registers read and written by a core in ascending order. -/
def coreRegs (n : Nat) : Nat → Nat → State → State × List Nat
  | 0, _, s => (s, [])
  | k + 1, a, s =>
    let r := regRead (.marten n) a s
    let t := coreRegs n k (a + 4) r.1
    (t.1, r.2.toNat :: t.2)

def coreRegsPut (n : Nat) : Nat → List Nat → State → State
  | _, [], s => s
  | a, w :: r, s => coreRegsPut n (a + 4) r (regWrite (.marten n) a (BitVec.ofNat 32 w) s)

/-- The 32-bit words of bytes. -/
def wordsLe (bs : List Byte) : List Nat := (List.range (bs.length / 4)).map (fun k => recField bs (4 * k) 4)

/-- The oldest far access of core n is made. -/
def farMake (n : Nat) (f : FarAcc) (s : State) : State :=
  let q := coreAcq s n f.store
  let k := farLen f / 4
  if kindOf s f.addr = .regs then
    if f.store then coreRegsPut n f.addr (f.data.map (·.toNat)) (farPop n s)
    else
      let r := coreRegs n k f.addr (farPop n s)
      farLoad n f r.2 r.1
  else
    let r := if f.store then s.writeChecked q (some n) f.addr (f.data.flatMap (fun w => leBytes 4 w.toNat))
      else s.readChecked q (some n) f.addr (farLen f)
    match r with
    | (s, .data bs) => let s := farPop n s; if f.store then s else farLoad n f (wordsLe bs) s
    | (s, .refused a) => farFault n fcACCESS a (farPop n s)
    | (s, .ecc a) => farFault n fcECC a (farPop n s)
    | (s, .wait) => s

/-- FAR_ACCESS_RETURN (R288, R301, R509, R511): the oldest far access of core n completes, once it is admitted and host
memory has answered. A vector access is one access of 16 bytes (R326, R399), which no register takes (R11). -/
def execFarAccessReturn (n : Nat) (s : State) : Out :=
  match (s.core n).far with
  | [] => .next s
  | f :: _ =>
    let o := RdOwner.far n
    if 4 ≤ n then .next s else
    if f.vec && decide (kindOf s f.addr = .regs) then
      .next (settleAll (farFault n fcACCESS f.addr (farPop n (rejectAccess (coreAcq s n f.store) f.addr false s))))
    else match coreRange s n f.addr (farLen f) f.store with
    | .wait => .next s
    | .bad a => .next (settleAll (farFault n fcACCESS a (farPop n (rejectAccess (coreAcq s n f.store) a (decide (addrTop < f.addr + farLen f)) s))))
    | .ok =>
      if f.store || (hostOf s f.addr).isNone then .next (settleAll (farMake n f s))
      else if s.hostif.bad.contains o then .next (settleAll (farFault n fcACCESS f.addr (farPop n s)))
      else if !s.hostif.asked.contains o then
        .next (readHost o f.addr (farLen f) { s with hostif := { s.hostif with asked := s.hostif.asked ++ [o] } })
      else if hostDone s o then .next (settleAll (farMake n f s))
      else .next s

/-! ### The end of DMA transfers (R288, R302, R400, R511) -/

/-- Channel c of core n is idle again, and its command ends; a GO written in this cycle starts the next transfer (R21). -/
def dmaOver (n c status result : Nat) (s : State) : State :=
  let k := s.core n
  let o := RdOwner.dma n c
  let s := s.setCore n { k with dma := k.dma.filter (fun e => e.1 != c) }
  let s := { s with hostif := { s.hostif with bad := s.hostif.bad.filter (fun e => !(e == o)) } }
  let again := s.marked (MARTEN_DMA_CTRL_GO n c) 0
  let s := (s.setF (MARTEN_DMA_CTRL_BUSY n c) 0).setF (MARTEN_DMA_CTRL_GO n c) 0
  let s := settleAll (settleFrees (finishAwaits (fun w => decide (w = .martenDma n c)) status result s))
  when again (fun s => outSt (execMartenDmaGo n c s) s) s

/-- A transfer that moved nothing, or not all. -/
def dmaFails (n c status a : Nat) (s : State) : State :=
  dmaOver n c status a ((s.hitF (MARTEN_DMA_CTRL_ERR n c) 1).hitB MARTEN_EVT_DMA_ERR n)

/-- The transfer moves: registers word by word, memory as it stands (R389, R390). -/
def dmaMove (n : Nat) (t : DmaRun) (s : State) : State × Option Nat :=
  let fromRegs := kindOf s t.srcA = .regs
  let toRegs := kindOf s t.dst = .regs
  if !fromRegs ∧ !toRegs then moveBytes (coreAcq s n true) (some n) t.srcA t.dst t.len s
  else
    let r : State × Option (List Nat) :=
      if fromRegs then
        let x := coreRegs n (t.len / 4) t.srcA s
        (x.1, some x.2)
      else match errWords s.ues t.srcA t.len with
        | w :: _ => (logUe w clsMARTEN (coreAcq s n false).who.session false s, none)
        | [] => (fixCe t.srcA t.len s, some (wordsLe (s.bytes t.srcA t.len)))
    match r with
    | (s, none) => (s, some t.srcA)
    | (s, some ws) =>
      if toRegs then (coreRegsPut n t.dst ws s, none)
      else storeMoved (coreAcq s n true) (some n) t.dst (ws.flatMap (fun w => leBytes 4 w)) s

/-- An admitted transfer ends once host memory has answered. -/
def dmaFinish (n c : Nat) (t : DmaRun) (s : State) : State :=
  let o := RdOwner.dma n c
  if s.hostif.bad.contains o then dmaFails n c stACCESS t.srcA s
  else if !hostDone s o then s
  else match dmaMove n t s with
    | (s, none) =>
      let s := (raiseSource n (16 + c) s).event (0x150 + 4 * n + c)
      dmaOver n c stDONE t.len s
    | (s, some a) => dmaFails n c stECC a s

/-- MARTEN_DMA_END (R288, R400): a transfer not yet admitted is checked again. -/
def execMartenDmaEnd (n c : Nat) (s : State) : Out :=
  if 4 ≤ n || 4 ≤ c then .next s else
  match dmaOf s n c with
  | none => .next s
  | some t =>
    if t.admitted then .next (dmaFinish n c t s)
    else match dmaCheck s n t with
      | .wait => .next s
      | .bad a =>
        let src := coreRange s n t.srcA t.len false == .ok
        .next (dmaFails n c stACCESS a (rejectAccess (coreAcq s n src) a (decide (addrTop < (if src then t.dst else t.srcA) + t.len)) s))
      | .ok =>
        let k := s.core n
        let s := s.setCore n { k with dma := tabPut DmaRun.reset c { t with admitted := true } k.dma }
        if (hostOf s t.srcA).isSome then .next (readHost (.dma n c) t.srcA t.len s) else .next (dmaFinish n c { t with admitted := true } s)

end Sys2Proof.Machine
end

