-- ==== Sys2Proof/Machine/Dispatch.lean ====
section
/-! DEFINITION. One arm per command: a direct call of its meaning. (DESIGN CHOICE, log entry 10). -/

namespace Sys2Proof.Machine

/-- The effect of a command on everything but the queue. -/
def exec (i : Instr) (s : State) : Host.Outcome State Fault Refusal :=
  match i with
  | .pairLoRead ini addr => Sys2Proof.Machine.execPairLoRead ini addr s
  | .pairLoWrite ini addr v => Sys2Proof.Machine.execPairLoWrite ini addr v s
  | .pairHiWrite ini addr v => Sys2Proof.Machine.execPairHiWrite ini addr v s
  | .registerWrite ini addr size v => Sys2Proof.Machine.execRegisterWrite ini addr size v s
  | .registerReadClear ini addr size => Sys2Proof.Machine.execRegisterReadClear ini addr size s
  | .hopBoundary => Sys2Proof.Machine.execHopBoundary s
  | .syncOverflowApply => Sys2Proof.Machine.execSyncOverflowApply s
  | .refLost src edge band freq more => Sys2Proof.Machine.execRefLost src edge band freq more s
  | .refInitialQualify src edges ofs freq more => Sys2Proof.Machine.execRefInitialQualify src edges ofs freq more s
  | .refRequalify src edges ofs freq more => Sys2Proof.Machine.execRefRequalify src edges ofs freq more s
  | .refSwitchDone => Sys2Proof.Machine.execRefSwitchDone s
  | .xtalLost => Sys2Proof.Machine.execXtalLost s
  | .audioPllLock => Sys2Proof.Machine.execAudioPllLock s
  | .fastCountHandover => Sys2Proof.Machine.execFastCountHandover s
  | .clkAlarm => Sys2Proof.Machine.execClkAlarm s
  | .senseSyncPulse n => Sys2Proof.Machine.execSenseSyncPulse n s
  | .wakeHoldEnd => Sys2Proof.Machine.execWakeHoldEnd s
  | .lynxIdleGate n => Sys2Proof.Machine.execLynxIdleGate n s
  | .drainDone => Sys2Proof.Machine.execDrainDone s
  | .drainTimeout => Sys2Proof.Machine.execDrainTimeout s
  | .lynxUngate railMv => Sys2Proof.Machine.execLynxUngate railMv s
  | .parkCommit => Sys2Proof.Machine.execParkCommit s
  | .wakeDetect pins wakeIn wheel => Sys2Proof.Machine.execWakeDetect pins wakeIn wheel s
  | .wakeComplete digestsOk => Sys2Proof.Machine.execWakeComplete digestsOk s
  | .thermalSample sensors => Sys2Proof.Machine.execThermalSample sensors s
  | .kwsFrame scores lastSample audio => Sys2Proof.Machine.execKwsFrame scores lastSample audio s
  | .dormouseHitValidWrite => Sys2Proof.Machine.execDormouseHitValidWrite s
  | .wakeOutRelease => Sys2Proof.Machine.execWakeOutRelease s
  | .porAssert => Sys2Proof.Machine.execPorAssert s
  | .porRelease straps vio33 => Sys2Proof.Machine.execPorRelease straps vio33 s
  | .aonBrownout => Sys2Proof.Machine.execAonBrownout s
  | .resetNPulse lowNs => Sys2Proof.Machine.execResetNPulse lowNs s
  | .coreRstWrite => Sys2Proof.Machine.execCoreRstWrite s
  | .sramFillDone => Sys2Proof.Machine.execSramFillDone s
  | .bootSourceVerify bundle otpFail eccFail => Sys2Proof.Machine.execBootSourceVerify bundle otpFail eccFail s
  | .sysDlGo port => Sys2Proof.Machine.execSysDlGo port s
  | .bootReady => Sys2Proof.Machine.execBootReady s
  | .watchdogKick key => Sys2Proof.Machine.execWatchdogKick key s
  | .watchdogExpire => Sys2Proof.Machine.execWatchdogExpire s
  | .perstNAssert => Sys2Proof.Machine.execPerstNAssert s
  | .decOutputStrobe ch preset bits => Sys2Proof.Machine.execDecOutputStrobe ch preset bits s
  | .decStuckDetect ch level => Sys2Proof.Machine.execDecStuckDetect ch level s
  | .decBlockComplete ch => Sys2Proof.Machine.execDecBlockComplete ch s
  | .syncInEdge rising => Sys2Proof.Machine.execSyncInEdge rising s
  | .decSyncGo => Sys2Proof.Machine.execDecSyncGo s
  | .decSyncReset => Sys2Proof.Machine.execDecSyncReset s
  | .decSwapRequest p => Sys2Proof.Machine.execDecSwapRequest p s
  | .decBankSwap p => Sys2Proof.Machine.execDecBankSwap p s
  | .decSetClocks d => Sys2Proof.Machine.execDecSetClocks d s
  | .decOpenChannel d => Sys2Proof.Machine.execDecOpenChannel d s
  | .decCloseChannel d => Sys2Proof.Machine.execDecCloseChannel d s
  | .decSetBuffer d => Sys2Proof.Machine.execDecSetBuffer d s
  | .decSetDetector d => Sys2Proof.Machine.execDecSetDetector d s
  | .decReadDetectors d => Sys2Proof.Machine.execDecReadDetectors d s
  | .decLoadCoef d => Sys2Proof.Machine.execDecLoadCoef d s
  | .decSwapBank d => Sys2Proof.Machine.execDecSwapBank d s
  | .decSync d => Sys2Proof.Machine.execDecSync d s
  | .decStatus d => Sys2Proof.Machine.execDecStatus d s
  | .tdmSlaveFsEdge g pos period => Sys2Proof.Machine.execTdmSlaveFsEdge g pos period s
  | .tdmFsMissing g => Sys2Proof.Machine.execTdmFsMissing g s
  | .tdmClkLost g pos => Sys2Proof.Machine.execTdmClkLost g pos s
  | .txSlotFetch n l k => Sys2Proof.Machine.execTxSlotFetch n l k s
  | .rxFrameReceive n l stamp words => Sys2Proof.Machine.execRxFrameReceive n l stamp words s
  | .tdmFifoRefill n l => Sys2Proof.Machine.execTdmFifoRefill n l s
  | .tdmFifoDrain n l => Sys2Proof.Machine.execTdmFifoDrain n l s
  | .tdmTrigGo => Sys2Proof.Machine.execTdmTrigGo s
  | .startInEdge rising => Sys2Proof.Machine.execStartInEdge rising s
  | .tdmTrigger => Sys2Proof.Machine.execTdmTrigger s
  | .tdmGoLive n d => Sys2Proof.Machine.execTdmGoLive n d s
  | .tdmCtrlStop n d => Sys2Proof.Machine.execTdmCtrlStop n d s
  | .tdmTailEnd n d => Sys2Proof.Machine.execTdmTailEnd n d s
  | .tdmSilentChange n l k => Sys2Proof.Machine.execTdmSilentChange n l k s
  | .tdmZcTimeout n l k => Sys2Proof.Machine.execTdmZcTimeout n l k s
  | .muteNChange high => Sys2Proof.Machine.execMuteNChange high s
  | .tdmConfigClock d => Sys2Proof.Machine.execTdmConfigClock d s
  | .tdmConfigDir d => Sys2Proof.Machine.execTdmConfigDir d s
  | .tdmSetSlots d => Sys2Proof.Machine.execTdmSetSlots d s
  | .tdmSetRing d => Sys2Proof.Machine.execTdmSetRing d s
  | .tdmStart d => Sys2Proof.Machine.execTdmStart d s
  | .tdmStop d => Sys2Proof.Machine.execTdmStop d s
  | .tdmSetMute d => Sys2Proof.Machine.execTdmSetMute d s
  | .tdmStatus d => Sys2Proof.Machine.execTdmStatus d s
  | .asrcTrackUpdate n r stamp => Sys2Proof.Machine.execAsrcTrackUpdate n r stamp s
  | .asrcOutputSample n => Sys2Proof.Machine.execAsrcOutputSample n s
  | .asrcOutwardRead n => Sys2Proof.Machine.execAsrcOutwardRead n s
  | .spdifFrameReceive a b stamp period blockStart biphaseErr => Sys2Proof.Machine.execSpdifFrameReceive a b stamp period blockStart biphaseErr s
  | .spdifLockLoss => Sys2Proof.Machine.execSpdifLockLoss s
  | .guardFrameRelease g => Sys2Proof.Machine.execGuardFrameRelease g s
  | .guardRelease g => Sys2Proof.Machine.execGuardRelease g s
  | .asrcOpen d => Sys2Proof.Machine.execAsrcOpen d s
  | .asrcClose d => Sys2Proof.Machine.execAsrcClose d s
  | .asrcStatus d => Sys2Proof.Machine.execAsrcStatus d s
  | .spdifConfig d => Sys2Proof.Machine.execSpdifConfig d s
  | .spdifStatus d => Sys2Proof.Machine.execSpdifStatus d s
  | .guardConfig d => Sys2Proof.Machine.execGuardConfig d s
  | .gustWordReady => Sys2Proof.Machine.execGustWordReady s
  | .gustMonitorWindow o => Sys2Proof.Machine.execGustMonitorWindow o s
  | .gustTripClear mask => Sys2Proof.Machine.execGustTripClear mask s
  | .gustSwapRequest => Sys2Proof.Machine.execGustSwapRequest s
  | .gustBankSwap => Sys2Proof.Machine.execGustBankSwap s
  | .gustCopyDone => Sys2Proof.Machine.execGustCopyDone s
  | .gustCoefWrite ini v => Sys2Proof.Machine.execGustCoefWrite ini v s
  | .gustPathWrite ini p v => Sys2Proof.Machine.execGustPathWrite ini p v s
  | .gustLoadGo ini => Sys2Proof.Machine.execGustLoadGo ini s
  | .gustLoadDone => Sys2Proof.Machine.execGustLoadDone s
  | .gustConfig d => Sys2Proof.Machine.execGustConfig d s
  | .gustSetPaths d => Sys2Proof.Machine.execGustSetPaths d s
  | .gustLoadCoef d => Sys2Proof.Machine.execGustLoadCoef d s
  | .gustSwap d => Sys2Proof.Machine.execGustSwap d s
  | .gustBindMarten d => Sys2Proof.Machine.execGustBindMarten d s
  | .gustSetMonitor d => Sys2Proof.Machine.execGustSetMonitor d s
  | .gustClearTrip d => Sys2Proof.Machine.execGustClearTrip d s
  | .gustSetMute d => Sys2Proof.Machine.execGustSetMute d s
  | .gustStatus d => Sys2Proof.Machine.execGustStatus d s
  | .sportBlockComplete n frames => Sys2Proof.Machine.execSportBlockComplete n frames s
  | .spiImuIntEdge rising => Sys2Proof.Machine.execSpiImuIntEdge rising s
  | .imuReadStart => Sys2Proof.Machine.execImuReadStart s
  | .imuReadDone bytes => Sys2Proof.Machine.execImuReadDone bytes s
  | .wheelTickEdge w rising => Sys2Proof.Machine.execWheelTickEdge w rising s
  | .wheelEdgeAccept w => Sys2Proof.Machine.execWheelEdgeAccept w s
  | .egoFilterStep => Sys2Proof.Machine.execEgoFilterStep s
  | .doaPush core sw => Sys2Proof.Machine.execDoaPush core sw s
  | .foxPublish => Sys2Proof.Machine.execFoxPublish s
  | .foxConfig d => Sys2Proof.Machine.execFoxConfig d s
  | .senseSetSync d => Sys2Proof.Machine.execSenseSetSync d s
  | .senseSetSport d => Sys2Proof.Machine.execSenseSetSport d s
  | .senseSetImu d => Sys2Proof.Machine.execSenseSetImu d s
  | .senseSetWheel d => Sys2Proof.Machine.execSenseSetWheel d s
  | .foxSetEgo d => Sys2Proof.Machine.execFoxSetEgo d s
  | .foxSetXform d => Sys2Proof.Machine.execFoxSetXform d s
  | .foxSetFrames d => Sys2Proof.Machine.execFoxSetFrames d s
  | .foxSetTracker d => Sys2Proof.Machine.execFoxSetTracker d s
  | .foxSensorEn d => Sys2Proof.Machine.execFoxSensorEn d s
  | .foxGrant d => Sys2Proof.Machine.execFoxGrant d s
  | .foxObserve d => Sys2Proof.Machine.execFoxObserve d s
  | .foxMeasure d => Sys2Proof.Machine.execFoxMeasure d s
  | .foxSubscribe d => Sys2Proof.Machine.execFoxSubscribe d s
  | .foxReadTracks d => Sys2Proof.Machine.execFoxReadTracks d s
  | .foxStatus d => Sys2Proof.Machine.execFoxStatus d s
  | .martenTimer n => Sys2Proof.Machine.execMartenTimer n s
  | .martenInterruptAccept n => Sys2Proof.Machine.execMartenInterruptAccept n s
  | .farAccessReturn n => Sys2Proof.Machine.execFarAccessReturn n s
  | .martenDmaGo n c => Sys2Proof.Machine.execMartenDmaGo n c s
  | .martenDmaEnd n c => Sys2Proof.Machine.execMartenDmaEnd n c s
  | .martenCtrlRun n => Sys2Proof.Machine.execMartenCtrlRun n s
  | .martenCtrlStop n => Sys2Proof.Machine.execMartenCtrlStop n s
  | .martenSignalRaise n v => Sys2Proof.Machine.execMartenSignalRaise n v s
  | .martenXcoreRaise mask => Sys2Proof.Machine.execMartenXcoreRaise mask s
  | .martenOpen d => Sys2Proof.Machine.execMartenOpen d s
  | .martenLoadCode d => Sys2Proof.Machine.execMartenLoadCode d s
  | .martenStart d => Sys2Proof.Machine.execMartenStart d s
  | .martenStop d => Sys2Proof.Machine.execMartenStop d s
  | .martenSignal d => Sys2Proof.Machine.execMartenSignal d s
  | .martenBindEvent d => Sys2Proof.Machine.execMartenBindEvent d s
  | .martenDma d => Sys2Proof.Machine.execMartenDma d s
  | .martenStatus d => Sys2Proof.Machine.execMartenStatus d s
  | .martenClose d => Sys2Proof.Machine.execMartenClose d s
  | .mMpy n b => Sys2Proof.Machine.execMMpy n b s
  | .mMac n b => Sys2Proof.Machine.execMMac n b s
  | .mMsu n b => Sys2Proof.Machine.execMMsu n b s
  | .mMpyi n b => Sys2Proof.Machine.execMMpyi n b s
  | .mMaci n b => Sys2Proof.Machine.execMMaci n b s
  | .mMsui n b => Sys2Proof.Machine.execMMsui n b s
  | .mAdda n b => Sys2Proof.Machine.execMAdda n b s
  | .mSuba n b => Sys2Proof.Machine.execMSuba n b s
  | .mClra n b => Sys2Proof.Machine.execMClra n b s
  | .mMova n b => Sys2Proof.Machine.execMMova n b s
  | .mAsra n b => Sys2Proof.Machine.execMAsra n b s
  | .mAsla n b => Sys2Proof.Machine.execMAsla n b s
  | .mNega n b => Sys2Proof.Machine.execMNega n b s
  | .mAbsa n b => Sys2Proof.Machine.execMAbsa n b s
  | .mMovr n b => Sys2Proof.Machine.execMMovr n b s
  | .mVadd n b => Sys2Proof.Machine.execMVadd n b s
  | .mVsub n b => Sys2Proof.Machine.execMVsub n b s
  | .mVmax n b => Sys2Proof.Machine.execMVmax n b s
  | .mVmin n b => Sys2Proof.Machine.execMVmin n b s
  | .mVabs n b => Sys2Proof.Machine.execMVabs n b s
  | .mVneg n b => Sys2Proof.Machine.execMVneg n b s
  | .mVmov n b => Sys2Proof.Machine.execMVmov n b s
  | .mVand n b => Sys2Proof.Machine.execMVand n b s
  | .mVor n b => Sys2Proof.Machine.execMVor n b s
  | .mVxor n b => Sys2Proof.Machine.execMVxor n b s
  | .mVmaxi n b => Sys2Proof.Machine.execMVmaxi n b s
  | .mVmini n b => Sys2Proof.Machine.execMVmini n b s
  | .mLd n b => Sys2Proof.Machine.execMLd n b s
  | .mLdb n b => Sys2Proof.Machine.execMLdb n b s
  | .mSt n b => Sys2Proof.Machine.execMSt n b s
  | .mSta n b => Sys2Proof.Machine.execMSta n b s
  | .mUpd n b => Sys2Proof.Machine.execMUpd n b s
  | .mLda n b => Sys2Proof.Machine.execMLda n b s
  | .mMovi n b => Sys2Proof.Machine.execMMovi n b s
  | .mAddi n b => Sys2Proof.Machine.execMAddi n b s
  | .mCmpi n b => Sys2Proof.Machine.execMCmpi n b s
  | .mFahi n b => Sys2Proof.Machine.execMFahi n b s
  | .mMovc n b => Sys2Proof.Machine.execMMovc n b s
  | .mAdd n b => Sys2Proof.Machine.execMAdd n b s
  | .mSub n b => Sys2Proof.Machine.execMSub n b s
  | .mCmp n b => Sys2Proof.Machine.execMCmp n b s
  | .mAnd n b => Sys2Proof.Machine.execMAnd n b s
  | .mOr n b => Sys2Proof.Machine.execMOr n b s
  | .mXor n b => Sys2Proof.Machine.execMXor n b s
  | .mMvvc n b => Sys2Proof.Machine.execMMvvc n b s
  | .mMvcv n b => Sys2Proof.Machine.execMMvcv n b s
  | .mCmpv n b => Sys2Proof.Machine.execMCmpv n b s
  | .mCmpvi n b => Sys2Proof.Machine.execMCmpvi n b s
  | .mBra n b => Sys2Proof.Machine.execMBra n b s
  | .mJsr n b => Sys2Proof.Machine.execMJsr n b s
  | .mRts n b => Sys2Proof.Machine.execMRts n b s
  | .mRti n b => Sys2Proof.Machine.execMRti n b s
  | .mDo n b => Sys2Proof.Machine.execMDo n b s
  | .mDov n b => Sys2Proof.Machine.execMDov n b s
  | .mRep n b => Sys2Proof.Machine.execMRep n b s
  | .mRepc n b => Sys2Proof.Machine.execMRepc n b s
  | .mLeave n b => Sys2Proof.Machine.execMLeave n b s
  | .mLdf n b => Sys2Proof.Machine.execMLdf n b s
  | .mStf n b => Sys2Proof.Machine.execMStf n b s
  | .mWait n b => Sys2Proof.Machine.execMWait n b s
  | .mIclr n b => Sys2Proof.Machine.execMIclr n b s
  | .mSetipl n b => Sys2Proof.Machine.execMSetipl n b s
  | .mSinit n b => Sys2Proof.Machine.execMSinit n b s
  | .mSred n b => Sys2Proof.Machine.execMSred n b s
  | .mBkpt n b => Sys2Proof.Machine.execMBkpt n b s
  | .lynxJobRelease => Sys2Proof.Machine.execLynxJobRelease s
  | .lynxTileBoundary n ends elems cyc stalls => Sys2Proof.Machine.execLynxTileBoundary n ends elems cyc stalls s
  | .lynxJobComplete n outputs newState => Sys2Proof.Machine.execLynxJobComplete n outputs newState s
  | .lynxJobDeadline mix => Sys2Proof.Machine.execLynxJobDeadline mix s
  | .lynxJobPush n => Sys2Proof.Machine.execLynxJobPush n s
  | .lynxLoadProgram d => Sys2Proof.Machine.execLynxLoadProgram d s
  | .lynxUnload d => Sys2Proof.Machine.execLynxUnload d s
  | .lynxStreamBind d => Sys2Proof.Machine.execLynxStreamBind d s
  | .lynxStreamReset d => Sys2Proof.Machine.execLynxStreamReset d s
  | .lynxStreamBindEvents d => Sys2Proof.Machine.execLynxStreamBindEvents d s
  | .lynxRun d => Sys2Proof.Machine.execLynxRun d s
  | .lynxStatus d => Sys2Proof.Machine.execLynxStatus d s
  | .fogOpAdmit => Sys2Proof.Machine.execFogOpAdmit s
  | .fogOpEnd op => Sys2Proof.Machine.execFogOpEnd op s
  | .fogExchangeTimeout op => Sys2Proof.Machine.execFogExchangeTimeout op s
  | .fLoad op => Sys2Proof.Machine.execFLoad op s
  | .fStore op => Sys2Proof.Machine.execFStore op s
  | .fEncenc op => Sys2Proof.Machine.execFEncenc op s
  | .fAdd op => Sys2Proof.Machine.execFAdd op s
  | .fSub op => Sys2Proof.Machine.execFSub op s
  | .fMulp op => Sys2Proof.Machine.execFMulp op s
  | .fMulc op => Sys2Proof.Machine.execFMulc op s
  | .fAddc op => Sys2Proof.Machine.execFAddc op s
  | .fMul op => Sys2Proof.Machine.execFMul op s
  | .fRelin op => Sys2Proof.Machine.execFRelin op s
  | .fRescale op => Sys2Proof.Machine.execFRescale op s
  | .fModsw op => Sys2Proof.Machine.execFModsw op s
  | .fRot op => Sys2Proof.Machine.execFRot op s
  | .fConj op => Sys2Proof.Machine.execFConj op s
  | .fLevel op => Sys2Proof.Machine.execFLevel op s
  | .fPoly op => Sys2Proof.Machine.execFPoly op s
  | .fExchange op => Sys2Proof.Machine.execFExchange op s
  | .fogOpPush => Sys2Proof.Machine.execFogOpPush s
  | .fogKsRegisterGo => Sys2Proof.Machine.execFogKsRegisterGo s
  | .fogKsReleaseGo => Sys2Proof.Machine.execFogKsReleaseGo s
  | .fogRetGo => Sys2Proof.Machine.execFogRetGo s
  | .fogKeysetRegister d => Sys2Proof.Machine.execFogKeysetRegister d s
  | .fogKeysetRelease d => Sys2Proof.Machine.execFogKeysetRelease d s
  | .fogExchangeRing d => Sys2Proof.Machine.execFogExchangeRing d s
  | .fogEval d => Sys2Proof.Machine.execFogEval d s
  | .fogExchangeReturn d => Sys2Proof.Machine.execFogExchangeReturn d s
  | .fogStatus d => Sys2Proof.Machine.execFogStatus d s
  | .memcScrub word => Sys2Proof.Machine.execMemcScrub word s
  | .memcTrain => Sys2Proof.Machine.execMemcTrain s
  | .memcTrainDone ok => Sys2Proof.Machine.execMemcTrainDone ok s
  | .memAlloc d => Sys2Proof.Machine.execMemAlloc d s
  | .memHostDeclare d => Sys2Proof.Machine.execMemHostDeclare d s
  | .memShare d => Sys2Proof.Machine.execMemShare d s
  | .memUnshare d => Sys2Proof.Machine.execMemUnshare d s
  | .memFree d => Sys2Proof.Machine.execMemFree d s
  | .memCopy d => Sys2Proof.Machine.execMemCopy d s
  | .memStatus d => Sys2Proof.Machine.execMemStatus d s
  | .mboxInTailWrite p v => Sys2Proof.Machine.execMboxInTailWrite p v s
  | .mboxOutHeadWrite p v => Sys2Proof.Machine.execMboxOutHeadWrite p v s
  | .mboxDescriptorTake p => Sys2Proof.Machine.execMboxDescriptorTake p s
  | .noticeWrite p => Sys2Proof.Machine.execNoticeWrite p s
  | .ringSqTailWrite p r v => Sys2Proof.Machine.execRingSqTailWrite p r v s
  | .ringCqHeadWrite p r v => Sys2Proof.Machine.execRingCqHeadWrite p r v s
  | .ringFetch r => Sys2Proof.Machine.execRingFetch r s
  | .completionWrite src => Sys2Proof.Machine.execCompletionWrite src s
  | .ringCoalTimeout r => Sys2Proof.Machine.execRingCoalTimeout r s
  | .ringIrqPendClear p r => Sys2Proof.Machine.execRingIrqPendClear p r s
  | .mboxWaitTimeout p => Sys2Proof.Machine.execMboxWaitTimeout p s
  | .sessionOpen d => Sys2Proof.Machine.execSessionOpen d s
  | .sessionClose d => Sys2Proof.Machine.execSessionClose d s
  | .sessionInfo d => Sys2Proof.Machine.execSessionInfo d s
  | .ringCreate d => Sys2Proof.Machine.execRingCreate d s
  | .ringDestroy d => Sys2Proof.Machine.execRingDestroy d s
  | .ringConfig d => Sys2Proof.Machine.execRingConfig d s
  | .ringResume d => Sys2Proof.Machine.execRingResume d s
  | .ringStatus d => Sys2Proof.Machine.execRingStatus d s
  | .streamOpen d => Sys2Proof.Machine.execStreamOpen d s
  | .streamClose d => Sys2Proof.Machine.execStreamClose d s
  | .streamRoute d => Sys2Proof.Machine.execStreamRoute d s
  | .routeGlobalMute d => Sys2Proof.Machine.execRouteGlobalMute d s
  | .streamStatus d => Sys2Proof.Machine.execStreamStatus d s
  | .syncAlloc d => Sys2Proof.Machine.execSyncAlloc d s
  | .syncFree d => Sys2Proof.Machine.execSyncFree d s
  | .syncSignal d => Sys2Proof.Machine.execSyncSignal d s
  | .syncAdd d => Sys2Proof.Machine.execSyncAdd d s
  | .syncRead d => Sys2Proof.Machine.execSyncRead d s
  | .syncBindEvent d => Sys2Proof.Machine.execSyncBindEvent d s
  | .syncUnbindEvent d => Sys2Proof.Machine.execSyncUnbindEvent d s
  | .syncShare d => Sys2Proof.Machine.execSyncShare d s
  | .syncObjSignalWrite obj v => Sys2Proof.Machine.execSyncObjSignalWrite obj v s
  | .syncAddDeltaWrite delta => Sys2Proof.Machine.execSyncAddDeltaWrite delta s
  | .syncOwnFreeWrite obj => Sys2Proof.Machine.execSyncOwnFreeWrite obj s
  | .twinConfig d => Sys2Proof.Machine.execTwinConfig d s
  | .twinAttach d => Sys2Proof.Machine.execTwinAttach d s
  | .twinDetach d => Sys2Proof.Machine.execTwinDetach d s
  | .twinRoleSwap d => Sys2Proof.Machine.execTwinRoleSwap d s
  | .twinBindEvents d => Sys2Proof.Machine.execTwinBindEvents d s
  | .twinStatus d => Sys2Proof.Machine.execTwinStatus d s
  | .twinCtrlAttach => Sys2Proof.Machine.execTwinCtrlAttach s
  | .twinCtrlDetach => Sys2Proof.Machine.execTwinCtrlDetach s
  | .twinSwapGo => Sys2Proof.Machine.execTwinSwapGo s
  | .clockSetRefs d => Sys2Proof.Machine.execClockSetRefs d s
  | .clockForceRef d => Sys2Proof.Machine.execClockForceRef d s
  | .clockStatus d => Sys2Proof.Machine.execClockStatus d s
  | .clockSetMclk d => Sys2Proof.Machine.execClockSetMclk d s
  | .clockSetAlarm d => Sys2Proof.Machine.execClockSetAlarm d s
  | .powerSetState d => Sys2Proof.Machine.execPowerSetState d s
  | .powerSetClocks d => Sys2Proof.Machine.execPowerSetClocks d s
  | .powerStatus d => Sys2Proof.Machine.execPowerStatus d s
  | .powerSetWake d => Sys2Proof.Machine.execPowerSetWake d s
  | .dormouseLoadModel d => Sys2Proof.Machine.execDormouseLoadModel d s
  | .dormouseSetVocab d => Sys2Proof.Machine.execDormouseSetVocab d s
  | .dormouseConfig d => Sys2Proof.Machine.execDormouseConfig d s
  | .dormouseRead d => Sys2Proof.Machine.execDormouseRead d s
  | .deviceInfo d => Sys2Proof.Machine.execDeviceInfo d s
  | .deviceReset d => Sys2Proof.Machine.execDeviceReset d s
  | .rollbackAdvance d => Sys2Proof.Machine.execRollbackAdvance d s
  | .keyRevoke d => Sys2Proof.Machine.execKeyRevoke d s
  | .imageLoad d => Sys2Proof.Machine.execImageLoad d s
  | .watchdogSet d => Sys2Proof.Machine.execWatchdogSet d s
  | .noticeMask d => Sys2Proof.Machine.execNoticeMask d s
  | .nop d => Sys2Proof.Machine.execNop d s
  | .bar2Access f offset len wr data => Sys2Proof.Machine.execBar2Access f offset len wr data s
  | .xlatWrite f hi v => Sys2Proof.Machine.execXlatWrite f hi v s
  | .pciePowerStateChange f dstate bme mse => Sys2Proof.Machine.execPciePowerStateChange f dstate bme mse s
  | .msixUnmask f vec => Sys2Proof.Machine.execMsixUnmask f vec s
  | .hostReadCompletion tag ok data => Sys2Proof.Machine.execHostReadCompletion tag ok data s
  | .completionTimeout tag => Sys2Proof.Machine.execCompletionTimeout tag s
  | .functionLevelReset f => Sys2Proof.Machine.execFunctionLevelReset f s
  | .linkDown => Sys2Proof.Machine.execLinkDown s
  | .hotReset => Sys2Proof.Machine.execHotReset s
  | .portReady p => Sys2Proof.Machine.execPortReady p s
  | .regRead x addr waits early => Sys2Proof.Machine.execRegRead x addr waits early s
  | .regWrite x addr data => Sys2Proof.Machine.execRegWrite x addr data s
  | .memRead x addr len waits early => Sys2Proof.Machine.execMemRead x addr len waits early s
  | .memWrite x addr len data => Sys2Proof.Machine.execMemWrite x addr len data s
  | .status x => Sys2Proof.Machine.execStatus x s
  | .resetEn x => Sys2Proof.Machine.execResetEn x s
  | .reset x => Sys2Proof.Machine.execReset x s
  | .directModeOpen ini => Sys2Proof.Machine.execDirectModeOpen ini s
  | .directModeClose ini key => Sys2Proof.Machine.execDirectModeClose ini key s
  | .twinBeatSend => Sys2Proof.Machine.execTwinBeatSend s
  | .twinLiveToggle => Sys2Proof.Machine.execTwinLiveToggle s
  | .twinBeatReceive boundary role state ack flags => Sys2Proof.Machine.execTwinBeatReceive boundary role state ack flags s
  | .twinBeatJudge liveAt => Sys2Proof.Machine.execTwinBeatJudge liveAt s
  | .twinFrameReceive fseq crcOk => Sys2Proof.Machine.execTwinFrameReceive fseq crcOk s
  | .linkFault => Sys2Proof.Machine.execLinkFault s
  | .mirror src seq written record => Sys2Proof.Machine.execMirror src seq written record s
  | .finish src seq => Sys2Proof.Machine.execFinish src seq s
  | .digest hop partner verdicts => Sys2Proof.Machine.execDigest hop partner verdicts s
  | .snapshot addr data last => Sys2Proof.Machine.execSnapshot addr data last s
  | .control versions pref => Sys2Proof.Machine.execControl versions pref s
  | .twinDigestSend hop => Sys2Proof.Machine.execTwinDigestSend hop s
  | .ackTimeout => Sys2Proof.Machine.execAckTimeout s
  | .journalCommand jseq apply src descs fseq => Sys2Proof.Machine.execJournalCommand jseq apply src descs fseq s
  | .journalStart jseq apply src seq => Sys2Proof.Machine.execJournalStart jseq apply src seq s
  | .journalIndex jseq apply addr v => Sys2Proof.Machine.execJournalIndex jseq apply addr v s
  | .journalHostWrite jseq apply addr data => Sys2Proof.Machine.execJournalHostWrite jseq apply addr data s
  | .journalHostRead jseq apply addr data => Sys2Proof.Machine.execJournalHostRead jseq apply addr data s
  | .journalPortEvent jseq apply p => Sys2Proof.Machine.execJournalPortEvent jseq apply p s
  | .journalRandom jseq apply op data => Sys2Proof.Machine.execJournalRandom jseq apply op data s
  | .journalSwap jseq apply t => Sys2Proof.Machine.execJournalSwap jseq apply t s
  | .roleSwapExecute => Sys2Proof.Machine.execRoleSwapExecute s
  | .takeover => Sys2Proof.Machine.execTakeover s
  | .twinSyncEdge => Sys2Proof.Machine.execTwinSyncEdge s
  | .twinSyncRelease => Sys2Proof.Machine.execTwinSyncRelease s
  | .twinTimeAdopt t => Sys2Proof.Machine.execTwinTimeAdopt t s
  | .pairingDone => Sys2Proof.Machine.execPairingDone s
  | .catchupSnapshot => Sys2Proof.Machine.execCatchupSnapshot s
  | .catchupJoin => Sys2Proof.Machine.execCatchupJoin s
  | .catchupTimeout full => Sys2Proof.Machine.execCatchupTimeout full s
  | .lineReset periods select => Sys2Proof.Machine.execLineReset periods select s
  | .read hdr addr parity => Sys2Proof.Machine.execRead hdr addr parity s
  | .write hdr addr parity words parities => Sys2Proof.Machine.execWrite hdr addr parity words parities s
  | .rdbuf hdr => Sys2Proof.Machine.execRdbuf hdr s
  | .debugStatus hdr => Sys2Proof.Machine.execDebugStatus hdr s
  | .abort hdr => Sys2Proof.Machine.execAbort hdr s
  | .dbgAccessDone => Sys2Proof.Machine.execDbgAccessDone s
  | .dbgChallengeNew => Sys2Proof.Machine.execDbgChallengeNew s
  | .dbgUnlockGo => Sys2Proof.Machine.execDbgUnlockGo s
  | .dbgTokenVerifyDone => Sys2Proof.Machine.execDbgTokenVerifyDone s
  | .dbgRelock => Sys2Proof.Machine.execDbgRelock s
  | .dbgHalt c => Sys2Proof.Machine.execDbgHalt c s
  | .dbgHaltComplete c => Sys2Proof.Machine.execDbgHaltComplete c s
  | .dbgResume c => Sys2Proof.Machine.execDbgResume c s
  | .dbgStep c => Sys2Proof.Machine.execDbgStep c s
  | .dbgRegdataAccess c w => Sys2Proof.Machine.execDbgRegdataAccess c w s
  | .trstNAssert => Sys2Proof.Machine.execTrstNAssert s
  | .tapExtest captured shifted => Sys2Proof.Machine.execTapExtest captured shifted s
  | .tapIdcode => Sys2Proof.Machine.execTapIdcode s
  | .tapSamplePreload captured shifted => Sys2Proof.Machine.execTapSamplePreload captured shifted s
  | .tapClamp => Sys2Proof.Machine.execTapClamp s
  | .tapHighz => Sys2Proof.Machine.execTapHighz s
  | .tapMbist => Sys2Proof.Machine.execTapMbist s
  | .tapBypass => Sys2Proof.Machine.execTapBypass s
  | .vddLynxCheck railMv => Sys2Proof.Machine.execVddLynxCheck railMv s
  | .requalificationRestart src edge ofs => Sys2Proof.Machine.execRequalificationRestart src edge ofs s
  | .deviceResetDelayEnd => Sys2Proof.Machine.execDeviceResetDelayEnd s
  | .memCopyEnd src seq => Sys2Proof.Machine.execMemCopyEnd src seq s
  | .systemPllLock => Sys2Proof.Machine.execSystemPllLock s
  | .detachRecordApply jseq apply => Sys2Proof.Machine.execDetachRecordApply jseq apply s

end Sys2Proof.Machine
end

