-- ==== Sys2Proof/Machine/Tick.lean ====
section
/-! DEFINITION. What time alone does: one edge of the clock that counts device time, and the effects the specification
ties to time rather than to a row of the table. It is what a step does on an empty queue (DESIGN CHOICE, log entry 3). -/

namespace Sys2Proof.Machine

/-- One edge of the counting clock: device time advances by one tick, or by 3,000 at a slow-clock edge (R41).
(DESIGN CHOICE, log entry 3). -/
def countTime (s : State) : State :=
  { s with clk := { s.clk with time := s.clk.time + if s.clk.fast then 1 else 3000 } }

/-- New fabric cycles have begun: overflow sums are applied and no order of an earlier cycle is stale (R483, R521).
(DESIGN CHOICE, log entry 3). -/
def freshCycle (s : State) : State :=
  let s := syncCycle s
  { s with denrek := { s.denrek with syncIn := [], changed := [] } }

/-- Fabric cycles with a request waiting for a tag (R510): how many an edge brings is left open.
(DESIGN CHOICE, log entry 3). -/
def tagWait (s : State) : State :=
  if s.hostif.todo.isEmpty then s
  else
    let r := s.fresh
    r.1.incF HOSTIF_TAGS_WAIT_CYC r.2

/-- The PDM clocks and decimation follow power and clocks (R91, R157). -/
def decTick (s : State) : State :=
  if s.dec.startAt.isNone && s.dec.clkFrom.isEmpty && !s.isSet DEC_CTRL_EN && !(List.range 4).any (pdmRuns s) then s
  else settlePdm s

/-- What one edge of the counting clock does. (DESIGN CHOICE, log entry 3). -/
def tick (s : State) : State :=
  if !s.pins.porN then s
  else
    let s := freshCycle (tagWait (countTime (clkEndTick s)))
    settleAll (settleCores (twinTick (rateTick (gustTick (tdmTick (decTick (clkTick (pwrTick s))))))))

end Sys2Proof.Machine
end

