-- ==== Sys2Proof/Machine/Balls.lean ====
section
/-! DEFINITION. The balls: what each output ball drives, in functional mode and under the test access port, and the ball map
(R16, R129, R159, R515, R592, R599, R600, R604, R614 and the signal table). -/

namespace Sys2Proof.Machine

/-- The output balls whose level the specification derives from the state. -/
inductive Ball where
  | pdmClk (n : Nat)
  | bclk (g : Nat)
  | fs (g : Nat)
  | dout (n l : Nat)
  | mclk
  | senseSync (n : Nat)
  | sportBclk (n : Nat)
  | sportFs (n : Nat)
  | liveOut
  | twinSync
  | clkreqN
  | spiIrqN (x : Nat)
  | resetOutN
  | faultN
  | wakeOutN
  | gpio (n : Nat)
deriving DecidableEq, Repr

/-- What GPIO n drives (R614's table): none while it is an input, or open-drain and released. -/
def gpioDrive (s : State) (n : Nat) : Option Bool :=
  match s.getF (PINMUX_GPIO_FUNC n) with
  | 1 => if s.isSet (PINMUX_GPIO_OUT n) then (if s.isSet (PINMUX_GPIO_OD n) then none else some true) else some false
  | 2 => some s.pwr.lynxEn
  | _ => none

/-- What a ball drives in functional mode at half tick `h` of device time, none while it is high-impedance or released: the
shared balls as R604 has them, the others by the signal table. -/
def unitDrive (s : State) (h : Nat) : Ball → Option Bool
  | .pdmClk n => pdmLevel s n (h / 2)
  | .bclk g => bclkBall s g h
  | .fs g => fsBall s g h
  | .dout n l => doutBall s n l h
  | .mclk => if sharedOut s then some (mclkLevel s (h / 2)) else none
  | .senseSync n => senseBall s n (h / 2)
  | .sportBclk n => (sportBalls s n h).map Prod.fst
  | .sportFs n => (sportBalls s n h).map Prod.snd
  | .liveOut => some s.pins.liveOut
  | .twinSync => if s.pins.twinSync then none else some false
  | .clkreqN => if s.pins.porN then some false else none
  | .spiIrqN x => spiIrqBall s x
  | .resetOutN => some (resetOutN s)
  | .faultN => if faultNLow s then some false else none
  | .wakeOutN => if s.isSet PWR_WAKE_OUT_ACTIVE then some false else none
  | .gpio n => gpioDrive s n

/-! ### The boundary register (R592) -/

/-- Rows of the signal table that have cells, in order: balls, and whether they are outputs or bidirectional. The lanes,
supplies, crystals and 5X memory have none. (DEDUCED, log entry 82). -/
def cellRows : List (Nat × Bool) :=
  [(4, true), (16, false), (8, true), (8, false), (8, true), (1, true), (1, false), (2, false), (1, false), (1, false),
   (2, true), (4, true), (2, false), (3, true), (2, false), (4, false), (1, true), (1, false), (1, true), (2, false),
   (1, false), (1, true), (2, false), (2, false), (8, true), (2, true), (1, true), (1, true), (4, true), (1, false),
   (1, false), (1, true), (1, true), (1, false), (1, true), (3, false), (1, false), (1, true), (4, false), (1, true),
   (2, true), (1, false), (16, true)]

/-- Cells of a row: one for an input ball; an input, an output and a control cell for every other. -/
def rowCells (e : Nat × Bool) : Nat := if e.2 then 3 * e.1 else e.1

/-- The first cell of ball `k` of row `r`. -/
def cellAt (r k : Nat) : Nat := ((cellRows.take r).map rowCells).sum + (if ((cellRows.drop r).head?.getD (0, true)).2 then 3 * k else k)

/-- The row of a ball and its place there, instance by instance. (DEDUCED, log entry 82). -/
def ballCell : Ball → Nat
  | .pdmClk n => cellAt 0 n
  | .bclk g => cellAt 2 (2 * g)
  | .fs g => cellAt 2 (2 * g + 1)
  | .dout n l => cellAt 4 (2 * n + l)
  | .mclk => cellAt 5 0
  | .senseSync n => cellAt 10 n
  | .sportBclk n => cellAt 11 (2 * n)
  | .sportFs n => cellAt 11 (2 * n + 1)
  | .liveOut => cellAt 16 0
  | .twinSync => cellAt 18 0
  | .clkreqN => cellAt 21 0
  | .spiIrqN x => cellAt 25 x
  | .resetOutN => cellAt 31 0
  | .faultN => cellAt 32 0
  | .wakeOutN => cellAt 34 0
  | .gpio n => cellAt 42 n

/-- What a ball drives at half tick `h` (R591, R592): under EXTEST and CLAMP its boundary cells, under HIGHZ nothing. -/
def ballDrive (s : State) (h : Nat) (b : Ball) : Option Bool :=
  let c := ballCell b
  if s.dbg.tapIr = 5 then none
  else if s.dbg.tapIr = 0 ∨ s.dbg.tapIr = 4 then
    (if s.dbg.boundaryHold.getD (c + 2) false then some (s.dbg.boundaryHold.getD (c + 1) false) else none)
  else unitDrive s h b

/-! ### The ball map (R16, R599, R600) -/

/-- Row names from the A1 corner. -/
def ballRows : List String :=
  ["A", "B", "C", "D", "E", "F", "G", "H", "J", "K", "L", "M", "N", "P", "T", "U", "V", "W", "Y", "AA", "AB", "AC", "AD", "AE", "AF"]

/-- Columns 1 to 4 of every row, without the channel's prefix. -/
def ddrBand : List (List String) :=
  [["DQ_0", "DQ_1", "DQ_2", "DQ_3"], ["DQ_4", "DQ_5", "DQ_6", "DQ_7"], ["WCK_T_0", "WCK_C_0", "DMI_0", "VDDQ_DDR"],
   ["RDQS_T_0", "RDQS_C_0", "VSS", "VDDQ_DDR"], ["DQ_8", "DQ_9", "DQ_10", "DQ_11"], ["DQ_12", "DQ_13", "DQ_14", "DQ_15"],
   ["WCK_T_1", "WCK_C_1", "DMI_1", "VDDQ_DDR"], ["RDQS_T_1", "RDQS_C_1", "VSS", "VDDQ_DDR"],
   ["CA_0", "CA_1", "CA_2", "VDD_DDR"], ["CA_3", "CA_4", "CA_5", "VSS"], ["CA_6", "CS_0", "CS_1", "VDD_DDR"],
   ["CK_T_0", "CK_C_0", "VSS", "VDDQ_DDR"], ["RESET_N", "ZQ", "VDD_DDR", "VSS"]] ++
  [["CK_T_1", "CK_C_1", "VSS", "VDDQ_DDR"], ["CA_7", "CA_8", "CA_9", "VDD_DDR"], ["CA_10", "CA_11", "CA_12", "VSS"],
   ["CA_13", "CS_2", "CS_3", "VDD_DDR"], ["DQ_16", "DQ_17", "DQ_18", "DQ_19"], ["DQ_20", "DQ_21", "DQ_22", "DQ_23"],
   ["WCK_T_2", "WCK_C_2", "DMI_2", "VDDQ_DDR"], ["RDQS_T_2", "RDQS_C_2", "VSS", "VDDQ_DDR"],
   ["DQ_24", "DQ_25", "DQ_26", "DQ_27"], ["DQ_28", "DQ_29", "DQ_30", "DQ_31"], ["WCK_T_3", "WCK_C_3", "DMI_3", "VDDQ_DDR"],
   ["RDQS_T_3", "RDQS_C_3", "VSS", "VDDQ_DDR"]]

/-- Columns 5 to 21 of rows A to E. -/
def topBalls : List (List String) :=
  [["PDM_CLK_0", "PDM_DAT_0", "PDM_DAT_1", "PDM_DAT_2", "PDM_DAT_3", "PDM_CLK_1", "PDM_DAT_4", "PDM_DAT_5", "PDM_DAT_6",
    "PDM_DAT_7", "PDM_CLK_2", "PDM_DAT_8", "PDM_DAT_9", "PDM_DAT_10", "PDM_DAT_11", "PDM_CLK_3", "PDM_DAT_12"],
   ["PDM_DAT_13", "PDM_DAT_14", "PDM_DAT_15", "VDDIO_A", "TDM0_BCLK", "TDM0_FS", "TDM0_DIN_0", "TDM0_DIN_1", "TDM0_DOUT_0",
    "TDM0_DOUT_1", "VSS", "TDM1_BCLK", "TDM1_FS", "TDM1_DIN_0", "TDM1_DIN_1", "TDM1_DOUT_0", "TDM1_DOUT_1"],
   ["TDM2_BCLK", "TDM2_FS", "TDM2_DIN_0", "TDM2_DIN_1", "TDM2_DOUT_0", "TDM2_DOUT_1", "VDDIO_A", "TDM3_BCLK", "TDM3_FS",
    "TDM3_DIN_0", "TDM3_DIN_1", "TDM3_DOUT_0", "TDM3_DOUT_1", "VDDIO_A", "MCLK_OUT", "SPDIF_IN", "START_IN"],
   ["SYNC_IN", "MUTE_N", "VDDIO_A", "SENSE_SYNC_0", "SENSE_SYNC_1", "SPORT0_BCLK", "SPORT0_FS", "SPORT0_DIN", "SPORT1_BCLK",
    "SPORT1_FS", "SPORT1_DIN", "VDDIO_A", "SPI_IMU_SCK", "SPI_IMU_CS_N", "SPI_IMU_MOSI", "SPI_IMU_MISO", "SPI_IMU_INT"],
   ["WHEEL_TICK_0", "WHEEL_TICK_1", "WHEEL_TICK_2", "WHEEL_TICK_3", "VDDIO_A", "REF_IN", "VSS", "XTAL_IN", "XTAL_OUT", "VSS",
    "VDDIO_A", "VDD_AON", "RTC_XIN", "RTC_XOUT", "VDD_AON", "VSS", "VDDIO_A"]]

/-- Columns 5 to 21 of rows AA to AF. -/
def bottomBalls : List (List String) :=
  [["GPIO_0", "GPIO_1", "GPIO_2", "GPIO_3", "GPIO_4", "GPIO_5", "GPIO_6", "GPIO_7", "GPIO_8", "GPIO_9", "GPIO_10", "GPIO_11",
    "GPIO_12", "GPIO_13", "GPIO_14", "GPIO_15", "VDDIO_B"],
   ["BOOT_SEL_0", "BOOT_SEL_1", "BOOT_SEL_2", "VDDIO_B", "DBG_CLK", "DBG_IO", "TCK", "TMS", "TDI", "TDO", "TRST_N", "VDDIO_B",
    "I2C_SCL", "I2C_SDA", "TEST_MODE", "VSS", "VDDIO_B"],
   ["SPIA_SCK", "SPIA_CS_N", "SPIA_IO_0", "SPIA_IO_1", "SPIA_IO_2", "SPIA_IO_3", "SPIA_IRQ_N", "VDDIO_B", "SPIB_SCK",
    "SPIB_CS_N", "SPIB_IO_0", "SPIB_IO_1", "SPIB_IO_2", "SPIB_IO_3", "SPIB_IRQ_N", "WAKE_IN", "WAKE_OUT_N"],
   ["VDD_PCIE", "VDDH_PCIE", "VDD_PCIE", "VDD_TWIN", "VDD_TWIN", "FLASH_SCK", "FLASH_CS_N", "FLASH_IO_0", "FLASH_IO_1",
    "FLASH_IO_2", "FLASH_IO_3", "VDDIO_B", "POR_N", "RESET_N", "RESET_OUT_N", "FAULT_N", "VSS"],
   ["VDD_PCIE", "PCIE_RXP_0", "PCIE_RXN_0", "VDD_PCIE", "PCIE_RXP_1", "PCIE_RXN_1", "VDDH_PCIE", "PERST_N", "CLKREQ_N",
    "VDD_TWIN", "TWIN_RXP_0", "TWIN_RXN_0", "VDD_TWIN", "TWIN_RXP_1", "TWIN_RXN_1", "TWIN_LIVE_IN", "TWIN_SYNC"],
   ["VSS", "PCIE_TXP_0", "PCIE_TXN_0", "VSS", "PCIE_TXP_1", "PCIE_TXN_1", "VSS", "PCIE_REFCLK_P", "PCIE_REFCLK_N", "VSS",
    "TWIN_TXP_0", "TWIN_TXN_0", "VSS", "TWIN_TXP_1", "TWIN_TXN_1", "VSS", "TWIN_LIVE_OUT"]]

/-- An entry of a table of balls, rows and columns from 0. -/
def ballIn (t : List (List String)) (r c : Nat) : String := (t.getD r []).getD c ""

/-- A memory channel's entry: supplies carry no prefix. -/
def ddrBall (pre : String) (r c : Nat) : String :=
  let e := ballIn ddrBand (r - 1) (c - 1)
  if e = "VSS" ∨ e = "VDDQ_DDR" ∨ e = "VDD_DDR" then e else pre ++ e

/-- The signal or supply of the ball at row number `r` and column `c`, both from 1 (R600). -/
def ballName (r c : Nat) : String :=
  if c ≤ 4 then ddrBall "DDR0_" r c
  else if 22 ≤ c then ddrBall "DDR1_" r (26 - c)
  else if r ≤ 5 then ballIn topBalls (r - 1) (c - 5)
  else if 20 ≤ r then ballIn bottomBalls (r - 20) (c - 5)
  else if (r + c) % 2 = 0 then "VSS"
  else if r ≤ 12 then "VDD_LYNX"
  else "VDD_CORE"

end Sys2Proof.Machine
end

