-- ==== Sys2Proof/Safety.lean ====
section
/-! DEFINITION. The terms in which claims are stated: the canonical form of a state, that a command answers a next state
with a property, a Denrek command about to start and how it ends, and what a command leaves as it was. -/

namespace Sys2Proof.Machine

/-- Memory and the register file are in their canonical form: keys rise and no entry equals what its key reads as when
unlisted. -/
def State.canonical (s : State) : Bool := memWf s.mem && tabWf resetWord s.regs

/-- The command answers a next state that has the property. -/
def Runs (i : Instr) (s : State) (p : State → Prop) : Prop := ∃ t, exec i s = .next t ∧ p t

/-- The descriptor `d` of opcode `op` and PARAM layout `z` is held and nothing keeps it from starting now: firmware runs,
its order and its wait hold, the checks of R414 pass, every PARAM byte outside its fields is zero and no wait of an earlier
start is recorded (R76, R444, R448, R476, R478). -/
def canStart (d : Desc) (op : Nat) (z : List Nat) (s : State) : Bool :=
  d.opcode == op && fwRuns s && !engineWaits s d && d.clean z &&
  match findCmd s d.src d.seq with
  | some c => (c.unstarted || c.phase == .again) && c.raw == d.raw && !ringHalted s d.src && orderHolds s d && twinLets s c
      && preCheck s d == 0 && !(d.waitEn && decide (syncSettled s d.waitId < d.waitValue))
      && !s.denrek.awaits.any (fun e => decide (e.2 = (d.src, d.seq)))
  | none => false

/-- The command has finished with a status and a RESULT (R476, R415). -/
def ended (d : Desc) (status result : Nat) (t : State) : Prop :=
  ∃ c, findCmd t d.src d.seq = some c ∧ c.phase = .finished ∧ c.status = status ∧ c.result = result

/-- The command has started and waits for `w` (R476). -/
def goesOn (d : Desc) (w : Await) (t : State) : Prop :=
  (∃ c, findCmd t d.src d.seq = some c ∧ c.phase = .started) ∧ (w, d.src, d.seq) ∈ t.denrek.awaits

/-- DONE with RESULT 0. -/
abbrev done (d : Desc) (t : State) : Prop := ended d stDONE 0 t

/-- Every register outside the blocks named by their upper 16 bits keeps its stored value. -/
def regsKept (blocks : List Nat) (s t : State) : Prop := ∀ a, a / 65536 ∉ blocks → t.reg a = s.reg a

/-- Every byte of memory outside [lo, hi) reads as before. -/
def memKept (lo hi : Nat) (s t : State) : Prop := ∀ a, a < lo ∨ hi ≤ a → t.byte a = s.byte a

/-- Every byte of memory reads as before. -/
def memSame (s t : State) : Prop := ∀ a, t.byte a = s.byte a

end Sys2Proof.Machine
end

