-- ==== Sys2Proof/Certificates/Slice0/Obligations.lean ====
section
/-! DEFINITION. The statements for the provers. Each `Obligations.<Name>` says what the rules its docstring names say of the
model; `Sys2Proof.Claims` holds the guards and effects that several of them share. -/

open Sys2Proof Sys2Proof.Machine

/-! ### The machine -/

/-- A step runs the command at the front of the queue with the queue's rest. -/
def Obligations.StepRunsFrontCommand : Prop :=
  ∀ (c : Instr) (rest : List Instr) (s : State), step { s with pending := c :: rest } = exec c { s with pending := rest }

/-- R41: with the queue empty and POR_N high, an edge of the counting clock advances device time by one in fast counting
and by exactly 3,000 in slow counting (that a step on an empty queue is such an edge is the model's choice, log entry
3). -/
def Obligations.IdleStepCountsDeviceTime : Prop :=
  ∀ s : State, s.pending = [] → s.pins.porN = true →
    ∃ t, step s = .next t ∧ t.clk.time = s.clk.time + (if s.clk.fast then 1 else 3000)

/-- The canonical form of memory and of the register file is kept by every step, from every state that has it. The model's
own reading behind it: log entry 2. -/
def Obligations.StepKeepsCanonical : Prop :=
  ∀ s t : State, s.canonical = true → step s = .next t → t.canonical = true

/-- A command never changes the queue of waiting commands: exec gives a next state for every command, with the queue as it
was. The model's own reading behind it: log entry 10. -/
def Obligations.ExecKeepsQueue : Prop := ∀ (c : Instr) (s : State), Runs c s fun t => t.pending = s.pending

/-- R1, R13, R15, R41, R42: right after POR_N device time is zero and counts slowly, every register stands at its Reset
value (SYS_ID at 0x4820_0010), memory and the register file are in canonical form and no command waits. The model's
own reading behind it: log entry 4. -/
def Obligations.ResetValues : Prop :=
  State.reset.canonical = true ∧
  State.reset.pending = [] ∧
  State.reset.clk.time = 0 ∧
  State.reset.clk.fast = false ∧
  (∀ a, State.reset.reg a = resetWord a) ∧
  State.reset.reg SYS_ID = 0x48200010 ∧
  State.reset.reg CLK_REF_TOL = 300 ∧
  State.reset.reg PWR_THERM = 0x007D0000

/-! ### Device time -/

namespace Sys2Proof.Claims

/-- POR_N, and the brownout of VDD_AON that is equal to it. -/
def clearsTime : Instr → Bool
  | .porAssert | .aonBrownout => true
  | _ => false

/-- A standby's adoption of its primary's time. -/
def adoptsTime : Instr → Bool
  | .twinTimeAdopt _ => true
  | _ => false

end Sys2Proof.Claims

open Sys2Proof.Claims

/-- R42, R43: device time is cleared by POR_N alone (R607's brownout is POR_N low); every other command leaves its value
and its counting, and no command writes it but a standby's one adoption while its pairing state is PAIRING; otherwise
it rises. The model's own reading behind it: log entry 3. -/
def Obligations.DeviceTimeIsNeverWritten : Prop :=
  (∀ (c : Instr) (s t : State), clearsTime c = true → exec c s = .next t → t.clk.time = 0) ∧
  (∀ (c : Instr) (s t : State), clearsTime c = false → adoptsTime c = false → exec c s = .next t →
    t.clk.time = s.clk.time ∧ (s.pins.porN = true → t.pins.porN = true)) ∧
  (∀ (x : Nat) (s t : State), exec (.twinTimeAdopt x) s = .next t → t.clk.time ≠ s.clk.time →
    s.getF TWIN_STAT_STATE = 1 ∧ s.getF TWIN_STAT_ROLE = 2 ∧ s.twin.adopted = false ∧ t.twin.adopted = true
      ∧ t.clk.time = x % 2 ^ 64) ∧
  (∀ s t : State, s.pending = [] → s.pins.porN = true → step s = .next t → s.clk.time < t.clk.time)

/-- R62: a low pulse of RESET_N leaves every register of the CLK block unchanged, and POR_N returns each to its Reset
value. -/
def Obligations.ClockBlockIsAlwaysOn : Prop :=
  (∀ (ns : Nat) (s : State), Runs (.resetNPulse ns) s fun t => ∀ a, a / 65536 = 0x2001 → t.reg a = s.reg a) ∧
  (∀ s : State, Runs .porAssert s fun t => ∀ a, a / 65536 = 0x2001 → t.reg a = resetWord a)

/-! ### Register accesses -/

namespace Sys2Proof.Claims

/-- The initiator writes the whole register: every initiator but a host port, and a host port in direct mode. -/
def writesWhole (s : State) : Initiator → Bool
  | .port p => directOn s p
  | _ => true

/-- The initiator sees the register it reads: a host port sees SYS, its own pages, or everything in direct mode. -/
def seesReg (s : State) (a : Nat) : Initiator → Bool
  | .port p => hostSees s p a
  | _ => true

end Sys2Proof.Claims

/-- R14, R22, R23, R24: a read of NAME_LO answers it and captures NAME_HI in the initiator's own latch; a write of NAME_LO
is held and changes no register; a write to NAME_HI commits the lower half held by the initiator, or the last
committed one where none is held, unless an initiator later in R24's order has committed in the same cycle, here for
CLK_ALARM, whose bits are all RW. The model's own reading behind it: log
entry 13. -/
def Obligations.RegisterPairs : Prop :=
  (∀ (i : Initiator) (a : Nat) (s : State), isPairLo a = true → regStatus s i a 4 false = .ok → seesReg s a i = true →
    Runs (.pairLoRead i a) s fun t => tabGet none (latchKey i a) t.pairRead = some (regVal s (a + 4))
      ∧ tabGet Resp.reset (initKey i) t.resp = ⟨.ok, leBytes 4 (regVal s a).toNat⟩
      ∧ ∀ k, k ≠ latchKey i a → tabGet none k t.pairRead = tabGet none k s.pairRead) ∧
  (∀ (i : Initiator) (a : Nat) (v : Word) (s : State), isPairLo a = true → regStatus s i a 4 true = .ok →
    writesWhole s i = true →
    Runs (.pairLoWrite i a v) s fun t => tabGet none (latchKey i a) t.pairWrite = some v ∧ (∀ b, t.reg b = s.reg b)
      ∧ ∀ k, k ≠ latchKey i a → tabGet none k t.pairWrite = tabGet none k s.pairWrite) ∧
  (∀ (i : Initiator) (v : Word) (s : State), regStatus s i CLK_ALARM_HI 4 true = .ok → writesWhole s i = true →
    Runs (.pairHiWrite i CLK_ALARM_HI v) s fun t =>
      (if outranked s i CLK_ALARM_LO = true then t.reg CLK_ALARM_HI = s.reg CLK_ALARM_HI ∧ t.reg CLK_ALARM_LO = s.reg CLK_ALARM_LO
        else t.reg CLK_ALARM_HI = v ∧ t.reg CLK_ALARM_LO = commitLow s i CLK_ALARM_LO
          ∧ tabGet none CLK_ALARM_LO t.pairLast = some (commitLow s i CLK_ALARM_LO))
      ∧ tabGet none (latchKey i CLK_ALARM_LO) t.pairWrite = none
      ∧ ∀ k, k ≠ latchKey i CLK_ALARM_LO → tabGet none k t.pairWrite = tabGet none k s.pairWrite)

namespace Sys2Proof.Claims

/-- The bits of the register with an access code. -/
def codeBits (c : Acc) (a : Nat) : Word := BitVec.ofNat 32 (accMask (fun x => x == c) a)

end Sys2Proof.Claims

/-- R11, R12, R13, R20: a write changes the RW bits alone and clears W1C bits written 1 that no event of the same cycle set,
here in the MPU block, whose writes start nothing; a read clears RC fields, but for what events of the same cycle brought,
and changes no other register; an access of any other size or alignment has no
effect and the initiator receives ACCESS_FAULT, here for the Sett controller and the Marten cores, whose answer is not
counted or recorded. The model's own reading behind it: log entries 3, 13, 14. -/
def Obligations.AccessCodes : Prop :=
  (∀ (i : Initiator) (a : Nat) (v : Word) (s : State), a / 65536 = 0x2010 → isPairLo a = false → isPairHi a = false →
    regStatus s i a 4 true = .ok → writesWhole s i = true →
    Runs (.registerWrite i a 4 v) s fun t =>
      t.reg a = ((s.reg a &&& ~~~codeBits .rw a) ||| (v &&& codeBits .rw a))
        &&& ~~~(v &&& codeBits .w1c a &&& ~~~tabGet 0 a s.cyc.hits)) ∧
  (∀ (i : Initiator) (a : Nat) (s : State) (r : RegSpec) (f : FieldSpec), isPairHi a = false → regdataUnit a = none →
    a ≠ GUST_COEF_DATA → specOf a = some r → f ∈ r.fields → f.acc = .rc → regStatus s i a 4 false = .ok →
    seesReg s a i = true →
    Runs (.registerReadClear i a 4) s fun t => t.getF ⟨a, f.hi, f.lo⟩ = sinceCycle s ⟨a, f.hi, f.lo⟩
      ∧ (tabGet none a s.cyc.was = none → t.getF ⟨a, f.hi, f.lo⟩ = 0) ∧ (∀ b, b ≠ a → t.reg b = s.reg b)
      ∧ tabGet Resp.reset (initKey i) t.resp = ⟨.ok, leBytes 4 (regVal s a).toNat⟩) ∧
  (∀ (i : Initiator) (a size : Nat) (v : Word) (s : State), (i = .sett ∨ ∃ n, i = .marten n) → size ≠ 4 ∨ a % 4 ≠ 0 →
    exec (.registerWrite i a size v) s = .next (s.answer i .accessFault [])
      ∧ exec (.registerReadClear i a size) s = .next (s.answer i .accessFault []))

/-! ### Device time, references, hop boundaries and the sync unit -/

namespace Sys2Proof.Claims

/-- A source that is not qualified, `again` telling whether it was lost before, has 16 good periods with the offset
measured. -/
def refCan (again : Bool) (src : Nat) (ofs : Int) (edges : List Nat) (s : State) : Bool :=
  !qualified s src && (bitOf s.clk.lostMask src == again) && goodPeriods s src ofs edges

/-- The monitor of a source that is not qualified runs. -/
def refWatched (src : Nat) (s : State) : Bool :=
  decide (1 ≤ src) && decide (src ≤ 8) && !qualified s src && monitorRuns s && srcUsable s src

/-- The target of R50 may be followed at once: START, or a wake. -/
def pllMayLock (s : State) : Bool :=
  (s.getF CLK_STATUS_STATE == 0 || (s.getF CLK_STATUS_STATE == 4 && s.pwr.phase == .waking)) && !s.clk.handover

end Sys2Proof.Claims

/-- R44, R46, R48, R49, R50, R52, R56, R57, R60: references are lost, qualify at once or requalify; the end of a switch,
the loss of the crystal, the lock of the audio PLL, the hand-over to fast counting, which leaves device time as it is,
and the alarm. The model's own
reading behind it: log entries 66, 67. -/
def Obligations.ReferencesAndLoop : Prop :=
  (∀ (src edge : Nat) (band : Option Int) (freq : Int) (more : Bool) (s : State), qualified s src = true →
    monitorRuns s = true → lossDue s src edge band = true →
    Runs (.refLost src edge band freq more) s fun t => qualified t src = false ∧ t.reg (CLK_REF_OFS src) = 0
      ∧ t.getB CLK_EVT_LOST (src - 1) = true ∧ bitOf t.clk.lostMask src = true) ∧
  (∀ (src : Nat) (edges : List Nat) (ofs freq : Int) (more : Bool) (s : State), refCan false src ofs edges s = true →
    Runs (.refInitialQualify src edges ofs freq more) s fun t => qualified t src = true ∧ t.regS (CLK_REF_OFS src) = ofs
      ∧ t.getB CLK_EVT_RETURN (src - 1) = true) ∧
  (∀ (src : Nat) (edges : List Nat) (ofs freq : Int) (more : Bool) (s : State), refCan true src ofs edges s = true →
    s.getB CLK_REF_QUAL_REQ (src - 1) = true → tabGet 0 src s.clk.reqFrom + requalTicks s ≤ s.now →
    Runs (.refRequalify src edges ofs freq more) s fun t => qualified t src = true ∧ t.regS (CLK_REF_OFS src) = ofs
      ∧ t.getB CLK_EVT_RETURN (src - 1) = true ∧ t.getB CLK_REF_QUAL_REQ (src - 1) = false) ∧
  (∀ (src edge : Nat) (ofs : Int) (s : State), refWatched src s = true →
    Runs (.requalificationRestart src edge ofs) s fun t => tabGet 0 src t.clk.reqFrom = edge
      ∧ (bitOf s.clk.lostMask src = true → t.getB CLK_REF_QUAL_REQ (src - 1) = true
          ∧ t.reg (CLK_REF_OFS src) = BitVec.ofNat 32 (ofSigned 32 ofs))) ∧
  (∀ s : State, s.getF CLK_STATUS_STATE = 2 → qualified s (s.getF CLK_STATUS_SEL) = true →
    (loopFreq s - s.regS (CLK_REF_OFS (s.getF CLK_STATUS_SEL))).natAbs ≤ 50 →
    Runs .refSwitchDone s fun t => t.isSet CLK_EVT_SWITCH_DONE = true ∧ t.clk.lockedAt = s.now
      ∧ t.getF CLK_STATUS_STATE = 1 ∧ t.reg CLK_FREQ = s.reg (CLK_REF_OFS (s.getF CLK_STATUS_SEL))
      ∧ t.clk.choosing = true) ∧
  (∀ s : State, s.clk.pllFromAudio = false →
    Runs .xtalLost s fun t => t.clk.pllFromAudio = true ∧ t.isSet CLK_STATUS_XTAL_OK = false
      ∧ t.isSet CLK_EVT_XTAL_LOST = true) ∧
  (∀ (s : State) (n : Nat), refTarget s = some n → pllMayLock s = true →
    Runs .audioPllLock s fun t => t.clk.handover = true ∧ t.clk.lockSrc = n ∧ t.reg CLK_FREQ = s.reg (CLK_REF_OFS n)
      ∧ t.clk.time = s.clk.time) ∧
  (∀ s : State, s.clk.handover = true → s.clk.fast = false → s.clk.lockSrc ≤ 8 →
    Runs .fastCountHandover s fun t => t.clk.fast = true ∧ t.clk.handover = false ∧ t.clk.time = s.clk.time
      ∧ t.getF CLK_STATUS_STATE = 1 ∧ t.getF CLK_STATUS_SEL = s.clk.lockSrc ∧ t.clk.lockedAt = s.now) ∧
  (∀ (s : State) (from' : Nat), s.clk.alarmFrom = some from' → s.isSet CLK_ALARM_CTRL_EN = true → from' < s.now →
    alarmTime s ≤ s.now →
    Runs .clkAlarm s fun t => t.isSet CLK_EVT_ALARM = true ∧ t.clk.alarmFrom = none)

/-! ### Guards that several families share -/

namespace Sys2Proof.Claims

/-- A range of session memory can be read in the command's own step: admitted, with no uncorrectable error, and with an
entry free for it in 5X memory (R393). -/
def memReads (d : Desc) (a n : Nat) (s : State) : Bool :=
  decide (a < 2 ^ 40) && checkRange s (settAcq d.session false) none a n == .ok && !chanFull s false a n
    && (errWords s.ues a n).isEmpty

/-- A record of `n` bytes can be written at OUT: admitted, with no uncorrectable error that it would cover in part. -/
def memWrites (d : Desc) (a n : Nat) (s : State) : Bool :=
  a != 0 && decide (a < 2 ^ 40) && checkRange s (settAcq d.session true) none a n == .ok && !chanFull s false a n
    && (rmwErrs s a n).isEmpty

/-- The command's OUT is zero and it came through a mailbox: its record's first 32 bytes come in the message (R447). -/
def inMessage (d : Desc) (out : Nat) : Bool := out == 0 && match d.src with | .mbox _ => true | .ring _ => false

/-- A record at OUT, or its first 32 bytes in the message (R447). -/
def recordAt (d : Desc) (out : Nat) (bs : List Byte) (s t : State) : Prop :=
  (memWrites d out bs.length s = true → ended d stDONE bs.length t ∧ t.bytes out bs.length = bs) ∧
  (inMessage d out = true → ∃ c, findCmd t d.src d.seq = some c ∧ c.phase = .finished ∧ c.status = stDONE
    ∧ c.ext = wordsOf (bs.take 32))

/-- OUT has one of the two forms. -/
def outForm (d : Desc) (out n : Nat) (s : State) : Bool := memWrites d out n s || inMessage d out

end Sys2Proof.Claims

/-! ### Power states, the engine rail, throttling (chapter 3) -/

/-- R78, R79, R80, R83, R608: the wake hold ends, an idle engine is gated, a drain ends or times out, the rail is ungated
or found low. The model's own reading behind it: log entry 18. -/
def Obligations.PowerTransitions : Prop :=
  (∀ (s : State) (h : Nat), s.pwr.holdUntil = some h → h ≤ s.now → Runs .wakeHoldEnd s fun t => t.pwr.holdUntil = none) ∧
  (∀ (n since : Nat) (s : State), n < 8 → tabGet none n s.pwr.idleFrom = some since → engineIdle s n = true →
    s.isSet PWR_CTRL_HOLD_CLK = false → max 1 (s.getF PWR_CTRL_GATE_IDLE) * 98304 ≤ (s.now - since) * 1000 →
    Runs (.lynxIdleGate n) s fun t => t.getB PWR_STATUS_LYNX_ON n = false) ∧
  (∀ s : State, drainRuns s = true → lynxDrained s = true → fogDrained s = true →
    Runs .drainDone s fun t => t.getF PWR_STATUS_LYNX_ON = 0 ∧ t.getF PWR_STATUS_FOG_ON = 0) ∧
  (∀ s : State, drainRuns s = true → (lynxDrained s && fogDrained s) = false →
    s.pwr.drainFrom + max 1 (s.getF PWR_CTRL_DRAIN_TO) * 98304 ≤ s.now →
    Runs .drainTimeout s fun t => t.getF PWR_STATUS_LYNX_ON = 0 ∧ t.getF PWR_STATUS_FOG_ON = 0
      ∧ t.isSet PWR_EVT_DRAIN_ABORT = true) ∧
  (∀ (mv : Nat) (s : State), ungateDue s = true → s.pwr.lynxEnAt + 98304 ≤ s.now → 700 ≤ mv →
    Runs (.lynxUngate mv) s fun t => t.getF PWR_STATUS_LYNX_ON = 0xFF ∧ t.getF PWR_STATUS_FOG_ON = 1
      ∧ t.pwr.lynxRailOk = true) ∧
  (∀ (mv : Nat) (s : State), ungateDue s = true → s.pwr.lynxRailOk = true → s.pwr.lynxEnAt + 983040 ≤ s.now → mv < 700 →
    Runs (.vddLynxCheck mv) s fun t => t.pwr.lynxRailOk = false)

namespace Sys2Proof.Claims

/-- The wake sources that act at an edge. -/
def wakeBits (pins : Nat) (wakeIn : List Bool) (wheel : List Nat) (s : State) : Nat :=
  activeSources pins wakeIn wheel s &&& (if s.pwr.crit then s.getF PWR_WAKE_EN_EN &&& 0x90 else s.getF PWR_WAKE_EN_EN)

/-- The hottest of the sensors, within TJ's nine bits. -/
def hottest (x : Int) (l : List Int) : Int := satS 9 ((l.take 5).foldl max x)

end Sys2Proof.Claims

/-- R57, R81, R85 to R90, R99, R101: PARK is committed, wake sources latch and wake a parked part, the wake ends or turns
into a full boot, WAKE_OUT_N is released, Tj and the throttling step follow the sensors; a keyword hit is recorded
while none is held, and clearing HIT.VALID re-arms the pre-roll ring. The model's own reading behind it: log entries
19, 20, 21. -/
def Obligations.ParkWakeAndKeywords : Prop :=
  (∀ s : State, s.pwr.phase = .parkEntry → dbgHeld s 4 = false → startedMask s = 0 →
    Runs .parkCommit s fun t => t.pwr.phase = .parked ∧ t.getF PWR_STATUS_STATE = 1 ∧ t.clk.fast = false
      ∧ t.clk.time = s.clk.time ∧ t.isSet PWR_EVT_ENTERED_PARK = true) ∧
  (∀ (pins : Nat) (wakeIn : List Bool) (wheel : List Nat) (s : State), wakeBits pins wakeIn wheel s ≠ 0 →
    Runs (.wakeDetect pins wakeIn wheel) s fun t =>
      t.getF PWR_WAKE_SRC_SRC = (s.getF PWR_WAKE_SRC_SRC ||| wakeBits pins wakeIn wheel s)
      ∧ (s.pwr.crit = false →
          (s.pwr.phase = .parked → if s.now = s.pwr.parkedAt then t.pwr.wakeDue = some s.now else t.pwr.phase = .waking)
          ∧ (s.pwr.phase = .drainPark ∨ s.pwr.phase = .parkEntry → t.isSet PWR_EVT_ENTRY_UNDONE = true))) ∧
  (∀ s : State, wakeReady s = true → sumsHold s = true →
    Runs (.wakeComplete true) s fun t => t.isSet PWR_EVT_LEFT_PARK = true
      ∧ t.reg PWR_WAKE_LAT = BitVec.ofNat 32 (s.now - s.pwr.wakeAt)) ∧
  (∀ s : State, wakeReady s = true →
    Runs (.wakeComplete false) s fun t => t.isSet SYS_RST_CAUSE_RESUME_FAIL = true ∧ t.boot.inReset = true) ∧
  (∀ s : State, Runs .wakeOutRelease s fun t =>
      t.isSet PWR_WAKE_OUT_ACTIVE = (s.isSet PWR_WAKE_OUT_ACTIVE && s.marked PWR_WAKE_OUT_ACTIVE 0)) ∧
  (∀ (x : Int) (l : List Int) (s : State),
    Runs (.thermalSample (x :: l)) s fun t => t.getF PWR_THERM_TJ = ofSigned 9 (hottest x l)
      ∧ t.getF PWR_STATUS_STEP = nextStep s (hottest x l) (s.getF PWR_STATUS_STEP)) ∧
  (∀ (scores : List Nat) (lastSample n x : Nat) (audio : List (BitVec 16)) (s : State),
    s.isSet DORMOUSE_STATUS_LISTENING = true → frameFits s lastSample audio = true →
    s.isSet DORMOUSE_STATUS_MODEL_OK = true → s.isSet DORMOUSE_HIT_VALID = false → kwsBest s scores = some (n, x) →
    lastSample < 2 ^ 64 →
    Runs (.kwsFrame scores lastSample audio) s fun t => t.isSet DORMOUSE_HIT_VALID = true ∧ t.getF DORMOUSE_HIT_INDEX = n
      ∧ t.getF DORMOUSE_HIT_SCORE = x ∧ t.r64 DORMOUSE_HIT_TIME_LO = lastSample ∧ t.pwr.preroll = false) ∧
  (∀ s : State, s.marked DORMOUSE_HIT_VALID 0 = false →
    Runs .dormouseHitValidWrite s fun t => t.isSet DORMOUSE_HIT_VALID = false ∧ t.pwr.preroll = true)

namespace Sys2Proof.Claims

/-- The images of CLOCK_SET_REFS that the table admits (R61, R63). -/
def refsOk (d : Desc) : Bool :=
  let z := [4, 4, 4, 4]
  let c := d.arg z 1
  (List.range 8).all (fun k => decide (bitsOf (d.arg z 0) (4 * k) 4 ≤ 8))
    && imgOk CLK_REF_CTRL [] [CLK_REF_CTRL_FORCE_EN, CLK_REF_CTRL_FORCE_SRC] c == 0 && imgOk CLK_REF_TOL [] [] (d.arg z 2) == 0
    && imgOk CLK_REFIN_NOM [] [] (d.arg z 3) == 0
    && decide (CLK_REF_CTRL_BW.img c ≤ 2) && decide (1 ≤ CLK_REF_CTRL_REQUAL.img c) && decide (CLK_REF_CTRL_REQUAL.img c ≤ 600)
    && decide (1 ≤ CLK_REF_CTRL_SLEW.img c) && decide (CLK_REF_CTRL_SLEW.img c ≤ 100)
    && decide (50 ≤ d.arg z 2) && decide (d.arg z 2 ≤ 1000)
    && (d.arg z 3 == 0 || (decide (8000 ≤ d.arg z 3) && decide (d.arg z 3 ≤ 24576000)))

/-- The images of POWER_SET_WAKE that the table admits. -/
def wakeImgsOk (d : Desc) : Bool :=
  let z := [4, 4, 4, 4, 4, 4]
  (List.range 6).all (fun k => imgOk (wakeRegs.getD k 0) [] (if k = 4 then [PWR_CTRL_REQ, PWR_CTRL_HOLD_CLK] else []) (d.arg z k) == 0)
    && PWR_WHEEL_CFG_COUNT.img (d.arg z 2) != 0 && PWR_WHEEL_CFG_WINDOW.img (d.arg z 2) != 0
    && PWR_CTRL_GATE_IDLE.img (d.arg z 4) != 0 && PWR_CTRL_DRAIN_TO.img (d.arg z 4) != 0

/-- A DORMOUSE_MODEL image that the table admits, in a RAM that holds it (R89, R92). -/
def modelFits (d : Desc) (s : State) : Bool :=
  let m := d.arg [8, 4] 1
  imgOk DORMOUSE_MODEL [] [] m == 0 && decide (1 ≤ DORMOUSE_MODEL_SIZE.img m) && decide (DORMOUSE_MODEL_SIZE.img m ≤ 64)
    && decide (1 ≤ DORMOUSE_MODEL_ENTRIES.img m) && decide (DORMOUSE_MODEL_ENTRIES.img m ≤ 64)
    && decide (DORMOUSE_MODEL_BASE.img m + DORMOUSE_MODEL_SIZE.img m ≤ 128) && dormFits s (s.reg DORMOUSE_CTRL).toNat m

/-- The vocabulary words of DORMOUSE_SET_VOCAB hold RW bits alone. -/
def vocabOk (d : Desc) (s : State) : Bool :=
  let z := [1, 1, 8]
  (List.range (d.arg z 1)).all (fun k => imgOk (DORMOUSE_THR (d.arg z 0 + k)) [] [] (recField (s.bytes (d.arg z 2) (4 * d.arg z 1)) (4 * k) 4) == 0)

/-- The hit record of DORMOUSE_READ (R469). -/
def hitRecord (s : State) : List Byte :=
  leBytes 4 (s.reg DORMOUSE_HIT).toNat ++ leBytes 4 0 ++ leBytes 8 (s.r64 DORMOUSE_HIT_TIME_LO)

end Sys2Proof.Claims

/-- R50, R60, R61, R63, R77, R79, R90, R92, R93: the clock commands, on a twin that is not the standby; votes, the wake
configuration and the Dormouse commands. The model's own reading behind it: log entries 14, 16, 21. -/
def Obligations.ClockAndPowerCommands : Prop :=
  (∀ (d : Desc) (s : State), canStart d 0x0D01 [4, 4, 4, 4] s = true → s.getF TWIN_STAT_ROLE ≠ 2 → claimC s d .clock = 0 →
    refsOk d = true →
    Runs (.clockSetRefs d) s fun t => done d t ∧ t.owner .clock = some d.session
      ∧ (t.reg CLK_REF_PRIO).toNat = d.arg [4, 4, 4, 4] 0 ∧ t.getF CLK_REF_TOL_TOL = d.arg [4, 4, 4, 4] 2
      ∧ t.getF CLK_REF_CTRL_REQUAL = CLK_REF_CTRL_REQUAL.img (d.arg [4, 4, 4, 4] 1)
      ∧ t.getF CLK_REF_CTRL_FORCE_EN = s.getF CLK_REF_CTRL_FORCE_EN) ∧
  (∀ (d : Desc) (s : State), canStart d 0x0D02 [1, 1] s = true → s.getF TWIN_STAT_ROLE ≠ 2 → ownC s d .clock = 0 →
    d.arg [1, 1] 0 ≤ 1 → d.arg [1, 1] 1 ≤ 8 →
    Runs (.clockForceRef d) s fun t => done d t ∧ t.getF CLK_REF_CTRL_FORCE_EN = d.arg [1, 1] 0
      ∧ t.getF CLK_REF_CTRL_FORCE_SRC = d.arg [1, 1] 1) ∧
  (∀ (d : Desc) (s : State), canStart d 0x0D04 [4] s = true → ownC s d .clock = 0 → imgOk CLK_MCLK [] [] (d.arg [4] 0) = 0 →
    CLK_MCLK_DIV.img (d.arg [4] 0) % 2 = 0 → 2 ≤ CLK_MCLK_DIV.img (d.arg [4] 0) → CLK_MCLK_DIV.img (d.arg [4] 0) ≤ 16 →
    Runs (.clockSetMclk d) s fun t => done d t ∧ t.getF CLK_MCLK_DIV = CLK_MCLK_DIV.img (d.arg [4] 0)
      ∧ t.getF CLK_MCLK_EN = CLK_MCLK_EN.img (d.arg [4] 0)) ∧
  (∀ (d : Desc) (s : State), canStart d 0x0D05 [1, 8, 2] s = true → ownC s d .clock = 0 →
    bindOwn s d [d.arg [1, 8, 2] 2] = 0 → d.arg [1, 8, 2] 0 ≤ 1 → bindOk [d.arg [1, 8, 2] 2] = 0 →
    (d.arg [1, 8, 2] 2 = 0xFFFF ∨ ((boundTo s 0x001).isEmpty = true ∧ (freeBind s).isSome = true)) →
    Runs (.clockSetAlarm d) s fun t => done d t ∧ alarmTime t = d.arg [1, 8, 2] 1
      ∧ t.getF CLK_ALARM_CTRL_EN = d.arg [1, 8, 2] 0
      ∧ t.clk.alarmFrom = (if d.arg [1, 8, 2] 0 = 1 then some s.now else none)) ∧
  (∀ (d : Desc) (s : State), canStart d 0x0D06 [1] s = true → d.arg [1] 0 ≤ 3 →
    Runs (.powerSetState d) s fun t => ended d stDONE (reqState (s.setVote .state d.session (d.arg [1] 0))) t
      ∧ t.vote .state d.session = some (d.arg [1] 0)) ∧
  (∀ (d : Desc) (s : State), canStart d 0x0D07 [1] s = true → d.arg [1] 0 ≤ 1 →
    Runs (.powerSetClocks d) s fun t => done d t ∧ t.vote .clocks d.session = some (d.arg [1] 0)
      ∧ t.getF PWR_CTRL_HOLD_CLK = min 1 (maxVote t .clocks)) ∧
  (∀ (d : Desc) (s : State), canStart d 0x0D09 [4, 4, 4, 4, 4, 4] s = true → claimC s d .wake = 0 → wakeImgsOk d = true →
    Runs (.powerSetWake d) s fun t => done d t ∧ t.owner .wake = some d.session
      ∧ t.getF PWR_WAKE_EN_EN = PWR_WAKE_EN_EN.img (d.arg [4, 4, 4, 4, 4, 4] 0)
      ∧ t.getF PWR_WHEEL_CFG_COUNT = PWR_WHEEL_CFG_COUNT.img (d.arg [4, 4, 4, 4, 4, 4] 2)
      ∧ t.getF PWR_CTRL_DRAIN_TO = PWR_CTRL_DRAIN_TO.img (d.arg [4, 4, 4, 4, 4, 4] 4)) ∧
  (∀ (d : Desc) (s : State), canStart d 0x0D0A [8, 4] s = true → claimC s d .dormouse = 0 → modelFits d s = true →
    memReads d (d.arg [8, 4] 0) (DORMOUSE_MODEL_SIZE.img (d.arg [8, 4] 1) * 4096) s = true →
    Runs (.dormouseLoadModel d) s fun t => done d t ∧ t.owner .dormouse = some d.session
      ∧ t.isSet DORMOUSE_STATUS_MODEL_OK = true
      ∧ t.bytes (dormBase + DORMOUSE_MODEL_BASE.img (d.arg [8, 4] 1) * 4096) (DORMOUSE_MODEL_SIZE.img (d.arg [8, 4] 1) * 4096)
        = s.bytes (d.arg [8, 4] 0) (DORMOUSE_MODEL_SIZE.img (d.arg [8, 4] 1) * 4096)) ∧
  (∀ (d : Desc) (s : State), canStart d 0x0D0B [1, 1, 8] s = true → claimC s d .dormouse = 0 →
    d.arg [1, 1, 8] 0 + d.arg [1, 1, 8] 1 ≤ 64 → memReads d (d.arg [1, 1, 8] 2) (4 * d.arg [1, 1, 8] 1) s = true →
    vocabOk d s = true →
    Runs (.dormouseSetVocab d) s fun t => done d t ∧ t.owner .dormouse = some d.session
      ∧ ∀ k, k < d.arg [1, 1, 8] 1 → t.getF (DORMOUSE_THR_THR (d.arg [1, 1, 8] 0 + k))
        = (DORMOUSE_THR_THR 0).img (recField (s.bytes (d.arg [1, 1, 8] 2) (4 * d.arg [1, 1, 8] 1)) (4 * k) 4)) ∧
  (∀ (d : Desc) (s : State), canStart d 0x0D0C [4] s = true → claimC s d .dormouse = 0 →
    imgOk DORMOUSE_CTRL [] [] (d.arg [4] 0) = 0 → DORMOUSE_CTRL_PREROLL_MS.img (d.arg [4] 0) ≤ 2000 →
    dormMics (d.arg [4] 0) ≠ 0 → dormFits s (d.arg [4] 0) (s.reg DORMOUSE_MODEL).toNat = true →
    Runs (.dormouseConfig d) s fun t => done d t ∧ t.owner .dormouse = some d.session
      ∧ t.getF DORMOUSE_CTRL_EN = DORMOUSE_CTRL_EN.img (d.arg [4] 0) ∧ t.getF DORMOUSE_PREROLL_WR = 0) ∧
  (∀ (d : Desc) (s : State), canStart d 0x0D0D [8, 4] s = true → claimC s d .dormouse = 0 → 16 ≤ d.arg [8, 4] 1 →
    memWrites d (d.arg [8, 4] 0) (16 + min (d.arg [8, 4] 1 - 16) (prerollBytes (s.reg DORMOUSE_CTRL).toNat)) s = true →
    s.marked DORMOUSE_HIT_VALID 0 = false →
    Runs (.dormouseRead d) s fun t =>
      ended d stDONE (16 + min (d.arg [8, 4] 1 - 16) (prerollBytes (s.reg DORMOUSE_CTRL).toNat)) t
      ∧ t.bytes (d.arg [8, 4] 0) 16 = hitRecord s ∧ t.isSet DORMOUSE_HIT_VALID = false ∧ t.pwr.preroll = true) ∧
  (∀ (d : Desc) (s : State), canStart d 0x0D0D [8, 4] s = true → claimC s d .dormouse = 0 → 16 ≤ d.arg [8, 4] 1 →
    inMessage d (d.arg [8, 4] 0) = true → s.marked DORMOUSE_HIT_VALID 0 = false →
    Runs (.dormouseRead d) s fun t => done d t ∧ t.isSet DORMOUSE_HIT_VALID = false ∧ t.pwr.preroll = true)

/-! ### Resets, boot and images (chapter 4) -/

namespace Sys2Proof.Claims

/-- Registers that show OTP, the part's grade or the level of MUTE_N whatever a reset leaves (R19, R122, R232). -/
def showsOther (a : Nat) : Bool := a == SYS_ROLLBACK || a == SYS_LIFECYCLE || a == PWR_THERM || a == GUST_MUTE

/-- Every domain is as after POR_N: device time is zero, OTP stays, every register has its Reset value (R15, R104). -/
def allReset (s t : State) : Prop :=
  t.pins.porN = false ∧ t.clk.time = 0 ∧ t.boot.otp = s.boot.otp ∧ (∀ a, showsOther a = false → t.reg a = resetWord a)
    ∧ t.getF PWR_THERM_LIMIT = (if s.boot.gradeA then 125 else 105) ∧ t.isSet GUST_MUTE_PIN = !s.pins.muteN

/-- A CORE reset is under way: RESET_OUT_N is low, device time counts on, and every register of the CORE domain has its Reset
value, but for the cause the watchdog leaves (R43, R102, R106, R121). -/
def coreWasReset (s t : State) : Prop :=
  t.boot.inReset = true ∧ resetOutN t = false ∧ t.clk.time = s.clk.time ∧ t.boot.otp = s.boot.otp
    ∧ (∀ a r, specOf a = some r → r.dom = .core → showsOther a = false → a ≠ ERR_STAT_3 → t.reg a = resetWord a)
    ∧ t.isSet GUST_MUTE_PIN = !s.pins.muteN

end Sys2Proof.Claims

/-- R42, R102, R103, R104, R106, R107, R121, R607: every reset of the part and what it leaves. Device time is cleared by POR_N
and the brownout alone, and a CORE reset returns every register of the CORE domain to its Reset value, whatever its cause,
apart from what the reset itself, the balls and OTP show; a pulse of RESET_N below 20 ns is ignored. The model's own
reading behind it: log entries 15, 20,
24. -/
def Obligations.Resets : Prop :=
  (∀ s : State, Runs .porAssert s (allReset s)) ∧
  (∀ s : State, Runs .aonBrownout s (allReset s)) ∧
  (∀ (straps : Nat) (v33 : Bool) (s : State), s.pins.porN = false → straps < 8 →
    Runs (.porRelease straps v33) s fun t => t.pins.porN = true ∧ t.getF SYS_STRAP_BOOT_SEL = straps
      ∧ t.isSet PINMUX_STAT_VIOB = v33 ∧ t.clk.time = s.clk.time
      ∧ t.isSet DBG_STAT_UNLOCKED = decide (s.boot.otp.dbgLock = 0)) ∧
  (∀ (ns : Nat) (s : State), s.pins.porN = true → 100 ≤ ns →
    Runs (.resetNPulse ns) s fun t => t.isSet SYS_RST_CAUSE_PIN = true ∧ coreWasReset s t) ∧
  (∀ (ns : Nat) (s : State), ns < 20 → exec (.resetNPulse ns) s = .next s) ∧
  (∀ s : State, s.pins.porN = true →
    Runs .coreRstWrite s fun t => t.isSet SYS_RST_CAUSE_SW = true ∧ coreWasReset s t) ∧
  (∀ s : State, wdogOut s = true →
    Runs .watchdogExpire s fun t => t.isSet SYS_RST_CAUSE_WDOG = true ∧ coreWasReset s t ∧ t.isSet ERR_STAT_3_WDOG = true) ∧
  (∀ (s : State) (at' : Nat), s.boot.resetAt = some at' → at' ≤ s.now →
    Runs .deviceResetDelayEnd s fun t => t.isSet SYS_RST_CAUSE_SW = true ∧ coreWasReset s t) ∧
  (∀ s : State, s.pins.porN = true →
    Runs .perstNAssert s fun t => t.isSet HOSTIF_EVT_PERST = true ∧ t.getF HOSTIF_LINK_STATE = 0
      ∧ ∀ f, f < 8 → t.reg (HOSTIF_F_STAT f) = 0)

namespace Sys2Proof.Claims

/-- A flash source stands next, and the ROM runs. -/
def flashNext (src : Nat) (s : State) : Bool := romRuns s && bootSource s == some src && decide (1 ≤ src) && decide (src < 3)

/-- A download is awaited from the port. -/
def downloadNext (port src : Nat) (s : State) : Bool :=
  romRuns s && s.getF SYS_BOOT_STATUS_CODE == 2 && bootSource s == some src
    && ((port == 0 && src == 3) || (port == 8 && src == 4))

/-- What the verification of a source leaves: firmware starts, or the first failing check is reported. -/
def verified (why : Option (Nat × Nat)) (src : Nat) (t : State) : Prop :=
  match why with
  | none => t.getF SYS_BOOT_STATUS_CODE = 4 ∧ t.getF SYS_BOOT_STATUS_SOURCE = src
  | some (code, ty) => t.getF SYS_BOOT_STATUS_LAST_ERR = code % 256 ∧ t.getF SYS_BOOT_STATUS_IMAGE = ty % 16

end Sys2Proof.Claims

/-- R103, R106, R109, R111, R113, R116, R121, R122: the ROM starts at the PLL's lock, the fill zeroes on-chip SRAM, a source is
verified and accepted or rejected with the first failing code, and READY is reached. The model's own reading behind
it: log entries 23, 24, 25, 71, 72. -/
def Obligations.BootSequence : Prop :=
  (∀ s : State, s.pins.porN = true → s.boot.inReset = true →
    Runs .systemPllLock s fun t => t.boot.inReset = false ∧ t.isSet CLK_STATUS_SYS_LOCK = true) ∧
  (∀ s : State, s.boot.inReset = false → s.boot.sramFilled = false →
    Runs .sramFillDone s fun t => t.boot.sramFilled = true ∧ (∀ a, a < settRom → t.byte a = 0)
      ∧ ∀ a, dormBase ≤ a → a < dormBase + 0x8_0000 → t.byte a = s.byte a) ∧
  (∀ (src : Nat) (bs : List Byte) (of ef : Bool) (s : State), flashNext src s = true →
    Runs (.bootSourceVerify bs of ef) s fun t => t.getB SYS_BOOT_STATUS_TRIED (src - 1) = true
      ∧ verified (bundleFails (s.setB SYS_BOOT_STATUS_TRIED (src - 1)) true bs of ef) src t
      ∧ ((bundleFails (s.setB SYS_BOOT_STATUS_TRIED (src - 1)) true bs of ef).isSome = true →
          t.boot.srcIdx = s.boot.srcIdx + 1)) ∧
  (∀ (port src : Nat) (s : State), downloadNext port src s = true →
    Runs (.sysDlGo port) s fun t => t.isSet SYS_DL_GO = false
      ∧ verified (bundleFails (s.setB SYS_BOOT_STATUS_TRIED (src - 1)) false
          (s.bytes 0 (min 0x100_0000 (s.getF SYS_DL_LEN))) false
          (!(errWords s.ues 0 (min 0x100_0000 (s.getF SYS_DL_LEN))).isEmpty)) src t) ∧
  (∀ s : State, s.getF SYS_BOOT_STATUS_CODE = 4 → s.clk.fast = true → dbgHeld s 4 = false → s.pins.porN = true →
    Runs .bootReady s fun t => t.getF SYS_BOOT_STATUS_CODE = 5 ∧ (s.boot.inReset = false → resetOutN t = true)) ∧
  (∀ s : State, Runs (.watchdogKick 0x5A3C) s fun t => t.boot.wdogFrom = s.now ∧ t.regs = s.regs ∧ t.mem = s.mem) ∧
  (∀ (key : Nat) (s : State), key ≠ 0x5A3C → exec (.watchdogKick key) s = .next s)

namespace Sys2Proof.Claims

/-- The image header that IMAGE_LOAD reads. -/
def loadHdr (d : Desc) (s : State) : List Byte := (s.bytes (d.arg [8, 4] 0) (d.arg [8, 4] 1)).take 256

end Sys2Proof.Claims

/-- R102, R118, R120, R121: the commands of the system claim on reset, OTP, the watchdog and images. The model's own
reading behind it: log entries 24, 70. -/
def Obligations.SystemCommands : Prop :=
  (∀ (d : Desc) (s : State), canStart d 0x0E02 [] s = true → claimC s d .system = 0 →
    Runs (.deviceReset d) s fun t => done d t ∧ t.owner .system = some d.session ∧ t.boot.resetAt = some (s.now + 98304)) ∧
  (∀ (d : Desc) (s : State), canStart d 0x0E03 [1] s = true → claimC s d .system = 0 → d.arg [1] 0 ≤ minSec s →
    rollbackCount s.boot.otp ≤ d.arg [1] 0 → d.arg [1] 0 ≤ 128 →
    Runs (.rollbackAdvance d) s fun t => ended d stDONE (d.arg [1] 0) t ∧ d.arg [1] 0 ≤ rollbackCount t.boot.otp
      ∧ ∀ k, d.arg [1] 0 ≤ k → bitOf t.boot.otp.rollbackA k = bitOf s.boot.otp.rollbackA k) ∧
  (∀ (d : Desc) (s : State), canStart d 0x0E04 [1] s = true → claimC s d .system = 0 → d.arg [1] 0 < 4 →
    (secure s.boot.otp && s.getF SYS_LIFECYCLE_SLOT == d.arg [1] 0) = false →
    Runs (.keyRevoke d) s fun t => done d t ∧ bitOf t.boot.otp.revoke (d.arg [1] 0) = true) ∧
  (∀ (d : Desc) (s : State), canStart d 0x0E05 [8, 4] s = true → claimC s d .system = 0 → 256 ≤ d.arg [8, 4] 1 →
    d.arg [8, 4] 1 ≤ 0x100_0000 → memReads d (d.arg [8, 4] 0) (d.arg [8, 4] 1) s = true →
    (hdrType (loadHdr d s) ≠ 4 ∨ (s.lynx.jobs = [] ∧ ceilDiv (hdrSize (loadHdr d s)) 4096 * 4096 ≤ s.boot.lynxPages)) →
    Runs (.imageLoad d) s fun t => match imageFails s (s.bytes (d.arg [8, 4] 0) (d.arg [8, 4] 1)) with
      | some why => ended d stVERIFY why.1 t ∧ t.boot.images = s.boot.images
      | none => ended d stDONE (hdrType (loadHdr d s)) t
          ∧ (tabGet Image.reset (hdrType (loadHdr d s)) t.boot.images).present = true
          ∧ (tabGet Image.reset (hdrType (loadHdr d s)) t.boot.images).secVersion = hdrSec (loadHdr d s)) ∧
  (∀ (d : Desc) (s : State), canStart d 0x0E06 [4] s = true → claimC s d .system = 0 → imgOk SYS_WDOG [] [] (d.arg [4] 0) = 0 →
    SYS_WDOG_TIMEOUT.img (d.arg [4] 0) ≠ 0 →
    Runs (.watchdogSet d) s fun t => done d t ∧ (t.reg SYS_WDOG).toNat &&& 0x1FFFF = d.arg [4] 0
      ∧ t.boot.wdogFrom = (if SYS_WDOG_EN.img (d.arg [4] 0) = 1 ∧ s.isSet SYS_WDOG_EN = false then s.now else s.boot.wdogFrom)) ∧
  (∀ (d : Desc) (s : State), canStart d 0x0E07 [4] s = true →
    Runs (.noticeMask d) s fun t => ∀ k, k < 32 → bitOf (t.port (portOf s d.src)).mask k
      = (if k = 0 ∨ k = 8 then bitOf (s.port (portOf s d.src)).mask k else bitOf (d.arg [4] 0) k)) ∧
  (∀ (d : Desc) (s : State), canStart d 0x0E08 [8] s = true → Runs (.nop d) s fun t => ended d stDONE (d.arg [8] 0) t)

/-! ### The debug and test ports (chapter 21) -/

namespace Sys2Proof.Claims

/-- The port hears a packet whose header is that of the operation (R579). -/
def hears (s : State) (op hdr : Nat) : Bool := dbgHears s && hdrGood op hdr

/-- Nothing keeps a READ or WRITE from being accepted (R579, R580, R581, R583). -/
def packetGoes (s : State) (op hdr addr : Nat) (write parity : Bool) : Bool :=
  hears s op hdr && (parity == evenParity 40 addr) && !s.isSet DBG_STAT_FAULT && s.dbg.access.isNone && addr % 4 == 0
    && dbgReaches s addr (hdrWords hdr) write

/-- Every word of an access lies outside the register blocks. -/
def allMemory (s : State) (a n : Nat) : Bool := (List.range n).all (fun k => kindOf s (a + 4 * k) != .regs)

end Sys2Proof.Claims

/-- R578 to R582, R585: a line reset attaches or detaches the port; READ and WRITE are accepted, RDBUF and STATUS answer,
ABORT ends the access, and an accepted access of memory is made whole. The model's own reading behind it: log entry
57. -/
def Obligations.DebugPackets : Prop :=
  (∀ (periods : Nat) (s : State), s.pins.porN = true → 64 ≤ periods →
    Runs (.lineReset periods 0x48424447) s fun t => t.isSet DBG_STAT_ATTACHED = true ∧ t.dbg.deaf = false) ∧
  (∀ (periods select : Nat) (s : State), s.pins.porN = true → 64 ≤ periods → select ≠ 0x48424447 →
    Runs (.lineReset periods select) s fun t => t.isSet DBG_STAT_ATTACHED = false ∧ t.dbg.deaf = false) ∧
  (∀ (hdr addr : Nat) (parity : Bool) (s : State), packetGoes s 1 hdr addr false parity = true →
    Runs (.read hdr addr parity) s fun t => t.dbg.access = some (false, addr, []) ∧ t.dbg.readLen = hdrWords hdr
      ∧ t.isSet DBG_STAT_BUSY = true ∧ tabGet Resp.reset (initKey .debug) t.resp = ⟨.dbgOk, []⟩) ∧
  (∀ (hdr addr : Nat) (parity : Bool) (ws : List Word) (s : State), packetGoes s 2 hdr addr true parity = true →
    ws.length = hdrWords hdr →
    Runs (.write hdr addr parity ws (ws.map (fun w => evenParity 32 w.toNat))) s fun t =>
      t.dbg.access = some (true, addr, ws.map some)
      ∧ t.isSet DBG_STAT_BUSY = true ∧ tabGet Resp.reset (initKey .debug) t.resp = ⟨.dbgOk, []⟩) ∧
  (∀ (hdr : Nat) (s : State), hears s 3 hdr = true → s.isSet DBG_STAT_FAULT = false →
    (s.dbg.readDone || s.dbg.access.isNone) = true →
    Runs (.rdbuf hdr) s fun t => tabGet Resp.reset (initKey .debug) t.resp
      = ⟨.dbgOk, s.dbg.readBuf.flatMap (fun w => leBytes 4 w.toNat)⟩) ∧
  (∀ (hdr : Nat) (s : State), hears s 4 hdr = true →
    Runs (.debugStatus hdr) s fun t => tabGet Resp.reset (initKey .debug) t.resp = ⟨.dbgOk, leBytes 4 (s.reg DBG_STAT).toNat⟩) ∧
  (∀ (hdr : Nat) (s : State), hears s 5 hdr = true → s.dbg.access.isSome = true →
    Runs (.abort hdr) s fun t => t.getF DBG_STAT_CAUSE = dcABORTED
      ∧ tabGet Resp.reset (initKey .debug) t.resp = ⟨.dbgOk, []⟩) ∧
  (∀ (a : Nat) (s : State), s.dbg.access = some (false, a, []) → dbgCheck s false a (4 * s.dbg.readLen) = .ok →
    kindOf s a ≠ .regs → allMemory s a s.dbg.readLen = true → errWords s.ues a (4 * s.dbg.readLen) = [] →
    Runs .dbgAccessDone s fun t => t.dbg.access = none ∧ t.dbg.readDone = true
      ∧ t.dbg.readBuf = (List.range s.dbg.readLen).map (fun k => BitVec.ofNat 32 (s.le (a + 4 * k) 4))) ∧
  (∀ (a : Nat) (ws : List (Option Word)) (s : State), s.dbg.access = some (true, a, ws) →
    dbgCheck s true a (4 * ws.length) = .ok → kindOf s a ≠ .regs → allMemory s a ws.length = true →
    rmwErrs s a (4 * ws.length) = [] →
    Runs .dbgAccessDone s fun t => t.dbg.access = none
      ∧ (∀ k w, ws[k]? = some (some w) → t.le (a + 4 * k) 4 = w.toNat)
      ∧ (∀ k, ws[k]? = some none → t.le (a + 4 * k) 4 = s.le (a + 4 * k) 4)
      ∧ memKept a (a + 4 * ws.length) s t)

/-- R583 to R587, R589, R591, R592: the challenge, an attempt, its verification and the relock; run control, the registers
of a halted unit and the TAP's instructions. The model's own reading behind it: log entries 55, 56, 82. -/
def Obligations.DebugControl : Prop :=
  (∀ s : State, Runs .dbgChallengeNew s fun t => t.isSet DBG_CHAL_CTRL_VALID = true ∧ t.reg (DBG_CHAL 6) = BitVec.ofNat 32 s.now
    ∧ t.reg (DBG_CHAL 4) = BitVec.ofNat 32 s.boot.otp.uid) ∧
  (∀ s : State, s.dbg.verifying = none → s.getF DBG_STAT_TRIES < 8 → s.isSet DBG_CHAL_CTRL_VALID = true →
    Runs .dbgUnlockGo s fun t => t.isSet DBG_CHAL_CTRL_VALID = false ∧ t.dbg.verifying = some (s.getF DBG_UNLOCK_SCOPE)
      ∧ t.isSet DBG_UNLOCK_GO = true) ∧
  (∀ s : State, s.dbg.verifying = none → 8 ≤ s.getF DBG_STAT_TRIES → Runs .dbgUnlockGo s fun t => t.getF DBG_UNLOCK_RESULT = 3
    ∧ t.dbg.verifying = s.dbg.verifying) ∧
  (∀ (s : State) (scope : Nat), s.dbg.verifying = some scope → s.marked DBG_UNLOCK_GO 0 = false →
    Runs .dbgTokenVerifyDone s fun t => t.dbg.verifying = none
      ∧ if tokenGood s scope = true ∧ s.getF DBG_STAT_LOCK ≠ 2 then
          t.getF DBG_UNLOCK_RESULT = 1 ∧ t.isSet DBG_STAT_UNLOCKED = true ∧ t.getF DBG_STAT_TRIES = 0
            ∧ t.getF DBG_STAT_SCOPE = (s.getF DBG_STAT_SCOPE ||| scope) % 64
        else t.getF DBG_UNLOCK_RESULT = 2 ∧ t.getF DBG_STAT_SCOPE = s.getF DBG_STAT_SCOPE) ∧
  (∀ s : State, Runs .dbgRelock s fun t => t.isSet DBG_STAT_UNLOCKED = (s.getF DBG_STAT_LOCK == 0)
    ∧ t.getF DBG_STAT_SCOPE = if s.getF DBG_STAT_LOCK = 0 then 63 else 0) ∧
  (∀ (c : Nat) (s : State), c < 6 → granted s (unitScope c) = true → dbgHeld s c = false →
    (4 ≤ c ∨ ((coreState s c = 2 ∨ coreState s c = 3) ∧ (s.core c).rep = 0)) →
    Runs (.dbgHalt c) s fun t => dbgHeld t c = true ∧ t.getF (DBG_CORE_CTRL_CAUSE c) = 1) ∧
  (∀ (c : Nat) (s : State), c < 4 → granted s (unitScope c) = true → dbgHeld s c = false →
    (coreState s c = 2 ∨ coreState s c = 3) → (s.core c).rep ≠ 0 →
    Runs (.dbgHalt c) s fun t => (t.core c).haltReq = true ∧ dbgHeld t c = false) ∧
  (∀ (c : Nat) (s : State), c < 6 → s.getF (DBG_CORE_CTRL_STATE c) = 1 → (4 ≤ c ∨ coreQuiet s c = true) →
    Runs (.dbgHaltComplete c) s fun t => t.getF (DBG_CORE_CTRL_STATE c) = 2 ∧ t.getB DBG_EVT_HALTED c = true) ∧
  (∀ (c : Nat) (s : State), c < 6 → granted s (unitScope c) = true → s.getF (DBG_CORE_CTRL_STATE c) = 2 →
    Runs (.dbgResume c) s fun t => dbgHeld t c = false) ∧
  (∀ (c : Nat) (s : State), c < 6 → granted s (unitScope c) = true → s.getF (DBG_CORE_CTRL_STATE c) = 2 →
    Runs (.dbgStep c) s fun t => (c < 4 → bitOf t.dbg.stepping c = true ∧ dbgHeld t c = false)
      ∧ (4 ≤ c → t.getF (DBG_CORE_CTRL_STATE c) = 2 ∧ t.getF (DBG_CORE_CTRL_CAUSE c) = 2)) ∧
  (∀ (c : Nat) (s : State) (v : Nat), c < 6 → granted s (unitScope c) = true → unitOpen s c = true → unitReg s c = some v →
    Runs (.dbgRegdataAccess c none) s fun t => tabGet Resp.reset (initKey .debug) t.resp = ⟨.dbgOk, leBytes 4 v⟩) ∧
  (∀ (c : Nat) (s : State) (w : Word), c < 6 → granted s (unitScope c) = true → unitOpen s c = true →
    (unitReg s c).isSome = true →
    Runs (.dbgRegdataAccess c (some w)) s fun t =>
      if c < 4 then t.core c = coreRegPut (s.core c) (s.getF (DBG_CORE_REGSEL_CLASS c)) (s.getF (DBG_CORE_REGSEL_INDEX c))
        (s.getF (DBG_CORE_REGSEL_LANE c)) w.toNat
      else tabGet 0 (64 * c + s.getF (DBG_CORE_REGSEL_INDEX c)) t.dbg.gpr = w) ∧
  (∀ s : State, Runs .trstNAssert s fun t => t.dbg.tapIr = 1) ∧
  (∀ s : State, s.pins.porN = true →
    (Runs .tapIdcode s fun t => t.dbg.tapIr = 1 ∧ t.dbg.tapDr = 0x1482054B)
    ∧ (Runs .tapClamp s fun t => t.dbg.tapIr = 0x04) ∧ (Runs .tapHighz s fun t => t.dbg.tapIr = 0x05 ∧ ∀ h b, ballDrive t h b = none)
    ∧ (Runs .tapBypass s fun t => t.dbg.tapIr = 0x1F)
    ∧ (Runs .tapMbist s fun t => t.dbg.tapIr = if granted s 5 then 0x18 else 0x1F)
    ∧ ∀ cap sh : List Bool,
      (Runs (.tapExtest cap sh) s fun t => t.dbg.tapIr = 0 ∧ t.dbg.boundary = cap ∧ t.dbg.boundaryHold = sh)
      ∧ (Runs (.tapSamplePreload cap sh) s fun t => t.dbg.tapIr = 2 ∧ t.dbg.boundary = cap ∧ t.dbg.boundaryHold = sh))

/-! ### Hosts (chapter 18) -/

namespace Sys2Proof.Claims

/-- A memory access of a host port is admitted and free of uncorrectable errors. -/
def hostReads (p a n : Nat) (s : State) : Bool :=
  checkRange s (hostAcq s p false) none a n == .ok && !chanFull s false a n && (errWords s.ues a n).isEmpty

def hostWrites (p a n : Nat) (s : State) : Bool :=
  checkRange s (hostAcq s p true) none a n == .ok && !chanFull s false a n && (rmwErrs s a n).isEmpty && !paired s

/-- BAR2 of function f is open for [a, a+n) after READY. -/
def bar2Open (f a n : Nat) (s : State) : Bool :=
  barOpen s f && s.getF SYS_BOOT_STATUS_CODE == 5 && decide (a + n ≤ poolEnd) && decide (0 < n) && !isStandby s

/-- An SPI target may make a memory transaction of `n` bytes now. -/
def spiReady (x a n : Nat) (s : State) : Bool :=
  decide (x < 2) && spiOpen s x && !isStandby s && spiLenOk n && spiMem s a n

end Sys2Proof.Claims

/-- R513, R514, R516: SPI transactions of registers and memory, STATUS, and the RESET_EN and RESET pair. The model's own
reading behind it: log entry 53. -/
def Obligations.SpiTransactions : Prop :=
  (∀ (x a w : Nat) (s : State), x < 2 → s.pins.porN = true → regStatus s (.port (8 + x)) a 4 false = .ok →
    hostSees s (8 + x) a = true → spiLate s x w = false → isPairHi a = false → regdataUnit a = none →
    Runs (.regRead x a w false) s fun t =>
      tabGet Resp.reset (initKey (.port (8 + x))) t.resp = ⟨.ok, leBytes 4 (regVal s a).toNat⟩) ∧
  (∀ (x : Nat) (bs : List Byte) (s : State), x < 2 → s.pins.porN = true → bs.length = 4 →
    regStatus s (.port (8 + x)) SYS_RST_CAUSE 4 true = .ok → tabGet 0 SYS_RST_CAUSE s.cyc.hits = 0 →
    Runs (.regWrite x SYS_RST_CAUSE bs) s fun t =>
      (t.reg SYS_RST_CAUSE).toNat &&& 31 = (s.reg SYS_RST_CAUSE).toNat &&& 31 &&& (2 ^ 32 - 1 - ofLe bs)
      ∧ t.getF (HOSTIF_SPI_STAT_LAST x) = 0 ∧ tabGet Resp.reset (initKey (.port (8 + x))) t.resp = ⟨.ok, []⟩) ∧
  (∀ (x a n w : Nat) (s : State), spiReady x a n s = true → spiLate s x w = false → hostReads (8 + x) a n s = true →
    Runs (.memRead x a n w false) s fun t =>
      tabGet Resp.reset (initKey (.port (8 + x))) t.resp = ⟨.ok, s.bytes a n⟩ ∧ memSame s t) ∧
  (∀ (x a : Nat) (bs : List Byte) (s : State), spiReady x a bs.length s = true → hostWrites (8 + x) a bs.length s = true →
    Runs (.memWrite x a bs.length bs) s fun t => t.bytes a bs.length = bs ∧ memKept a (a + bs.length) s t
      ∧ t.getF (HOSTIF_SPI_STAT_LAST x) = 0 ∧ t.isSet (HOSTIF_SPI_STAT_BUSY x) = false) ∧
  (∀ (x : Nat) (s : State), x < 2 → spiOpen s x = true →
    Runs (.status x) s fun t => tabGet Resp.reset (initKey (.port (8 + x))) t.resp
      = ⟨.ok, [BitVec.ofNat 8 (s.getF (HOSTIF_SPI_STAT_LAST x)),
          BitVec.ofNat 8 (bit (portIsReady s (8 + x)) + 2 * s.getF (HOSTIF_SPI_STAT_BUSY x))]⟩) ∧
  (∀ (x : Nat) (s : State), x < 2 → spiOpen s x = true →
    Runs (.resetEn x) s fun t => tabGet false x t.hostif.rstArmed = true ∧ t.regs = s.regs) ∧
  (∀ (x : Nat) (s : State), x < 2 → spiOpen s x = true → tabGet false x s.hostif.rstArmed = true →
    Runs (.reset x) s fun t => t.getB HOSTIF_EVT_SPI_RESET x = true ∧ tabGet false x t.hostif.rstArmed = false
      ∧ (paired s = false → t.isSet (MBOX_STAT_READY (8 + x)) = false))

namespace Sys2Proof.Claims

/-- The link of a function's port is up. -/
def linkIsUp (s : State) : Bool := s.getF HOSTIF_LINK_STATE == 2 || s.getF HOSTIF_LINK_STATE == 3

end Sys2Proof.Claims

/-- R505, R509, R512, R516, R517, R530: translation, power states, MSI-X, and the resets of functions and of the link. The
model's own reading behind it: log entries 51, 52. -/
def Obligations.PcieConfiguration : Prop :=
  (∀ (f : Nat) (v : Word) (s : State), f < 8 → cfgOpen s = true →
    Runs (.xlatWrite f false v) s fun t => t.getF (HOSTIF_F_XLAT_LO_EN f) = v.toNat % 2
      ∧ t.getF (HOSTIF_F_XLAT_LO_BASE f) = v.toNat / 4096) ∧
  (∀ (f : Nat) (v : Word) (s : State), f < 8 → cfgOpen s = true →
    Runs (.xlatWrite f true v) s fun t => t.getF (HOSTIF_F_XLAT_HI_BASE f) = v.toNat) ∧
  (∀ (f dst : Nat) (bme mse : Bool) (s : State), f < 8 → cfgOpen s = true → (dst = 0 ∨ dst = 3) →
    Runs (.pciePowerStateChange f dst bme mse) s fun t => t.getF (HOSTIF_F_STAT_DSTATE f) = dst
      ∧ t.isSet (HOSTIF_F_STAT_BME f) = bme ∧ t.isSet (HOSTIF_F_STAT_MSE f) = mse ∧ linkIsUp t = true) ∧
  (∀ (f v : Nat) (s : State), f < 8 → v < 64 → cfgOpen s = true →
    Runs (.msixUnmask f (some v)) s fun t => tabGet false (64 * f + v) t.hostif.msixUnmasked = true
      ∧ (s.isSet (HOSTIF_F_STAT_MSIX_EN f) = true → s.isSet (HOSTIF_F_STAT_MSIX_MASK f) = false →
          tabGet false (64 * f + v) s.hostif.msixPend = true →
          tabGet false (64 * f + v) t.hostif.msixPend = false
            ∧ tabGet 0 (64 * f + v) t.hostif.msixSent = tabGet 0 (64 * f + v) s.hostif.msixSent + 1)) ∧
  (∀ (f : Nat) (s : State), f < 8 → cfgOpen s = true →
    Runs (.functionLevelReset f) s fun t => t.getB HOSTIF_EVT_FLR f = true ∧ t.reg (HOSTIF_F_STAT f) = 0
      ∧ t.getF (HOSTIF_F_XLAT_LO_EN f) = 0) ∧
  (∀ s : State, linkLives s = true →
    (Runs .linkDown s fun t => t.isSet HOSTIF_EVT_LINK_DOWN = true ∧ t.getF HOSTIF_LINK_STATE = 0)
    ∧ (Runs .hotReset s fun t => t.isSet HOSTIF_EVT_HOT_RESET = true ∧ t.getF HOSTIF_LINK_STATE = 0))

namespace Sys2Proof.Claims

/-- A port that is not ready, whose conditions of R518 hold and whose last reset has ended. -/
def readyDue (p : Nat) (s : State) : Bool :=
  decide (p < 10) && !s.isSet (MBOX_STAT_READY p) && portCond s p && !((s.port p).resetBusy
    && (s.denrek.sessions.any (fun e => e.2.state != 0 && e.2.port == p)
      || (match findCmd s (.mbox p) 0 with | some c => c.running | none => false)))

end Sys2Proof.Claims

/-- R504, R506, R507, R510, R511, R518, R522, R585: a BAR2 read answers the bytes, a write stores them, and one that the
MPU refuses is dropped or answered with Completer Abort, and counted; a completion of a request frees its tag and, of
a core's access on an unpaired part, brings its data to memory; a timeout frees the tag and is reported; ports become
ready; the key opens direct mode and resets every port, any other value closes it. The model's own reading behind it:
log entries 47, 50, 52, 53. -/
def Obligations.HostAccesses : Prop :=
  (∀ (f a n : Nat) (s : State), bar2Open f a n s = true → hostReads f a n s = true →
    Runs (.bar2Access f a n false []) s fun t => tabGet Resp.reset (initKey (.port f)) t.resp = ⟨.ok, s.bytes a n⟩ ∧ memSame s t) ∧
  (∀ (f a : Nat) (bs : List Byte) (s : State), bar2Open f a bs.length s = true → hostWrites f a bs.length s = true →
    Runs (.bar2Access f a bs.length true bs) s fun t => t.bytes a bs.length = bs ∧ memKept a (a + bs.length) s t) ∧
  (∀ (f a b n : Nat) (s : State), bar2Open f a n s = true → checkRange s (hostAcq s f false) none a n = .bad b →
    Runs (.bar2Access f a n false []) s fun t => tabGet Resp.reset (initKey (.port f)) t.resp = ⟨.completerAbort, []⟩
      ∧ memSame s t ∧ t.isSet ERR_STAT_0_MPU = true) ∧
  (∀ (tag a n c k : Nat) (bs : List Byte) (s : State), tagOf s tag = some ⟨tag, a, n, .dma c k⟩ → bs.length = n →
    paired s = false → s.hostif.todo = [] → closingSessions s = [] → closingRings s = [] →
    Runs (.hostReadCompletion tag true bs) s fun t => tagOf t tag = none ∧ t.bytes a n = bs ∧ memKept a (a + n) s t) ∧
  (∀ (tag a n c k : Nat) (s : State), tagOf s tag = some ⟨tag, a, n, .dma c k⟩ → s.hostif.todo = [] →
    Runs (.completionTimeout tag) s fun t => tagOf t tag = none ∧ t.isSet HOSTIF_EVT_CPL_TIMEOUT = true
      ∧ RdOwner.dma c k ∈ t.hostif.bad) ∧
  (∀ (p : Nat) (s : State), readyDue p s = true →
    Runs (.portReady p) s fun t => t.isSet (MBOX_STAT_READY p) = true ∧ (t.port p).mask = 0xFFFFFFFF) ∧
  (∀ (i : Initiator) (s : State), keyOpens s i = true →
    Runs (.directModeOpen i) s fun t => t.isSet HOSTIF_DIRECT_STAT_OPEN = true
      ∧ (s.isSet HOSTIF_DIRECT_STAT_OPEN = false → paired s = false → ∀ p, p < 10 → t.isSet (MBOX_STAT_READY p) = false)) ∧
  (∀ (i : Initiator) (key : Word) (s : State), ((i = .port 8 ∧ spiOpen s 0 = true) ∨ (i = .debug ∧ granted s 3 = true)) →
    key ≠ 0x44524D4F →
    Runs (.directModeClose i key) s fun t => t.isSet HOSTIF_DIRECT_STAT_OPEN = false)

/-! ### Mailboxes, rings, sessions, sync objects (chapters 15 to 17) -/

namespace Sys2Proof.Claims

/-- A host's index write of a ready port acts at once on an unpaired part (R518, R543). -/
def indexOpen (p : Nat) (s : State) : Bool := portIsReady s p && !paired s

/-- The new IN_TAIL leaves at most four descriptors (R417). -/
def inTailFits (p v : Nat) (s : State) : Bool :=
  decide (idxDiff 8 (v % 256) (s.getF (MBOX_IN_TAIL_TAIL p))
    + idxDiff 8 (s.getF (MBOX_IN_TAIL_TAIL p)) (s.getF (MBOX_IN_HEAD_HEAD p)) ≤ 4)

/-- The new SQ_TAIL keeps within the depth and does not move back (R429). -/
def sqTailFits (r v : Nat) (s : State) : Bool :=
  decide (idxDiff 16 (v % 65536) (s.getF (RING_SQ_HEAD_HEAD r)) ≤ ringDepth s r)
    && decide (idxDiff 16 (s.getF (RING_SQ_TAIL_TAIL r)) (s.getF (RING_SQ_HEAD_HEAD r))
      ≤ idxDiff 16 (v % 65536) (s.getF (RING_SQ_HEAD_HEAD r)))

/-- The new CQ_HEAD does not pass CQ_TAIL (R429). -/
def cqHeadFits (r v : Nat) (s : State) : Bool :=
  decide (idxDiff 16 (v % 65536) (s.getF (RING_CQ_HEAD_HEAD r))
    ≤ idxDiff 16 (s.getF (RING_CQ_TAIL_TAIL r)) (s.getF (RING_CQ_HEAD_HEAD r)))

/-- A mailbox may take its next descriptor. -/
def mayTake (p : Nat) (s : State) : Bool :=
  portIsReady s p && fwRuns s && !mboxBusy s p && s.getF (MBOX_IN_TAIL_TAIL p) != s.getF (MBOX_IN_HEAD_HEAD p)
    && decide (outUsed s p + (mirrorsOf s (.mbox p)).length < 4)

/-- Nothing closes. -/
def noneCloses (s : State) : Bool := (closingRings s).isEmpty && (closingSessions s).isEmpty

/-- The next completion of ring `r`, whose commands that need no evaluation have finished, is written at once. -/
def ringSends (r : Nat) (s : State) : Bool :=
  decide (r < 64) && ringWrites s r && !isStandby s && portFlows s (s.getF (RING_CFG_PORT r)) && !mirrorsOn s && noneCloses s
    && (match ringNext s r with
      | some c => (mirrorAt s (.ring r) c.seq).isNone && decide (c.seq < 2 ^ 64)
          && checkRange s (settAcq (s.getF (RING_CFG_SESSION r)) true) none (cqSlot s r c.seq) 32 == .ok
          && !chanFull s false (cqSlot s r c.seq) 32
          && (rmwErrs s (cqSlot s r c.seq) 32).isEmpty
      | none => false)

/-- The same of a mailbox's message. -/
def mboxSends (p : Nat) (s : State) : Bool :=
  decide (p < 10) && !isStandby s && portFlows s p && !mirrorsOn s && noneCloses s && (mirrorsOf s (.mbox p)).isEmpty
    && decide (outUsed s p ≤ 3) && (mboxNext s p).isSome

end Sys2Proof.Claims

/-- R413, R417 to R419, R429, R431, R432, R439, R477: an index write in range takes effect; one out of range leaves the
index as it was and sets the error bit; a mailbox takes a descriptor, and a ring fetches in one turn as many as R431
allows, from the device's memory at once and from host memory by a request. The model's own reading behind it: log
entries 41, 42. -/
def Obligations.IndexesAndFetch : Prop :=
  (∀ (p v : Nat) (s : State), indexOpen p s = true →
    Runs (.mboxInTailWrite p v) s fun t =>
      if inTailFits p v s then t.getF (MBOX_IN_TAIL_TAIL p) = v % 256
      else t.getF (MBOX_IN_TAIL_TAIL p) = s.getF (MBOX_IN_TAIL_TAIL p) ∧ t.isSet (MBOX_STAT_PROTO_ERR p) = true) ∧
  (∀ (p v : Nat) (s : State), indexOpen p s = true →
    Runs (.mboxOutHeadWrite p v) s fun t =>
      if idxDiff 8 (v % 256) (s.getF (MBOX_OUT_HEAD_HEAD p)) ≤ outUsed s p then t.getF (MBOX_OUT_HEAD_HEAD p) = v % 256
      else t.getF (MBOX_OUT_HEAD_HEAD p) = s.getF (MBOX_OUT_HEAD_HEAD p) ∧ t.isSet (MBOX_STAT_PROTO_ERR p) = true) ∧
  (∀ (p r v : Nat) (s : State), indexOpen p s = true → ringOf s p r = true →
    Runs (.ringSqTailWrite p r v) s fun t =>
      if sqTailFits r v s then t.getF (RING_SQ_TAIL_TAIL r) = v % 65536
      else t.getF (RING_SQ_TAIL_TAIL r) = s.getF (RING_SQ_TAIL_TAIL r) ∧ t.isSet (RING_STAT_DB_ERR r) = true) ∧
  (∀ (p r v : Nat) (s : State), indexOpen p s = true → ringOf s p r = true →
    Runs (.ringCqHeadWrite p r v) s fun t =>
      if cqHeadFits r v s then t.getF (RING_CQ_HEAD_HEAD r) = v % 65536
      else t.getF (RING_CQ_HEAD_HEAD r) = s.getF (RING_CQ_HEAD_HEAD r) ∧ t.isSet (RING_STAT_DB_ERR r) = true) ∧
  (∀ (p : Nat) (s : State), mayTake p s = true →
    Runs (.mboxDescriptorTake p) s fun t => ∃ c, findCmd t (.mbox p) 0 = some c ∧ c.phase = .fetched
      ∧ c.raw = inboundRaw s p (s.getF (MBOX_IN_HEAD_HEAD p) % 4)) ∧
  (∀ (r : Nat) (s : State), fetchTurn s = some r → isStandby s = false → hostOf s (sqSlot s r) = none →
    checkRange s (settAcq (s.getF (RING_CFG_SESSION r)) false) none (sqSlot s r) (64 * fetchCount s r) = .ok →
    chanFull s false (sqSlot s r) (64 * fetchCount s r) = false → errWords s.ues (sqSlot s r) (64 * fetchCount s r) = [] →
    Runs (.ringFetch r) s fun t => (t.ring r).fetched = (s.ring r).fetched + fetchCount s r ∧ 0 < fetchCount s r
      ∧ t.denrek.turn = (r + 1) % 64 ∧ memSame s t) ∧
  (∀ (r f : Nat) (s : State), fetchTurn s = some r → isStandby s = false → hostOf s (sqSlot s r) = some f →
    checkRange s (settAcq (s.getF (RING_CFG_SESSION r)) false) none (sqSlot s r) (64 * fetchCount s r) = .ok →
    Runs (.ringFetch r) s fun t => hostDone t (.fetch r) = false ∧ (t.ring r).fetched = (s.ring r).fetched) ∧
  (∀ (r a : Nat) (s : State), fetchTurn s = some r → isStandby s = false →
    checkRange s (settAcq (s.getF (RING_CFG_SESSION r)) false) none (sqSlot s r) (64 * fetchCount s r) = .bad a →
    Runs (.ringFetch r) s fun t => t.getF (RING_STAT_FAULT r) = 1 ∧ t.getF (RING_STAT_STATE r) = 3)

/-- R415, R416, R419, R420, R433, R434, R477, R481, R515: completions, messages and notices are written in SEQ order, a ring's
interrupt is raised when its time has passed and cleared by the host, and a mailbox command's wait times out. The
model's own reading behind it: log entry 43. -/
def Obligations.CompletionsGoOut : Prop :=
  (∀ (r : Nat) (c : Cmd) (s : State), ringSends r (finishPlain (.ring r) s) = true → ringNext (finishPlain (.ring r) s) r = some c →
    Runs (.completionWrite (.ring r)) s fun t =>
      t.bytes (cqSlot (finishPlain (.ring r) s) r c.seq) 32 = cmdRecord c c.seq
      ∧ t.r64 (RING_SEQ_LO r) = (c.seq + 1) % 2 ^ 64 ∧ findCmd t (.ring r) c.seq = none
      ∧ t.getF (RING_CQ_TAIL_TAIL r) = ((finishPlain (.ring r) s).getF (RING_CQ_TAIL_TAIL r) + 1) % 65536) ∧
  (∀ (p : Nat) (c : Cmd) (s : State), mboxSends p (finishPlain (.mbox p) s) = true →
    mboxNext (finishPlain (.mbox p) s) p = some c →
    Runs (.completionWrite (.mbox p)) s fun t => findCmd t (.mbox p) 0 = none
      ∧ t.getF (MBOX_OUT_TAIL_TAIL p) = ((finishPlain (.mbox p) s).getF (MBOX_OUT_TAIL_TAIL p) + 1) % 256
      ∧ ∀ j, j < 16 → t.reg (MBOX_OUT p ((finishPlain (.mbox p) s).getF (MBOX_OUT_TAIL_TAIL p) % 4) j)
          = BitVec.ofNat 32 (recField (cmdMessage c ((finishPlain (.mbox p) s).r64 (MBOX_SEQ_LO p))) (4 * j) 4)) ∧
  (∀ (p : Nat) (n : Notice) (l : List Notice) (s : State), portFlows s p = true → outUsed s p ≤ 3 → isStandby s = false →
    mirrorsOn s = false → mirrorsOf s (.mbox p) = [] → (s.port p).notices = n :: l →
    Runs (.noticeWrite p) s fun t => (t.port p).notices = l
      ∧ t.getF (MBOX_OUT_TAIL_TAIL p) = (s.getF (MBOX_OUT_TAIL_TAIL p) + 1) % 256
      ∧ (8 ≤ p → p < 10 → s.isSet (MBOX_IRQ_EN p) = true → s.pins.porN = true → s.boot.inReset = false →
          spiIrqBall t (p - 8) = some false)
      ∧ ∀ j, j < 16 → t.reg (MBOX_OUT p (s.getF (MBOX_OUT_TAIL_TAIL p) % 4) j)
          = BitVec.ofNat 32 (recField (noticeMessage n (s.r64 (MBOX_SEQ_LO p))) (4 * j) 4)) ∧
  (∀ (r f : Nat) (s : State), r < 64 → s.isSet (RING_CFG_EN r) = true → (s.ring r).coalFrom = some f →
    0 < s.getF (RING_IRQ_COAL_TIME r) → s.getF (RING_IRQ_COAL_TIME r) * 98304 ≤ (s.now - f) * 1000 →
    Runs (.ringCoalTimeout r) s fun t => t.isSet (RING_IRQ_PEND r) = true) ∧
  (∀ (p r : Nat) (s : State), portIsReady s p = true → ringOf s p r = true → (s.ring r).coalFrom = none →
    (s.ring r).elig < max 1 (s.getF (RING_IRQ_COAL_CNT r)) → s.marked (RING_IRQ_PEND r) 0 = false →
    Runs (.ringIrqPendClear p r) s fun t => t.isSet (RING_IRQ_PEND r) = false) ∧
  (∀ (p : Nat) (c : Cmd) (s : State), findCmd s (.mbox p) 0 = some c → c.unstarted = true → c.waited = true →
    c.time + max 1 (s.getF SYNC_MBOX_TO_MS) * 98304 ≤ s.now →
    Runs (.mboxWaitTimeout p) s fun t => ended c.desc stTIMEOUT 0 t)

namespace Sys2Proof.Claims

/-- A session holds nothing and runs nothing. -/
def holdsNothing (n : Nat) (s : State) : Bool :=
  s.denrek.owners.all (fun e => e.2 != n) && s.denrek.votes.all (fun v => v.2.1 != n) && s.denrek.ranges.isEmpty
    && s.denrek.leaving.isEmpty && (ringsOf s n).isEmpty && (objsOf s n).isEmpty && !runsCmd s n
    && s.denrek.cmds.all (fun c => match c.src with | .mbox _ => true | .ring _ => false)

end Sys2Proof.Claims

/-- R422, R424, R471: the session number FREE the longest opens with its label; a session that holds nothing closes at
once, and one whose command runs on becomes CLOSING. The model's own reading behind it: log entry 44. -/
def Obligations.Sessions : Prop :=
  (∀ (d : Desc) (n : Nat) (s : State), canStart d 0x0101 [8] s = true → longestFree s = some n →
    Runs (.sessionOpen d) s fun t => ended d stDONE n t ∧ t.session n = ⟨1, portOf s d.src, d.arg [8] 0, 0⟩
      ∧ ∀ m, m ≠ n → t.session m = s.session m) ∧
  (∀ (d : Desc) (s : State), canStart d 0x0102 [2] s = true → targetC s d (d.arg [2] 0) = 0 → sessOpen s (d.arg [2] 0) = true →
    noneCloses s = true → holdsNothing (d.arg [2] 0) s = true →
    Runs (.sessionClose d) s fun t => done d t ∧ t.session (d.arg [2] 0) = ⟨0, 0, 0, s.denrek.freeSeq⟩) ∧
  (∀ (d : Desc) (s : State), canStart d 0x0102 [2] s = true → targetC s d (d.arg [2] 0) = 0 → sessOpen s (d.arg [2] 0) = true →
    noneCloses s = true → runsCmd s (d.arg [2] 0) = true → (ringsOf s (d.arg [2] 0)).isEmpty = true →
    Runs (.sessionClose d) s fun t => goesOn d (.sessionClose (d.arg [2] 0)) t ∧ (t.session (d.arg [2] 0)).state = 2) ∧
  (∀ (d : Desc) (s : State), canStart d 0x0103 [2] s = true → targetC s d (d.arg [2] 0) = 0 →
    Runs (.sessionInfo d) s fun t =>
      ended d stDONE ((s.session (d.arg [2] 0)).state + 256 * (s.session (d.arg [2] 0)).port) t)

namespace Sys2Proof.Claims

/-- The image and address checks of RING_CREATE. -/
def ringChecks (d : Desc) (s : State) : Nat :=
  let z := [8, 8, 4, 4, 4, 4]
  let depth := (RING_CFG_DEPTH 0).img (d.arg z 2)
  firstBad ([addrOk (d.arg z 0), addrOk (d.arg z 1),
      imgOk (RING_CFG 0) [RING_CFG_EN 0, RING_CFG_PORT 0, RING_CFG_SESSION 0] [] (d.arg z 2),
      need (d.arg z 0 % 64 == 0 && d.arg z 1 % 64 == 0 && decide (4 ≤ depth) && decide (depth ≤ 12)) stBAD]
    ++ ringImgs (d.arg z 3) (d.arg z 4) (d.arg z 5) []
    ++ [need (decide (portOf s d.src < 8)
      || (inDevice (d.arg z 0) (64 * 2 ^ depth) && inDevice (d.arg z 1) (32 * 2 ^ depth))) stBAD])

/-- Both queues of a new ring are admitted. -/
def queuesOk (d : Desc) (s : State) : Bool :=
  let z := [8, 8, 4, 4, 4, 4]
  let n := 2 ^ (RING_CFG_DEPTH 0).img (d.arg z 2)
  checkRange s (settAcq d.session false) none (d.arg z 0) (64 * n) == .ok
    && checkRange s (settAcq d.session true) none (d.arg z 1) (32 * n) == .ok

end Sys2Proof.Claims

/-- R426, R427, R428, R435, R490: rings are created with their registers and a cleared completion queue, configured,
resumed and destroyed. The model's own reading behind it: log entry 45. -/
def Obligations.Rings : Prop :=
  (∀ (d : Desc) (r : Nat) (s : State), canStart d 0x0104 [8, 8, 4, 4, 4, 4] s = true → ringChecks d s = 0 → queuesOk d s = true →
    freeRing s = some r →
    Runs (.ringCreate d) s fun t => ended d stDONE r t ∧ t.isSet (RING_CFG_EN r) = true ∧ t.getF (RING_STAT_STATE r) = 1
      ∧ t.getF (RING_CFG_SESSION r) = d.session ∧ t.getF (RING_CFG_PORT r) = portOf s d.src % 16
      ∧ t.getF (RING_CFG_DEPTH r) = (RING_CFG_DEPTH 0).img (d.arg [8, 8, 4, 4, 4, 4] 2)
      ∧ t.r64 (RING_SQ_LO r) = d.arg [8, 8, 4, 4, 4, 4] 0 ∧ t.r64 (RING_CQ_LO r) = d.arg [8, 8, 4, 4, 4, 4] 1
      ∧ t.getF (RING_SQ_TAIL_TAIL r) = 0 ∧ t.getF (RING_CQ_TAIL_TAIL r) = 0
      ∧ (∀ k, k < 32 * 2 ^ (RING_CFG_DEPTH 0).img (d.arg [8, 8, 4, 4, 4, 4] 2) → t.byte (d.arg [8, 8, 4, 4, 4, 4] 1 + k) = 0)) ∧
  (∀ (d : Desc) (s : State), canStart d 0x0105 [2] s = true → ringC s d (d.arg [2] 0) = 0 → inTable s (d.arg [2] 0) = 0 →
    Runs (.ringDestroy d) s fun t => done d t ∧ t.getF (RING_STAT_STATE (d.arg [2] 0)) = 0
      ∧ t.isSet (RING_CFG_EN (d.arg [2] 0)) = false) ∧
  (∀ (d : Desc) (s : State), canStart d 0x0105 [2] s = true → ringC s d (d.arg [2] 0) = 0 → 0 < inTable s (d.arg [2] 0) →
    s.getF (RING_STAT_FAULT (d.arg [2] 0)) = 0 → (s.ring (d.arg [2] 0)).quiet = false →
    Runs (.ringDestroy d) s fun t => goesOn d (.ringDestroy (d.arg [2] 0)) t ∧ t.getF (RING_STAT_STATE (d.arg [2] 0)) = 4) ∧
  (∀ (d : Desc) (s : State), canStart d 0x0106 [2, 4, 4, 4, 4] s = true → ringC s d (d.arg [2, 4, 4, 4, 4] 0) = 0 →
    imgOk (RING_CFG (d.arg [2, 4, 4, 4, 4] 0)) [] [RING_CFG_EN (d.arg [2, 4, 4, 4, 4] 0), RING_CFG_DEPTH (d.arg [2, 4, 4, 4, 4] 0),
      RING_CFG_PORT (d.arg [2, 4, 4, 4, 4] 0), RING_CFG_SESSION (d.arg [2, 4, 4, 4, 4] 0)] (d.arg [2, 4, 4, 4, 4] 1) = 0 →
    firstBad (ringImgs (d.arg [2, 4, 4, 4, 4] 2) (d.arg [2, 4, 4, 4, 4] 3) (d.arg [2, 4, 4, 4, 4] 4) [RING_IRQ_EN 0]) = 0 →
    ringFetches s (d.arg [2, 4, 4, 4, 4] 0) = true →
    Runs (.ringConfig d) s fun t => done d t
      ∧ t.getF (RING_CFG_ERR_MODE (d.arg [2, 4, 4, 4, 4] 0)) = (RING_CFG_ERR_MODE 0).img (d.arg [2, 4, 4, 4, 4] 1)
      ∧ t.getF (RING_CFG_DEPTH (d.arg [2, 4, 4, 4, 4] 0)) = s.getF (RING_CFG_DEPTH (d.arg [2, 4, 4, 4, 4] 0))
      ∧ t.getF (RING_LIMIT_MAXINF (d.arg [2, 4, 4, 4, 4] 0)) = (RING_LIMIT_MAXINF 0).img (d.arg [2, 4, 4, 4, 4] 2)
      ∧ t.getF (RING_VEC_VEC (d.arg [2, 4, 4, 4, 4] 0)) = (RING_VEC_VEC 0).img (d.arg [2, 4, 4, 4, 4] 4)) ∧
  (∀ (d : Desc) (s : State), canStart d 0x0107 [2] s = true → ringC s d (d.arg [2] 0) = 0 →
    s.getF (RING_STAT_STATE (d.arg [2] 0)) = 2 →
    Runs (.ringResume d) s fun t => t.getF (RING_STAT_STATE (d.arg [2] 0)) = 1
      ∧ if (s.ring (d.arg [2] 0)).fetched < s.r64 (RING_SEQ_LO (d.arg [2] 0)) then done d t
        else goesOn d (.ringResume (d.arg [2] 0) (s.ring (d.arg [2] 0)).fetched) t)

namespace Sys2Proof.Claims

/-- The object's value is what this fabric cycle's inputs make it (R483); no state of the machine is otherwise. -/
def cycOk (s : State) (n : Nat) : Bool :=
  let e := syncCyc s n
  syncValue s n == max (min (e.start + weightOf (e.ins.take 8)) (2 ^ 64 - 1)) e.top && decide (e.top < 2 ^ 64)

/-- No input has reached the object in this fabric cycle. -/
def quietObj (s : State) (n : Nat) : Bool := tabGet none n s.denrek.syncIn == none

/-- A command that signals nothing at its finish. -/
def silent (d : Desc) : Bool := !d.signalEn

end Sys2Proof.Claims

/-! ### Shared guards: bindings -/

namespace Sys2Proof.Claims

/-- Every binding asked for has its event free of others and finds an entry (R446). -/
def bindRoom (s : State) (l : List (Nat × Nat)) : Bool :=
  l.all (fun b => b.2 == 0xFFFF || (decide (b.2 ≤ 4095) && (boundTo s b.1).isEmpty))
    && decide (l.length ≤ ((List.range 1024).filter (fun e => !bindEn s e)).length)

end Sys2Proof.Claims

/-- R446, R451, R452, R467, R482, R483, R487: sync objects are allocated, freed, signalled, added to and read; a signal
sets the greater value, an increment adds and saturates, and the ninth of a cycle waits in the overflow stage;
bindings and shares are made and taken back; a BIND field of 0 to 4,095 binds its event to the object, in the lowest
free entry, and 0xFFFF removes the binding that the same field made. The model's own reading behind it: log entries
46, 64. -/
def Obligations.SyncObjects : Prop :=
  (∀ (d : Desc) (j : Nat) (s : State), canStart d 0x0B01 [2, 8] s = true → s.canonical = true → 1 ≤ d.arg [2, 8] 0 → d.arg [2, 8] 0 ≤ 64 →
    (List.range (4097 - d.arg [2, 8] 0)).find? (fun k => runFree s k (d.arg [2, 8] 0)) = some j →
    Runs (.syncAlloc d) s fun t => ended d stDONE j t ∧ ∀ k, k < d.arg [2, 8] 0 →
      syncValue t (j + k) = d.arg [2, 8] 1 ∧ syncOwner t (j + k) = some (d.session % 1024)) ∧
  (∀ (d : Desc) (s : State), canStart d 0x0B02 [2, 2] s = true → 0 < d.arg [2, 2] 1 → d.arg [2, 2] 0 + d.arg [2, 2] 1 ≤ 4096 →
    (∀ k, k < d.arg [2, 2] 1 → syncOwner s (d.arg [2, 2] 0 + k) = some d.session ∧ hasWaiter s (d.arg [2, 2] 0 + k) = false) →
    Runs (.syncFree d) s fun t => done d t ∧ ∀ k, k < d.arg [2, 2] 1 →
      syncOwner t (d.arg [2, 2] 0 + k) = none ∧ syncValue t (d.arg [2, 2] 0 + k) = 0) ∧
  (∀ (d : Desc) (s : State), canStart d 0x0B03 [2, 8] s = true → syncC s d (d.arg [2, 8] 0) (some 1) = 0 →
    cycOk s (d.arg [2, 8] 0) = true →
    Runs (.syncSignal d) s fun t => ended d stDONE (max (syncValue s (d.arg [2, 8] 0)) (d.arg [2, 8] 1)) t
      ∧ (silent d = true → syncValue t (d.arg [2, 8] 0) = max (syncValue s (d.arg [2, 8] 0)) (d.arg [2, 8] 1))) ∧
  (∀ (d : Desc) (s : State), canStart d 0x0B04 [2, 8] s = true → syncC s d (d.arg [2, 8] 0) (some 1) = 0 →
    quietObj s (d.arg [2, 8] 0) = true →
    Runs (.syncAdd d) s fun t => ended d stDONE (min (syncValue s (d.arg [2, 8] 0) + d.arg [2, 8] 1) (2 ^ 64 - 1)) t
      ∧ (silent d = true →
          syncValue t (d.arg [2, 8] 0) = min (syncValue s (d.arg [2, 8] 0) + d.arg [2, 8] 1) (2 ^ 64 - 1))) ∧
  (∀ (d : Desc) (s : State), canStart d 0x0B04 [2, 8] s = true → syncC s d (d.arg [2, 8] 0) (some 1) = 0 →
    cycOk s (d.arg [2, 8] 0) = true → 8 ≤ (syncCyc s (d.arg [2, 8] 0)).ins.length →
    (∀ x ∈ (syncCyc s (d.arg [2, 8] 0)).ins, x.1 ≤ placeAdd) →
    Runs (.syncAdd d) s fun t => ended d stDONE (syncValue s (d.arg [2, 8] 0)) t
      ∧ (silent d = true → tabGet 0 (d.arg [2, 8] 0) t.denrek.syncOvf
          = weightOf ((syncCyc s (d.arg [2, 8] 0)).ins.drop 8) + d.arg [2, 8] 1)) ∧
  (∀ (d : Desc) (s : State), canStart d 0x0B05 [2] s = true → syncC s d (d.arg [2] 0) (some 0) = 0 →
    Runs (.syncRead d) s fun t => ended d stDONE (syncValue s (d.arg [2] 0)) t) ∧
  (∀ (n v : Nat) (s : State), n < 4096 → s.isSet (SYNC_OWN_VALID n) = true → cycOk s n = true →
    Runs (.syncObjSignalWrite n v) s fun t => syncValue t n = max (syncValue s n) (v % 2 ^ 64)) ∧
  (∀ (delta : Nat) (s : State), s.isSet (SYNC_OWN_VALID (s.getF SYNC_ADD_ID_ID)) = true → delta % 2 ^ 32 ≠ 0 →
    quietObj s (s.getF SYNC_ADD_ID_ID) = true →
    Runs (.syncAddDeltaWrite delta) s fun t => syncValue t (s.getF SYNC_ADD_ID_ID)
      = min (syncValue s (s.getF SYNC_ADD_ID_ID) + delta % 2 ^ 32) (2 ^ 64 - 1)) ∧
  (∀ (n : Nat) (s : State), n < 4096 → s.isSet (SYNC_OWN_VALID n) = true →
    Runs (.syncOwnFreeWrite n) s fun t => syncOwner t n = none ∧ syncValue t n = 0) ∧
  (∀ (n w : Nat) (s : State), s.denrek.syncOvf = [(n, w)] → n < 4096 → syncValue s n + w < 2 ^ 64 →
    Runs .syncOverflowApply s fun t => syncValue t n = syncValue s n + w ∧ t.denrek.syncOvf = []
      ∧ t.getF SYNC_STAT_OVF = satAdd (SYNC_STAT_OVF.hi - SYNC_STAT_OVF.lo + 1) (s.getF SYNC_STAT_OVF) 1) ∧
  (∀ (d : Desc) (e : Nat) (s : State), canStart d 0x0B06 [2, 2] s = true → bindC s d (d.arg [2, 2] 0) (d.arg [2, 2] 1) = 0 →
    (boundTo s (d.arg [2, 2] 0)).any (fun b => b.2.2 == d.arg [2, 2] 1) = false → (boundTo s (d.arg [2, 2] 0)).length < 8 →
    freeBind s = some e →
    Runs (.syncBindEvent d) s fun t => done d t ∧ t.getF (SYNC_BIND_EVENT e) = d.arg [2, 2] 0
      ∧ t.getF (SYNC_BIND_OBJ e) = d.arg [2, 2] 1 ∧ t.isSet (SYNC_BIND_EN e) = true) ∧
  (∀ (d : Desc) (e : Nat) (s : State), canStart d 0x0B07 [2, 2] s = true → evKnown (d.arg [2, 2] 0) = true →
    syncC s d (d.arg [2, 2] 1) none = 0 → e < 1024 → s.denrek.binders.any (fun b => b.1 == e) = true →
    s.getF (SYNC_BIND_EVENT e) = d.arg [2, 2] 0 → s.getF (SYNC_BIND_OBJ e) = d.arg [2, 2] 1 →
    Runs (.syncUnbindEvent d) s fun t => done d t ∧ t.isSet (SYNC_BIND_EN e) = false) ∧
  (∀ (d : Desc) (s : State), canStart d 0x0B08 [2, 2, 1] s = true → syncC s d (d.arg [2, 2, 1] 0) none = 0 →
    d.arg [2, 2, 1] 1 < 1024 → sessOpen s (d.arg [2, 2, 1] 1) = true → d.arg [2, 2, 1] 2 ≤ 3 →
    (s.denrek.shares.filter (fun e => e.1 == d.arg [2, 2, 1] 0)).length < 8 →
    Runs (.syncShare d) s fun t => done d t
      ∧ (d.arg [2, 2, 1] 2 ≠ 0 → (d.arg [2, 2, 1] 0, d.arg [2, 2, 1] 1, d.arg [2, 2, 1] 2) ∈ t.denrek.shares)
      ∧ (d.arg [2, 2, 1] 2 = 0 → ∀ e ∈ t.denrek.shares, ¬ (e.1 = d.arg [2, 2, 1] 0 ∧ e.2.1 = d.arg [2, 2, 1] 1))) ∧
  (∀ (sess fk ev obj e : Nat) (s : State), obj ≤ 4095 → ev < 65536 → boundTo s ev = [] → freeBind s = some e →
    s.denrek.binders.all (fun b => b.1 != e && b.2.2 != fk) = true →
    ∃ t, bindOne sess (fk, ev, obj) s = .ok t ∧ t.getF (SYNC_BIND_EVENT e) = ev ∧ t.getF (SYNC_BIND_OBJ e) = obj
      ∧ t.isSet (SYNC_BIND_EN e) = true ∧ t.mem = s.mem ∧ ∀ a, a ≠ SYNC_BIND e → t.reg a = s.reg a) ∧
  (∀ (sess fk ev e : Nat) (s : State), (e, sess, fk) ∈ s.denrek.binders → e < 1024 → s.getF (SYNC_BIND_EVENT e) = ev →
    ∃ t, bindOne sess (fk, ev, 0xFFFF) s = .ok t ∧ t.isSet (SYNC_BIND_EN e) = false ∧ t.mem = s.mem)

/-! ### Microphone capture (chapter 5) -/

namespace Sys2Proof.Claims

/-- The instant whose strobe is this tick. -/
def strobeInstant (ch p : Nat) (s : State) : Nat := s.now - strobeOf ch p 0

/-- The channel's preset gives an output at this tick, of the PDM bits of its period (R131, R132, R133, R158). -/
def strobeDue (ch p : Nat) (bits : List Bool) (s : State) : Bool :=
  decide (ch < 32) && decide (p < 4) && hearsAt s ch (strobeInstant ch p s) && decide (strobeOf ch p 0 ≤ s.now)
    && decide (gridOf s p ≤ strobeInstant ch p s) && (strobeInstant ch p s - gridOf s p) % decPeriod p == 0
    && presetRuns s ch p (cfgAt s ch (strobeInstant ch p s)).1 && bits.length == bitsPer s ch p

/-- The last 64 filter samples: the newest is the decimating filter's of this period's bits (R128, R139, R152). -/
def strobeHist (ch p : Nat) (bits : List Bool) (s : State) : List Int :=
  let t := strobeInstant ch p s
  let s := stuckGoesOn ch bits (takeSec ch p t (cfgAt s ch t) s)
  ((Config.decFilter p (slowPdm s (chClk s ch)) (tabGet 0 p (s.ch ch).filt) (decInputs s ch p t bits)).2
    :: tabGet [] p (s.ch ch).hist).take 64

/-- The output of R139 over them. -/
def strobeOutput (ch p : Nat) (bits : List Bool) (s : State) : Int × Bool :=
  let cfg := (cfgAt s ch (strobeInstant ch p s)).1
  decArith (firAcc s p (bit (s.isSet (DEC_FIR_CTRL_ACTIVE p))) 0 (strobeHist ch p bits s))
    ((DEC_CH_CFG_INVERT 0).of cfg == 1) (toSigned 8 ((DEC_CH_CFG_GAIN 0).of cfg))

/-- The rights of a channel's block writes. -/
def blockAcq (ch : Nat) (s : State) : Acq :=
  ⟨clsAUDIO, (match s.owner (.channel ch) with | some n => .sess [n] | none => .fw), true⟩

end Sys2Proof.Claims

/-- R139, R140, R141, R143, R146: outputs, blocks written, refused blocks, stuck lines. The model's own reading behind it:
log entry 26. -/
def Obligations.CaptureOutputs : Prop :=
  (∀ (ch p : Nat) (bits : List Bool) (s : State), strobeDue ch p bits s = true →
    Runs (.decOutputStrobe ch p bits) s fun t =>
      tabGet [] p (t.ch ch).hist = strobeHist ch p bits s
      ∧ (p = 0 → (t.ch ch).gust = (strobeOutput ch 0 bits s).1)
      ∧ ((strobeOutput ch p bits s).2 = true → t.isSet (DEC_CH_STAT_CLIP ch) = true ∧ t.isSet DEC_EVT_CLIP = true)) ∧
  (∀ (ch : Nat) (level : Bool) (s : State), ch < 32 → chClocked s ch = true →
    Runs (.decStuckDetect ch level) s fun t => t.isSet (DEC_CH_STAT_STUCK ch) = true ∧ t.isSet DEC_EVT_STUCK = true
      ∧ (t.ch ch).cur = (s.ch ch).cur.map (fun b => { b with stuck := true })
      ∧ (t.ch ch).done = (s.ch ch).done.map (fun b => { b with stuck := true }) ∧ (t.ch ch).stuck = some (level, s.now)) ∧
  (∀ (ch : Nat) (b : DecBlock) (l : List DecBlock) (s : State), ch < 32 → (s.ch ch).done = b :: l →
    checkRange s (blockAcq ch s) none (blockSlot b.base b.size b.nblk b.seq) b.toBytes.length = .ok →
    chanFull s true (blockSlot b.base b.size b.nblk b.seq) b.toBytes.length = false →
    rmwErrs s (blockSlot b.base b.size b.nblk b.seq) b.toBytes.length = [] →
    Runs (.decBlockComplete ch) s fun t => t.bytes (blockSlot b.base b.size b.nblk b.seq) b.toBytes.length = b.toBytes
      ∧ memKept (blockSlot b.base b.size b.nblk b.seq) (blockSlot b.base b.size b.nblk b.seq + b.toBytes.length) s t
      ∧ (t.ch ch).done = l ∧ t.getF (DEC_CH_BUF_STAT_SEQ ch) = (b.seq + 1) % 2 ^ 24) ∧
  (∀ (ch a : Nat) (b : DecBlock) (l : List DecBlock) (s : State), ch < 32 → (s.ch ch).done = b :: l →
    checkRange s (blockAcq ch s) none (blockSlot b.base b.size b.nblk b.seq) b.toBytes.length = .bad a →
    Runs (.decBlockComplete ch) s fun t => memSame s t ∧ t.isSet (DEC_CH_BUF_CFG_EN ch) = false
      ∧ t.isSet DEC_EVT_BUF_FAULT = true ∧ (t.ch ch).sync = true)

namespace Sys2Proof.Claims

/-- A sync event at reset tick `S` merges into the last reset (R137). -/
def syncMerges (S : Nat) (s : State) : Bool :=
  match lastReset s with
  | some l => decide (l ≤ S) && decide (S < l + 128)
  | none => false

/-- What a sync event leaves: counted as merged, or a reset scheduled at S. -/
def syncTaken (S : Nat) (pin : Bool) (s t : State) : Prop :=
  if syncMerges S s then t.getF DEC_SYNC_STAT_MERGED = satAdd 8 (s.getF DEC_SYNC_STAT_MERGED) 1 ∧ t.dec.sched = s.dec.sched
  else ∃ e ∈ t.dec.sched, e.1 = S ∧ (if pin then 0 < e.2.1 else 0 < e.2.2)

end Sys2Proof.Claims

/-- R135, R136, R137, R138, R153, R154: sync events, the reset at S, swap requests and the swap at its boundary. The
model's own reading behind it: log entries 26, 74. -/
def Obligations.SyncAndSwaps : Prop :=
  (∀ (rising : Bool) (s : State), s.isSet DEC_SYNC_CTRL_PIN_EN = true → s.isSet DEC_SYNC_CTRL_EDGE = !rising →
    Runs (.syncInEdge rising) s fun t => t.pins.syncIn = rising ∧ syncTaken (up32 (s.now + 4)) true s t) ∧
  (∀ (rising : Bool) (s : State), s.isSet DEC_SYNC_CTRL_PIN_EN = false →
    Runs (.syncInEdge rising) s fun t => t.pins.syncIn = rising ∧ t.dec = s.dec) ∧
  (∀ s : State, Runs .decSyncGo s fun t => syncTaken (goTick s) false s t ∧ t.isSet DEC_SYNC_CTRL_GO = false) ∧
  (∀ (S pin cmd : Nat) (s : State), nextReset s = some (S, pin, cmd) → S ≤ s.now → asleep s = false →
    Runs .decSyncReset s fun t => t.dec.gridS = S ∧ t.r64 DEC_SYNC_TIME_LO = S % 2 ^ 64 ∧ t.isSet DEC_EVT_SYNC_DONE = true
      ∧ t.getF DEC_SYNC_STAT_COUNT = (s.getF DEC_SYNC_STAT_COUNT + 1) % 65536
      ∧ (∀ e ∈ t.dec.sched, S + 128 ≤ e.1)
      ∧ ∀ ch, ch < 32 → tabGet [] 0 (t.ch ch).hist = [] ∧ tabGet [] 1 (t.ch ch).hist = []) ∧
  (∀ (p : Nat) (s : State), p < 4 →
    Runs (.decSwapRequest p) s fun t =>
      if s.getF (DEC_FIR_CTRL_PENDING p) = 3 then t.getB DEC_EVT_SWAP_DROP p = true ∧ t.dec.swaps = s.dec.swaps
      else t.getF (DEC_FIR_CTRL_PENDING p) = s.getF (DEC_FIR_CTRL_PENDING p) + 1
        ∧ t.dec.swaps = s.dec.swaps ++ [(p, s.now, none)]) ∧
  (∀ (p q land : Nat) (cmd : Option (Src × Nat)) (s : State), p < 4 →
    s.dec.swaps.find? (fun e => e.1 == p) = some (q, land, cmd) → swapBoundary s p land + decLatency p ≤ s.now →
    s.dec.startAt.isSome = true →
    Runs (.decBankSwap p) s fun t => t.getF (DEC_FIR_CTRL_ACTIVE p) = 1 - s.getF (DEC_FIR_CTRL_ACTIVE p)
      ∧ t.getB DEC_EVT_SWAP_DONE p = true ∧ tabGet 0 p t.dec.nextT = swapBoundary s p land + decPeriod p
      ∧ ∀ q, q < 4 → q ≠ p → t.getF (DEC_FIR_CTRL_ACTIVE q) = s.getF (DEC_FIR_CTRL_ACTIVE q))

namespace Sys2Proof.Claims

/-- DEC_SET_CLOCKS' checks (R131, R149, R150). -/
def clocksOk (d : Desc) (s : State) : Bool :=
  let z := [4, 8]
  let clk := fun n => bitsOf (d.arg z 0) (8 * n) 8
  let line := fun k => bitsOf (d.arg z 1) (4 * k) 4
  (List.range 4).all (fun n => decide (clk n < 4))
    && (List.range 16).all (fun k => !(lineGust s k && clk (line k % 4) / 2 == 1))
    && (List.range 16).all (fun k => !lineOpen s k || (let n := s.getF (DEC_LINE_CLK k)
      !(s.isSet (DEC_CLK_EN n)) || (clk n % 2 == 1 && clk n / 2 == bit (slowPdm s n))))

/-- DEC_OPEN_CHANNEL's checks beside its claim. -/
def channelOk (d : Desc) (s : State) : Bool :=
  let z := [1, 4, 4]
  let ch := d.arg z 0
  let sec := (DEC_CH_CFG_SEC 0).img (d.arg z 1)
  let old := s.getF (DEC_CH_CFG_SEC ch)
  decide (ch < 32) && imgOk (DEC_CH_CFG ch) [] [] (d.arg z 1) == 0 && imgOk (DEC_CH_ADJ ch) [] [] (d.arg z 2) == 0
    && !((DEC_CH_CFG_GUST_EN 0).img (d.arg z 1) == 1 && slowPdm s (chClk s ch))
    && (old == 0 || sec == 0 || old == sec || s.owner (.channel ch) == none)

/-- DEC_SET_BUFFER's checks. -/
def bufferOk (d : Desc) : Bool :=
  let z := [1, 8, 4, 2]
  let blk := (DEC_CH_BUF_CFG_BLOCK 0).img (d.arg z 2)
  decide (d.arg z 0 < 32) && decide (d.arg z 1 < 2 ^ 40) && d.arg z 1 % 64 == 0
    && imgOk (DEC_CH_BUF_CFG (d.arg z 0)) [] [] (d.arg z 2) == 0 && decide (8 ≤ blk) && decide (blk ≤ 1024)
    && (DEC_CH_BUF_CFG_NBLK 0).img (d.arg z 2) != 0

/-- DEC_SET_DETECTOR's checks. -/
def detectorOk (d : Desc) : Bool :=
  let z := [1, 1, 4, 4, 4, 4, 2, 2]
  let ch := d.arg z 0
  let win := (DEC_CH_RMS_WIN 0).img (d.arg z 2)
  decide (ch < 32) && decide (d.arg z 1 ≤ 1) && imgOk (DEC_CH_RMS ch) [] [] (d.arg z 2) == 0
    && imgOk (DEC_CH_ENV ch) [] [] (d.arg z 3) == 0 && imgOk (DEC_CH_THR ch 0) [] [] (d.arg z 4) == 0
    && imgOk (DEC_CH_THR ch 1) [] [] (d.arg z 5) == 0 && decide (4 ≤ win) && decide (win ≤ 14)
    && decide ((DEC_CH_ENV_ATT 0).img (d.arg z 3) ≤ 20) && decide ((DEC_CH_ENV_REL 0).img (d.arg z 3) ≤ 20)

/-- The reset tick of a DEC_SYNC (R135). -/
def decSyncTick (d : Desc) (s : State) : Nat :=
  if d.arg [1, 8] 0 = 1 ∧ s.now < d.arg [1, 8] 1 then up32 (d.arg [1, 8] 1) else up32 (s.now + 4)

end Sys2Proof.Claims

/-- R131, R138, R140, R144, R145, R149, R150, R153, R154: the capture commands. The model's own reading behind it: log
entries 14, 26. -/
def Obligations.CaptureCommands : Prop :=
  (∀ (d : Desc) (s : State), canStart d 0x0501 [4, 8] s = true → claimC s d .capture = 0 → clocksOk d s = true →
    Runs (.decSetClocks d) s fun t => done d t ∧ t.owner .capture = some d.session ∧ t.isSet DEC_CTRL_EN = true
      ∧ (∀ n, n < 4 → (t.reg (DEC_CLK n)).toNat = bitsOf (d.arg [4, 8] 0) (8 * n) 8)
      ∧ ∀ k, k < 16 → (t.reg (DEC_LINE k)).toNat = bitsOf (d.arg [4, 8] 1) (4 * k) 4) ∧
  (∀ (d : Desc) (s : State), canStart d 0x0502 [1, 4, 4] s = true → claimC s d (.channel (d.arg [1, 4, 4] 0)) = 0 →
    channelOk d s = true →
    Runs (.decOpenChannel d) s fun t => done d t ∧ t.owner (.channel (d.arg [1, 4, 4] 0)) = some d.session
      ∧ t.getF (DEC_CH_CFG_SEC (d.arg [1, 4, 4] 0)) = (DEC_CH_CFG_SEC 0).img (d.arg [1, 4, 4] 1)
      ∧ t.getF (DEC_CH_CFG_GUST_EN (d.arg [1, 4, 4] 0)) = (DEC_CH_CFG_GUST_EN 0).img (d.arg [1, 4, 4] 1)
      ∧ t.getF (DEC_CH_CFG_GAIN (d.arg [1, 4, 4] 0)) = (DEC_CH_CFG_GAIN 0).img (d.arg [1, 4, 4] 1)
      ∧ t.getF (DEC_CH_ADJ_STAMP_ADJ (d.arg [1, 4, 4] 0)) = (DEC_CH_ADJ_STAMP_ADJ 0).img (d.arg [1, 4, 4] 2)) ∧
  (∀ (d : Desc) (s : State), canStart d 0x0503 [1] s = true → d.arg [1] 0 < 32 → ownC s d (.channel (d.arg [1] 0)) = 0 →
    Runs (.decCloseChannel d) s fun t => done d t ∧ t.owner (.channel (d.arg [1] 0)) = none
      ∧ t.reg (DEC_CH_CFG (d.arg [1] 0)) = 0 ∧ t.isSet (DEC_CH_BUF_CFG_EN (d.arg [1] 0)) = false) ∧
  (∀ (d : Desc) (s : State), canStart d 0x0504 [1, 8, 4, 2] s = true → bufferOk d = true →
    ownC s d (.channel (d.arg [1, 8, 4, 2] 0)) = 0 → bindOwn s d [d.arg [1, 8, 4, 2] 3] = 0 →
    bindRoom s [(0x080 + d.arg [1, 8, 4, 2] 0, d.arg [1, 8, 4, 2] 3)] = true →
    Runs (.decSetBuffer d) s fun t => done d t ∧ t.r64 (DEC_CH_BUF_LO (d.arg [1, 8, 4, 2] 0)) = d.arg [1, 8, 4, 2] 1
      ∧ t.getF (DEC_CH_BUF_CFG_EN (d.arg [1, 8, 4, 2] 0)) = (DEC_CH_BUF_CFG_EN 0).img (d.arg [1, 8, 4, 2] 2)
      ∧ t.getF (DEC_CH_BUF_CFG_BLOCK (d.arg [1, 8, 4, 2] 0)) = (DEC_CH_BUF_CFG_BLOCK 0).img (d.arg [1, 8, 4, 2] 2)) ∧
  (∀ (d : Desc) (s : State), canStart d 0x0505 [1, 1, 4, 4, 4, 4, 2, 2] s = true → detectorOk d = true →
    ownC s d (.channel (d.arg [1, 1, 4, 4, 4, 4, 2, 2] 0)) = 0 →
    bindOwn s d [d.arg [1, 1, 4, 4, 4, 4, 2, 2] 6, d.arg [1, 1, 4, 4, 4, 4, 2, 2] 7] = 0 →
    bindRoom s [(0x0A0 + d.arg [1, 1, 4, 4, 4, 4, 2, 2] 0, d.arg [1, 1, 4, 4, 4, 4, 2, 2] 6),
      (0x0C0 + d.arg [1, 1, 4, 4, 4, 4, 2, 2] 0, d.arg [1, 1, 4, 4, 4, 4, 2, 2] 7)] = true →
    Runs (.decSetDetector d) s fun t => done d t
      ∧ t.getF (DEC_CH_CFG_DET_SRC (d.arg [1, 1, 4, 4, 4, 4, 2, 2] 0)) = d.arg [1, 1, 4, 4, 4, 4, 2, 2] 1
      ∧ t.getF (DEC_CH_RMS_WIN (d.arg [1, 1, 4, 4, 4, 4, 2, 2] 0)) = (DEC_CH_RMS_WIN 0).img (d.arg [1, 1, 4, 4, 4, 4, 2, 2] 2)
      ∧ t.getF (DEC_CH_THR_LEVEL (d.arg [1, 1, 4, 4, 4, 4, 2, 2] 0) 1)
        = (DEC_CH_THR_LEVEL 0 1).img (d.arg [1, 1, 4, 4, 4, 4, 2, 2] 5)) ∧
  (∀ (d : Desc) (s : State), canStart d 0x0507 [1, 2, 8] s = true → d.arg [1, 2, 8] 0 < 4 → ownC s d .capture = 0 →
    memReads d (d.arg [1, 2, 8] 2) 256 s = true →
    Runs (.decLoadCoef d) s fun t => done d t ∧ ∀ k, k < 64 →
      t.getF (DEC_COEF_C (d.arg [1, 2, 8] 0) (otherBank s (d.arg [1, 2, 8] 0)) k)
        = recField (s.bytes (d.arg [1, 2, 8] 2) 256) (4 * k) 4 % 2 ^ 24
      ∧ t.getF (DEC_COEF_C (d.arg [1, 2, 8] 0) (s.getF (DEC_FIR_CTRL_ACTIVE (d.arg [1, 2, 8] 0))) k)
        = s.getF (DEC_COEF_C (d.arg [1, 2, 8] 0) (s.getF (DEC_FIR_CTRL_ACTIVE (d.arg [1, 2, 8] 0))) k)) ∧
  (∀ (d : Desc) (s : State), canStart d 0x0508 [1] s = true → d.arg [1] 0 < 4 → ownC s d .capture = 0 →
    s.getF (DEC_FIR_CTRL_PENDING (d.arg [1] 0)) ≠ 3 →
    Runs (.decSwapBank d) s fun t => goesOn d (.decSwap (d.arg [1] 0)) t
      ∧ t.getF (DEC_FIR_CTRL_PENDING (d.arg [1] 0)) = s.getF (DEC_FIR_CTRL_PENDING (d.arg [1] 0)) + 1
      ∧ t.dec.swaps = s.dec.swaps ++ [(d.arg [1] 0, s.now, some (d.src, d.seq))]) ∧
  (∀ (d : Desc) (s : State), canStart d 0x0508 [1] s = true → d.arg [1] 0 < 4 → ownC s d .capture = 0 →
    s.getF (DEC_FIR_CTRL_PENDING (d.arg [1] 0)) = 3 →
    Runs (.decSwapBank d) s fun t => goesOn d (.decSwap (d.arg [1] 0)) t ∧ t.dec.swaps = s.dec.swaps
      ∧ t.dec.held = s.dec.held ++ [(d.arg [1] 0, d.src, d.seq)]) ∧
  (∀ (d : Desc) (s : State), canStart d 0x0509 [1, 8] s = true → ownC s d .capture = 0 → d.arg [1, 8] 0 ≤ 1 →
    (d.arg [1, 8] 0 = 1 → s.isSet DEC_SYNC_STAT_PENDING = false) →
    Runs (.decSync d) s fun t => syncTaken (decSyncTick d s) false s t
      ∧ if syncMerges (decSyncTick d s) s then ended d stDONE (syncResult s s.dec.gridS) t
        else goesOn d (.decSync (decSyncTick d s)) t)

/-! ### Serial audio ports (chapter 6) -/

namespace Sys2Proof.Claims

/-- A running SLAVE group (R164). -/
def slaveRuns (g : Nat) (s : State) : Bool := decide (g < 4) && grpRole s g == 2 && s.isSet (TDM_CLK_STAT_RUN g)

/-- Slot k of line l of TX n fetches its word for frame i, which begins at `fs`, in this tick, and no change of the slot is in
effect from there on (R168, R172). -/
def fetchesNow (n l k i fs : Nat) (s : State) : Bool :=
  decide (n < 4) && decide (l < 2) && decide (k < tdSlots s n 0) && dueFrame s n l k == some (i, fs) && !changeLands s n l k fs

/-- Slot k takes its words from the FIFO, whose ring is the line's own (R166, R458). -/
def fifoFed (n l k i : Nat) (s : State) : Bool :=
  imgSrc (s.tslot n l k).img == 1 && takesAt s n 0 i && !lineFed s n l

/-- The ring gives an empty FIFO no word by this tick (R166, R184, R190). -/
def ringDry (n l : Nat) (s : State) : Bool :=
  hostFed s n l || !s.isSet (TDM_RING_CFG_EN n 0 l) || ringFill s n 0 l == 0

/-- The words a received frame puts into its guard (R162, R174). -/
def rxWords (n l : Nat) (words : List Nat) (s : State) : List Nat :=
  let d := tdData s n 1
  let N := (fifoSlots s n 1 l).length
  (words.take N).map (fun w => w % 2 ^ 32 / 2 ^ (32 - d) * 2 ^ (32 - d)) ++ List.replicate (N - words.length) 0

/-- Words a TX FIFO takes now, and words an RX FIFO gives now (R166). -/
def refillCount (n l : Nat) (s : State) : Nat := min (64 - (s.tline n 0 l).fifo.length) (ringFill s n 0 l)
def drainCount (n l : Nat) (s : State) : Nat :=
  min (2 ^ clampN 6 15 (s.getF (TDM_RING_CFG_SIZE n 1 l)) - ringFill s n 1 l) (s.tline n 1 l).fifo.length

/-- Every one of the next `m` ring words is admitted and free of uncorrectable errors. -/
def ringWordsOk (n dr l m : Nat) (write : Bool) (s : State) : Bool :=
  (List.range m).all (fun j =>
    let a := ringWord s n dr l (s.getF (TDM_RING_PTR_HW n dr l) + j)
    checkRange s ⟨clsAUDIO, portWho s n, write⟩ none a 4 == .ok && !chanFull s true a 4
      && (if write then (rmwErrs s a 4).isEmpty else (errWords s.ues a 4).isEmpty))

end Sys2Proof.Claims

/-- R162, R164 to R166, R168, R169, R174, R176, R177: an FS edge of a SLAVE group starts a frame at its tick, without FS
the group counts on, without BCLK edges the clock is lost; slots fetch, frames come in, FIFOs refill and drain. The
model's own reading behind it: log entry 28. -/
def Obligations.PortClocksAndWords : Prop :=
  (∀ (g pos period : Nat) (s : State), g < 4 → grpRole s g = 2 →
    Runs (.tdmSlaveFsEdge g pos period) s fun t => t.r64 (TDM_FS_TIME_LO g) = s.now % 2 ^ 64
      ∧ t.isSet (TDM_CLK_STAT_RUN g) = true ∧ t.isSet (TDM_CLK_STAT_LOST g) = false
      ∧ t.getF (TDM_FRAME_CNT_CNT g) = (if s.isSet (TDM_CLK_STAT_RUN g) || s.isSet (TDM_CLK_STAT_LOST g)
          then (s.getF (TDM_FRAME_CNT_CNT g) + 1) % 2 ^ 32 else 1)
      ∧ (s.isSet (TDM_CLK_STAT_RUN g) = true → s.isSet (TDM_CLK_STAT_LOST g) = false →
          t.getF (TDM_BCLK_PER_PER g) = period % 2 ^ 24
          ∧ (pos ≠ s.getF (TDM_CLK_FRAME_LEN g) → t.getB TDM_EVT_FRAME_ERR g = true))) ∧
  (∀ (g : Nat) (s : State), slaveRuns g s = true → s.isSet (TDM_CLK_STAT_LOST g) = false →
    frameStart s g + framePeriod s g ≤ s.now →
    Runs (.tdmFsMissing g) s fun t => frameStart t g = frameStart s g + framePeriod s g
      ∧ t.r64 (TDM_FS_TIME_LO g) = s.r64 (TDM_FS_TIME_LO g)
      ∧ t.getF (TDM_FRAME_CNT_CNT g) = (s.getF (TDM_FRAME_CNT_CNT g) + 1) % 2 ^ 32 ∧ t.getB TDM_EVT_FRAME_ERR g = true) ∧
  (∀ (g pos : Nat) (s : State), slaveRuns g s = true →
    frameStart s g + pos * bclk16 s g / 16 + 2 * framePeriod s g ≤ s.now →
    Runs (.tdmClkLost g pos) s fun t => t.isSet (TDM_CLK_STAT_RUN g) = false ∧ t.isSet (TDM_CLK_STAT_LOST g) = true
      ∧ t.getB TDM_EVT_CLK_LOST g = true) ∧
  (∀ (n l k i fs : Nat) (s : State), fetchesNow n l k i fs s = true → imgSrc (s.tslot n l k).img = 0 →
    Runs (.txSlotFetch n l k) s fun t => (t.tslot n l k).fetchedAt = some s.now ∧ (t.tslot n l k).frame = some i
      ∧ (t.tslot n l k).word = if s.isSet (TDM_CFG_HIZ_UNUSED n 0) || !drivesTx s then none else some 0) ∧
  (∀ (n l k i fs : Nat) (s : State), fetchesNow n l k i fs s = true → imgSrc (s.tslot n l k).img = 2 →
    Runs (.txSlotFetch n l k) s fun t => (t.tslot n l k).fetchedAt = some s.now ∧ (t.tslot n l k).frame = some i
      ∧ (t.tslot n l k).word = if drivesTx s then some (ofSigned (tdData s n 0)
          (slotOut (tabGet 0 ((TDM_TX_SLOT_GUST_OUT 0 0 0).of (s.tslot n l k).img) s.gust.out * 256)
            (toSigned 8 ((TDM_TX_SLOT_GAIN 0 0 0).of (s.tslot n l k).img)) (tdData s n 0) (muteAt s n l k i))) else none) ∧
  (∀ (n l k i fs w : Nat) (mark : Option Nat) (rest : List (Nat × Option Nat)) (s : State), fetchesNow n l k i fs s = true →
    fifoFed n l k i s = true → (dropOwed (s.tline n 0 l)).fifo = (w, mark) :: rest →
    Runs (.txSlotFetch n l k) s fun t => (t.tline n 0 l).fifo = rest ∧ (t.tslot n l k).took = some w
      ∧ (t.tslot n l k).word = if drivesTx s then some (ofSigned (tdData s n 0)
          (slotOut (toSigned 32 w / 2 ^ (32 - tdData s n 0) * 2 ^ (32 - tdData s n 0))
            (toSigned 8 ((TDM_TX_SLOT_GAIN 0 0 0).of (s.tslot n l k).img)) (tdData s n 0) (muteAt s n l k i))) else none) ∧
  (∀ (n l k i fs : Nat) (s : State), fetchesNow n l k i fs s = true → fifoFed n l k i s = true →
    (dropOwed (s.tline n 0 l)).fifo = [] → ringDry n l s = true →
    Runs (.txSlotFetch n l k) s fun t => t.getB TDM_EVT_UNDERRUN n = true ∧ (t.tline n 0 l).miss = (s.tline n 0 l).miss + 1
      ∧ (t.tslot n l k).last = some 0) ∧
  (∀ (n l stamp : Nat) (words : List Nat) (s : State), n < 4 → l < 2 → rxLive s n stamp = true → fifoSlots s n 1 l ≠ [] →
    Runs (.rxFrameReceive n l stamp words) s fun t => (t.guard (1 + 2 * n + l)).frames = (s.guard (1 + 2 * n + l)).frames
      ++ [⟨stamp, rxWords n l words s, min words.length (fifoSlots s n 1 l).length, 0⟩]) ∧
  (∀ (n l : Nat) (s : State), n < 4 → l < 2 → takesAt s n 0 (s.tdir n 0).frames = true → s.isSet (TDM_RING_CFG_EN n 0 l) = true →
    hostFed s n l = false → (s.tline n 0 l).owed = 0 → ringWordsOk n 0 l (refillCount n l s) false s = true →
    Runs (.tdmFifoRefill n l) s fun t => memSame s t
      ∧ t.getF (TDM_RING_PTR_HW n 0 l) = (s.getF (TDM_RING_PTR_HW n 0 l) + refillCount n l s) % 65536
      ∧ (t.tline n 0 l).fifo = (s.tline n 0 l).fifo ++ (List.range (refillCount n l s)).map (fun j =>
          (s.le (ringWord s n 0 l (s.getF (TDM_RING_PTR_HW n 0 l) + j)) 4, none))) ∧
  (∀ (n l : Nat) (s : State), n < 4 → l < 2 → tdState s n 1 ≠ tsWAIT →
    s.isSet (TDM_RING_CFG_EN n 1 l) = true → ringWordsOk n 1 l (drainCount n l s) true s = true →
    Runs (.tdmFifoDrain n l) s fun t => (t.tline n 1 l).fifo = (s.tline n 1 l).fifo.drop (drainCount n l s)
      ∧ t.getF (TDM_RING_PTR_HW n 1 l) = (s.getF (TDM_RING_PTR_HW n 1 l) + drainCount n l s) % 65536
      ∧ ∀ j w m, j < drainCount n l s → (s.tline n 1 l).fifo[j]? = some (w, m) →
          t.le (ringWord s n 1 l (s.getF (TDM_RING_PTR_HW n 1 l) + j)) 4 = w % 2 ^ 32)

namespace Sys2Proof.Claims

/-- The tick a GO chooses (R170). -/
def goTrigger (src at' : Nat) (s : State) : Option Nat :=
  if src = 2 then none else if src = 1 ∧ s.now ≤ at' then some at' else some (up16 (s.now + 4))

/-- The directions of a mask that were IDLE are ARMED, and the trigger pends. -/
def armed (mask : Nat) (s t : State) : Prop :=
  t.isSet TDM_TRIG_CTRL_PENDING = true ∧ t.tdm.trigMask = mask ∧ ∀ n d, n < 4 → d < 2 → bitOf mask (2 * n + d) = true →
    tdState s n d = tsIDLE → tdState t n d = tsARMED ∧ (t.tdir n d).frames = 0
      ∧ (t.tdir n d).lead = s.getF (TDM_CFG_LEAD n d)

/-- What a stop makes of a direction at once (R171, R187, R188). -/
def stopsTo (n d : Nat) (s t : State) : Prop :=
  if tdState s n d = tsIDLE ∨ tdState s n d = tsARMED ∨ tdState s n d = tsWAIT then tdState t n d = tsIDLE
  else if tdState s n d = tsLIVE ∧ d = 0 then tdState t n d = tsMUTING ∨ tdState t n d = tsTAIL
  else if tdState s n d = tsMUTING then tdState t n d = tsMUTING else tdState t n d = tsTAIL

/-- The waiting change of a slot may take effect now: at the fetch of the frame it is in effect for, its own sample being at
a crossing under zero-cross; else after its boundary (R172). -/
def changeMay (n l k : Nat) (s : State) : Bool :=
  match (s.tslot n l k).since with
  | none => false
  | some x => !tdStarted s n 0 || (match dueFrame s n l k with
    | some e => changeLands s n l k e.2
    | none => !zeroCross s n l k && decide (x < frameStart s (tdGroup s n 0)))

/-- The change of a slot is in force; under zero-cross an audible change of source has muted first (R172). -/
def changed (n l k : Nat) (s t : State) : Prop :=
  (t.tslot n l k).img = slotTarget s n l k
    ∧ (t.tslot n l k).muted = ((zeroCross s n l k && srcChanges (s.tslot n l k).img (slotTarget s n l k)
      && !(s.tslot n l k).muted) || effMute s n l k)

end Sys2Proof.Claims

/-- R170 to R173, R185, R187 to R189, R226: the common trigger, the lead, stops and tails; silent changes, their timeout,
and the MUTE_N pin. The model's own reading behind it: log entry 28. -/
def Obligations.StartStopAndChanges : Prop :=
  (∀ s : State, s.isSet TDM_TRIG_CTRL_PENDING = false →
    Runs .tdmTrigGo s fun t => armed (s.getF TDM_TRIG_CTRL_ARM_MASK) s t
      ∧ t.tdm.trigAt = goTrigger (s.getF TDM_TRIG_CTRL_SRC) (s.r64 TDM_TRIG_TIME_LO) s) ∧
  (∀ s : State, s.isSet TDM_TRIG_CTRL_PENDING = true → exec .tdmTrigGo s = .next s) ∧
  (∀ (rising : Bool) (s : State), s.isSet TDM_TRIG_CTRL_PENDING = true → s.getF TDM_TRIG_CTRL_SRC = 2 →
    s.tdm.trigAt = none → s.isSet TDM_TRIG_CTRL_EDGE = !rising →
    Runs (.startInEdge rising) s fun t => t.pins.startIn = rising ∧ t.tdm.trigAt = some (up16 (s.now + 4))) ∧
  (∀ (s : State) (T : Nat), s.tdm.trigAt = some T → T ≤ s.now → s.isSet TDM_TRIG_CTRL_PENDING = true →
    Runs .tdmTrigger s fun t => t.isSet TDM_TRIG_CTRL_PENDING = false ∧ t.r64 TDM_TRIG_LAST_LO = T % 2 ^ 64
      ∧ t.isSet TDM_EVT_TRIG_DONE = true ∧ t.tdm.trigAt = none) ∧
  (∀ (n d : Nat) (s : State), n < 4 → d < 2 → tdState s n d = tsLEAD → (s.tdir n d).lead ≤ (s.tdir n d).frames →
    Runs (.tdmGoLive n d) s fun t => tdState t n d = tsLIVE) ∧
  (∀ (n d : Nat) (s : State), n < 4 → d < 2 → tdState s n d ≤ tsWAIT → Runs (.tdmCtrlStop n d) s fun t => stopsTo n d s t) ∧
  (∀ (n d : Nat) (s : State), n < 4 → d < 2 → tdState s n d = tsTAIL →
    (if d = 0 then s.getF (TDM_CFG_LEAD n d) + 1 else 1) ≤ (s.tdir n d).tail →
    Runs (.tdmTailEnd n d) s fun t => tdState t n d = tsIDLE) ∧
  (∀ (n l k : Nat) (s : State), n < 4 → l < 2 → k < 32 → changeMay n l k s = true →
    Runs (.tdmSilentChange n l k) s fun t => changed n l k s t) ∧
  (∀ (n l k x : Nat) (s : State), n < 4 → l < 2 → k < 32 → (s.tslot n l k).since = some x → zeroCross s n l k = true →
    clampN 1 500 (s.getF (TDM_ZC_TO n 0)) * 49152 ≤ 5 * (s.now - x) →
    Runs (.tdmZcTimeout n l k) s fun t => t.getB TDM_EVT_ZC_TIMEOUT n = true ∧ (t.tslot n l k).img = slotTarget s n l k) ∧
  (∀ (high : Bool) (s : State), s.pins.muteN ≠ high →
    Runs (.muteNChange high) s fun t => t.pins.muteN = high ∧ t.isSet GUST_MUTE_PIN = !high ∧ t.gust.muteNAt = s.now)

namespace Sys2Proof.Claims

/-- TDM_CONFIG_DIR's checks beside its claims. -/
def dirOk (d : Desc) (s : State) : Bool :=
  let z := [1, 1, 4, 4]
  let n := d.arg z 0
  let dr := d.arg z 1
  let img := d.arg z 2
  decide (n < 4) && decide (dr < 2) && imgOk (TDM_CFG n dr) [] [] img == 0
    && (if dr = 1 then d.arg z 3 == 0 else imgOk (TDM_ZC n dr) [] [] (d.arg z 3) == 0 && decide (1 ≤ d.arg z 3)
      && decide (d.arg z 3 ≤ 500))
    && cfgDataOk img && cfgFits img (s.getF (TDM_CLK_FRAME_LEN ((TDM_CFG_CLK_SEL 0 0).img img))) && !tdStarted s n dr

/-- The address of slot k's register of a direction. -/
def slotReg (n dr l k : Nat) : Nat := if dr = 0 then TDM_TX_SLOT n l k else TDM_RX_SLOT n l k

/-- TDM_SET_SLOTS' checks beside its claim. -/
def slotsOk (d : Desc) (s : State) : Bool :=
  let z := [1, 1, 1, 1, 1, 8]
  let imgs := words32 (s.bytes (d.arg z 5) (4 * d.arg z 4))
  decide (d.arg z 0 < 4) && decide (d.arg z 1 < 2) && decide (d.arg z 2 < 2) && decide (1 ≤ d.arg z 4)
    && decide (d.arg z 3 + d.arg z 4 ≤ 32)
    && imgs.all (fun v => imgOk (slotReg (d.arg z 0) (d.arg z 1) (d.arg z 2) 0) [] [] v == 0
      && (d.arg z 1 == 1 || ((TDM_TX_SLOT_SRC 0 0 0).img v != 3 && (TDM_TX_SLOT_SIL 0 0 0).img v != 3)))
    && (!tdStarted s (d.arg z 0) (d.arg z 1)
      || fifoWith s (d.arg z 0) (d.arg z 1) (d.arg z 2) (d.arg z 3) imgs == fifoSlots s (d.arg z 0) (d.arg z 1) (d.arg z 2))

/-- Image k of TDM_SET_SLOTS. -/
def slotImg (d : Desc) (k : Nat) (s : State) : Nat :=
  (words32 (s.bytes (d.arg [1, 1, 1, 1, 1, 8] 5) (4 * d.arg [1, 1, 1, 1, 1, 8] 4))).getD k 0

/-- TDM_SET_RING's checks beside its claim. -/
def tdmRingOk (d : Desc) : Bool :=
  let z := [1, 1, 1, 8, 4, 2]
  decide (d.arg z 0 < 4) && decide (d.arg z 1 < 2) && decide (d.arg z 2 < 2) && decide (d.arg z 3 < 2 ^ 40) && d.arg z 3 % 64 == 0
    && imgOk (TDM_RING_CFG (d.arg z 0) (d.arg z 1) (d.arg z 2)) [] [] (d.arg z 4) == 0
    && decide (6 ≤ (TDM_RING_CFG_SIZE 0 0 0).img (d.arg z 4))

end Sys2Proof.Claims

/-- R160, R163, R165, R170, R171, R172, R173, R179, R180, R188, R519: the port commands. The model's own reading behind
it: log entries 14, 28. -/
def Obligations.PortCommands : Prop :=
  (∀ (d : Desc) (s : State), canStart d 0x0401 [1, 4] s = true → d.arg [1, 4] 0 < 4 → claimC s d (.tdm (d.arg [1, 4] 0)) = 0 →
    imgOk (TDM_CLK (d.arg [1, 4] 0)) [] [] (d.arg [1, 4] 1) = 0 → clkOk (d.arg [1, 4] 1) = true →
    (TDM_CLK_ROLE 0).img (d.arg [1, 4] 1) ≠ 3 → framesFit s (d.arg [1, 4] 0) (d.arg [1, 4] 1) = true →
    grpServes s (d.arg [1, 4] 0) = false →
    Runs (.tdmConfigClock d) s fun t => done d t ∧ t.owner (.tdm (d.arg [1, 4] 0)) = some d.session
      ∧ t.getF (TDM_CLK_ROLE (d.arg [1, 4] 0)) = (TDM_CLK_ROLE 0).img (d.arg [1, 4] 1)
      ∧ t.getF (TDM_CLK_FRAME_LEN (d.arg [1, 4] 0)) = (TDM_CLK_FRAME_LEN 0).img (d.arg [1, 4] 1)
      ∧ t.getF (TDM_CLK_DIV (d.arg [1, 4] 0)) = (TDM_CLK_DIV 0).img (d.arg [1, 4] 1)
      ∧ t.isSet (TDM_CLK_STAT_RUN (d.arg [1, 4] 0)) = false) ∧
  (∀ (d : Desc) (s : State), canStart d 0x0402 [1, 1, 4, 4] s = true → dirOk d s = true →
    dirClaims s d (d.arg [1, 1, 4, 4] 0) ((TDM_CFG_CLK_SEL 0 0).img (d.arg [1, 1, 4, 4] 2)) = 0 →
    Runs (.tdmConfigDir d) s fun t => done d t
      ∧ t.getF (TDM_CFG_SLOTS (d.arg [1, 1, 4, 4] 0) (d.arg [1, 1, 4, 4] 1)) = (TDM_CFG_SLOTS 0 0).img (d.arg [1, 1, 4, 4] 2)
      ∧ t.getF (TDM_CFG_CLK_SEL (d.arg [1, 1, 4, 4] 0) (d.arg [1, 1, 4, 4] 1)) = (TDM_CFG_CLK_SEL 0 0).img (d.arg [1, 1, 4, 4] 2)
      ∧ (d.arg [1, 1, 4, 4] 1 = 0 → t.getF (TDM_ZC_TO (d.arg [1, 1, 4, 4] 0) 0) = d.arg [1, 1, 4, 4] 3)) ∧
  (∀ (d : Desc) (s : State), canStart d 0x0403 [1, 1, 1, 1, 1, 8] s = true → slotsOk d s = true →
    ownC s d (.tdm (d.arg [1, 1, 1, 1, 1, 8] 0)) = 0 →
    memReads d (d.arg [1, 1, 1, 1, 1, 8] 5) (4 * d.arg [1, 1, 1, 1, 1, 8] 4) s = true →
    Runs (.tdmSetSlots d) s fun t =>
      (∀ k, k < d.arg [1, 1, 1, 1, 1, 8] 4 →
        (d.arg [1, 1, 1, 1, 1, 8] 1 = 0 →
          t.getF (TDM_TX_SLOT_SRC (d.arg [1, 1, 1, 1, 1, 8] 0) (d.arg [1, 1, 1, 1, 1, 8] 2) (d.arg [1, 1, 1, 1, 1, 8] 3 + k))
            = (TDM_TX_SLOT_SRC 0 0 0).img (slotImg d k s)) ∧
        (d.arg [1, 1, 1, 1, 1, 8] 1 = 1 →
          t.getF (TDM_RX_SLOT_EN (d.arg [1, 1, 1, 1, 1, 8] 0) (d.arg [1, 1, 1, 1, 1, 8] 2) (d.arg [1, 1, 1, 1, 1, 8] 3 + k))
            = (TDM_RX_SLOT_EN 0 0 0).img (slotImg d k s)))
      ∧ (tdStarted s (d.arg [1, 1, 1, 1, 1, 8] 0) 0 = false ∨ d.arg [1, 1, 1, 1, 1, 8] 1 = 1 → done d t)
      ∧ (done d t ∨ ∃ c, goesOn d (.tdmSlots (d.arg [1, 1, 1, 1, 1, 8] 0) 0 (d.arg [1, 1, 1, 1, 1, 8] 2)
          (d.arg [1, 1, 1, 1, 1, 8] 3) c) t)) ∧
  (∀ (d : Desc) (s : State), canStart d 0x0404 [1, 1, 1, 8, 4, 2] s = true → tdmRingOk d = true →
    ownC s d (.tdm (d.arg [1, 1, 1, 8, 4, 2] 0)) = 0 → bindOwn s d [d.arg [1, 1, 1, 8, 4, 2] 5] = 0 →
    bindRoom s [(0x020 + 4 * d.arg [1, 1, 1, 8, 4, 2] 0 + 2 * d.arg [1, 1, 1, 8, 4, 2] 1 + d.arg [1, 1, 1, 8, 4, 2] 2,
      d.arg [1, 1, 1, 8, 4, 2] 5)] = true →
    Runs (.tdmSetRing d) s fun t => done d t
      ∧ t.r64 (TDM_RING_LO (d.arg [1, 1, 1, 8, 4, 2] 0) (d.arg [1, 1, 1, 8, 4, 2] 1) (d.arg [1, 1, 1, 8, 4, 2] 2))
        = d.arg [1, 1, 1, 8, 4, 2] 3
      ∧ t.getF (TDM_RING_CFG_SIZE (d.arg [1, 1, 1, 8, 4, 2] 0) (d.arg [1, 1, 1, 8, 4, 2] 1) (d.arg [1, 1, 1, 8, 4, 2] 2))
        = (TDM_RING_CFG_SIZE 0 0 0).img (d.arg [1, 1, 1, 8, 4, 2] 4)) ∧
  (∀ (d : Desc) (s : State), canStart d 0x0405 [1, 1, 1, 8] s = true → maskOwn s d (d.arg [1, 1, 1, 8] 0) = 0 →
    d.arg [1, 1, 1, 8] 0 ≠ 0 → d.arg [1, 1, 1, 8] 1 ≤ 2 → d.arg [1, 1, 1, 8] 2 ≤ 1 →
    (d.arg [1, 1, 1, 8] 1 = 1 ∨ d.arg [1, 1, 1, 8] 3 = 0) → s.isSet TDM_TRIG_CTRL_PENDING = false →
    Runs (.tdmStart d) s fun t => goesOn d .tdmStart t ∧ armed (d.arg [1, 1, 1, 8] 0) s t
      ∧ t.tdm.trigAt = goTrigger (d.arg [1, 1, 1, 8] 1) (d.arg [1, 1, 1, 8] 3) s) ∧
  (∀ (d : Desc) (s : State), canStart d 0x0406 [1] s = true → maskOwn s d (d.arg [1] 0) = 0 → d.arg [1] 0 ≠ 0 →
    Runs (.tdmStop d) s fun t =>
      if (List.range 8).all (fun k => !bitOf (d.arg [1] 0) k || !tdStarted t (k / 2) (k % 2)) then done d t
      else goesOn d (.tdmStop (d.arg [1] 0)) t) ∧
  (∀ (d : Desc) (s : State), canStart d 0x0407 [1, 1] s = true → d.arg [1, 1] 0 < 4 → d.arg [1, 1] 1 ≤ 1 →
    Runs (.tdmSetMute d) s fun t => done d t ∧ t.vote (.txMute (d.arg [1, 1] 0)) d.session = some (d.arg [1, 1] 1)
      ∧ t.isSet (TDM_TX_TOUT_VOTE_MUTE (d.arg [1, 1] 0)) = decide (orVote t (.txMute (d.arg [1, 1] 0)) ≠ 0))

/-! ### Rate conversion, the IEC 60958 receiver, guards (chapter 7) -/

namespace Sys2Proof.Claims

/-- A stability test of R195 that completes the lock. -/
def lockTest (n r stamp : Nat) (s : State) : Bool :=
  let x := s.asrc n
  asrcState s n == 1 && decide (2 ^ 40 ≤ 12 * r) && decide (r ≤ 12 * 2 ^ 40) && x.testAt != 0
    && decide (x.testAt + 196608 ≤ stamp) && within r x.testR 1000000 && x.stable == 15

/-- The INWARD output of the next internal instant is due and its block is not full with it (R197). -/
def inwardDue (n : Nat) (s : State) : Bool :=
  decide (n < 8) && s.isSet (ASRC_CFG_EN n) && asrcState s n != 0 && !asrcOut s n && (s.asrc n).everLocked
    && decide ((s.asrc n).nextT ≤ s.now)
    && (match (s.asrc n).cur with
      | some b => decide (b.samples.length + asrcCh s n < b.size * asrcCh s n)
      | none => true)

/-- The next destination frame of an OUTWARD converter is due and its ring admits it (R193, R197). -/
def outwardDue (n : Nat) (s : State) : Bool :=
  let p := asrcExt s n
  let l := s.getF (ASRC_CFG_LINE n)
  let g := asrcGroup s n
  decide (n < 8) && s.isSet (ASRC_CFG_EN n) && asrcOut s n && asrcState s n != 0 && (s.asrc n).everLocked && decide (p < 4)
    && s.isSet (TDM_CLK_STAT_RUN g)
    && decide ((s.asrc n).nextF ≤ s.getF (TDM_FRAME_CNT_CNT g) + 4)
    && decide (asrcCh s n ≤ 2 ^ clampN 6 15 (s.getF (TDM_RING_CFG_SIZE p 0 l)) - ringFill s p 0 l)
    && (List.range (asrcCh s n)).all (fun j =>
      let a := ringWord s p 0 l (s.getF (TDM_RING_PTR_SW p 0 l) + j)
      checkRange s ⟨clsAUDIO, asrcWho s n, true⟩ none a 4 == .ok && !chanFull s true a 4 && (rmwErrs s a 4).isEmpty)

/-- The words of an OUTWARD converter's next internal instant are due (R198). -/
def inputDue (n : Nat) (s : State) : Bool :=
  decide (n < 8) && asrcOut s n && asrcState s n == 2 && decide ((s.asrc n).nextT + 24576 ≤ s.now)

/-- Its ring holds them, and every one can be read. -/
def inputReads (n : Nat) (s : State) : Bool :=
  idxDiff 16 (s.getF (ASRC_RING_PTR_SW n)) (s.getF (ASRC_RING_PTR_HW n)) != 0
    && (List.range (asrcCh s n)).all (fun k =>
      let a := asrcWord s n (s.getF (ASRC_RING_PTR_HW n) + k)
      checkRange s ⟨clsAUDIO, asrcWho s n, false⟩ none a 4 == .ok && !chanFull s true a 4 && (errWords s.ues a 4).isEmpty)

/-- The streams that feed a converter write its empty ring, and their words are read back (R198, R458). -/
def feedReads (n : Nat) (s : State) : Bool :=
  idxDiff 16 (s.getF (ASRC_RING_PTR_SW n)) (s.getF (ASRC_RING_PTR_HW n)) == 0
    && (List.range (asrcCh s n)).all (fun k =>
      let a := asrcWord s n (s.getF (ASRC_RING_PTR_SW n) + k)
      checkRange s ⟨clsAUDIO, asrcWho s n, true⟩ none a 4 == .ok && checkRange s ⟨clsAUDIO, asrcWho s n, false⟩ none a 4 == .ok
        && !chanFull s true a 4 && (rmwErrs s a 4).isEmpty && (errWords s.ues a 4).isEmpty)

/-- The guard of line l of RX n, and the words of its FIFO. -/
def fifoWords (n l : Nat) (s : State) : List Nat := (s.tline n 1 l).fifo.map (·.1)

end Sys2Proof.Claims

/-- R191, R193 to R195, R197, R198, R200 to R204, R211: ratio and lock, the samples in and out of a converter, and its
input; the receiver locks after 16 frames and loses lock, a frame enters its guard, the oldest leaves it at its stamp
plus G with the words of muted pairs at zero, and the mute ends. The model's own reading behind it: log entry 27. -/
def Obligations.ConvertersAndReceiver : Prop :=
  (∀ (n r stamp : Nat) (s : State), n < 8 → asrcState s n ≠ 0 →
    Runs (.asrcTrackUpdate n r stamp) s fun t =>
      t.reg (ASRC_RATIO n) = BitVec.ofNat 32 (roundEvenDiv r (2 ^ 12)).toNat
      ∧ t.isSet (ASRC_STAT_RANGE n) = (decide (12 * r < 2 ^ 40) || decide (12 * 2 ^ 40 < r))) ∧
  (∀ (n r stamp : Nat) (s : State), n < 8 → lockTest n r stamp s = true →
    Runs (.asrcTrackUpdate n r stamp) s fun t => asrcState t n = 2 ∧ (t.asrc n).everLocked = true
      ∧ t.getB ASRC_EVT_LOCK n = true ∧ t.r64 (ASRC_T0_LO n) = ((s.now / asrcPeriod s n + 1) * asrcPeriod s n) % 2 ^ 64) ∧
  (∀ (n : Nat) (s : State), inwardDue n s = true →
    Runs (.asrcOutputSample n) s fun t => (t.asrc n).nextT = (s.asrc n).nextT + asrcPeriod s n
      ∧ ∃ b, (t.asrc n).cur = some b
        ∧ b.samples.length = ((s.asrc n).cur.map (fun b => b.samples.length)).getD 0 + asrcCh s n
        ∧ (asrcState s n ≠ 2 → b.samples.take (asrcCh s n) = List.replicate (asrcCh s n) 0 ∧ b.gap = true)) ∧
  (∀ (n : Nat) (s : State), outwardDue n s = true →
    Runs (.asrcOutputSample n) s fun t => (t.asrc n).nextF = (s.asrc n).nextF + 1
      ∧ t.getF (TDM_RING_PTR_SW (asrcExt s n) 0 (s.getF (ASRC_CFG_LINE n)))
        = (s.getF (TDM_RING_PTR_SW (asrcExt s n) 0 (s.getF (ASRC_CFG_LINE n))) + asrcCh s n) % 65536) ∧
  (∀ (n : Nat) (s : State), inputDue n s = true → converterFed s n = true → feedReads n s = true →
    Runs (.asrcOutwardRead n) s fun t => (t.asrc n).nextT = (s.asrc n).nextT + asrcPeriod s n
      ∧ (t.asrc n).frames.head? = some ((s.asrc n).nextT, (List.range (asrcCh s n)).map (converterWord s n (s.asrc n).nextT))
      ∧ t.getF (ASRC_RING_PTR_SW n) = (s.getF (ASRC_RING_PTR_SW n) + asrcCh s n) % 65536
      ∧ t.getF (ASRC_RING_PTR_HW n) = (s.getF (ASRC_RING_PTR_HW n) + asrcCh s n) % 65536) ∧
  (∀ (n : Nat) (s : State), inputDue n s = true → converterFed s n = false → inputReads n s = true →
    Runs (.asrcOutwardRead n) s fun t => (t.asrc n).nextT = (s.asrc n).nextT + asrcPeriod s n
      ∧ (t.asrc n).frames.head? = some ((s.asrc n).nextT, (List.range (asrcCh s n)).map (fun k =>
          fromHigh (s.le (asrcWord s n (s.getF (ASRC_RING_PTR_HW n) + k)) 4)))
      ∧ t.getF (ASRC_RING_PTR_HW n) = (s.getF (ASRC_RING_PTR_HW n) + asrcCh s n) % 65536) ∧
  (∀ (n : Nat) (s : State), inputDue n s = true → converterFed s n = false →
    idxDiff 16 (s.getF (ASRC_RING_PTR_SW n)) (s.getF (ASRC_RING_PTR_HW n)) = 0 →
    Runs (.asrcOutwardRead n) s fun t => (t.asrc n).nextT = (s.asrc n).nextT + asrcPeriod s n
      ∧ (t.asrc n).frames.head? = some ((s.asrc n).nextT, List.replicate (asrcCh s n) 0)
      ∧ t.getB ASRC_EVT_UNDERRUN n = true) ∧
  (∀ (a b stamp period : Nat) (bs : Bool) (s : State), s.isSet SPDIF_CTRL_EN = true →
    Runs (.spdifFrameReceive a b stamp period bs true) s fun t =>
      t.getF SPDIF_ERR_BIPHASE = satAdd 16 (s.getF SPDIF_ERR_BIPHASE) 1 ∧ t.rate.spdif.run = 0) ∧
  (∀ (a b stamp period : Nat) (bs : Bool) (s : State), s.isSet SPDIF_CTRL_EN = true → s.isSet SPDIF_STAT_LOCK = false →
    s.rate.spdif.run = 15 → spdifRate period ≠ 0 →
    Runs (.spdifFrameReceive a b stamp period bs false) s fun t => t.isSet SPDIF_STAT_LOCK = true ∧ t.isSet SPDIF_EVT_LOCK = true
      ∧ t.getF SPDIF_STAT_RATE = spdifRate period) ∧
  (∀ (a b stamp period : Nat) (bs : Bool) (s : State), s.isSet SPDIF_CTRL_EN = true → s.isSet SPDIF_STAT_LOCK = true →
    Runs (.spdifFrameReceive a b stamp period bs false) s fun t =>
      t.r64 SPDIF_FS_TIME_LO = stamp % 2 ^ 64 ∧ t.getF SPDIF_PERIOD_PER = period % 2 ^ 24
      ∧ (t.guard 0).frames = (s.guard 0).frames
          ++ [⟨stamp, [(subframe s a s.rate.spdif.prevA).1, (subframe s b s.rate.spdif.prevB).1], 2, 0⟩]) ∧
  (∀ s : State, s.isSet SPDIF_STAT_LOCK = true →
    Runs .spdifLockLoss s fun t => t.isSet SPDIF_STAT_LOCK = false ∧ t.isSet SPDIF_EVT_UNLOCK = true ∧ t.getF SPDIF_STAT_RATE = 0
      ∧ t.rate.spdif.run = 0) ∧
  (∀ (g : Nat) (f : GuardFrame) (rest : List GuardFrame) (s : State), (s.guard g).frames = f :: rest →
    f.stamp + guardDelay s g ≤ s.now →
    Runs (.guardFrameRelease g) s fun t => (t.guard g).frames = rest) ∧
  (∀ (n l : Nat) (f : GuardFrame) (rest : List GuardFrame) (s : State), n < 4 → l < 2 →
    (s.guard (1 + 2 * n + l)).frames = f :: rest → f.stamp + guardDelay s (1 + 2 * n + l) ≤ s.now →
    rxLive s n f.stamp = true → (s.tline n 1 l).fifo.length + f.words.length ≤ 64 →
    Runs (.guardFrameRelease (1 + 2 * n + l)) s fun t =>
      fifoWords n l t = fifoWords n l s ++ (muteWords (f.mute ||| (s.guard (1 + 2 * n + l)).muted) f.words).take
        (if s.isSet (TDM_CFG_FAULT_MODE n 1) then f.got else f.words.length)) ∧
  (∀ (g : Nat) (s : State), g < 9 → s.isSet (GUARD_STAT_MUTED g) = true →
    (s.guard g).lastBurst + max 10 ((GUARD_CFG_HOLD g).of (guardCfg s g).1) * 98304 ≤ s.now →
    (g = 0 → (GUARD_CFG_DET_CS 0).of (guardCfg s 0).1 = 1 → s.rate.spdif.nonAudio = false) →
    (s.guard g).due.all (fun q => decide (s.now < q.1)) = true →
    Runs (.guardRelease g) s fun t => t.isSet (GUARD_STAT_MUTED g) = false ∧ t.getF (GUARD_STAT_CAUSE g) = 0
      ∧ t.getB GUARD_EVT_RELEASE g = true ∧ (t.guard g).muted = 0)

namespace Sys2Proof.Claims

/-- ASRC_OPEN's checks beside its claim. -/
def asrcOpenOk (d : Desc) (s : State) : Bool :=
  let z := [4, 4, 4, 8, 4, 2, 2]
  let img := d.arg z 0
  let ext := (ASRC_CFG_EXT 0).img img
  let out := (ASRC_CFG_DIR 0).img img == 1
  let line := (ASRC_CFG_LINE 0).img img
  let rc := d.arg z 4
  decide (ext ≤ 4) && imgOk (ASRC_CFG 0) [ASRC_CFG_EN 0] [] img == 0 && imgOk (ASRC_MAP 0 0) [] [] (d.arg z 1) == 0
    && imgOk (ASRC_MAP 0 1) [] [] (d.arg z 2) == 0 && imgOk (ASRC_RING_CFG 0) [] [] rc == 0 && decide (d.arg z 3 < 2 ^ 40)
    && d.arg z 3 % 64 == 0 && (ASRC_CFG_INT_RATE 0).img img != 3 && (ASRC_CFG_TRACK_BW 0).img img != 3 && !(out && ext == 4)
    && decide (8 ≤ (ASRC_RING_CFG_BLOCK 0).img rc) && decide ((ASRC_RING_CFG_BLOCK 0).img rc ≤ 1024)
    && (ASRC_RING_CFG_NBLK 0).img rc != 0 && decide (6 ≤ (ASRC_RING_CFG_SIZE 0).img rc)
    && (!out || ((fifoSlots s ext 0 line).length == (ASRC_CFG_CH 0).img img + 1 && !lineFed s ext line
      && (List.range 8).all (fun n => !lineFedBy s n ext line)))

/-- The bindings of ASRC_OPEN for converter n. -/
def asrcBinds (d : Desc) (n : Nat) : List (Nat × Nat) :=
  let z := [4, 4, 4, 8, 4, 2, 2]
  [((if (ASRC_CFG_DIR 0).img (d.arg z 0) == 1 then 0x050 + n else 0x048 + n), d.arg z 5), (0x058 + n, d.arg z 6)]

/-- GUARD_CONFIG's checks beside its claim. -/
def guardOk (d : Desc) (s : State) : Bool :=
  let z := [1, 4, 4, 2]
  let g := d.arg z 0
  let pre := (GUARD_CFG_PREVIEW 0).img (d.arg z 1)
  decide (g < 9) && imgOk (GUARD_CFG g) [] [] (d.arg z 1) == 0
    && imgOk (GUARD_PAIRS g) [] [] (d.arg z 2) == 0 && decide (pre ≤ 64) && decide (10 ≤ (GUARD_CFG_HOLD 0).img (d.arg z 1))
    && (pre == s.getF (GUARD_CFG_PREVIEW g) || !guardStarted s g)

end Sys2Proof.Claims

/-- R207, R208: the commands of converters, receiver and guards. The model's own reading behind it: log entries 14, 76. -/
def Obligations.RateCommands : Prop :=
  (∀ (d : Desc) (n : Nat) (s : State), canStart d 0x0306 [4, 4, 4, 8, 4, 2, 2] s = true → asrcOpenOk d s = true →
    ownC s d (extClaim ((ASRC_CFG_EXT 0).img (d.arg [4, 4, 4, 8, 4, 2, 2] 0))) = 0 →
    bindOwn s d [d.arg [4, 4, 4, 8, 4, 2, 2] 5, d.arg [4, 4, 4, 8, 4, 2, 2] 6] = 0 →
    (List.range 8).find? (fun k => s.owner (.converter k) == none) = some n → bindRoom s (asrcBinds d n) = true →
    Runs (.asrcOpen d) s fun t => ended d stDONE n t ∧ t.owner (.converter n) = some d.session ∧ asrcState t n = 1
      ∧ t.isSet (ASRC_CFG_EN n) = true
      ∧ t.getF (ASRC_CFG_EXT n) = (ASRC_CFG_EXT 0).img (d.arg [4, 4, 4, 8, 4, 2, 2] 0)
      ∧ t.r64 (ASRC_RING_LO n) = d.arg [4, 4, 4, 8, 4, 2, 2] 3) ∧
  (∀ (d : Desc) (s : State), canStart d 0x0307 [1] s = true → d.arg [1] 0 < 8 → ownC s d (.converter (d.arg [1] 0)) = 0 →
    Runs (.asrcClose d) s fun t => done d t ∧ t.owner (.converter (d.arg [1] 0)) = none ∧ asrcState t (d.arg [1] 0) = 0
      ∧ t.isSet (ASRC_CFG_EN (d.arg [1] 0)) = false) ∧
  (∀ (d : Desc) (s : State), canStart d 0x0409 [4, 8, 4, 2] s = true → claimC s d .spdif = 0 →
    bindOwn s d [d.arg [4, 8, 4, 2] 3] = 0 → bindRoom s [(0x031, d.arg [4, 8, 4, 2] 3)] = true →
    imgOk SPDIF_CTRL [] [] (d.arg [4, 8, 4, 2] 0) = 0 → d.arg [4, 8, 4, 2] 1 < 2 ^ 40 → d.arg [4, 8, 4, 2] 1 % 64 = 0 →
    imgOk SPDIF_RING_CFG [] [] (d.arg [4, 8, 4, 2] 2) = 0 → 6 ≤ SPDIF_RING_CFG_SIZE.img (d.arg [4, 8, 4, 2] 2) →
    Runs (.spdifConfig d) s fun t => done d t ∧ t.owner .spdif = some d.session
      ∧ t.getF SPDIF_CTRL_EN = SPDIF_CTRL_EN.img (d.arg [4, 8, 4, 2] 0) ∧ t.r64 SPDIF_RING_LO = d.arg [4, 8, 4, 2] 1) ∧
  (∀ (d : Desc) (s : State), canStart d 0x040B [1, 4, 4, 2] s = true → guardOk d s = true →
    ownC s d (guardRes (d.arg [1, 4, 4, 2] 0)) = 0 → bindOwn s d [d.arg [1, 4, 4, 2] 3] = 0 →
    bindRoom s [(0x038 + d.arg [1, 4, 4, 2] 0, d.arg [1, 4, 4, 2] 3)] = true →
    Runs (.guardConfig d) s fun t => done d t
      ∧ t.getF (GUARD_CFG_EN (d.arg [1, 4, 4, 2] 0)) = (GUARD_CFG_EN 0).img (d.arg [1, 4, 4, 2] 1)
      ∧ t.getF (GUARD_CFG_PREVIEW (d.arg [1, 4, 4, 2] 0)) = (GUARD_CFG_PREVIEW 0).img (d.arg [1, 4, 4, 2] 1)
      ∧ t.getF (GUARD_PAIRS_EN (d.arg [1, 4, 4, 2] 0)) = (GUARD_PAIRS_EN 0).img (d.arg [1, 4, 4, 2] 2))

/-! ### The Gust lane (chapter 8) -/

namespace Sys2Proof.Claims

/-- The bank the lane computes from after the exchange that is due in this tick, if one is (R221, R234). -/
def bankNow (s : State) : Nat := gustActive (bankSwap s)

/-- A swap request that lands now: while a load is busy it waits for the load's end (R224). -/
def landNow (s : State) : Option Nat := if s.gust.load.isSome then none else some s.now

/-- A load's images are admitted, find an entry and are free of uncorrectable errors. -/
def gustLoadReads (a n : Nat) (s : State) : Bool :=
  checkRange s ⟨clsAUDIO, (match s.owner .gust with | some m => .sess [m] | none => .fw), false⟩ none a n == .ok
    && !chanFull s true a n && (errWords s.ues a n).isEmpty

end Sys2Proof.Claims

/-- R216, R218, R221, R222, R223, R224, R226, R228, R234: the lane's instants, monitor, banks, copies and loads. The
model's own reading behind it: log entry 26. -/
def Obligations.GustLane : Prop :=
  (∀ (T ramp : Nat) (samples : List (Int × Bool)) (s : State), s.gust.strobed = some (T, samples, ramp) →
    samples.length = 16 → s.now = T + 239 → s.gust.inst ≠ some T →
    Runs .gustWordReady s fun t => t.gust.inst = some T
      ∧ (∀ k, k < 16 → gustHist t.gust k = ((samples.getD k (0, false)).1 :: gustHist s.gust k).take 32
          ∧ t.isSet (GUST_IN_DEAD k) = (samples.getD k (0, false)).2)
      ∧ ∀ o, o < 32 → bitOf s.gust.muted o = true → tabGet 0 o t.gust.out = 0) ∧
  (∀ (o : Nat) (s : State), o < 32 → s.isSet (GUST_OUT_MON_EN o) = true →
    2 ^ clampN 6 14 (s.getF (GUST_OUT_MON_WIN o)) ≤ tabGet 0 o s.gust.monCnt →
    Runs (.gustMonitorWindow o) s fun t =>
      t.getF (GUST_OUT_LVL_LEVEL o) = levelOfSquare (tabGet 0 o s.gust.monSum) (tabGet 0 o s.gust.monCnt)
      ∧ (t.getF (GUST_OUT_LVL_LEVEL o) ≤ s.getF (GUST_OUT_MON_LIMIT o) → t.getB GUST_DIV_STAT_TRIP o = true)
      ∧ tabGet 0 o t.gust.monCnt = 0) ∧
  (∀ (mask : Nat) (s : State), Runs (.gustTripClear mask) s fun t => ∀ o, o < 32 →
    t.getB GUST_DIV_STAT_TRIP o = (s.getB GUST_DIV_STAT_TRIP o && !bitOf mask o)) ∧
  (∀ s : State, Runs .gustSwapRequest s fun t =>
    if s.getF GUST_STAT_PENDING = 3 then t.isSet GUST_EVT_SWAP_DROP = true ∧ t.gust.swaps = s.gust.swaps
    else t.gust.swaps = s.gust.swaps ++ [(landNow s, none)] ∧ t.getF GUST_STAT_PENDING = s.getF GUST_STAT_PENDING + 1) ∧
  (∀ (s : State) (land : Nat) (cmd : Option (Src × Nat)) (rest : List (Option Nat × Option (Src × Nat))),
    s.gust.swaps = (some land, cmd) :: rest → swapDue s land = true →
    Runs .gustBankSwap s fun t => gustActive t = 1 - gustActive s ∧ t.r64 GUST_SWAP_TIME_LO = gustBoundary s land % 2 ^ 64
      ∧ t.isSet GUST_EVT_SWAP_DONE = true ∧ t.gust.swaps = rest ∧ t.gust.nextT = gustBoundary s land + 128) ∧
  (∀ (s : State) (from' : Nat) (kept : List Nat), s.gust.copying = some (from', kept) →
    Runs .gustCopyDone s fun t => t.isSet GUST_STAT_COPYING = false ∧ t.isSet GUST_EVT_COPY_DONE = true ∧ t.gust.copying = none
      ∧ (tabWf (fun _ => (0 : BitVec 24)) s.gust.coef = true → ∀ p w, p < 256 → w < 52 → kept.contains (gustKey 0 p w) = false →
          tabGet 0 (gustKey (1 - gustActive s) p w) t.gust.coef = tabGet 0 (gustKey (gustActive s) p w) s.gust.coef)) ∧
  (∀ (ini : Initiator) (v : Word) (s : State), reaches s ini GUST_COEF_DATA true = true → s.getF GUST_COEF_ADDR_WORD ≤ 51 →
    Runs (.gustCoefWrite ini v) s fun t =>
      tabGet 0 (gustKey (1 - bankNow s) (s.getF GUST_COEF_ADDR_PATH) (s.getF GUST_COEF_ADDR_WORD)) t.gust.coef
        = BitVec.ofNat 24 v.toNat
      ∧ t.getF GUST_COEF_ADDR_WORD = (if s.getF GUST_COEF_ADDR_WORD = 51 then 0 else s.getF GUST_COEF_ADDR_WORD + 1)
      ∧ t.getF GUST_COEF_ADDR_PATH = (if s.getF GUST_COEF_ADDR_WORD = 51 then (s.getF GUST_COEF_ADDR_PATH + 1) % 256
          else s.getF GUST_COEF_ADDR_PATH)) ∧
  (∀ (ini : Initiator) (p : Nat) (v : Word) (s : State), p < 256 → reaches s ini (GUST_PATH p) true = true →
    Runs (.gustPathWrite ini p v) s fun t => (t.reg (GUST_PATH p)).toNat = v.toNat &&& rwMask (GUST_PATH p)
      ∧ t.gust.newPaths = s.gust.newPaths ++ [(p, s.now, t.reg (GUST_PATH p))] ∧ t.gust.paths = s.gust.paths) ∧
  (∀ (ini : Initiator) (s : State), reaches s ini GUST_LOAD_CTRL true = true → s.gust.load = none →
    loadRange (s.getF GUST_LOAD_CTRL_FIRST) (s.getF GUST_LOAD_CTRL_COUNT) = true →
    Runs (.gustLoadGo ini) s fun t => t.isSet GUST_STAT_LOAD_BUSY = true
      ∧ t.gust.load = some (s.getF GUST_LOAD_CTRL_FIRST, s.getF GUST_LOAD_CTRL_COUNT,
          s.getF GUST_LOAD_LO_ADDR * 16 + 2 ^ 32 * s.getF GUST_LOAD_HI_ADDR)) ∧
  (∀ (s : State) (f c a : Nat), s.gust.load = some (f, c, a) → loadRange f c = true → gustLoadReads a (256 * c) (bankSwap s) = true →
    s.marked GUST_LOAD_CTRL_GO 0 = false →
    Runs .gustLoadDone s fun t => t.gust.load = none ∧ t.isSet GUST_STAT_LOAD_BUSY = false ∧ t.isSet GUST_EVT_LOAD_DONE = true
      ∧ ∀ k w, k < c → w < 52 → tabGet 0 (gustKey (1 - bankNow s) (f + k) w) t.gust.coef
          = BitVec.ofNat 24 (recField ((s.bytes a (256 * c)).drop (256 * k)) (4 * w) 4)) ∧
  (∀ (s : State) (f c a b : Nat), s.gust.load = some (f, c, a) →
    checkRange (bankSwap s) ⟨clsAUDIO, (match s.owner .gust with | some m => .sess [m] | none => .fw), false⟩ none a (256 * c)
      = .bad b →
    s.marked GUST_LOAD_CTRL_GO 0 = false →
    Runs .gustLoadDone s fun t => t.gust.load = none ∧ t.isSet GUST_EVT_LOAD_FAULT = true
      ∧ t.gust.coef = (bankSwap s).gust.coef)

namespace Sys2Proof.Claims

/-- The images of GUST_SET_PATHS and of GUST_SET_MONITOR. -/
def gustImgs (d : Desc) (s : State) : List Nat := words32 (s.bytes (d.arg [1, 2, 8] 2) (4 * d.arg [1, 2, 8] 1))
def gustMonImgs (d : Desc) (s : State) : List Nat := words32 (s.bytes (d.arg [1, 1, 8] 2) (4 * d.arg [1, 1, 8] 1))

end Sys2Proof.Claims

/-- R219, R221, R223, R225, R226, R228, R230, R231, R519: the commands of the lane. The model's own reading behind it: log
entry 26. -/
def Obligations.GustCommands : Prop :=
  (∀ (d : Desc) (s : State), canStart d 0x0601 [16, 4] s = true → claimC s d .gust = 0 →
    (List.range 16).all (fun k => decide (d.elem 0 1 k < 64)) = true → imgOk GUST_CTRL [GUST_CTRL_EN] [] (d.arg [16, 4] 1) = 0 →
    GUST_CTRL_RAMP.img (d.arg [16, 4] 1) ≤ 1024 →
    Runs (.gustConfig d) s fun t => done d t ∧ t.owner .gust = some d.session ∧ t.isSet GUST_CTRL_EN = true
      ∧ t.getF GUST_CTRL_RAMP = GUST_CTRL_RAMP.img (d.arg [16, 4] 1)
      ∧ ∀ k, k < 16 → t.getF (GUST_IN_CH k) = d.elem 0 1 k % 32 ∧ t.getF (GUST_IN_EN k) = d.elem 0 1 k / 32) ∧
  (∀ (d : Desc) (s : State), canStart d 0x0602 [1, 2, 8] s = true → ownC s d .gust = 0 →
    loadRange (d.arg [1, 2, 8] 0) (d.arg [1, 2, 8] 1) = true → memReads d (d.arg [1, 2, 8] 2) (4 * d.arg [1, 2, 8] 1) s = true →
    (gustImgs d s).all (fun v => imgOk (GUST_PATH 0) [] [] v == 0 && decide ((GUST_PATH_NBQ 0).img v ≤ 4)) = true →
    Runs (.gustSetPaths d) s fun t => goesOn d .gustPaths t
      ∧ t.gust.newPaths.length = s.gust.newPaths.length + d.arg [1, 2, 8] 1
      ∧ ∀ k, k < d.arg [1, 2, 8] 1 → (t.reg (GUST_PATH (d.arg [1, 2, 8] 0 + k))).toNat = (gustImgs d s).getD k 0) ∧
  (∀ (d : Desc) (s : State), canStart d 0x0603 [1, 2, 8] s = true → ownC s d .gust = 0 →
    loadRange (d.arg [1, 2, 8] 0) (d.arg [1, 2, 8] 1) = true → d.arg [1, 2, 8] 2 < 2 ^ 40 → d.arg [1, 2, 8] 2 % 16 = 0 →
    s.gust.load = none →
    Runs (.gustLoadCoef d) s fun t => goesOn d .gustLoad t ∧ t.isSet GUST_STAT_LOAD_BUSY = true
      ∧ t.gust.load = some (d.arg [1, 2, 8] 0, d.arg [1, 2, 8] 1, d.arg [1, 2, 8] 2)) ∧
  (∀ (d : Desc) (s : State), canStart d 0x0604 [] s = true → ownC s d .gust = 0 → s.getF GUST_STAT_PENDING ≠ 3 →
    Runs (.gustSwap d) s fun t => goesOn d .gustSwap t ∧ t.gust.swaps = s.gust.swaps ++ [(landNow s, some (d.src, d.seq))]
      ∧ t.getF GUST_STAT_PENDING = s.getF GUST_STAT_PENDING + 1) ∧
  (∀ (d : Desc) (s : State), canStart d 0x0605 [1, 2, 2] s = true → ownC s d .gust = 0 → coresFree s d (d.arg [1, 2, 2] 0) = 0 →
    d.arg [1, 2, 2] 0 < 16 → bindOwn s d [d.arg [1, 2, 2] 1, d.arg [1, 2, 2] 2] = 0 →
    bindRoom s [(0x0E0, d.arg [1, 2, 2] 1), (0x0E1, d.arg [1, 2, 2] 2)] = true →
    Runs (.gustBindMarten d) s fun t => done d t ∧ t.getF GUST_MARTEN_CORE_MASK = d.arg [1, 2, 2] 0) ∧
  (∀ (d : Desc) (s : State), canStart d 0x0606 [1, 1, 8] s = true → ownC s d .gust = 0 → 1 ≤ d.arg [1, 1, 8] 1 →
    d.arg [1, 1, 8] 0 + d.arg [1, 1, 8] 1 ≤ 32 → memReads d (d.arg [1, 1, 8] 2) (4 * d.arg [1, 1, 8] 1) s = true →
    (gustMonImgs d s).all (fun v => imgOk (GUST_OUT_MON 0) [] [] v == 0 && decide (6 ≤ (GUST_OUT_MON_WIN 0).img v)
      && decide ((GUST_OUT_MON_WIN 0).img v ≤ 14)) = true →
    Runs (.gustSetMonitor d) s fun t => done d t ∧ ∀ k, k < d.arg [1, 1, 8] 1 →
      t.getF (GUST_OUT_MON_LIMIT (d.arg [1, 1, 8] 0 + k)) = (GUST_OUT_MON_LIMIT 0).img ((gustMonImgs d s).getD k 0)
      ∧ t.getF (GUST_OUT_MON_EN (d.arg [1, 1, 8] 0 + k)) = (GUST_OUT_MON_EN 0).img ((gustMonImgs d s).getD k 0)) ∧
  (∀ (d : Desc) (s : State), canStart d 0x0607 [4] s = true → ownC s d .gust = 0 →
    Runs (.gustClearTrip d) s fun t => done d t ∧ ∀ o, o < 32 →
      t.getB GUST_DIV_STAT_TRIP o = (s.getB GUST_DIV_STAT_TRIP o && !bitOf (d.arg [4] 0) o)) ∧
  (∀ (d : Desc) (s : State), canStart d 0x0608 [4] s = true →
    Runs (.gustSetMute d) s fun t => done d t ∧ t.vote .outMute d.session = some (d.arg [4] 0)
      ∧ t.getF GUST_OUT_MUTE_MASK = orVote t .outMute % 2 ^ 32)

/-! ### Sensing, ego-motion, fusion (chapters 9 and 10) -/

namespace Sys2Proof.Claims

/-- The next pulse of a trigger pin (R239). -/
def pulseAt (n : Nat) (s : State) : Nat := s.r64 (SENSE_SYNC_START_LO n) + tabGet 0 n s.sense.nextK * syncPeriod s n

/-- Frames a block of an accelerometer port takes, and the slot its next block goes to (R140, R242). -/
def sportBlk (n : Nat) (s : State) : Nat := s.getF (SENSE_SPORT_RING_CFG_BLOCK n) + 1
def sportSlot (n : Nat) (r : SportRun) (s : State) : Nat :=
  blockSlot (s.getF (SENSE_SPORT_RING_LO_BASE n) * 64 + 2 ^ 32 * s.getF (SENSE_SPORT_RING_HI_BASE n)) (sportBlk n s * sportSlots r.cfg)
    (max 1 (s.getF (SENSE_SPORT_RING_CFG_NBLK n))) (s.getF (SENSE_SPORT_STAT_SEQ n))

/-- The block of `frames` of the run `r` is whole, and its slot is admitted (R240, R242). -/
def sportDue (n : Nat) (r : SportRun) (frames : List (List Int)) (s : State) : Bool :=
  let len := 16 + 4 * frames.length * sportSlots r.cfg
  decide (n < 2) && tabGet none n s.sense.sport == some r && sportTakes r (sportBlk n s) s.now frames.length
    && checkRange s ⟨clsFOX, foxWho s, true⟩ none (sportSlot n r s) len == .ok && !chanFull s true (sportSlot n r s) len
    && (rmwErrs s (sportSlot n r s) len).isEmpty

/-- The stamp a port's block carries (R242). -/
def sportStamp (n : Nat) (r : SportRun) (s : State) : Nat :=
  ((r.next : Int) - toSigned 16 (s.getF (SENSE_SPORT_ADJ_ADJ n))).toNat

/-- The sample instant of an interrupt-driven read (R243). -/
def imuInstant (s : State) : Nat := ((s.now : Int) - toSigned 16 (s.getF SENSE_IMU_ADJ_ADJ)).toNat

/-- The instant of the ego-motion filter now, and whether it is due (R246). -/
def egoInstant (s : State) : Nat := s.now / 98304 * 98304
def egoDue (s : State) : Bool :=
  s.isSet FOX_CTRL_EN && s.isSet FOX_CTRL_EGO_EN && decide (s.fox.egoAt < egoInstant s) && !asleep s
    && decide (s.now ≤ egoInstant s + 2048)

end Sys2Proof.Claims

/-- R239, R240, R242, R243, R244, R245, R246: trigger pulses, accelerometer blocks, IMU reads, wheel edges, the filter.
The model's own reading behind it: log entries 29, 77. -/
def Obligations.Sensing : Prop :=
  (∀ (n : Nat) (s : State), n < 2 → s.isSet (SENSE_SYNC_CTRL_EN n) = true → asleep s = false → pulseAt n s ≤ s.now →
    Runs (.senseSyncPulse n) s fun t => t.reg (SENSE_SYNC_COUNT n) = BitVec.ofNat 32 (tabGet 0 n s.sense.nextK)
      ∧ t.r64 (SENSE_SYNC_LAST_LO n) = pulseAt n s % 2 ^ 64 ∧ t.getB SENSE_EVT_SYNC_PULSE n = true
      ∧ tabGet 0 n t.sense.nextK = tabGet 0 n s.sense.nextK + 1) ∧
  (∀ (n : Nat) (r : SportRun) (frames : List (List Int)) (s : State), sportDue n r frames s = true →
    Runs (.sportBlockComplete n frames) s fun t => t.le (sportSlot n r s) 8 = sportStamp n r s % 2 ^ 64
      ∧ t.le (sportSlot n r s + 8) 4 = s.getF (SENSE_SPORT_STAT_SEQ n)
      ∧ t.le (sportSlot n r s + 12) 2 = frames.length % 65536
      ∧ t.le (sportSlot n r s + 14) 2 = bit (!r.synced) + 2 * bit (decide (frames.length < sportBlk n s))
      ∧ t.getF (SENSE_SPORT_STAT_SEQ n) = (s.getF (SENSE_SPORT_STAT_SEQ n) + 1) % 2 ^ 32
      ∧ t.getB SENSE_EVT_SPORT_BLOCK n = true) ∧
  (∀ (rising : Bool) (s : State), s.isSet SENSE_IMU_CFG_EN = true → asleep s = false → s.getF SENSE_IMU_CFG_MODE = 1 →
    s.isSet SENSE_IMU_CFG_INT_POL = rising →
    Runs (.spiImuIntEdge rising) s fun t => t.sense.imuInt = rising
      ∧ if s.sense.imuRun.isSome then t.isSet SENSE_EVT_IMU_SKIP = true ∧ t.sense.imuRun = s.sense.imuRun
        else t.sense.imuRun = some (imuInstant s, s.now)) ∧
  (∀ (s : State) (x inst : Nat) (rest : List (Nat × Nat)), s.sense.imuDue = (x, inst) :: rest → x ≤ s.now →
    s.isSet SENSE_IMU_CFG_EN = true → s.sense.imuRun = none →
    Runs .imuReadStart s fun t => t.sense.imuRun = some (inst, s.now) ∧ t.sense.imuDue = rest) ∧
  (∀ (bs : List Byte) (inst began : Nat) (s : State), s.sense.imuRun = some (inst, began) →
    bs.length = clampN 12 16 (s.getF SENSE_IMU_CFG_READ_LEN) → began + imuBitTicks s ≤ s.now →
    Runs (.imuReadDone bs) s fun t => t.sense.imuRun = none ∧ t.r64 SENSE_IMU_TIME_LO = inst % 2 ^ 64
      ∧ t.isSet SENSE_EVT_IMU_SAMPLE = true
      ∧ ∀ j, j < 3 → (t.reg (SENSE_IMU_LAST j)).toNat
          = ofSigned 16 (imuValue s bs (2 * j)) + 65536 * ofSigned 16 (imuValue s bs (2 * j + 1))) ∧
  (∀ (w : Nat) (rising : Bool) (s : State), w < 4 → s.isSet (SENSE_WHEEL_CFG_EN w) = true → asleep s = false →
    Runs (.wheelTickEdge w rising) s fun t =>
      tabGet none w t.sense.wCand = if wheelSelects s w rising then some (s.now, rising) else none) ∧
  (∀ (w x : Nat) (r : Bool) (s : State), w < 4 → tabGet none w s.sense.wCand = some (x, r) →
    x + s.getF (SENSE_WHEEL_CFG_MIN_PULSE w) ≤ s.now →
    Runs (.wheelEdgeAccept w) s fun t => tabGet none w t.sense.wCand = none
      ∧ t.getF (SENSE_WHEEL_COUNT_EDGES w) = (s.getF (SENSE_WHEEL_COUNT_EDGES w) + 1) % 2 ^ 32
      ∧ t.r64 (SENSE_WHEEL_LAST_LO w) = x % 2 ^ 64
      ∧ (s.getB FOX_SENSOR_EN_WHEEL w = true → (tabGet [] w s.sense.wFifo).length < 64 →
          tabGet [] w t.sense.wFifo = tabGet [] w s.sense.wFifo ++ [x])
      ∧ (s.getB FOX_SENSOR_EN_WHEEL w = true → 64 ≤ (tabGet [] w s.sense.wFifo).length →
          t.getB SENSE_EVT_WHEEL_OVF w = true)) ∧
  (∀ s : State, egoDue s = true →
    Runs .egoFilterStep s fun t => t.fox.egoAt = egoInstant s ∧ t.r64 FOX_EGO_TIME_LO = egoInstant s % 2 ^ 64
      ∧ ∀ w, w < 4 → tabGet [] w t.sense.wFifo = [])

/-- R254, R258, R265, R272, R297, R451: directions pushed, the publication, and what a hop boundary raises and applies.
The model's own reading behind it: log entries 29, 30. -/
def Obligations.HopsAndPublications : Prop :=
  (∀ s : State, s.now % hopTicks = 0 → s.pwr.phase ≠ .parked →
    Runs .hopBoundary s fun t => t.fox.writes = [] ∧ t.fox.regWrites = [] ∧ ∀ n, n < 4 → bitOf (t.core n).ipend 22 = true) ∧
  (∀ (core sw : Nat) (s : State), core < 4 → s.getB FOX_MARTEN_CORE_MASK core = true → sw < 65536 →
    Runs (.doaPush core sw) s fun t => t.getF FOX_DOA_PTR_SW = sw
      ∧ if idxDiff 16 sw (s.getF FOX_DOA_PTR_HW) ≤ 256 then t.getF FOX_DOA_PTR_HW = s.getF FOX_DOA_PTR_HW
        else t.isSet FOX_EVT_DOA_DROP = true
          ∧ (s.fox.doaTaken = [] → t.getF FOX_DOA_PTR_HW = (sw + 65536 - 256) % 65536)) ∧
  (∀ (b spk : Nat) (bs : List Byte) (s : State), s.fox.pub = some (b, bs, spk) →
    Runs .foxPublish s fun t => t.fox.pub = none ∧ t.r64 FOX_PUB_TIME_LO = b % 2 ^ 64 ∧ t.isSet FOX_EVT_PUB = true
      ∧ t.getF FOX_PUB_SEQ_SEQ = (s.getF FOX_PUB_SEQ_SEQ + 1) % 2 ^ 32 ∧ t.fox.spoke = spk
      ∧ (spk ≠ s.fox.spoke → t.isSet FOX_EVT_SPEAK = true))

namespace Sys2Proof.Claims

/-- SENSE_SET_SPORT's checks beside its claim. -/
def sportCmdOk (d : Desc) (s : State) : Bool :=
  let z := [1, 4, 4, 8, 4, 2]
  let n := d.arg z 0
  decide (n < 2) && imgOk (SENSE_SPORT_CFG n) [] [] (d.arg z 1) == 0 && imgOk (SENSE_SPORT_ADJ n) [] [] (d.arg z 2) == 0
    && decide (d.arg z 3 < 2 ^ 40) && imgOk (SENSE_SPORT_RING_CFG n) [] [] (d.arg z 4) == 0 && sportOk (d.arg z 1)
    && d.arg z 3 % 64 == 0 && (SENSE_SPORT_RING_CFG_NBLK 0).img (d.arg z 4) != 0
    && (!s.isSet (SENSE_SPORT_CFG_EN n) || d.arg z 1 / 2 == (s.reg (SENSE_SPORT_CFG n)).toNat / 2)

/-- SENSE_SET_IMU's checks beside its claim. -/
def imuCmdOk (d : Desc) (s : State) : Bool :=
  let z := [4, 4, 4, 4, 4, 4, 2]
  let c := d.arg z 0
  let rl := SENSE_IMU_CFG_READ_LEN.img c
  let sck := SENSE_IMU_CFG_SCK_DIV.img c
  imgOk SENSE_IMU_CFG [] [] c == 0 && imgOk SENSE_IMU_DELAY [] [] (d.arg z 2) == 0 && imgOk SENSE_IMU_ADJ [] [] (d.arg z 3) == 0
    && decide (SENSE_IMU_CFG_CMD_LEN.img c ≤ 4) && decide (12 ≤ rl) && decide (rl ≤ 16) && decide (SENSE_IMU_CFG_DATA_OFS.img c ≤ 4)
    && sck % 2 == 0 && decide (4 ≤ sck) && (!s.isSet SENSE_IMU_CFG_EN || c / 2 == (s.reg SENSE_IMU_CFG).toNat / 2)

/-- The image record of FOX_SET_EGO passes its checks. -/
def egoCmdOk (d : Desc) (s : State) : Bool :=
  let bs := s.bytes (d.arg [8, 2, 2] 0) 0xAC
  (List.range 43).all (fun k => recImgOk 0x200B0010 bs k == 0) && FOX_EGO_CFG_WIN_MS.img (recField bs 0 4) != 0
    && decide (4 ≤ FOX_EGO_RING_CFG_SIZE.img (recField bs (FOX_EGO_RING_CFG - 0x200B0010) 4))
    && decide (FOX_EGO_RING_CFG_SIZE.img (recField bs (FOX_EGO_RING_CFG - 0x200B0010) 4) ≤ 12)

end Sys2Proof.Claims

/-- R239 to R249, R270, R271: the commands of sensing. The model's own reading behind it: log entries 14, 29, 77. -/
def Obligations.SenseCommands : Prop :=
  (∀ (d : Desc) (s : State), canStart d 0x0702 [1, 4, 4, 8, 2] s = true → d.arg [1, 4, 4, 8, 2] 0 < 2 → ownC s d .fox = 0 →
    bindOwn s d [d.arg [1, 4, 4, 8, 2] 4] = 0 →
    bindRoom s [(0x100 + d.arg [1, 4, 4, 8, 2] 0, d.arg [1, 4, 4, 8, 2] 4)] = true →
    imgOk (SENSE_SYNC_CTRL (d.arg [1, 4, 4, 8, 2] 0)) [] [] (d.arg [1, 4, 4, 8, 2] 1) = 0 → 12288 ≤ d.arg [1, 4, 4, 8, 2] 2 →
    1 ≤ (SENSE_SYNC_CTRL_WIDTH 0).img (d.arg [1, 4, 4, 8, 2] 1) →
    (SENSE_SYNC_CTRL_WIDTH 0).img (d.arg [1, 4, 4, 8, 2] 1) < d.arg [1, 4, 4, 8, 2] 2 →
    Runs (.senseSetSync d) s fun t => t.r64 (SENSE_SYNC_START_LO (d.arg [1, 4, 4, 8, 2] 0)) = d.arg [1, 4, 4, 8, 2] 3
      ∧ t.getF (SENSE_SYNC_PERIOD_TICKS (d.arg [1, 4, 4, 8, 2] 0)) = d.arg [1, 4, 4, 8, 2] 2
      ∧ ended d stDONE (if (SENSE_SYNC_CTRL_EN 0).img (d.arg [1, 4, 4, 8, 2] 1) = 1 then
          (if s.now + 4 ≤ d.arg [1, 4, 4, 8, 2] 3 then 0
            else ceilDiv (s.now + 4 - d.arg [1, 4, 4, 8, 2] 3) (d.arg [1, 4, 4, 8, 2] 2)) else 0) t) ∧
  (∀ (d : Desc) (s : State), canStart d 0x0703 [1, 4, 4, 8, 4, 2] s = true → sportCmdOk d s = true → ownC s d .fox = 0 →
    bindOwn s d [d.arg [1, 4, 4, 8, 4, 2] 5] = 0 →
    bindRoom s [(0x102 + d.arg [1, 4, 4, 8, 4, 2] 0, d.arg [1, 4, 4, 8, 4, 2] 5)] = true →
    Runs (.senseSetSport d) s fun t => done d t
      ∧ t.getF (SENSE_SPORT_CFG_EN (d.arg [1, 4, 4, 8, 4, 2] 0)) = (SENSE_SPORT_CFG_EN 0).img (d.arg [1, 4, 4, 8, 4, 2] 1)
      ∧ t.getF (SENSE_SPORT_CFG_RDIV (d.arg [1, 4, 4, 8, 4, 2] 0)) = (SENSE_SPORT_CFG_RDIV 0).img (d.arg [1, 4, 4, 8, 4, 2] 1)
      ∧ t.r64 (SENSE_SPORT_RING_LO (d.arg [1, 4, 4, 8, 4, 2] 0)) = d.arg [1, 4, 4, 8, 4, 2] 3) ∧
  (∀ (d : Desc) (s : State), canStart d 0x0704 [4, 4, 4, 4, 4, 4, 2] s = true → imuCmdOk d s = true → ownC s d .fox = 0 →
    bindOwn s d [d.arg [4, 4, 4, 4, 4, 4, 2] 6] = 0 → bindRoom s [(0x104, d.arg [4, 4, 4, 4, 4, 4, 2] 6)] = true →
    Runs (.senseSetImu d) s fun t => done d t
      ∧ t.getF SENSE_IMU_CFG_MODE = SENSE_IMU_CFG_MODE.img (d.arg [4, 4, 4, 4, 4, 4, 2] 0)
      ∧ (t.reg SENSE_IMU_CMD).toNat = d.arg [4, 4, 4, 4, 4, 4, 2] 1
      ∧ (t.reg SENSE_IMU_GSCALE).toNat = d.arg [4, 4, 4, 4, 4, 4, 2] 4
      ∧ (t.reg SENSE_IMU_ASCALE).toNat = d.arg [4, 4, 4, 4, 4, 4, 2] 5) ∧
  (∀ (d : Desc) (s : State), canStart d 0x0705 [1, 4] s = true → d.arg [1, 4] 0 < 4 → ownC s d .fox = 0 →
    imgOk (SENSE_WHEEL_CFG (d.arg [1, 4] 0)) [] [] (d.arg [1, 4] 1) = 0 → (SENSE_WHEEL_CFG_EDGE 0).img (d.arg [1, 4] 1) ≠ 0 →
    Runs (.senseSetWheel d) s fun t => done d t
      ∧ t.getF (SENSE_WHEEL_CFG_EN (d.arg [1, 4] 0)) = (SENSE_WHEEL_CFG_EN 0).img (d.arg [1, 4] 1)
      ∧ t.getF (SENSE_WHEEL_CFG_EDGE (d.arg [1, 4] 0)) = (SENSE_WHEEL_CFG_EDGE 0).img (d.arg [1, 4] 1)
      ∧ t.getF (SENSE_WHEEL_CFG_MIN_PULSE (d.arg [1, 4] 0)) = (SENSE_WHEEL_CFG_MIN_PULSE 0).img (d.arg [1, 4] 1)) ∧
  (∀ (d : Desc) (s : State), canStart d 0x0706 [8, 2, 2] s = true → ownC s d .fox = 0 →
    bindOwn s d [d.arg [8, 2, 2] 1, d.arg [8, 2, 2] 2] = 0 →
    bindRoom s [(0x10B, d.arg [8, 2, 2] 1), (0x10A, d.arg [8, 2, 2] 2)] = true →
    memReads d (d.arg [8, 2, 2] 0) 0xAC s = true → egoCmdOk d s = true →
    Runs (.foxSetEgo d) s fun t => done d t
      ∧ t.getF FOX_EGO_CFG_WIN_MS = FOX_EGO_CFG_WIN_MS.img (recField (s.bytes (d.arg [8, 2, 2] 0) 0xAC) 0 4)
      ∧ (t.reg FOX_EGO_QA).toNat = recField (s.bytes (d.arg [8, 2, 2] 0) 0xAC) (FOX_EGO_QA - 0x200B0010) 4)

namespace Sys2Proof.Claims

/-- Records of a table command. -/
def tableBytes (d : Desc) (z : List Nat) (k n : Nat) (s : State) : List Byte := s.bytes (d.arg z k) n

/-- The observation and measurement records pass their checks (R255, R257). -/
def observeOk (d : Desc) (s : State) : Bool :=
  (List.range (d.arg [1, 8] 0)).all (fun k => let e := entryAt (s.bytes (d.arg [1, 8] 1) (32 * d.arg [1, 8] 0)) 32 k
    decide (recField e 8 1 < 16) && decide (recField e 9 1 < 4) && (obsStamp s e).isSome)
def measureOk (d : Desc) (s : State) : Bool :=
  (List.range (d.arg [1, 8] 0)).all (fun k => let e := entryAt (s.bytes (d.arg [1, 8] 1) (64 * d.arg [1, 8] 0)) 64 k
    decide (1 ≤ recField e 8 1) && decide (recField e 8 1 ≤ 4)
      && (List.range (recField e 8 1)).all (fun j => decide (recField e (0x2C + j) 1 ≤ 8))
      && recField e 0xA 2 == 0 && recField e 0x30 16 == 0)

end Sys2Proof.Claims

/-- R250, R255, R257, R265, R268, R270, R271, R272: the commands of fusion; table writes wait for the hop boundary. The
model's own reading behind it: log entries 14, 29, 30. -/
def Obligations.FoxCommands : Prop :=
  (∀ (d : Desc) (s : State), canStart d 0x0701 [4, 4, 4] s = true → claimC s d .fox = 0 →
    imgOk FOX_CTRL [] [] (d.arg [4, 4, 4] 0) = 0 → imgOk FOX_MARTEN [] [] (d.arg [4, 4, 4] 1) = 0 →
    Runs (.foxConfig d) s fun t => done d t ∧ t.owner .fox = some d.session
      ∧ t.getF FOX_CTRL_EN = FOX_CTRL_EN.img (d.arg [4, 4, 4] 0) ∧ t.getF FOX_CTRL_TRK_EN = FOX_CTRL_TRK_EN.img (d.arg [4, 4, 4] 0)
      ∧ t.getF FOX_MARTEN_CORE_MASK = FOX_MARTEN_CORE_MASK.img (d.arg [4, 4, 4] 1)
      ∧ (t.reg FOX_L2_WIN).toNat = d.arg [4, 4, 4] 2) ∧
  (∀ (d : Desc) (s : State), canStart d 0x0707 [1, 1, 8] s = true → ownC s d .fox = 0 → 1 ≤ d.arg [1, 1, 8] 1 →
    d.arg [1, 1, 8] 0 + d.arg [1, 1, 8] 1 ≤ 64 → memReads d (d.arg [1, 1, 8] 2) (64 * d.arg [1, 1, 8] 1) s = true →
    (List.range (d.arg [1, 1, 8] 1)).all (fun k =>
      xformEntryOk (entryAt (tableBytes d [1, 1, 8] 2 (64 * d.arg [1, 1, 8] 1) s) 64 k) == 0) = true →
    Runs (.foxSetXform d) s fun t => goesOn d .foxTable t
      ∧ t.fox.writes = s.fox.writes ++ [(foxBase + 64 * d.arg [1, 1, 8] 0, tableBytes d [1, 1, 8] 2 (64 * d.arg [1, 1, 8] 1) s)]
      ∧ memSame s t) ∧
  (∀ (d : Desc) (s : State), canStart d 0x0708 [1, 1, 1, 8] s = true → ownC s d .fox = 0 → d.arg [1, 1, 1, 8] 0 ≤ 2 →
    1 ≤ d.arg [1, 1, 1, 8] 2 → d.arg [1, 1, 1, 8] 1 + d.arg [1, 1, 1, 8] 2 ≤ (frameTable (d.arg [1, 1, 1, 8] 0)).2.1 →
    memReads d (d.arg [1, 1, 1, 8] 3) ((frameTable (d.arg [1, 1, 1, 8] 0)).2.2 * d.arg [1, 1, 1, 8] 2) s = true →
    (List.range (d.arg [1, 1, 1, 8] 2)).all (fun k => frameEntryOk (d.arg [1, 1, 1, 8] 0)
      (entryAt (tableBytes d [1, 1, 1, 8] 3 ((frameTable (d.arg [1, 1, 1, 8] 0)).2.2 * d.arg [1, 1, 1, 8] 2) s)
        (frameTable (d.arg [1, 1, 1, 8] 0)).2.2 k) == 0) = true →
    Runs (.foxSetFrames d) s fun t => goesOn d .foxTable t ∧ t.fox.writes = s.fox.writes
      ++ [((frameTable (d.arg [1, 1, 1, 8] 0)).1 + (frameTable (d.arg [1, 1, 1, 8] 0)).2.2 * d.arg [1, 1, 1, 8] 1,
        tableBytes d [1, 1, 1, 8] 3 ((frameTable (d.arg [1, 1, 1, 8] 0)).2.2 * d.arg [1, 1, 1, 8] 2) s)] ∧ memSame s t) ∧
  (∀ (d : Desc) (s : State), canStart d 0x0709 [8] s = true → ownC s d .fox = 0 → memReads d (d.arg [8] 0) 0x30 s = true →
    (List.range 12).all (fun k => recImgOk 0x200B0100 (s.bytes (d.arg [8] 0) 0x30) k == 0) = true →
    FOX_TRK_CFG_MODEL.img (recField (s.bytes (d.arg [8] 0) 0x30) 0 4) ≤ 2 →
    Runs (.foxSetTracker d) s fun t => goesOn d .foxTable t
      ∧ t.fox.regWrites = s.fox.regWrites ++ recImgs s 0x200B0100 12 (s.bytes (d.arg [8] 0) 0x30)
      ∧ t.reg FOX_TRK_CFG = s.reg FOX_TRK_CFG) ∧
  (∀ (d : Desc) (s : State), canStart d 0x070A [4] s = true → ownC s d .fox = 0 → imgOk FOX_SENSOR_EN [] [] (d.arg [4] 0) = 0 →
    Runs (.foxSensorEn d) s fun t => done d t ∧ t.getF FOX_SENSOR_EN_ALL = FOX_SENSOR_EN_ALL.img (d.arg [4] 0)) ∧
  (∀ (d : Desc) (s : State), canStart d 0x070B [1, 16] s = true → ownC s d .fox = 0 → d.arg [1, 16] 0 ≤ 8 →
    (List.range 8).all (fun k => if k < d.arg [1, 16] 0 then decide (d.elem 16 2 k < 1024) else d.elem 16 2 k == 0xFFFF) = true →
    Runs (.foxGrant d) s fun t => done d t ∧ t.denrek.grants = (List.range (d.arg [1, 16] 0)).map (d.elem 16 2)) ∧
  (∀ (d : Desc) (s : State), canStart d 0x070C [1, 8] s = true → grantC s d = 0 → 1 ≤ d.arg [1, 8] 0 → d.arg [1, 8] 0 ≤ 64 →
    memReads d (d.arg [1, 8] 1) (32 * d.arg [1, 8] 0) s = true → observeOk d s = true → queueRoom s (d.arg [1, 8] 0) = true →
    Runs (.foxObserve d) s fun t => done d t ∧ t.fox.arrivals = s.fox.arrivals + d.arg [1, 8] 0
      ∧ t.fox.inq.map (fun q => (q.1, q.2.1, q.2.2.1)) = s.fox.inq.map (fun q => (q.1, q.2.1, q.2.2.1))
        ++ (List.range (d.arg [1, 8] 0)).map (fun k => (s.fox.arrivals + k, 0,
            (obsStamp s (entryAt (s.bytes (d.arg [1, 8] 1) (32 * d.arg [1, 8] 0)) 32 k)).getD 0))) ∧
  (∀ (d : Desc) (s : State), canStart d 0x070D [1, 8] s = true → grantC s d = 0 → 1 ≤ d.arg [1, 8] 0 → d.arg [1, 8] 0 ≤ 64 →
    memReads d (d.arg [1, 8] 1) (64 * d.arg [1, 8] 0) s = true → measureOk d s = true → queueRoom s (d.arg [1, 8] 0) = true →
    Runs (.foxMeasure d) s fun t => done d t ∧ t.fox.inq = s.fox.inq ++ (List.range (d.arg [1, 8] 0)).map (fun k =>
      (s.fox.arrivals + k, 1, recField (entryAt (s.bytes (d.arg [1, 8] 1) (64 * d.arg [1, 8] 0)) 64 k) 0 8,
        entryAt (s.bytes (d.arg [1, 8] 1) (64 * d.arg [1, 8] 0)) 64 k))) ∧
  (∀ (d : Desc) (k : Nat) (s : State), canStart d 0x070E [8, 1, 2, 2] s = true → d.arg [8, 1, 2, 2] 0 ≠ 0 →
    d.arg [8, 1, 2, 2] 0 < 2 ^ 40 → d.arg [8, 1, 2, 2] 0 % 64 = 0 → 1 ≤ d.arg [8, 1, 2, 2] 1 → d.arg [8, 1, 2, 2] 1 ≤ 6 →
    bindOwn s d [d.arg [8, 1, 2, 2] 2, d.arg [8, 1, 2, 2] 3] = 0 →
    bindRoom s [(0x108, d.arg [8, 1, 2, 2] 2), (0x109, d.arg [8, 1, 2, 2] 3)] = true →
    (List.range 8).find? (fun n => s.owner (.subscriber n) == none) = some k →
    Runs (.foxSubscribe d) s fun t => ended d stDONE k t ∧ t.owner (.subscriber k) = some d.session
      ∧ t.isSet (FOX_SUB_CFG_EN k) = true ∧ t.r64 (FOX_SUB_LO k) = d.arg [8, 1, 2, 2] 0
      ∧ t.getF (FOX_SUB_CFG_SIZE k) = d.arg [8, 1, 2, 2] 1 ∧ t.getF (FOX_SUB_CFG_SESSION k) = d.session) ∧
  (∀ (d : Desc) (s : State), canStart d 0x070E [8, 1, 2, 2] s = true → d.arg [8, 1, 2, 2] 0 = 0 →
    bindOwn s d [d.arg [8, 1, 2, 2] 2, d.arg [8, 1, 2, 2] 3] = 0 →
    Runs (.foxSubscribe d) s fun t => done d t ∧ ∀ k, k < 8 → t.owner (.subscriber k) ≠ some d.session)

/-! ### Marten bundles (chapters 10 and 11) -/

namespace Sys2Proof.Claims

/-- The slots of a bundle. -/
def slots (b : BitVec 128) : Bundle := splitBundle b.toNat

/-- Core n is RUNNING with the bundle `b` at its PC, no operand of it outstanding, no stop pending, and nothing of R290,
R292, R300, R316 or R326 against it. -/
def issues (n : Nat) (b : BitVec 128) (s : State) : Bool :=
  decide (n < 4) && coreState s n == 2 && bundleAt s n (s.core n).pc == b.toNat && !bundleStalls (s.core n) (slots b)
    && bundleCheck s n (s.core n) (slots b) == .fine && !(s.core n).stopReq

/-- A row of the MAC slots: where either slot `m` holds the operation, the bundle takes effect. -/
def macRow (row : Nat → BitVec 128 → Instr) (op : Nat) (post : Core → Nat → Core → Prop) : Prop :=
  ∀ (n : Nat) (b : BitVec 128) (s : State) (m : Nat), issues n b s = true → (m = (slots b).mac0 ∨ m = (slots b).mac1) →
    macOp m = op → Runs (row n b) s fun t => post (s.core n) m (t.core n)

/-- The second operand of lane k (R317). -/
def opB (c : Core) (m k : Nat) : Int := c.vlane (macVB m) (if macBC m then macBL m else k)

/-- Every lane of A is the exact value wrapped to 56 bits, and a wrap sets L. -/
def accIs (m : Nat) (f : Nat → Int) (d : Core) : Prop :=
  ∀ k, k < 4 → d.alane (macA m) k = wrapS 56 (f k) ∧ (f k ≠ wrapS 56 (f k) → bitOf d.sr 4 = true)

/-- Every lane of A is the value. -/
def accSet (m : Nat) (f : Nat → Int) (d : Core) : Prop := ∀ k, k < 4 → d.alane (macA m) k = f k

/-- Every lane of VD is the exact value, saturated with L or wrapped (fit24 of R318). -/
def vecFit (m : Nat) (f : Nat → Int) (d : Core) : Prop :=
  ∀ k, k < 4 → d.vlane (macVD m) k = (if macS m then satS 24 (f k) else wrapS 24 (f k))
    ∧ (macS m = true → satS 24 (f k) ≠ f k → bitOf d.sr 4 = true)

/-- Every lane of VD is the value. -/
def vecSet (m : Nat) (f : Nat → Int) (d : Core) : Prop := ∀ k, k < 4 → d.vlane (macVD m) k = f k

/-- Every lane of VD, as 24 bits. -/
def vecBits (m : Nat) (f : Nat → Nat) (d : Core) : Prop := ∀ k, k < 4 → lanePat (d.vlane (macVD m) k) = f k

/-- A search step: each lane that beats the held one is taken with the count (R320). -/
def searched (c : Core) (m : Nat) (beats : Int → Int → Prop) [DecidableRel beats] (d : Core) : Prop :=
  d.creg 0x23 = (c.creg 0x23 + 1) % 65536 ∧ ∀ k, k < 4 →
    if beats (c.vlane (macVA m) k) (tabGet 0 k c.sv).toInt
    then (tabGet 0 k d.sv).toInt = c.vlane (macVA m) k ∧ (tabGet 0 k d.si).toNat = c.creg 0x23 % 65536
    else tabGet 0 k d.sv = tabGet 0 k c.sv ∧ tabGet 0 k d.si = tabGet 0 k c.si

end Sys2Proof.Claims

/-- R282 to R284, R317 to R320: what every MAC-slot operation writes, from the registers as they stood before its bundle.
The model's own reading behind it: log entries 31, 32. -/
def Obligations.MartenMacSlots : Prop :=
  macRow .mMpy 0x01 (fun c m d => accSet m (fun k => 2 * c.vlane (macVA m) k * opB c m k) d) ∧
  macRow .mMac 0x02 (fun c m d => accIs m (fun k => c.alane (macA m) k + 2 * c.vlane (macVA m) k * opB c m k) d) ∧
  macRow .mMsu 0x03 (fun c m d => accIs m (fun k => c.alane (macA m) k - 2 * c.vlane (macVA m) k * opB c m k) d) ∧
  macRow .mMpyi 0x04 (fun c m d => accSet m (fun k => c.vlane (macVA m) k * opB c m k) d) ∧
  macRow .mMaci 0x05 (fun c m d => accIs m (fun k => c.alane (macA m) k + c.vlane (macVA m) k * opB c m k) d) ∧
  macRow .mMsui 0x06 (fun c m d => accIs m (fun k => c.alane (macA m) k - c.vlane (macVA m) k * opB c m k) d) ∧
  macRow .mAdda 0x08 (fun c m d => accIs m (fun k => c.alane (macA m) k + c.alane (m % 8) k) d) ∧
  macRow .mSuba 0x09 (fun c m d => accIs m (fun k => c.alane (macA m) k - c.alane (m % 8) k) d) ∧
  macRow .mClra 0x0A (fun _ m d => accSet m (fun _ => 0) d) ∧
  macRow .mMova 0x0B (fun c m d => accSet m (fun k => c.vlane (macVA m) k * 2 ^ 24) d) ∧
  macRow .mAsra 0x0C (fun c m d => accSet m (fun k => roundEvenDiv (c.alane (macA m) k) (2 ^ (m % 8 + 1))) d) ∧
  macRow .mAsla 0x0D (fun c m d => accIs m (fun k => c.alane (macA m) k * 2 ^ (m % 8 + 1)) d) ∧
  macRow .mNega 0x0E (fun c m d => accIs m (fun k => -c.alane (macA m) k) d) ∧
  macRow .mAbsa 0x0F (fun c m d => accIs m (fun k => ((c.alane (macA m) k).natAbs : Int)) d) ∧
  macRow .mMovr 0x10 (fun c m d => vecFit m (fun k => roundEvenDiv (c.alane (bitsOf m 10 3) k) (2 ^ 24)) d) ∧
  macRow .mVadd 0x11 (fun c m d => vecFit m (fun k => c.vlane (macVA m) k + opB c m k) d) ∧
  macRow .mVsub 0x12 (fun c m d => vecFit m (fun k => c.vlane (macVA m) k - opB c m k) d) ∧
  macRow .mVmax 0x13 (fun c m d => vecSet m (fun k => max (c.vlane (macVA m) k) (opB c m k)) d) ∧
  macRow .mVmin 0x14 (fun c m d => vecSet m (fun k => min (c.vlane (macVA m) k) (opB c m k)) d) ∧
  macRow .mVabs 0x15 (fun c m d => vecFit m (fun k => ((c.vlane (macVA m) k).natAbs : Int)) d) ∧
  macRow .mVneg 0x16 (fun c m d => vecFit m (fun k => -c.vlane (macVA m) k) d) ∧
  macRow .mVmov 0x17 (fun c m d => vecSet m (fun k => opB c m k) d) ∧
  macRow .mVand 0x18 (fun c m d => vecBits m (fun k => lanePat (c.vlane (macVA m) k) &&& lanePat (opB c m k)) d) ∧
  macRow .mVor 0x19 (fun c m d => vecBits m (fun k => lanePat (c.vlane (macVA m) k) ||| lanePat (opB c m k)) d) ∧
  macRow .mVxor 0x1A (fun c m d => vecBits m (fun k => lanePat (c.vlane (macVA m) k) ^^^ lanePat (opB c m k)) d) ∧
  macRow .mVmaxi 0x1C (fun c m d => searched c m (fun n h => h < n) d) ∧
  macRow .mVmini 0x1D (fun c m d => searched c m (fun n h => n < h) d)

/-! ### Move slots -/

namespace Sys2Proof.Claims

/-- A row of the move slots: the slot `m` of X or of Y memory, whose region starts at `base`. -/
def moveRow (row : Nat → BitVec 128 → Instr) (op : Nat) (post : State → Core → Nat → Nat → State → Core → Prop) : Prop :=
  ∀ (n : Nat) (b : BitVec 128) (s : State) (m base : Nat), issues n b s = true →
    (m = (slots b).xm ∧ base = coreX n ∨ m = (slots b).ym ∧ base = coreY n) → xmOp m = op →
    Runs (row n b) s fun t => post s (s.core n) m base t (t.core n)

/-- The word of offset k: its internal address (R285, R286, R289). -/
def wordAt (c : Core) (base m k : Nat) : Nat := base + 4 * ((xmWords c m).getD k 0).toNat

/-- The 24-bit value of a container that slot `m` moves (R285). -/
def containerVal (m w : Nat) : Int := if xmHi m then toSigned 24 (w / 256) else toSigned 24 (w % 2 ^ 24)

/-- The container of a 24-bit value that slot `m` moves (R285). -/
def container (m : Nat) (x : Int) : Nat := if xmHi m then ofSigned 24 x * 256 else ofSigned 32 x

/-- The pointer after the access: updated by the address form, or as it was. -/
def pointerMoves (c : Core) (m : Nat) (d : Core) : Prop := xmUpdates m = true → d.creg (xmPT m) = ofSigned 16 (xmNext c m)

/-- The words a store leaves: the last store to an address stands (a vector in a circular buffer of fewer than four words
stores one word more than once). -/
def stored (c : Core) (m base : Nat) (v : Nat → Int) (t : State) : Prop :=
  ∀ k, k < xmSize m → (∀ j, k < j → j < xmSize m → wordAt c base m j ≠ wordAt c base m k) →
    t.le (wordAt c base m k) 4 = container m (v (if xmVec m then k else xmLane m))

end Sys2Proof.Claims

/-- R282, R284 to R286, R289, R321: loads, stores and pointer updates of the move slots, and every byte of memory outside
the bundle's stored words as it was. The model's own reading behind it: log entries 31, 32. -/
def Obligations.MartenMoveSlots : Prop :=
  moveRow .mLd 0x1 (fun s c m base _ d => pointerMoves c m d ∧
    if xmVec m then ∀ k, k < 4 → d.vlane (xmR m) k = containerVal m (s.le (wordAt c base m k) 4)
    else d.vlane (xmR m) (xmLane m) = containerVal m (s.le (wordAt c base m 0) 4)
      ∧ ∀ k, k < 4 → k ≠ xmLane m → d.vlane (xmR m) k = c.vlane (xmR m) k) ∧
  moveRow .mLdb 0x2 (fun s c m base _ d => pointerMoves c m d ∧
    ∀ k, k < 4 → d.vlane (xmR m) k = containerVal m (s.le (wordAt c base m 0) 4)) ∧
  moveRow .mSt 0x3 (fun _ c m base t d => pointerMoves c m d ∧ stored c m base (fun k => c.vlane (xmR m) k) t) ∧
  moveRow .mSta 0x4 (fun _ c m base t d => pointerMoves c m d ∧
    stored c m base (fun k => let r := roundEvenDiv (c.alane (xmR m) k) (2 ^ 24)
      if xmS m then satS 24 r else wrapS 24 r) t) ∧
  moveRow .mUpd 0x5 (fun _ c m _ _ d => d.creg (xmPT m) = ofSigned 16 (xmNext c m)) ∧
  moveRow .mLda 0x6 (fun s c m base _ d => pointerMoves c m d ∧
    if xmVec m then ∀ k, k < 4 → d.alane (xmR m) k = containerVal m (s.le (wordAt c base m k) 4) * 2 ^ 24
    else d.alane (xmR m) (xmLane m) = containerVal m (s.le (wordAt c base m 0) 4) * 2 ^ 24) ∧
  (∀ (n : Nat) (b : BitVec 128) (s : State), issues n b s = true → ∀ a : Nat,
    (∀ w ∈ bundleStores (s.core n) n (slots b), a < w.1 ∨ w.1 + 4 ≤ a) →
    (issueBundle n b.toNat s).byte a = s.byte a)

/-! ### The control slot -/

namespace Sys2Proof.Claims

/-- Nothing of the debug port or of a REP acts at the boundary after the bundle. -/
def calm (n : Nat) (s : State) : Bool :=
  let c := s.core n
  c.rep == 0 && !c.haltReq && !c.bkpt && c.watch.isNone && !bitOf s.dbg.stepping n
    && (List.range 4).all (fun k => !s.isSet (DBG_CORE_BP_EN n k)) && (List.range 2).all (fun k => !s.isSet (DBG_CORE_WP_CFG_EN n k))

/-- A row of the control slot `x`. -/
def ctlRow (row : Nat → BitVec 128 → Instr) (op : Nat) (post : Core → Nat → Core → Prop) : Prop :=
  ∀ (n : Nat) (b : BitVec 128) (s : State), issues n b s = true → ctlOp (slots b).ctl = op →
    Runs (row n b) s fun t => post (s.core n) (slots b).ctl (t.core n)

/-- C, Z, N and V of SR. -/
def flagsAre (d : Core) (c z n v : Bool) : Prop :=
  bitOf d.sr 0 = c ∧ bitOf d.sr 1 = z ∧ bitOf d.sr 2 = n ∧ bitOf d.sr 3 = v

/-- The value `v` in control register `k` (R322): SR keeps what its flag bits and L become; VBR is a multiple of 64; the
top loop entry is read before the end of its body acts on it. -/
def lands (c : Core) (k v : Nat) (d : Core) : Prop :=
  if k = 0x1C then d.sr / 32 = v % 2 ^ 24 / 32
  else if k = 0x22 then d.creg k = v % 2 ^ 14 / 64 * 64
  else if 0x1D ≤ k ∧ k ≤ 0x1F then
    (c.loops.headD (0, 0, 2 ^ 14)).2.2 ≠ c.pc → (k = 0x1F → v % 2 ^ 14 ≠ c.pc) → d.crVal k = v % 2 ^ crWidth k
  else d.creg k = v % 2 ^ crWidth k

/-- The same for a move, which writes SR's flags too. -/
def moves (c : Core) (k v : Nat) (d : Core) : Prop := lands c k v d ∧ (k = 0x1C → d.sr % 16 = v % 16)

/-- a + b at width w. -/
def sums (c : Core) (k : Nat) (b : Int) (d : Core) : Prop :=
  let w := crWidth k
  let a := c.crVal k
  let y := ofSigned w b
  let r := (a + y) % 2 ^ w
  lands c k r d ∧ flagsAre d (decide (2 ^ w ≤ a + y)) (r == 0) (bitOf r (w - 1))
    (decide (toSigned w a + toSigned w y ≠ toSigned w r))

/-- The flags of a − y at width w (R323). -/
def diffFlags (w a y : Nat) (d : Core) : Prop :=
  let r := (a + 2 ^ w - y) % 2 ^ w
  flagsAre d (decide (a < y)) (r == 0) (bitOf r (w - 1)) (decide (toSigned w a - toSigned w y ≠ toSigned w r))

/-- A bitwise result: C and V are cleared. -/
def bitwise (f : Nat → Nat → Nat) (c : Core) (x : Nat) (d : Core) : Prop :=
  let w := crWidth (ctlCR x)
  let r := f (c.crVal (ctlCR x)) (ofSigned w (c.crExt (ctlCRS x))) % 2 ^ w
  lands c (ctlCR x) r d ∧ flagsAre d false (r == 0) (bitOf r (w - 1)) false

/-- The far access of a control slot joins the queue, and FA advances with INC (R288, R326). -/
def farJoins (c : Core) (x : Nat) (data : List Word) (d : Core) : Prop :=
  d.far = c.far ++ [⟨ctlOp x == 0x21, c.creg (0x18 + ctlFA x), ctlFVEC x, ctlFVR x, ctlFLANE x, ctlFHI x, data⟩]
    ∧ (ctlFINC x = true → d.creg (0x18 + ctlFA x) = (c.creg (0x18 + ctlFA x) + if ctlFVEC x then 16 else 4) % 2 ^ 40)

/-- The containers of a far store. -/
def farWords (c : Core) (x : Nat) : List Word :=
  (if ctlFVEC x then List.range 4 else [ctlFLANE x]).map (fun k =>
    BitVec.ofNat 32 (if ctlFHI x then ofSigned 24 (c.vlane (ctlFVR x) k) * 256 else ofSigned 32 (c.vlane (ctlFVR x) k)))

/-- The lane that SRED takes: `beats` ranks values, the least element index wins among equals (R320). -/
def reducedTo (c : Core) (beats : Int → Int → Prop) (v : Int) (e : Nat) : Prop :=
  ∃ k, k < 4 ∧ v = (tabGet 0 k c.sv).toInt ∧ e = 4 * (tabGet 0 k c.si).toNat + k ∧ ∀ j, j < 4 →
    ¬ beats (tabGet 0 j c.sv).toInt v ∧ ((tabGet 0 j c.sv).toInt = v → e ≤ 4 * (tabGet 0 j c.si).toNat + j)

end Sys2Proof.Claims

/-- R320, R322, R323, R326: what the operations of the control slot write, apart from control flow. The model's own
reading behind it: log entries 31, 32. -/
def Obligations.MartenControlSlot : Prop :=
  ctlRow .mMovi 0x01 (fun c x d => moves c (ctlCR x) (ctlIMM x) d) ∧
  ctlRow .mAddi 0x02 (fun c x d => sums c (ctlCR x) (toSigned 24 (ctlIMM x)) d) ∧
  ctlRow .mCmpi 0x03 (fun c x d => let w := crWidth (ctlCR x)
    diffFlags w (c.crVal (ctlCR x)) (ofSigned w (toSigned 24 (ctlIMM x))) d) ∧
  ctlRow .mFahi 0x04 (fun c x d => d.creg (ctlCR x) = c.creg (ctlCR x) % 2 ^ 24 + 2 ^ 24 * (ctlIMM x % 65536)) ∧
  ctlRow .mMovc 0x05 (fun c x d => moves c (ctlCR x) (ofSigned 40 (c.crExt (ctlCRS x))) d) ∧
  ctlRow .mAdd 0x06 (fun c x d => sums c (ctlCR x) (c.crExt (ctlCRS x)) d) ∧
  ctlRow .mSub 0x07 (fun c x d => let w := crWidth (ctlCR x)
    let y := ofSigned w (c.crExt (ctlCRS x))
    lands c (ctlCR x) ((c.crVal (ctlCR x) + 2 ^ w - y) % 2 ^ w) d ∧ diffFlags w (c.crVal (ctlCR x)) y d) ∧
  ctlRow .mCmp 0x08 (fun c x d => let w := crWidth (ctlCR x)
    diffFlags w (c.crVal (ctlCR x)) (ofSigned w (c.crExt (ctlCRS x))) d) ∧
  ctlRow .mAnd 0x09 (fun c x d => bitwise (· &&& ·) c x d) ∧
  ctlRow .mOr 0x0A (fun c x d => bitwise (· ||| ·) c x d) ∧
  ctlRow .mXor 0x0B (fun c x d => bitwise (· ^^^ ·) c x d) ∧
  ctlRow .mMvvc 0x0C (fun c x d => moves c (ctlCR x) (ofSigned 40 (c.vlane (ctlVR x) (ctlLANE x))) d) ∧
  ctlRow .mMvcv 0x0D (fun c x d => d.vlane (ctlVR x) (ctlLANE x) = wrapS 24 (c.crExt (ctlCR x))
    ∧ ∀ k, k < 4 → k ≠ ctlLANE x → d.vlane (ctlVR x) k = c.vlane (ctlVR x) k) ∧
  ctlRow .mCmpv 0x0E (fun c x d =>
    diffFlags 24 (lanePat (c.vlane (ctlVR x) (ctlLANE x))) (lanePat (c.vlane (ctlVT x) (ctlLT x))) d) ∧
  ctlRow .mCmpvi 0x0F (fun c x d => diffFlags 24 (lanePat (c.vlane (ctlKVR x) (ctlKLANE x))) (ctlIMM x) d) ∧
  ctlRow .mLdf 0x20 (fun c x d => farJoins c x [] d) ∧
  ctlRow .mStf 0x21 (fun c x d => farJoins c x (farWords c x) d) ∧
  ctlRow .mIclr 0x25 (fun c x d => ∀ k, k < 32 → bitOf d.ipend k = (decide (k ≠ ctlARG x) && bitOf c.ipend k)) ∧
  ctlRow .mSetipl 0x26 (fun _ x d => d.ipl = ctlARG x) ∧
  ctlRow .mSinit 0x28 (fun _ x d => d.creg 0x23 = 0 ∧ ∀ k, k < 4 →
    (tabGet 0 k d.sv).toInt = (if ctlARG x = 1 then 2 ^ 23 - 1 else -(2 ^ 23)) ∧ tabGet 0 k d.si = 0) ∧
  ctlRow .mSred 0x29 (fun c x d => let r := bitsOf (ctlARG x) 2 4
    d.vlane r 2 = 0 ∧ d.vlane r 3 = 0 ∧
      ∃ e : Nat, d.vlane r 1 = e ∧ reducedTo c (fun a b => if bitOf (ctlARG x) 0 then a < b else b < a) (d.vlane r 0) e) ∧
  (∀ (n : Nat) (b : BitVec 128) (s : State), issues n b s = true → calm n s = true → ctlOp (slots b).ctl = 0x2C →
    Runs (.mBkpt n b) s fun t => if bkptOpen s then coreState t n = 4 ∧ t.getF (DBG_CORE_CTRL_CAUSE n) = 5
      else coreState t n = 2 ∧ (t.core n).bkpt = false)

/-! ### Control flow -/

namespace Sys2Proof.Claims

/-- A row of control flow. -/
def flowRow (row : Nat → BitVec 128 → Instr) (op : Nat) (post : Core → Nat → Core → Prop) : Prop :=
  ∀ (n : Nat) (b : BitVec 128) (s : State), issues n b s = true → (s.core n).rep = 0 → ctlOp (slots b).ctl = op →
    Runs (row n b) s fun t => post (s.core n) (slots b).ctl (t.core n)

/-- The bundle after PC. -/
def nextPc (c : Core) : Nat := (c.pc + 1) % 2 ^ 14

/-- A loop of `k` passes starts, or its body is skipped (R291, R325). -/
def loopStarts (c : Core) (x k : Nat) (d : Core) : Prop :=
  if k = 0 then d.loops = c.loops ∧ d.pc = (ctlLA x + 1) % 2 ^ 14
  else d.loops = (k, c.pc + 1, ctlLA x) :: c.loops ∧ d.pc = nextPc c

end Sys2Proof.Claims

/-- R291, R292, R298, R299, R324, R325: branches, subroutines, returns, loops, REP, WAIT, and the bundle after any other.
The model's own reading behind it: log entries 31, 33. -/
def Obligations.MartenControlFlow : Prop :=
  flowRow .mBra 0x10 (fun c x d => d.pc = (if condHolds c.sr (ctlCOND x) then ctlTARGET x else nextPc c)) ∧
  flowRow .mJsr 0x11 (fun c x d => if condHolds c.sr (ctlCOND x) then d.pc = ctlTARGET x ∧ d.rets = (c.pc + 1, c.sr) :: c.rets
    else d.pc = nextPc c ∧ d.rets = c.rets) ∧
  flowRow .mRts 0x12 (fun c _ d => d.pc = (c.rets.headD (0, 0)).1 % 2 ^ 14 ∧ d.rets = c.rets.tail) ∧
  flowRow .mRti 0x13 (fun c _ d => d.pc = (c.rets.headD (0, 0)).1 % 2 ^ 14 ∧ d.rets = c.rets.tail
    ∧ d.ipl = bitsOf (c.rets.headD (0, 0)).2 8 2 ∧ d.sr % 16 = (c.rets.headD (0, 0)).2 % 16) ∧
  flowRow .mDo 0x18 (fun c x d => loopStarts c x (ctlCOUNT x) d) ∧
  flowRow .mDov 0x19 (fun c x d => loopStarts c x (lanePat (c.vlane (ctlKVR x) (ctlKLANE x))) d) ∧
  flowRow .mRep 0x1A (fun c x d => d.rep = ctlCOUNT x ∧ d.pc = nextPc c ∧ d.loops = c.loops) ∧
  flowRow .mRepc 0x1B (fun c x d => d.rep = c.crVal (ctlCRS x) % 65536 ∧ d.pc = nextPc c ∧ d.loops = c.loops) ∧
  flowRow .mLeave 0x1C (fun c _ d => d.loops = c.loops.tail ∧ d.pc = ((c.loops.headD (0, 0, 0)).2.2 + 1) % 2 ^ 14) ∧
  (∀ (n : Nat) (b : BitVec 128) (s : State), issues n b s = true → calm n s = true → ctlOp (slots b).ctl = 0x24 →
    Runs (.mWait n b) s fun t => coreState t n = (if (acceptable (s.core n)).isNone then 3 else 2)
      ∧ (t.core n).waiting = (acceptable (s.core n)).isNone) ∧
  (∀ (n : Nat) (b : BitVec 128) (s : State), issues n b s = true → ctlFlow (ctlOp (slots b).ctl) = false →
    ctlPutsCr (ctlOp (slots b).ctl) = false →
    let c := s.core n
    let d := (issueBundle n b.toNat s).core n
    (1 < c.rep → d.rep = c.rep - 1 ∧ d.pc = c.pc ∧ d.loops = c.loops) ∧
    (c.rep ≤ 1 → d.rep = 0 ∧ match c.loops with
      | (lc, ls, la) :: r =>
        if la = c.pc then (if 1 < lc then d.pc = ls % 2 ^ 14 ∧ d.loops = (lc - 1, ls, la) :: r
          else d.pc = (la + 1) % 2 ^ 14 ∧ d.loops = r)
        else d.pc = nextPc c ∧ d.loops = c.loops
      | [] => d.pc = nextPc c ∧ d.loops = []))

/-! ### Marten cores: sources, far accesses, DMA, controls and commands (chapter 10) -/

namespace Sys2Proof.Claims

/-- The level of an interrupt source (R297). -/
def srcLevel (c : Core) (k : Nat) : Nat := bitsOf (c.creg (0x24 + k / 8)) (2 * (k % 8)) 2

/-- A range of the core's far accesses is on-chip or 5X memory, admitted, with an entry free and no uncorrectable error. -/
def farPlain (n : Nat) (f : FarAcc) (s : State) : Bool :=
  kindOf s f.addr != .regs && (hostOf s f.addr).isNone && coreRange s n f.addr (farLen f) f.store == .ok
    && !chanFull s (bwClass s (coreAcq s n f.store) (some n) == 0) f.addr (farLen f)
    && (if f.store then (rmwErrs s f.addr (farLen f)).isEmpty else (errWords s.ues f.addr (farLen f)).isEmpty)

/-- A transfer between memories, admitted, with no uncorrectable error. -/
def dmaPlain (n : Nat) (r : DmaRun) (s : State) : Bool :=
  kindOf s r.srcA != .regs && kindOf s r.dst != .regs && (hostOf s r.srcA).isNone && dmaCheck s n r == .ok
    && (errWords s.ues r.srcA r.len).isEmpty && (errWords s.ues r.dst r.len).isEmpty

end Sys2Proof.Claims

/-- R288, R297, R298, R301, R302, R306, R311: the timer, interrupts, far accesses, DMA, RUN, STOP, SIGNAL and XCORE. The
model's own reading behind it: log entries 34, 48. -/
def Obligations.MartenEngines : Prop :=
  (∀ (n : Nat) (s : State), n < 4 → s.isSet (MARTEN_TIMER_CTRL_EN n) = true → (s.core n).timed = false →
    s.r64 (MARTEN_TIMER_LO n) ≤ s.now →
    Runs (.martenTimer n) s fun t => bitOf (t.core n).ipend 21 = true ∧ (t.core n).timed = true) ∧
  (∀ (n k lv : Nat) (s : State), n < 4 → (coreState s n = 2 ∨ coreState s n = 3) → (s.core n).rep = 0 →
    bitOf s.dbg.stepping n = false → acceptable (s.core n) = some (k, lv) → (s.core n).rets.length < 16 →
    Runs (.martenInterruptAccept n) s fun t => (t.core n).pc = ((s.core n).creg 0x22 + 2 * k) % 2 ^ 14
      ∧ (t.core n).rets = ((s.core n).pc, (s.core n).sr) :: (s.core n).rets ∧ (t.core n).ipl = lv
      ∧ bitOf (t.core n).ipend k = false
      ∧ ∀ j, j < 32 → j ≠ k → bitOf (t.core n).ipend j = bitOf (s.core n).ipend j) ∧
  (∀ (n k lv : Nat) (s : State), n < 4 → (coreState s n = 2 ∨ coreState s n = 3) → (s.core n).rep = 0 →
    bitOf s.dbg.stepping n = false → acceptable (s.core n) = some (k, lv) → 16 ≤ (s.core n).rets.length →
    Runs (.martenInterruptAccept n) s fun t => coreState t n = 5 ∧ t.getF (MARTEN_FAULT_CAUSE n) = 4) ∧
  (∀ (c : Core) (k lv : Nat), acceptable c = some (k, lv) → k < 32 ∧ bitOf c.ipend k = true ∧ lv = srcLevel c k ∧ c.ipl < lv
    ∧ ∀ j, j < 32 → bitOf c.ipend j = true → c.ipl < srcLevel c j → srcLevel c j < lv ∨ (srcLevel c j = lv ∧ k ≤ j)) ∧
  (∀ (n : Nat) (f : FarAcc) (r : List FarAcc) (s : State), n < 4 → (s.core n).far = f :: r → f.store = false →
    farPlain n f s = true → noneCloses s = true →
    Runs (.farAccessReturn n) s fun t => (t.core n).far = r ∧ memSame s t ∧
      if f.vec then ∀ k, k < 4 → (t.core n).vlane f.reg k = unbox f.hi (s.le (f.addr + 4 * k) 4)
      else (t.core n).vlane f.reg f.lane = unbox f.hi (s.le f.addr 4)) ∧
  (∀ (n : Nat) (f : FarAcc) (r : List FarAcc) (s : State), n < 4 → (s.core n).far = f :: r → f.store = true →
    f.data.length = (if f.vec then 4 else 1) → farPlain n f s = true → noneCloses s = true →
    Runs (.farAccessReturn n) s fun t => (t.core n).far = r ∧ memKept f.addr (f.addr + farLen f) s t
      ∧ t.bytes f.addr (farLen f) = f.data.flatMap (fun w => leBytes 4 w.toNat)) ∧
  (∀ (n a : Nat) (f : FarAcc) (r : List FarAcc) (s : State), n < 4 → (s.core n).far = f :: r →
    (f.vec = true → kindOf s f.addr ≠ .regs) → coreRange s n f.addr (farLen f) f.store = .bad a → a < 2 ^ 40 →
    coreState s n = 2 → noneCloses s = true →
    Runs (.farAccessReturn n) s fun t => coreState t n = 5 ∧ t.getF (MARTEN_FAULT_CAUSE n) = 1
      ∧ t.isSet (MARTEN_FAULT_IMPRECISE n) = true ∧ t.r64 (MARTEN_FADDR_LO n) = a ∧ bitOf (t.core n).sr 12 = true
      ∧ (t.core n).far = r ∧ t.getB MARTEN_EVT_FAULT n = true ∧ memSame s t) ∧
  (∀ (n : Nat) (f : FarAcc) (r : List FarAcc) (s : State), n < 4 → (s.core n).far = f :: r → f.vec = true →
    kindOf s f.addr = .regs → coreState s n = 2 → noneCloses s = true →
    Runs (.farAccessReturn n) s fun t => coreState t n = 5 ∧ t.getF (MARTEN_FAULT_CAUSE n) = 1
      ∧ t.r64 (MARTEN_FADDR_LO n) = f.addr ∧ (t.core n).far = r ∧ memSame s t) ∧
  (∀ (n c : Nat) (s : State), n < 4 → c < 4 → s.isSet (MARTEN_DMA_CTRL_BUSY n c) = false →
    s.getF (MARTEN_DMA_LEN_BYTES n c) ≠ 0 →
    Runs (.martenDmaGo n c) s fun t => t.isSet (MARTEN_DMA_CTRL_BUSY n c) = true ∧ ∃ ok, dmaOf t n c
      = some ⟨s.r64 (MARTEN_DMA_SRC_LO n c), s.r64 (MARTEN_DMA_DST_LO n c),
          min 262144 (4 * s.getF (MARTEN_DMA_LEN_BYTES n c)), ok⟩) ∧
  (∀ (n c : Nat) (r : DmaRun) (s : State), n < 4 → c < 4 → dmaOf s n c = some r → dmaPlain n r s = true →
    hostDone s (.dma n c) = true → s.hostif.bad.contains (.dma n c) = false → noneCloses s = true →
    s.marked (MARTEN_DMA_CTRL_GO n c) 0 = false →
    Runs (.martenDmaEnd n c) s fun t => t.bytes r.dst r.len = s.bytes r.srcA r.len ∧ memKept r.dst (r.dst + r.len) s t
      ∧ bitOf (t.core n).ipend (16 + c) = true ∧ t.isSet (MARTEN_DMA_CTRL_BUSY n c) = false) ∧
  (∀ (n : Nat) (s : State), n < 4 → (coreState s n = 1 ∨ coreState s n = 5) → bpAt s n (s.getF (MARTEN_ENTRY_BUNDLE n)) = none →
    Runs (.martenCtrlRun n) s fun t => coreState t n = 2 ∧ (t.core n).pc = s.getF (MARTEN_ENTRY_BUNDLE n)
      ∧ (t.core n).loops = [] ∧ (t.core n).rets = [] ∧ (t.core n).ipend = 0 ∧ t.reg (MARTEN_PERF_CYC n) = 0) ∧
  (∀ (n : Nat) (s : State), n < 4 → (coreState s n = 2 ∨ coreState s n = 3) →
    Runs (.martenCtrlStop n) s fun t => (t.core n).loops = (s.core n).loops ∧
      if (s.core n).rep = 0 then coreState t n = 1 ∧ t.getF (MARTEN_PC_BUNDLE n) = (s.core n).pc % 2 ^ 14
      else coreState t n = coreState s n ∧ (t.core n).stopReq = true) ∧
  (∀ (n : Nat) (v : Word) (s : State), n < 4 →
    Runs (.martenSignalRaise n v) s fun t => t.getF (MARTEN_SIGNAL_VALUE n) = v.toNat / 256 ∧
      (v.toNat % 2 = 1 → (t.core n).creg 0x2A = v.toNat / 256 ∧ bitOf (t.core n).ipend 20 = true)) ∧
  (∀ (mask : Nat) (s : State),
    Runs (.martenXcoreRaise mask) s fun t => ∀ n, n < 4 → bitOf mask n = true → bitOf (t.core n).ipend 23 = true)

namespace Sys2Proof.Claims

/-- MARTEN_OPEN's checks beside its claim (R305, R569). -/
def openOk (d : Desc) (s : State) : Bool :=
  let n := d.arg [1] 0
  decide (n < 4) && (!s.getB GUST_MARTEN_CORE_MASK n || owns s .gust d.session)
    && (!s.getB FOX_MARTEN_CORE_MASK n || owns s .fox d.session) && !s.denrek.serving.any (fun e => e.2 == n)

/-- MARTEN_LOAD_CODE's checks (R306, R327). -/
def loadOk (d : Desc) (s : State) : Bool :=
  let z := [1, 1, 4, 4, 8]
  let st := coreState s (d.arg z 0)
  decide (d.arg z 1 ≤ 2) && decide (d.arg z 2 + d.arg z 3 ≤ 0x4_0000)
    && (d.arg z 1 != 0 || (d.arg z 3 % 16 == 0 && st != 2 && st != 3 && st != 4))
    && memReads d (d.arg z 4) (d.arg z 3) s

/-- The six event bindings of MARTEN_BIND_EVENT. -/
def martenBinds (d : Desc) : List (Nat × Nat) :=
  let z := [1, 1, 2, 2, 2, 8]
  let n := d.arg z 0
  [(0x140 + n, d.arg z 3), (0x144 + n, d.arg z 4)] ++ (List.range 4).map (fun c => (0x150 + 4 * n + c, d.elem 8 2 c))

end Sys2Proof.Claims

/-- R303 to R306, R309, R311: the commands of the Marten family. The model's own reading behind it: log entries 7, 34, 79. -/
def Obligations.MartenCommands : Prop :=
  (∀ (d : Desc) (s : State), canStart d 0x0901 [1] s = true → claimC s d (.core (d.arg [1] 0)) = 0 → openOk d s = true →
    Runs (.martenOpen d) s fun t => done d t ∧ t.owner (.core (d.arg [1] 0)) = some d.session
      ∧ t.isSet (MARTEN_SESS_VALID (d.arg [1] 0)) = true ∧ t.getF (MARTEN_SESS_ID (d.arg [1] 0)) = d.session % 1024
      ∧ coreState t (d.arg [1] 0) = 0
      ∧ ∀ a, coreX (d.arg [1] 0) ≤ a → a < coreX (d.arg [1] 0) + 0x8_0000 → t.byte a = 0) ∧
  (∀ (d : Desc) (s : State), canStart d 0x0902 [1, 1, 4, 4, 8] s = true → coreC s d (d.arg [1, 1, 4, 4, 8] 0) = 0 →
    loadOk d s = true →
    Runs (.martenLoadCode d) s fun t => done d t ∧
      t.bytes (coreP (d.arg [1, 1, 4, 4, 8] 0) + d.arg [1, 1, 4, 4, 8] 1 * 0x4_0000 + d.arg [1, 1, 4, 4, 8] 2)
          (d.arg [1, 1, 4, 4, 8] 3) = s.bytes (d.arg [1, 1, 4, 4, 8] 4) (d.arg [1, 1, 4, 4, 8] 3)
      ∧ (d.arg [1, 1, 4, 4, 8] 1 = 0 → coreState s (d.arg [1, 1, 4, 4, 8] 0) = 0 → coreState t (d.arg [1, 1, 4, 4, 8] 0) = 1)) ∧
  (∀ (d : Desc) (s : State), canStart d 0x0903 [1, 2] s = true → coreC s d (d.arg [1, 2] 0) = 0 → d.arg [1, 2] 1 < 16384 →
    (coreState s (d.arg [1, 2] 0) = 1 ∨ coreState s (d.arg [1, 2] 0) = 5) → bpAt s (d.arg [1, 2] 0) (d.arg [1, 2] 1) = none →
    Runs (.martenStart d) s fun t => done d t ∧ coreState t (d.arg [1, 2] 0) = 2
      ∧ (t.core (d.arg [1, 2] 0)).pc = d.arg [1, 2] 1 ∧ (t.core (d.arg [1, 2] 0)).loops = []
      ∧ (t.core (d.arg [1, 2] 0)).rets = [] ∧ (t.core (d.arg [1, 2] 0)).ipend = 0) ∧
  (∀ (d : Desc) (s : State), canStart d 0x0904 [1] s = true → coreC s d (d.arg [1] 0) = 0 →
    (coreState s (d.arg [1] 0) = 2 ∨ coreState s (d.arg [1] 0) = 3) →
    Runs (.martenStop d) s fun t =>
      if (s.core (d.arg [1] 0)).rep = 0 then
        ended d stDONE ((s.core (d.arg [1] 0)).pc % 2 ^ 14) t ∧ coreState t (d.arg [1] 0) = 1
      else goesOn d (.martenStop (d.arg [1] 0)) t ∧ (t.core (d.arg [1] 0)).stopReq = true) ∧
  (∀ (d : Desc) (s : State), canStart d 0x0905 [1, 4] s = true → coreC s d (d.arg [1, 4] 0) = 0 → d.arg [1, 4] 1 < 2 ^ 24 →
    Runs (.martenSignal d) s fun t => done d t ∧ t.getF (MARTEN_SIGNAL_VALUE (d.arg [1, 4] 0)) = d.arg [1, 4] 1
      ∧ (t.core (d.arg [1, 4] 0)).creg 0x2A = d.arg [1, 4] 1 ∧ bitOf (t.core (d.arg [1, 4] 0)).ipend 20 = true) ∧
  (∀ (d : Desc) (s : State), canStart d 0x0906 [1, 1, 2, 2, 2, 8] s = true → coreC s d (d.arg [1, 1, 2, 2, 2, 8] 0) = 0 →
    bindOwn s d ((martenBinds d).map (·.2)) = 0 → bindRoom s (martenBinds d) = true →
    d.arg [1, 1, 2, 2, 2, 8] 1 < 16 → bitsOf (d.arg [1, 1, 2, 2, 2, 8] 2) 12 3 = 0 →
    evKnown (d.arg [1, 1, 2, 2, 2, 8] 2 % 4096) = true → evRight s d.session (d.arg [1, 1, 2, 2, 2, 8] 2 % 4096) = true →
    Runs (.martenBindEvent d) s fun t => done d t ∧ (t.reg (MARTEN_EVSEL (d.arg [1, 1, 2, 2, 2, 8] 0)
      (d.arg [1, 1, 2, 2, 2, 8] 1))).toNat = d.arg [1, 1, 2, 2, 2, 8] 2) ∧
  (∀ (d : Desc) (s : State), canStart d 0x0907 [1, 1, 4, 8, 8] s = true → coreC s d (d.arg [1, 1, 4, 8, 8] 0) = 0 →
    d.arg [1, 1, 4, 8, 8] 1 < 4 → 0 < d.arg [1, 1, 4, 8, 8] 2 → d.arg [1, 1, 4, 8, 8] 2 ≤ 262144 →
    d.arg [1, 1, 4, 8, 8] 2 % 4 = 0 → d.arg [1, 1, 4, 8, 8] 3 % 4 = 0 → d.arg [1, 1, 4, 8, 8] 4 % 4 = 0 →
    d.arg [1, 1, 4, 8, 8] 3 < 2 ^ 40 → d.arg [1, 1, 4, 8, 8] 4 < 2 ^ 40 →
    s.isSet (MARTEN_DMA_CTRL_BUSY (d.arg [1, 1, 4, 8, 8] 0) (d.arg [1, 1, 4, 8, 8] 1)) = false →
    Runs (.martenDma d) s fun t => goesOn d (.martenDma (d.arg [1, 1, 4, 8, 8] 0) (d.arg [1, 1, 4, 8, 8] 1)) t
      ∧ t.isSet (MARTEN_DMA_CTRL_BUSY (d.arg [1, 1, 4, 8, 8] 0) (d.arg [1, 1, 4, 8, 8] 1)) = true
      ∧ ∃ ok, dmaOf t (d.arg [1, 1, 4, 8, 8] 0) (d.arg [1, 1, 4, 8, 8] 1)
        = some ⟨d.arg [1, 1, 4, 8, 8] 3, d.arg [1, 1, 4, 8, 8] 4, d.arg [1, 1, 4, 8, 8] 2, ok⟩) ∧
  (∀ (d : Desc) (s : State), canStart d 0x0909 [1] s = true → coreC s d (d.arg [1] 0) = 0 → (s.core (d.arg [1] 0)).rep = 0 →
    Runs (.martenClose d) s fun t => done d t ∧ t.owner (.core (d.arg [1] 0)) = none
      ∧ t.isSet (MARTEN_SESS_VALID (d.arg [1] 0)) = false)

/-! ### Lynx engines (chapter 12) -/

namespace Sys2Proof.Claims

/-- The output element of R335 and R336: the accumulator saturates at each add, then scale, round half to even, zero point,
saturation to the output type, and the activation table. -/
def tileValue (e : TileElem) : Int :=
  let acc := (e.xs.zip e.ws).foldl (fun (a : Int) p => satS 32 (a + p.1 * p.2)) e.bias
  lutMap e.wide e.lut (satS (if e.wide then 16 else 8) (roundEvenDiv (acc * e.mult) (2 ^ (31 + e.shift)) + e.zp))

/-- Jobs with a tile to issue. -/
def tileWaits (s : State) (j : LynxJob) : Bool :=
  (match lynxProg s j.prog with | some p => decide (j.issued < p.ntile) | none => false)
    && (decide (0 < j.issued) || decide (24 ≤ j.slot) || !s.lynx.draining)

/-- A job's next tile can be fetched: its spilled blocks are admitted and the local SRAM has no uncorrectable error. -/
def tileFetches (s : State) (n : Nat) (j : LynxJob) : Bool :=
  (localUe s n).isNone && match lynxProg s j.prog with
    | some p => j.issued != 0 || spillCheck s j p [1, 2, 3] == .ok
    | none => false

/-- Stream k is served at this release (R342). -/
def releases (s : State) (k : Nat) : Bool :=
  decide (k < 24) && s.now % 49152 == 36864 && s.pwr.phase != .parked && (s.strm k).opened
    && decide ((s.strm k).first + 49152 ≤ s.now / 49152 * 49152) && decide ((s.lstr k).hop < s.now / 49152)

/-- The stream's program, loaded, enabled and its engine not in FAULT. -/
def streamRuns (s : State) (k h : Nat) : Bool :=
  (s.lstr k).pend.isNone && (s.lstr k).prog == some h && s.isSet (LYNX_STR_CFG_EN k) && s.getF (LYNX_CTRL_STATE (h % 8)) != 3
    && match lynxProg s h with | some p => !p.gone | none => false

/-- Misses in the window of a stream whose next job is missed (R347). -/
def missesNext (s : State) (k : Nat) : Nat :=
  let w := s.getF (LYNX_STR_POL_MISS_W k)
  ((((true :: (s.lstr k).hist).take 16).take (if 1 ≤ w ∧ w ≤ 16 then w else 16)).filter id).length

/-- The job request that LYNX_n_JOB names (R353). -/
def pushAddr (s : State) (n : Nat) : Nat := s.getF (LYNX_JOB_LO_BASE n) * 64 + 2 ^ 32 * s.getF (LYNX_JOB_HI_BASE n)

end Sys2Proof.Claims

/-- R335, R336, R341 to R349, R352 to R355: tiles, earliest deadline first, release, completion, misses, direct-mode jobs.
The model's own reading behind it: log entries 35, 36. -/
def Obligations.LynxJobs : Prop :=
  (∀ (n i cyc : Nat) (r : List Nat) (elems : List TileElem) (stalls : List Nat) (s : State), n < 8 → engineRuns s n = true →
    inflOf s n = i :: r →
    Runs (.lynxTileBoundary n true elems cyc stalls) s fun t => tabGet [] n t.lynx.tile = elems.map tileValue) ∧
  (∀ (n cyc : Nat) (j : LynxJob) (elems : List TileElem) (stalls : List Nat) (s : State), n < 8 → engineRuns s n = true →
    (inflOf s n).length < 16 → edfFirst s n (tileWaits s) = some j → tileFetches s n j = true →
    Runs (.lynxTileBoundary n false elems cyc stalls) s fun t => inflOf t n = inflOf s n ++ [j.id]) ∧
  (∀ (n cyc : Nat) (elems : List TileElem) (stalls : List Nat) (s : State), n < 8 → engineRuns s n = true →
    16 ≤ (inflOf s n).length →
    Runs (.lynxTileBoundary n false elems cyc stalls) s fun t => inflOf t n = inflOf s n ∧ t.lynx.jobs = s.lynx.jobs) ∧
  (∀ (s : State) (n : Nat) (p : LynxJob → Bool) (j : LynxJob), edfFirst s n p = some j →
    j ∈ jobsOf s n ∧ p j = true ∧ ∀ x ∈ jobsOf s n, p x = true →
      j.dl < x.dl ∨ (j.dl = x.dl ∧ (j.slot < x.slot ∨ (j.slot = x.slot ∧ j.id ≤ x.id)))) ∧
  (∀ (k h : Nat) (s : State), releases s k = true → streamRuns s k h = true →
    Runs .lynxJobRelease s fun t => (t.lstr k).hop = s.now / 49152 ∧ ∃ j ∈ t.lynx.jobs, j.slot = k ∧ j.prog = h
      ∧ j.engine = h % 8 ∧ j.rel = s.now ∧ j.dl = s.now + 49152 ∧ j.hop = s.now / 49152) ∧
  (∀ (k h : Nat) (cfg pol : Word) (s : State), releases s k = true → (s.lstr k).pend = some (some (h, cfg, pol)) →
    Runs .lynxJobRelease s fun t => (t.lstr k).prog = some h ∧ (t.lstr k).pend = none ∧ (t.lstr k).state = []
      ∧ t.reg (LYNX_STR_CFG k) = cfg ∧ t.reg (LYNX_STR_POL k) = pol) ∧
  (∀ (k : Nat) (s : State), releases s k = true → (s.lstr k).pend = some none →
    Runs .lynxJobRelease s fun t => (t.lstr k).prog = none ∧ t.getF (LYNX_STR_STAT_STATE k) = 2
      ∧ t.getF (LYNX_STR_STAT_CAUSE k) = 2) ∧
  (∀ (n : Nat) (j : LynxJob) (out : List (List Byte)) (st : List Byte) (s : State), n < 8 → engineRuns s n = true →
    standby s = false → edfFirst s n (allTiles s) = some j → j.slot < 24 → s.now ≤ j.dl →
    Runs (.lynxJobComplete n out st) s fun t => (t.lstr j.slot).state = st ∧ (t.lstr j.slot).mask = out.getD 0 []
      ∧ t.getB LYNX_EVT_DONE n = true ∧ ∀ x ∈ t.lynx.jobs, x.id ≠ j.id) ∧
  (∀ (n : Nat) (j : LynxJob) (out : List (List Byte)) (st : List Byte) (s : State), n < 8 → engineRuns s n = true →
    standby s = false → edfFirst s n (allTiles s) = some j → j.slot < 24 → j.dl < s.now → (s.strm j.slot).opened = true →
    Runs (.lynxJobComplete n out st) s fun t => (t.lstr j.slot).state = (s.lstr j.slot).state ∧ (t.lstr j.slot).gap = true
      ∧ (t.lstr j.slot).mask = (s.lstr j.slot).mask ∧ t.isSet LYNX_EVT_MISS = true
      ∧ t.getF (LYNX_STR_STAT_MISSES j.slot) = satAdd 16 (s.getF (LYNX_STR_STAT_MISSES j.slot)) 1
      ∧ (s.getF (LYNX_STR_STAT_STATE j.slot) ≠ 2 → max 1 (s.getF (LYNX_STR_POL_MISS_N j.slot)) ≤ missesNext s j.slot →
          t.getF (LYNX_STR_STAT_STATE j.slot) = 2 ∧ t.getF (LYNX_STR_STAT_CAUSE j.slot) = 1)) ∧
  (∀ (j : LynxJob) (mix : List (List Rat)) (s : State), j ∈ s.lynx.jobs → j.slot < 24 → j.dl ≤ s.now → standby s = false →
    (s.strm j.slot).opened = true →
    Runs (.lynxJobDeadline mix) s fun t => (∀ x ∈ t.lynx.jobs, x.id ≠ j.id) ∧ (t.lstr j.slot).gap = true
      ∧ (t.lstr j.slot).state = (s.lstr j.slot).state ∧ t.isSet LYNX_EVT_MISS = true) ∧
  (∀ (n : Nat) (s : State), n < 8 → s.isSet HOSTIF_DIRECT_STAT_OPEN = true → engineRuns s n = true →
    (jobsOf s n).length < 32 → checkRange s ⟨clsLYNX, .fw, false⟩ none (pushAddr s n) 64 = .ok →
    chanFull s false (pushAddr s n) 64 = false →
    errWords s.ues (pushAddr s n) 64 = [] → recField (s.bytes (pushAddr s n) 64) 0x38 8 % 8 = n →
    progLive s (recField (s.bytes (pushAddr s n) 64) 0x38 8) = true →
    Runs (.lynxJobPush n) s fun t => ∃ j ∈ t.lynx.jobs, j.id = s.lynx.nextId ∧ j.engine = n ∧ j.rel = s.now
      ∧ j.prog = recField (s.bytes (pushAddr s n) 64) 0x38 8 ∧ j.dl = recField (s.bytes (pushAddr s n) 64) 8 8
      ∧ j.rcd = pushAddr s n ∧ j.slot = 0xFF)

namespace Sys2Proof.Claims

/-- The header of a program that LYNX_LOAD_PROGRAM names. -/
def progHeader (d : Desc) (s : State) : List Byte := s.bytes (d.arg [8, 8, 1, 1] 0) 128

/-- Local SRAM for activations and the declared streams' state (R338 steps 2 and 3). -/
def progRoom (d : Desc) (s : State) : Nat :=
  recField (progHeader d s) 0x1C 4 + recField (progHeader d s) 0x20 4 * d.arg [8, 8, 1, 1] 3

/-- Weights placed in local SRAM of engine n, and in the three ranges (R338 steps 4 and 5). -/
def progLocal (d : Desc) (s : State) (n : Nat) : Nat := min (recField (progHeader d s) 0x18 4) (placeRoom s n - progRoom d s)
def progSpill (d : Desc) (s : State) (n : Nat) : List Nat × Nat :=
  spillTake (recField (progHeader d s) 0x18 4 - progLocal d s n)
    ((List.range 3).map (fun i => recField (s.bytes (d.arg [8, 8, 1, 1] 1) 48) (16 * i + 8) 8))

/-- The load's ranges are readable and writable and its header stands (R337, R338). -/
def progLoads (d : Desc) (n : Nat) (s : State) : Bool :=
  let z := [8, 8, 1, 1]
  let rg := d.arg z 1
  !s.lynx.draining && railOn s && (decide (d.arg z 2 < 8) || d.arg z 2 == 0xFF) && decide (d.arg z 3 ≤ 6)
    && memReads d (d.arg z 0) 128 s && headerOk (progHeader d s) && memReads d (d.arg z 0) (recField (progHeader d s) 8 4) s
    && memReads d rg 48 s && pickEngine s (d.arg z 2) (progRoom d s) == some n
    && (s.getF (LYNX_CTRL_STATE n) != 3 || (progsOf s n).isEmpty) && (progSpill d s n).2 == 0
    && (List.range 3).all (fun i => (progSpill d s n).1.getD i 0 == 0
        || memWrites d (recField (s.bytes rg 48) (16 * i) 8) ((progSpill d s n).1.getD i 0) s)
    && memWrites d (rg + 48) 32 s

/-- The handle that a load on engine n receives. -/
def progHandle (s : State) (n : Nat) : Nat := n + 16 * (freeSlots s n).headD 0

/-- LYNX_STREAM_BIND's checks (R350, R352). -/
def lynxBindOk (d : Desc) (p : LynxProg) (s : State) : Bool :=
  let z := [1, 1, 4, 4]
  let k := d.arg z 0
  let h := d.arg z 1
  let pol := d.arg z 3
  let others := (boundOn s (h % 8)).filter (fun e => e.1 != k)
  p.kind == 1 && imgOk (LYNX_STR_CFG k) [LYNX_STR_CFG_ENGINE k, LYNX_STR_CFG_PROG k] [] (d.arg z 2) == 0
    && imgOk (LYNX_STR_POL k) [] [] pol == 0 && decide ((LYNX_STR_CFG_POLICY k).img (d.arg z 2) ≤ 2)
    && decide (1 ≤ (LYNX_STR_POL_MISS_N k).img pol) && decide (1 ≤ (LYNX_STR_POL_MISS_W k).img pol)
    && decide ((LYNX_STR_POL_MISS_W k).img pol ≤ 16) && decide (1 ≤ (LYNX_STR_POL_RECOVER_N k).img pol)
    && decide ((others.filter (fun e => e.2 == h)).length < p.nstream) && decide (others.length < 6)

/-- LYNX_RUN's checks (R349, R352): every tensor and the record lie in the session's rights. -/
def lynxRunOk (d : Desc) (p : LynxProg) (s : State) : Bool :=
  let z := [1, 8, 8, 8]
  let n := p.nin + p.nout
  let io := (List.range n).map (fun i => recField (s.bytes (d.arg z 2) (8 * n)) (8 * i) 8)
  !s.lynx.draining && railOn s && p.kind == 2 && memReads d (d.arg z 2) (8 * n) s && decide (d.arg z 3 < 2 ^ 40)
    && (List.range n).all (fun i => checkRange s ⟨clsLYNX, .sess [d.session], decide (p.nin ≤ i)⟩ none (io.getD i 0) 1 == .ok)
    && checkRange s ⟨clsLYNX, .sess [d.session], true⟩ none (d.arg z 3) 64 == .ok
    && s.getF (LYNX_CTRL_STATE (d.arg z 0 % 8)) != 3 && decide ((jobsOf s (d.arg z 0 % 8)).length < 32)

end Sys2Proof.Claims

/-- R337 to R339, R341, R348 to R352, R463: the commands of the Lynx family. The model's own reading behind it: log
entries 35, 36. -/
def Obligations.LynxCommands : Prop :=
  (∀ (d : Desc) (n : Nat) (s : State), canStart d 0x0801 [8, 8, 1, 1] s = true → progLoads d n s = true →
    Runs (.lynxLoadProgram d) s fun t =>
      if Config.tilesOk (s.bytes (d.arg [8, 8, 1, 1] 0) (recField (progHeader d s) 8 4)) = true then
        ended d stDONE (progHandle s n) t ∧ progLive t (progHandle s n) = true
        ∧ t.owner (.program (progHandle s n)) = some d.session ∧ t.getB PWR_STATUS_LYNX_ON n = true
        ∧ t.isSet (LYNX_CTRL_EN n) = true
        ∧ t.bytes (d.arg [8, 8, 1, 1] 1 + 48) 32 = (progLocal d s n :: (progSpill d s n).1).flatMap (leBytes 8)
      else ended d stBAD 0 t ∧ t.lynx = s.lynx) ∧
  (∀ (d : Desc) (s : State), canStart d 0x0802 [1] s = true → progC s d (d.arg [1] 0) = 0 →
    Runs (.lynxUnload d) s fun t => done d t ∧ progLive t (d.arg [1] 0) = false ∧ t.owner (.program (d.arg [1] 0)) = none
      ∧ ∀ k, k < 24 → boundProg s k = some (d.arg [1] 0) → (t.lstr k).pend = some none) ∧
  (∀ (d : Desc) (p : LynxProg) (s : State), canStart d 0x0803 [1, 1, 4, 4] s = true → slotC s d (d.arg [1, 1, 4, 4] 0) = 0 →
    progC s d (d.arg [1, 1, 4, 4] 1) = 0 → lynxProg s (d.arg [1, 1, 4, 4] 1) = some p → lynxBindOk d p s = true →
    Runs (.lynxStreamBind d) s fun t => (∃ load, ended d stDONE load t) ∧ ∃ cfg pol : Word,
      (t.lstr (d.arg [1, 1, 4, 4] 0)).pend = some (some (d.arg [1, 1, 4, 4] 1, cfg, pol))
      ∧ bitsOf cfg.toNat 1 3 = d.arg [1, 1, 4, 4] 1 % 8 ∧ bitsOf cfg.toNat 4 2 = d.arg [1, 1, 4, 4] 1 / 16
      ∧ bitOf cfg.toNat 0 = bitOf (d.arg [1, 1, 4, 4] 2) 0 ∧ bitOf cfg.toNat 6 = bitOf (d.arg [1, 1, 4, 4] 2) 6
      ∧ bitsOf cfg.toNat 8 16 = bitsOf (d.arg [1, 1, 4, 4] 2) 8 16
      ∧ bitsOf pol.toNat 0 9 = bitsOf (d.arg [1, 1, 4, 4] 3) 0 9 ∧ bitsOf pol.toNat 16 8 = bitsOf (d.arg [1, 1, 4, 4] 3) 16 8) ∧
  (∀ (d : Desc) (s : State), canStart d 0x0804 [1] s = true → slotC s d (d.arg [1] 0) = 0 →
    Runs (.lynxStreamReset d) s fun t => done d t ∧ (t.lstr (d.arg [1] 0)).resetReq = true) ∧
  (∀ (d : Desc) (s : State), canStart d 0x0805 [1, 2, 2, 2, 2] s = true → slotC s d (d.arg [1, 2, 2, 2, 2] 0) = 0 →
    bindOwn s d ((List.range 4).map (fun i => d.arg [1, 2, 2, 2, 2] (1 + i))) = 0 →
    bindRoom s ((List.range 4).map (fun i => (0x180 + 0x20 * i + d.arg [1, 2, 2, 2, 2] 0, d.arg [1, 2, 2, 2, 2] (1 + i)))) = true →
    Runs (.lynxStreamBindEvents d) s fun t => done d t ∧ t.lynx = s.lynx) ∧
  (∀ (d : Desc) (p : LynxProg) (s : State), canStart d 0x0806 [1, 8, 8, 8] s = true → progC s d (d.arg [1, 8, 8, 8] 0) = 0 →
    lynxProg s (d.arg [1, 8, 8, 8] 0) = some p → lynxRunOk d p s = true →
    Runs (.lynxRun d) s fun t => goesOn d (.lynxRun s.lynx.nextId) t ∧ ∃ j ∈ t.lynx.jobs, j.id = s.lynx.nextId
      ∧ j.prog = d.arg [1, 8, 8, 8] 0 ∧ j.dl = d.arg [1, 8, 8, 8] 1 ∧ j.rcd = d.arg [1, 8, 8, 8] 3 ∧ j.rel = s.now)

/-! ### Fog (chapter 13) -/

namespace Sys2Proof.Claims

/-- The operation at place `p` runs, and its next instruction is `i` with code `code`. -/
def fogNext (s : State) (p code : Nat) (o : FogOp) (i : FogInstr) : Bool :=
  fogOp s p == some o && o.instrs[o.pc]? == some i && i.op == code && o.ended.isNone && o.wait.isNone && fogOn s

/-- The instruction completed: the next one follows, and its destination holds `ct`. -/
def wrote (p : Nat) (o : FogOp) (i : FogInstr) (ct : FogCt) (t : State) : Prop :=
  ∃ x, fogOp t p = some x ∧ x.pc = o.pc + 1 ∧ x.ended = none ∧ x.wait = none ∧ fogReg x i.dst = some ct

/-- The instruction failed with BAD_FIELD. -/
def fogFails (p : Nat) (t : State) : Prop := ∃ x, fogOp t p = some x ∧ x.ended = some (stBAD, true, 0)

/-- A row of an instruction with one source register. -/
def fogRow1 (row : Nat → Instr) (code : Nat) (pre : State → FogOp → FogInstr → FogCt → Bool)
    (post : State → FogOp → FogInstr → FogCt → FogCt → Prop) : Prop :=
  ∀ (p : Nat) (o : FogOp) (i : FogInstr) (c : FogCt) (s : State), fogNext s p code o i = true → fogReg o i.a = some c →
    pre s o i c = true → Runs (row p) s fun t => ∃ ct, wrote p o i ct t ∧ post s o i c ct

/-- A range that an operation may access, with no uncorrectable error and with an entry free for it (R393). -/
def fogAdm (s : State) (sess a n : Nat) (write : Bool) : Bool :=
  checkRange s (fogAcq sess write) none a n == .ok && !chanFull s false a n
    && (if write then rmwErrs s a n else errWords s.ues a n).isEmpty

/-- Every modulus is positive. -/
def modsOk (o : FogOp) : Bool := o.keys.moduli.all (fun q => decide (0 < q))

/-- Word w of a register, and the modulus of its limb (R365). -/
def wordAtCt (c : FogCt) (w : Nat) : Nat := c.words.getD w 0
def limbMod (o : FogOp) (l w : Nat) : Nat := o.keys.moduli.getD (w / fogN o.keys % l) 1

/-- A register of level, components and scale, every word below its modulus. -/
def openCt (o : FogOp) (l comp scale : Nat) (ct : FogCt) : Prop :=
  ct.level = l ∧ ct.comp = comp ∧ ct.scale = scale ∧ ct.words.length = comp * l * fogN o.keys
    ∧ ∀ w, w < comp * l * fogN o.keys → wordAtCt ct w < limbMod o l w

/-- A ciphertext of the key set lies at `a`, within `lim` bytes (R365). -/
def ctHere (s : State) (o : FogOp) (a lim : Nat) : Bool :=
  let hd := s.bytes a 64
  let l := recField hd 8 1
  let c := recField hd 9 1
  let n := ctBytes o.keys l c
  fogAdm s o.sess a 64 false && ctHeadOk o.keys hd && decide (n ≤ lim) && fogAdm s o.sess a n false
    && (List.range (c * l * fogN o.keys)).all (fun w => decide (s.le (a + 64 + 8 * w) 8 < limbMod o l w))

/-- The ciphertext at `a`. -/
def ctFrom (s : State) (o : FogOp) (a : Nat) (ct : FogCt) : Prop :=
  ct.level = s.le (a + 8) 1 ∧ ct.comp = s.le (a + 9) 1 ∧ ct.scale = (if o.keys.scheme = 1 then s.le (a + 16) 8 else 0)
    ∧ ct.words = (List.range (ct.comp * ct.level * fogN o.keys)).map (fun w => s.le (a + 64 + 8 * w) 8)

/-- The key of a Galois element is held and its ranges at level l can be streamed (R364). -/
def keyHeld (s : State) (o : FogOp) (l g : Nat) : Bool :=
  match o.keys.keys.find? (fun e => e.1 == g) with
  | some e => (ksRanges o.keys l e.2).all (fun r => fogAdm s o.sess r.1 r.2 false)
  | none => false

/-- The plain values of an instruction's operand, encoded (R368). -/
def plainOf (s : State) (o : FogOp) (i : FogInstr) : List Int := plainPoly o.keys i.imm (s.bytes (opnd o i).1 (opnd o i).2.1)

/-- Two sources agree (R366). -/
def agree (o : FogOp) (x y : FogCt) : Bool := x.level == y.level && (o.keys.scheme != 1 || scaleNear x.scale y.scale)

end Sys2Proof.Claims

/-- R364 to R370: what every instruction of an operation program does. The model's own reading behind it: log entry 38. -/
def Obligations.FogInstructions : Prop :=
  (∀ (p : Nat) (o : FogOp) (i : FogInstr) (s : State), fogNext s p 0x01 o i = true →
    ctHere s o (opnd o i).1 (opnd o i).2.1 = true →
    Runs (.fLoad p) s fun t => ∃ ct, wrote p o i ct t ∧ ctFrom s o (opnd o i).1 ct) ∧
  (∀ (p : Nat) (o : FogOp) (i : FogInstr) (c : FogCt) (s : State), fogNext s p 0x02 o i = true → fogReg o i.a = some c →
    c.words.length = c.comp * c.level * fogN o.keys → ctBytes o.keys c.level c.comp ≤ (opnd o i).2.1 →
    fogAdm s o.sess (opnd o i).1 (ctBytes o.keys c.level c.comp) true = true →
    Runs (.fStore p) s fun t => (∃ x, fogOp t p = some x ∧ x.pc = o.pc + 1)
      ∧ memKept (opnd o i).1 ((opnd o i).1 + ctBytes o.keys c.level c.comp) s t
      ∧ t.le (opnd o i).1 4 = 0x54434746 ∧ t.le ((opnd o i).1 + 8) 1 = c.level % 256 ∧ t.le ((opnd o i).1 + 9) 1 = c.comp % 256
      ∧ t.le ((opnd o i).1 + 16) 8 = c.scale % 2 ^ 64 ∧ t.le ((opnd o i).1 + 24) 8 = o.keys.tag % 2 ^ 64
      ∧ ∀ w, w < c.words.length → t.le ((opnd o i).1 + 64 + 8 * w) 8 = wordAtCt c w % 2 ^ 64) ∧
  (∀ (p : Nat) (o : FogOp) (i : FogInstr) (s : State), fogNext s p 0x03 o i = true → o.keys.pk ≠ 0 → modsOk o = true →
    fogAdm s o.sess (opnd o i).1 (opnd o i).2.1 false = true →
    Runs (.fEncenc p) s fun t => ∃ ct, wrote p o i ct t ∧
      openCt o o.keys.l1 2 (if o.keys.scheme = 1 then f64Round (2 ^ i.imm.toNat) 1 else 0) ct ∧
      ∀ w, w < o.keys.l1 * fogN o.keys → let q := limbMod o o.keys.l1 w
        wordAtCt ct w = (polyWord o.keys (drawV o) w q * o.keys.pkWords.getD w 0
          + (if o.keys.scheme = 1 then 1 else o.keys.plainT) * polyWord o.keys (drawE o 0) w q
          + polyWord o.keys (plainOf s o i) w q) % q) ∧
  (∀ (p : Nat) (o : FogOp) (i : FogInstr) (x y : FogCt) (s : State), fogNext s p 0x04 o i = true → fogReg o i.a = some x →
    fogReg o i.b = some y → agree o x y = true →
    Runs (.fAdd p) s fun t => ∃ ct, wrote p o i ct t ∧ ct.level = x.level ∧ ct.comp = max x.comp y.comp ∧ ct.scale = x.scale
      ∧ ∀ w, w < ct.comp * ct.level * fogN o.keys → wordAtCt ct w = (wordAtCt x w + wordAtCt y w) % limbMod o x.level w) ∧
  (∀ (p : Nat) (o : FogOp) (i : FogInstr) (x y : FogCt) (s : State), fogNext s p 0x05 o i = true → fogReg o i.a = some x →
    fogReg o i.b = some y → agree o x y = true → modsOk o = true →
    Runs (.fSub p) s fun t => ∃ ct, wrote p o i ct t ∧ ct.level = x.level ∧ ct.comp = max x.comp y.comp ∧ ct.scale = x.scale
      ∧ ∀ w, w < ct.comp * ct.level * fogN o.keys →
        (wordAtCt ct w : Int) = ((wordAtCt x w : Int) - wordAtCt y w) % (limbMod o x.level w : Int)) ∧
  (∀ (p : Nat) (o : FogOp) (i : FogInstr) (x y : FogCt) (s : State),
    (fogNext s p 0x04 o i || fogNext s p 0x05 o i || fogNext s p 0x09 o i) = true → fogReg o i.a = some x →
    fogReg o i.b = some y → agree o x y = false →
    Runs (if i.op = 0x04 then .fAdd p else if i.op = 0x05 then .fSub p else .fMul p) s fun t => fogFails p t) ∧
  fogRow1 .fMulp 0x06 (fun s o i _ => modsOk o && fogAdm s o.sess (opnd o i).1 (opnd o i).2.1 false)
    (fun s o i c ct => openCt o c.level c.comp (immScale o i c.scale) ct ∧ ∀ w, w < c.comp * c.level * fogN o.keys →
      wordAtCt ct w = wordAtCt c w * polyWord o.keys (plainOf s o i) w (limbMod o c.level w) % limbMod o c.level w) ∧
  fogRow1 .fMulc 0x07 (fun _ _ _ _ => true) (fun _ o i c ct => ct.level = c.level ∧ ct.comp = c.comp
    ∧ ct.scale = immScale o i c.scale ∧ ∀ (v : Int) (w : Nat), mulConst o i = some v → w < c.comp * c.level * fogN o.keys →
      wordAtCt ct w = wordAtCt c w * (v % (limbMod o c.level w : Int)).toNat % limbMod o c.level w) ∧
  fogRow1 .fAddc 0x08 (fun _ _ _ _ => true) (fun _ o i c ct => ct.level = c.level ∧ ct.comp = c.comp ∧ ct.scale = c.scale
    ∧ ∀ (v : Int) (w : Nat), addConst o.keys i.arg c.scale = some v → w < c.comp * c.level * fogN o.keys →
      wordAtCt ct w = (if w < c.level * fogN o.keys
        then (wordAtCt c w + (v % (limbMod o c.level w : Int)).toNat) % limbMod o c.level w else wordAtCt c w)) ∧
  (∀ (p : Nat) (o : FogOp) (i : FogInstr) (x y : FogCt) (s : State), fogNext s p 0x09 o i = true → fogReg o i.a = some x →
    fogReg o i.b = some y → agree o x y = true → x.comp ≠ 3 → y.comp ≠ 3 →
    Runs (.fMul p) s fun t => ∃ ct, wrote p o i ct t ∧ ct.level = x.level ∧ ct.comp = 3
      ∧ ct.scale = (if o.keys.scheme = 1 then scaleMul x.scale y.scale else 0)
      ∧ ∀ j, j < x.level * fogN o.keys → let m := x.level * fogN o.keys
        wordAtCt ct j = wordAtCt x j * wordAtCt y j % limbMod o x.level j
        ∧ wordAtCt ct (m + j) = (wordAtCt x j * wordAtCt y (m + j) + wordAtCt x (m + j) * wordAtCt y j) % limbMod o x.level (m + j)
        ∧ wordAtCt ct (2 * m + j) = wordAtCt x (m + j) * wordAtCt y (m + j) % limbMod o x.level (2 * m + j)) ∧
  fogRow1 .fRelin 0x0A (fun s o _ c => modsOk o && keyHeld s o c.level 0) (fun _ o _ c ct => openCt o c.level 2 c.scale ct) ∧
  fogRow1 .fRescale 0x0B (fun _ o _ c => decide (1 < c.level) && o.keys.scheme == 1) (fun _ o _ c ct =>
    ct.level = c.level - 1 ∧ ct.comp = c.comp ∧ ct.scale = scaleDiv c.scale (o.keys.moduli.getD (c.level - 1) 1)
      ∧ ct.words = rescaleWords o.keys.logn o.keys.moduli c.level c.comp c.words) ∧
  fogRow1 .fModsw 0x0C (fun _ o _ c => modsOk o && decide (1 < c.level) && o.keys.scheme == 2)
    (fun _ o _ c ct => openCt o (c.level - 1) c.comp c.scale ct) ∧
  fogRow1 .fRot 0x0D (fun s o i c => modsOk o && c.comp != 3 && keyHeld s o c.level (rotGalois o.keys i.imm))
    (fun _ o _ c ct => openCt o c.level 2 c.scale ct) ∧
  fogRow1 .fConj 0x0E (fun s o _ c => modsOk o && c.comp != 3 && keyHeld s o c.level (2 * fogN o.keys - 1))
    (fun _ o _ c ct => openCt o c.level 2 c.scale ct) ∧
  fogRow1 .fLevel 0x0F (fun _ o i c => decide (1 ≤ i.imm) && decide (i.imm ≤ c.level)
      && c.words.length == c.comp * c.level * fogN o.keys)
    (fun _ o i c ct => (ct.level : Int) = i.imm ∧ ct.comp = c.comp ∧ ct.scale = c.scale
      ∧ ∀ k b j, k < c.comp → b < ct.level → j < fogN o.keys →
        wordAtCt ct ((k * ct.level + b) * fogN o.keys + j) = wordAtCt c ((k * c.level + b) * fogN o.keys + j)) ∧
  fogRow1 .fPoly 0x10 (fun s o i c => modsOk o && decide (1 ≤ i.imm) && decide (i.imm ≤ 63) && (i.imm == 1 || decide (c.comp ≤ 2))
      && decide (Nat.log2 i.imm.toNat + 2 < c.level) && fogAdm s o.sess (opnd o i).1 (8 * (i.imm.toNat + 1)) false
      && (i.imm == 1 || (List.range c.level).all (fun l => keyHeld s o (l + 1) 0)))
    (fun _ o i c ct => ct.level + (Nat.log2 i.imm.toNat + 2) = c.level ∧ ct.comp = (if i.imm = 1 then c.comp else 2)
      ∧ ∀ w, w < ct.comp * ct.level * fogN o.keys → wordAtCt ct w < limbMod o ct.level w) ∧
  (∀ (p k : Nat) (o : FogOp) (i : FogInstr) (c : FogCt) (r : FogRing) (s : State), fogNext s p 0x11 o i = true →
    fogReg o i.a = some c → fogRing s o.sess = some r → k < r.size → r.count % r.size = k →
    (slotsWaiting s o.sess).contains k = false → ctBytes o.keys c.level c.comp ≤ r.slot →
    c.words.length = c.comp * c.level * fogN o.keys →
    fogAdm s o.sess (r.buf + k * r.slot) (ctBytes o.keys c.level c.comp) true = true →
    fogAdm s o.sess (r.req + 64 * k) 64 true = true →
    Runs (.fExchange p) s fun t => (∃ x, fogOp t p = some x ∧ x.pc = o.pc ∧ x.wait = some (r.count + 1, s.now + o.exto * 98304, k))
      ∧ t.isSet FOG_EVT_EXCH_REQ = true ∧ t.le (r.req + 64 * k) 4 = 0x48435845
      ∧ t.le (r.req + 64 * k + 8) 8 = (r.count + 1) % 2 ^ 64 ∧ t.le (r.req + 64 * k + 16) 2 = o.sess % 65536
      ∧ t.le (r.req + 64 * k + 24) 1 = c.level % 256 ∧ t.le (r.req + 64 * k + 32) 8 = (r.buf + k * r.slot) % 2 ^ 64
      ∧ t.le (r.req + 64 * k + 48) 8 = c.scale % 2 ^ 64 ∧ t.le (r.req + 64 * k + 56) 8 = (s.now + o.exto * 98304) % 2 ^ 64)

namespace Sys2Proof.Claims

/-- A key-set descriptor at `a` that registration accepts, with its public key readable (R362). -/
def keysHere (s : State) (sess a : Nat) : Bool :=
  let hd := s.bytes a 64
  let len := 0x40 + 8 * (recField hd 8 1 + recField hd 9 1) + 16 * recField hd 0xB 1
  let ks := keysOf sess (s.bytes a len)
  fogAdm s sess a 64 false && keyHeadOk hd && fogAdm s sess a len false && keysOk (s.bytes a len) ks
    && (ks.pk == 0 || fogAdm s sess ks.pk (2 * ks.l1 * fogN ks * 8) false)

/-- The key set registered from the descriptor at `a`. -/
def keysFrom (s : State) (sess a : Nat) (k : FogKeys) : Prop :=
  k.sess = sess ∧ k.scheme = s.le (a + 6) 1 ∧ k.logn = s.le (a + 7) 1 ∧ k.l1 = s.le (a + 8) 1 ∧ k.k = s.le (a + 9) 1
    ∧ k.alpha = s.le (a + 10) 1 ∧ k.plainT = s.le (a + 12) 8 ∧ k.tag = s.le (a + 24) 8 ∧ k.pk = s.le (a + 32) 8
    ∧ k.leaving = false ∧ k.moduli = (List.range (k.l1 + k.k)).map (fun i => s.le (a + 64 + 8 * i) 8)
    ∧ (k.pk ≠ 0 → k.pkWords = (List.range (2 * k.l1 * 2 ^ k.logn)).map (fun w => s.le (k.pk + 8 * w) 8))

/-- A program at `a` for handle `h` that admission accepts (R366). -/
def progHere (s : State) (sess h a : Nat) (ks : FogKeys) : Bool :=
  let hd := s.bytes a 64
  let no := recField hd 0xA 1
  let ni := recField hd 8 2
  let bs := s.bytes (a + 64) (16 * (no + ni))
  let ops := (List.range no).map (fun i => (recField bs (16 * i) 8, recField bs (16 * i + 8) 4, recField bs (16 * i + 12) 1))
  fogAdm s sess a 64 false && progHeadOk h hd && fogAdm s sess (a + 64) (16 * (no + ni)) false
    && (List.range no).all (fun i => decide (1 ≤ recField bs (16 * i + 12) 1) && decide (recField bs (16 * i + 12) 1 ≤ 5)
        && recField bs (16 * i + 13) 3 == 0 && decide (recField bs (16 * i) 8 < 2 ^ 40))
    && ((List.range ni).map (instrOf (bs.drop (16 * no)))).all (instrOk ks ops)

/-- The lowest free place among the operations in flight. -/
def freePlace (s : State) : Option Nat := (List.range 8).find? (fun p => (fogOp s p).isNone)

/-- The operation of the program at `a` stands at place `p`, before its first instruction. -/
def admitted (s : State) (sess h a p : Nat) (t : State) : Prop :=
  ∃ o, fogOp t p = some o ∧ o.sess = sess ∧ o.handle = h ∧ fogKeys s h = some o.keys ∧ o.pc = 0 ∧ o.wait = none ∧ o.ended = none
    ∧ o.instrs.length = s.le (a + 8) 2 ∧ o.opnds.length = s.le (a + 10) 1
    ∧ o.exto = (if s.le (a + 12) 2 = 0 then 5000 else s.le (a + 12) 2)

/-- A return at `a` fits the waiting EXCHANGE `i` with source `c` (R370, R379). -/
def returnFits (s : State) (o : FogOp) (c : FogCt) (dl a : Nat) : Bool :=
  decide (s.now ≤ dl) && ctHere s o a (2 ^ 40) && s.le (a + 9) 1 == 2 && s.le (a + 8) 1 == c.level
    && (o.keys.scheme == 2 || scaleNear (s.le (a + 16) 8) c.scale)

/-- The address a pair of FOG registers names. -/
def fogOpAddr (s : State) : Nat := s.getF FOG_OP_LO_BASE * 64 + 2 ^ 32 * s.getF FOG_OP_HI_BASE
def fogKsAddr (s : State) : Nat := s.getF FOG_KS_LO_BASE * 64 + 2 ^ 32 * s.getF FOG_KS_HI_BASE
def fogRetAddr (s : State) : Nat := s.getF FOG_RET_LO_BASE * 64 + 2 ^ 32 * s.getF FOG_RET_HI_BASE

end Sys2Proof.Claims

/-- R362, R366, R370, R372, R375 to R380: key sets, operations and exchanges, by commands and in direct mode. The model's
own reading behind it: log entries 38, 65. -/
def Obligations.FogCommands : Prop :=
  (∀ (d : Desc) (h : Nat) (s : State), canStart d 0x0A01 [8] s = true → d.arg [8] 0 < 2 ^ 40 →
    keysHere s d.session (d.arg [8] 0) = true → freeHandle s = some h →
    Runs (.fogKeysetRegister d) s fun t => ended d stDONE h t ∧ t.owner (.keyset h) = some d.session ∧ t.isSet FOG_CTRL_EN = true
      ∧ ∃ k, fogKeys t h = some k ∧ keysFrom s d.session (d.arg [8] 0) k) ∧
  (∀ (d : Desc) (s : State), canStart d 0x0A02 [1] s = true → keysC s d (d.arg [1] 0) = 0 →
    Runs (.fogKeysetRelease d) s fun t =>
      if keysBusy s (d.arg [1] 0) then goesOn d (.fogKeys (d.arg [1] 0)) t ∧ ∃ k, fogKeys t (d.arg [1] 0) = some k ∧ k.leaving = true
      else done d t ∧ fogKeys t (d.arg [1] 0) = none) ∧
  (∀ (d : Desc) (s : State), canStart d 0x0A03 [8, 8, 1, 4] s = true → d.arg [8, 8, 1, 4] 0 < 2 ^ 40 →
    d.arg [8, 8, 1, 4] 1 < 2 ^ 40 → d.arg [8, 8, 1, 4] 0 % 64 = 0 → d.arg [8, 8, 1, 4] 1 % 64 = 0 → 2 ≤ d.arg [8, 8, 1, 4] 2 →
    d.arg [8, 8, 1, 4] 2 ≤ 64 → d.arg [8, 8, 1, 4] 3 < 2 ^ 24 → slotsWaiting s d.session = [] → d.session < 1023 →
    Runs (.fogExchangeRing d) s fun t => done d t ∧ ∃ r, fogRing t d.session = some r ∧ r.req = d.arg [8, 8, 1, 4] 0
      ∧ r.buf = d.arg [8, 8, 1, 4] 1 ∧ r.size = d.arg [8, 8, 1, 4] 2 ∧ r.slot = 64 * d.arg [8, 8, 1, 4] 3) ∧
  (∀ (d : Desc) (p : Nat) (ks : FogKeys) (s : State), canStart d 0x0A04 [8, 1] s = true →
    keysC s d (d.arg [8, 1] 1) = 0 → fogAccepts s = true → d.arg [8, 1] 0 < 2 ^ 40 → fogKeys s (d.arg [8, 1] 1) = some ks →
    progHere s d.session (d.arg [8, 1] 1) (d.arg [8, 1] 0) ks = true → freePlace s = some p →
    Runs (.fogEval d) s fun t => goesOn d (.fogOp p) t ∧ admitted s d.session (d.arg [8, 1] 1) (d.arg [8, 1] 0) p t) ∧
  (∀ (d : Desc) (p : Nat) (o : FogOp) (i : FogInstr) (c : FogCt) (w : Nat × Nat × Nat) (s : State),
    canStart d 0x0A05 [8, 8] s = true → d.arg [8, 8] 1 < 2 ^ 40 →
    findWaiting s (fun o => o.sess == d.session) (d.arg [8, 8] 0) = some (p, o) → fogOp s p = some o → o.wait = some w →
    o.instrs[o.pc]? = some i → fogReg o i.a = some c → returnFits s o c w.2.1 (d.arg [8, 8] 1) = true →
    Runs (.fogExchangeReturn d) s fun t => done d t ∧ ∃ ct x, fogOp t p = some x ∧ x.pc = o.pc + 1 ∧ x.wait = none
      ∧ x.exch = o.exch + 1 ∧ fogReg x i.dst = some ct ∧ ctFrom s o (d.arg [8, 8] 1) ct) ∧
  (∀ (p a h : Nat) (ks : FogKeys) (r : List (Nat × Nat)) (s : State), s.fog.queue = (a, h) :: r → fogAccepts s = true →
    fogKeys s h = some ks → progHere s 1023 h a ks = true → freePlace s = some p →
    Runs .fogOpAdmit s fun t => t.fog.queue = r ∧ t.getF FOG_OP_CTRL_DEPTH = r.length % 64 ∧ admitted s 1023 h a p t) ∧
  (∀ (p st a seq : Nat) (failing : Bool) (o : FogOp) (src : Src) (c : Cmd) (s : State), fogOp s p = some o →
    fogOutcome o = some (st, failing, a) → s.denrek.awaits = [(.fogOp p, src, seq)] → findCmd s src seq = some c →
    c.phase = .started → (s.fog.keys.all (fun k => !k.2.leaving)) = true →
    Runs (.fogOpEnd p) s fun t => fogOp t p = none ∧ t.isSet FOG_EVT_DONE = true ∧ ∃ x, findCmd t src seq = some x
      ∧ x.phase = .finished ∧ x.status = st
      ∧ x.result = o.pc + 2 ^ 32 * (if failing then o.pc else 0xFFFF) + 2 ^ 48 * o.exch) ∧
  (∀ (p : Nat) (o : FogOp) (w : Nat × Nat × Nat) (s : State), fogOp s p = some o → o.wait = some w → w.2.1 < s.now →
    Runs (.fogExchangeTimeout p) s fun t => t.isSet FOG_EVT_EXCH_TIMEOUT = true
      ∧ ∃ x, fogOp t p = some x ∧ x.ended = some (stTIMEOUT, true, 0) ∧ x.wait = none) ∧
  (∀ s : State, s.isSet HOSTIF_DIRECT_STAT_OPEN = true → s.fog.queue.length < 32 →
    Runs .fogOpPush s fun t => t.fog.queue = s.fog.queue ++ [(fogOpAddr s, s.getF FOG_OP_CTRL_KEYSET)]
      ∧ t.getF FOG_OP_CTRL_DEPTH = s.fog.queue.length + 1) ∧
  (∀ s : State, s.isSet HOSTIF_DIRECT_STAT_OPEN = true → s.getF FOG_KS_CTRL_OP = 1 →
    fogKeys s (s.getF FOG_KS_CTRL_SLOT) = none → keysHere s 1023 (fogKsAddr s) = true →
    Runs .fogKsRegisterGo s fun t => t.getF FOG_KS_CTRL_RESULT = 0 ∧ t.isSet FOG_KS_CTRL_GO = false
      ∧ ∃ k, fogKeys t (s.getF FOG_KS_CTRL_SLOT) = some k ∧ keysFrom s 1023 (fogKsAddr s) k) ∧
  (∀ s : State, s.isSet HOSTIF_DIRECT_STAT_OPEN = true → s.getF FOG_KS_CTRL_OP = 2 →
    Runs .fogKsReleaseGo s fun t => t.isSet FOG_KS_CTRL_GO = false ∧
      if fogKeys s (s.getF FOG_KS_CTRL_SLOT) = none then t.getF FOG_KS_CTRL_RESULT = 1
      else if keysBusy s (s.getF FOG_KS_CTRL_SLOT) then t.getF FOG_KS_CTRL_RESULT = 2
      else t.getF FOG_KS_CTRL_RESULT = 0 ∧ fogKeys t (s.getF FOG_KS_CTRL_SLOT) = none) ∧
  (∀ (p : Nat) (o : FogOp) (i : FogInstr) (c : FogCt) (w : Nat × Nat × Nat) (s : State), s.isSet HOSTIF_DIRECT_STAT_OPEN = true →
    findWaiting s (fun o => o.sess == 1023) (s.r64 FOG_RET_ID_LO) = some (p, o) → fogOp s p = some o → o.wait = some w →
    o.instrs[o.pc]? = some i → fogReg o i.a = some c → returnFits s o c w.2.1 (fogRetAddr s) = true →
    Runs .fogRetGo s fun t => t.getF FOG_RET_CTRL_STATUS = 0 ∧ ∃ ct x, fogOp t p = some x ∧ x.pc = o.pc + 1 ∧ x.wait = none
      ∧ fogReg x i.dst = some ct ∧ ctFrom s o (fogRetAddr s) ct) ∧
  (∀ s : State, s.isSet HOSTIF_DIRECT_STAT_OPEN = true →
    findWaiting s (fun o => o.sess == 1023) (s.r64 FOG_RET_ID_LO) = none →
    Runs .fogRetGo s fun t => t.getF FOG_RET_CTRL_STATUS = 2)

/-! ### The memory system (chapter 14) and the separated streams -/

namespace Sys2Proof.Claims

/-- Where MEM_ALLOC finds room (R402, R403). -/
def allocRoom (d : Desc) (s : State) : Option Nat :=
  if d.arg [8, 1, 1, 1] 1 = 1 then findFree s 0 (poolEnd - s.boot.lynxPages) (d.arg [8, 1, 1, 1] 0)
  else if s.isSet MEMC_STAT_TRAIN_FAIL then none else findFree s ddrFwEnd (ddrEnd s) (d.arg [8, 1, 1, 1] 0)

/-- MPU region r covers [a, a+n) with an access and an initiator mask for a session (R398). -/
def regionIs (r a n acc init sess : Nat) (t : State) : Prop :=
  t.getF (MPU_REG_BASE_PAGE r) = a / 4096 ∧ t.getF (MPU_REG_LIMIT_PAGE r) = (a + n - 1) / 4096
    ∧ (t.reg (MPU_REG_CFG r)).toNat = 1 + 2 * (acc % 4) + 256 * (init % 256) + 65536 * (sess % 1024)

/-- The share that MEM_UNSHARE names. -/
def shareNamed (d : Desc) (r : Range) : Bool :=
  r.kind == 2 && r.base == d.arg [8, 8, 2] 0 && r.size == d.arg [8, 8, 2] 1 && r.target == d.arg [8, 8, 2] 2

end Sys2Proof.Claims

/-- R391, R393, R394, R395, R398, R399, R402 to R404, R456: scrubbing, training, ranges with their regions, copies, and the
bound on a channel's outstanding transactions. The model's
own reading behind it: log entries 39, 78. -/
def Obligations.MemorySystem : Prop :=
  (∀ (w : Nat) (s : State), s.isSet MEMC_SCRUB_EN = true → scrubbed s (w / 8 * 8) = true →
    errWords s.ues (w / 8 * 8) 8 = [] →
    Runs (.memcScrub w) s fun t => errWords t.ecc.ce (w / 8 * 8) 8 = [] ∧ memSame s t ∧ t.ecc.ue = s.ecc.ue
      ∧ (errWords s.ecc.ce (w / 8 * 8) 8 ≠ [] → t.isSet MEMC_EVT_CE = true)) ∧
  (∀ (w x : Nat) (l : List Nat) (s : State), s.isSet MEMC_SCRUB_EN = true → scrubbed s (w / 8 * 8) = true →
    errWords s.ues (w / 8 * 8) 8 = x :: l →
    Runs (.memcScrub w) s fun t => t.r64 MEMC_ERR_ADDR_LO = x % 2 ^ 64 ∧ bitOf (t.reg MEMC_ERR_INFO).toNat 8 = true
      ∧ t.isSet MEMC_EVT_UE = true ∧ memSame s t) ∧
  (∀ s : State, s.isSet MEMC_STAT_TRAINED = false →
    Runs .memcTrain s fun t => t.getF MEMC_CTRL_TRAIN = 1 ∧ t.isSet MEMC_STAT_TRAIN_FAIL = false) ∧
  (∀ (ok : Bool) (s : State), s.getF MEMC_CTRL_TRAIN ≠ 0 →
    Runs (.memcTrainDone ok) s fun t => t.getF MEMC_CTRL_TRAIN = bit (s.marked MEMC_CTRL_TRAIN 0) ∧
      if ok then t.isSet MEMC_STAT_TRAINED = true
      else t.isSet MEMC_STAT_TRAIN_FAIL = true ∧ t.isSet MEMC_EVT_TRAIN_FAIL = true) ∧
  (∀ (d : Desc) (a r : Nat) (s : State), canStart d 0x0201 [8, 1, 1, 1] s = true → pagesOk 0 (d.arg [8, 1, 1, 1] 0) = true →
    (d.arg [8, 1, 1, 1] 1 = 1 ∨ (d.arg [8, 1, 1, 1] 1 = 2 ∧ s.isSet MEMC_STAT_TRAINED = true)) → d.arg [8, 1, 1, 1] 2 ≤ 3 →
    allocRoom d s = some a → freeRegion s = some r →
    Runs (.memAlloc d) s fun t => ended d stDONE a t
      ∧ (⟨0, a, d.arg [8, 1, 1, 1] 0, d.session, d.session, r⟩ : Range) ∈ t.denrek.ranges
      ∧ regionIs r a (d.arg [8, 1, 1, 1] 0) (d.arg [8, 1, 1, 1] 2) (d.arg [8, 1, 1, 1] 3) d.session t
      ∧ memKept a (a + d.arg [8, 1, 1, 1] 0) s t ∧ ∀ x, a ≤ x → x < a + d.arg [8, 1, 1, 1] 0 → t.byte x = 0) ∧
  (∀ (d : Desc) (r : Nat) (s : State), canStart d 0x0202 [8, 8, 1, 1] s = true →
    pagesOk (d.arg [8, 8, 1, 1] 0) (d.arg [8, 8, 1, 1] 1) = true → d.arg [8, 8, 1, 1] 2 ≤ 3 → portOf s d.src < 8 →
    hostBase (portOf s d.src) ≤ d.arg [8, 8, 1, 1] 0 →
    d.arg [8, 8, 1, 1] 0 + d.arg [8, 8, 1, 1] 1 ≤ hostBase (portOf s d.src) + 2 ^ 36 → freeRegion s = some r →
    Runs (.memHostDeclare d) s fun t => ended d stDONE (d.arg [8, 8, 1, 1] 0) t ∧ memSame s t
      ∧ (⟨1, d.arg [8, 8, 1, 1] 0, d.arg [8, 8, 1, 1] 1, d.session, d.session, r⟩ : Range) ∈ t.denrek.ranges
      ∧ regionIs r (d.arg [8, 8, 1, 1] 0) (d.arg [8, 8, 1, 1] 1) (d.arg [8, 8, 1, 1] 2) (d.arg [8, 8, 1, 1] 3) d.session t) ∧
  (∀ (d : Desc) (r : Nat) (s : State), canStart d 0x0203 [8, 8, 2, 1, 1] s = true →
    pagesOk (d.arg [8, 8, 2, 1, 1] 0) (d.arg [8, 8, 2, 1, 1] 1) = true →
    partC s d.session (d.arg [8, 8, 2, 1, 1] 0) (d.arg [8, 8, 2, 1, 1] 1) = 0 → d.arg [8, 8, 2, 1, 1] 2 < 1024 →
    sessOpen s (d.arg [8, 8, 2, 1, 1] 2) = true → d.arg [8, 8, 2, 1, 1] 3 ≤ 3 → freeRegion s = some r →
    Runs (.memShare d) s fun t => ended d stDONE r t ∧ memSame s t
      ∧ (⟨2, d.arg [8, 8, 2, 1, 1] 0, d.arg [8, 8, 2, 1, 1] 1, d.session, d.arg [8, 8, 2, 1, 1] 2, r⟩ : Range) ∈ t.denrek.ranges
      ∧ regionIs r (d.arg [8, 8, 2, 1, 1] 0) (d.arg [8, 8, 2, 1, 1] 1) (d.arg [8, 8, 2, 1, 1] 3) (d.arg [8, 8, 2, 1, 1] 4)
          (d.arg [8, 8, 2, 1, 1] 2) t) ∧
  (∀ (d : Desc) (x : Range) (s : State), canStart d 0x0204 [8, 8, 2] s = true → x ∈ s.denrek.ranges →
    shareNamed d x = true → x.owner = d.session → x.region < 256 →
    Runs (.memUnshare d) s fun t => (∀ y ∈ t.denrek.ranges, (shareNamed d y && y.owner == d.session) = false)
      ∧ t.reg (MPU_REG_CFG x.region) = 0 ∧
      if transferring s x.base (x.base + x.size) then goesOn d (.memFree x.base (x.base + x.size)) t else done d t) ∧
  (∀ (d : Desc) (x : Range) (s : State), canStart d 0x0205 [8] s = true → rangeAt s (d.arg [8] 0) = some x →
    x.owner = d.session → x.region < 256 →
    Runs (.memFree d) s fun t => x ∉ t.denrek.ranges ∧ t.reg (MPU_REG_CFG x.region) = 0 ∧
      if transferring s x.base (x.base + x.size) then goesOn d (.memFree x.base (x.base + x.size)) t else done d t) ∧
  (∀ (d : Desc) (s : State), canStart d 0x0206 [8, 8, 4] s = true → d.arg [8, 8, 4] 2 ≤ 2 ^ 24 → d.arg [8, 8, 4] 0 < 2 ^ 40 →
    d.arg [8, 8, 4] 1 < 2 ^ 40 →
    checkRange s (settAcq d.session false) none (d.arg [8, 8, 4] 0) (d.arg [8, 8, 4] 2) = .ok →
    checkRange s (settAcq d.session true) none (d.arg [8, 8, 4] 1) (d.arg [8, 8, 4] 2) = .ok →
    Runs (.memCopy d) s fun t => goesOn d (.memCopy (d.arg [8, 8, 4] 0) (d.arg [8, 8, 4] 1) (d.arg [8, 8, 4] 2)) t ∧ memSame s t) ∧
  (∀ (a b n seq : Nat) (src : Src) (c : Cmd) (s : State), s.denrek.awaits = [(.memCopy a b n, src, seq)] →
    findCmd s src seq = some c → c.phase = .started → hostDone s (.copy src seq) = true → errWords s.ues a n = [] →
    rmwErrs s b n = [] →
    Runs (.memCopyEnd src seq) s fun t => t.bytes b n = s.bytes a n ∧ memKept b (b + n) s t
      ∧ ∃ x, findCmd t src seq = some x ∧ x.phase = .finished ∧ x.status = stDONE ∧ x.result = n) ∧
  (∀ (s : State) (ch : Nat), ch < 2 → outstanding s ch ≤ 128 ∧ (MEMC_OUTST_NOW ch).of (s.look (MEMC_OUTST ch)) = outstanding s ch
    ∧ outstanding s ch ≤ (MEMC_OUTST_MAX ch).of (s.look (MEMC_OUTST ch))) ∧
  (∀ (s : State) (q : Acq) (core : Option Nat) (a n ch : Nat), checkRange s q core a n = .ok → ch < 2 → onChan s ch a n = true →
    (128 ≤ outstanding s ch ∧ bwClass s q core = 0 ∨ 112 ≤ onChannel s ch false ∧ bwClass s q core ≠ 0) →
    s.readChecked q core a n = (s, .wait)) ∧
  (∀ (s : State) (q : Acq) (core : Option Nat) (a ch : Nat) (bs : List Byte), checkRange s q core a bs.length = .ok → ch < 2 →
    onChan s ch a bs.length = true →
    (128 ≤ outstanding s ch ∧ bwClass s q core = 0 ∨ 112 ≤ onChannel s ch false ∧ bwClass s q core ≠ 0) →
    s.writeChecked q core a bs = (s, .wait))

namespace Sys2Proof.Claims

/-- The next hop boundary. -/
def nextHop (s : State) : Nat := (s.now / 49152 + 1) * 49152

/-- STREAM_OPEN's checks (R457, R458). -/
def strOpenOk (d : Desc) (s : State) : Bool :=
  let z := [1, 1, 1, 1, 4, 8, 8, 2, 1, 1, 2]
  let k := d.arg z 0
  let src := d.arg z 4
  let rn := d.arg z 9
  decide (k < 24) && (if k < 16 then decide (d.arg z 1 ≤ 1) && decide (d.arg z 2 < 32) && src != 0
      else d.arg z 1 == 2 && d.arg z 2 == 0 && decide (src < 64))
    && decide (d.arg z 6 < 2 ^ 40) && ((decide (4 ≤ rn) && decide (rn ≤ 10)) || (d.arg z 6 == 0 && rn == 0))
    && (if k < 16 then channelsC s d.session src == 0
        else heldC s d.session (.converter (src % 8)) == 0 && !asrcOut s (src % 8) && asrcPeriod s (src % 8) == 2048
          && decide (src / 8 < asrcCh s (src % 8)))
    && sinkC s d.session k (d.arg z 3) (d.arg z 5) (d.arg z 7) (d.arg z 8) == 0 && s.owner (.stream k) == none

end Sys2Proof.Claims

/-- R29, R226, R457, R458, R569: the streams of the separation service and the global mute. The model's own reading behind
it: log entries 37, 62. -/
def Obligations.Streams : Prop :=
  (∀ (d : Desc) (c : Nat) (s : State), canStart d 0x0301 [1, 1, 1, 1, 4, 8, 8, 2, 1, 1, 2] s = true → strOpenOk d s = true →
    pickCore s (d.arg [1, 1, 1, 1, 4, 8, 8, 2, 1, 1, 2] 0) = some c →
    bindOwn s d [d.arg [1, 1, 1, 1, 4, 8, 8, 2, 1, 1, 2] 10] = 0 →
    bindRoom s [(0x180 + d.arg [1, 1, 1, 1, 4, 8, 8, 2, 1, 1, 2] 0, d.arg [1, 1, 1, 1, 4, 8, 8, 2, 1, 1, 2] 10)] = true →
    Runs (.streamOpen d) s fun t => ended d stDONE (nextHop s) t
      ∧ t.owner (.stream (d.arg [1, 1, 1, 1, 4, 8, 8, 2, 1, 1, 2] 0)) = some d.session
      ∧ (d.arg [1, 1, 1, 1, 4, 8, 8, 2, 1, 1, 2] 0, c) ∈ t.denrek.serving
      ∧ let m := t.strm (d.arg [1, 1, 1, 1, 4, 8, 8, 2, 1, 1, 2] 0)
        m.opened = true ∧ m.first = nextHop s ∧ m.mode = d.arg [1, 1, 1, 1, 4, 8, 8, 2, 1, 1, 2] 1
          ∧ m.sink = d.arg [1, 1, 1, 1, 4, 8, 8, 2, 1, 1, 2] 3 ∧ m.src = d.arg [1, 1, 1, 1, 4, 8, 8, 2, 1, 1, 2] 4) ∧
  (∀ (d : Desc) (s : State), canStart d 0x0302 [1] s = true → slotC s d (d.arg [1] 0) = 0 →
    Runs (.streamClose d) s fun t => goesOn d (.streamClose (d.arg [1] 0)) t ∧ (t.strm (d.arg [1] 0)).closing = true) ∧
  (∀ (d : Desc) (s : State), canStart d 0x0303 [1, 1, 1] s = true → slotC s d (d.arg [1, 1, 1] 0) = 0 →
    (if d.arg [1, 1, 1] 0 < 16 then d.arg [1, 1, 1] 1 ≤ 1 ∧ d.arg [1, 1, 1] 2 < 32
      else d.arg [1, 1, 1] 1 = 2 ∧ d.arg [1, 1, 1] 2 = 0) →
    Runs (.streamRoute d) s fun t =>
      goesOn d (.streamRoute (d.arg [1, 1, 1] 0) (d.arg [1, 1, 1] 1) (d.arg [1, 1, 1] 2)) t) ∧
  (∀ (d : Desc) (s : State), canStart d 0x0304 [1] s = true → d.arg [1] 0 ≤ 1 →
    Runs (.routeGlobalMute d) s fun t => done d t ∧ (d.arg [1] 0 = 1 → t.isSet GUST_MUTE_GLOBAL = true)
      ∧ t.getF GUST_MUTE_GLOBAL = bit (orVote t .globalMute != 0 || s.pwr.crit || s.pwr.phase == .drainPark
          || s.pwr.phase == .parkEntry))

/-! ### Twin pairing (chapter 20) -/

namespace Sys2Proof.Claims

/-- Nothing of the journal or the mirrors is outstanding. -/
def journalIdle (s : State) : Bool := s.twin.mirrors.isEmpty && s.twin.unapplied.isEmpty

end Sys2Proof.Claims

/-- R550, R557, R558: the twin commands and the writes of TWIN_CTRL and TWIN_SWAP_CTRL. The model's own reading behind it:
log entry 59. -/
def Obligations.TwinCommands : Prop :=
  (∀ (d : Desc) (s : State), canStart d 0x0C01 [1, 1, 2] s = true → claimC s d .system = 0 → d.arg [1, 1, 2] 0 ≤ 2 →
    d.arg [1, 1, 2] 1 ≤ 1 → 100 ≤ d.arg [1, 1, 2] 2 → d.arg [1, 1, 2] 2 ≤ 2000 →
    Runs (.twinConfig d) s fun t => done d t ∧ t.owner .system = some d.session ∧ t.getF TWIN_CFG_PREF = d.arg [1, 1, 2] 0
      ∧ t.getF TWIN_CFG_AUTO = d.arg [1, 1, 2] 1 ∧ t.getF TWIN_CFG_CATCHUP_MS = d.arg [1, 1, 2] 2) ∧
  (∀ (d : Desc) (s : State), canStart d 0x0C02 [] s = true → claimC s d .system = 0 → attachConflict s = false →
    journalIdle s = true →
    Runs (.twinAttach d) s fun t => goesOn d .twinAttach t
      ∧ (twinState s = 0 → twinState t = 1 ∧ t.twin.syncLow = some s.now)
      ∧ (twinState s = 4 → twinState t = 2) ∧ (twinState s = 3 → twinState t = 2)) ∧
  (∀ (d : Desc) (s : State), canStart d 0x0C03 [] s = true → claimC s d .system = 0 → journalIdle s = true →
    Runs (.twinDetach d) s fun t => done d t
      ∧ (twinState s = 3 → twinState t = 4 ∧ twinRole t = twinRole s ∧ t.getF TWIN_STAT_ELIGIBLE = 0
          ∧ t.getF TWIN_STAT_CAUSE = 5)
      ∧ (twinState s = 1 ∨ twinState s = 2 → s.marked TWIN_CTRL_ATTACH 0 = false → twinState t = 0 ∧ twinRole t = 0)) ∧
  (∀ (d : Desc) (s : State), canStart d 0x0C04 [8] s = true → claimC s d .system = 0 → twinState s = 3 →
    s.getF TWIN_SWAP_CTRL_PENDING = 0 →
    Runs (.twinRoleSwap d) s fun t => goesOn d .twinSwap t ∧ t.getF TWIN_SWAP_CTRL_PENDING = 1
      ∧ t.r64 TWIN_SWAP_AT_LO = d.arg [8] 0) ∧
  (∀ (d : Desc) (s : State), canStart d 0x0C05 [2, 2] s = true → claimC s d .system = 0 →
    bindOwn s d [d.arg [2, 2] 0, d.arg [2, 2] 1] = 0 → bindOk [d.arg [2, 2] 0, d.arg [2, 2] 1] = 0 →
    bindRoom s [(0x220, d.arg [2, 2] 0), (0x221, d.arg [2, 2] 1)] = true →
    Runs (.twinBindEvents d) s fun t => done d t ∧ t.owner .system = some d.session) ∧
  (∀ s : State, attachConflict s = false → journalIdle s = true →
    Runs .twinCtrlAttach s fun t => (twinState s = 0 → twinState t = 1 ∧ t.pins.twinSync = false)
      ∧ (twinState s = 4 → twinState t = 2) ∧ (twinState s = 3 → twinState t = 2 ∧ t.getF TWIN_CATCHUP_PHASE = 1)) ∧
  (∀ s : State, journalIdle s = true → twinState s = 3 →
    Runs .twinCtrlDetach s fun t => twinState t = 4 ∧ twinRole t = twinRole s ∧ t.getF TWIN_STAT_ELIGIBLE = 0
      ∧ t.getF TWIN_STAT_CAUSE = 5) ∧
  (∀ s : State, twinState s = 3 → s.getF TWIN_SWAP_CTRL_PENDING = 0 →
    Runs .twinSwapGo s fun t => t.getF TWIN_SWAP_CTRL_PENDING = 1 ∧ t.isSet TWIN_SWAP_CTRL_GO = true)

namespace Sys2Proof.Claims

/-- The partner's beat for the boundary at hand stands. -/
def beatStands (s : State) : Bool := s.twin.beat.any (fun b => b.1 == (s.now + 8) / 128)

/-- No toggle was ever seen. -/
def neverToggled (s : State) : Bool := s.pins.liveInAt == 0

end Sys2Proof.Claims

/-- R85, R534, R536 to R540, R554: beats and toggles are sent at 128k - 64 and 128k - 16, in SOLO with PREF 0, in reset
and without a fast clock not at all, and judged at 128k - 8; two misses of both in a row make the partner dead, of one
alone a fault; frames are checked; TWIN_SYNC wakes, and is released. The model's own reading behind it: log entry 58. -/
def Obligations.TwinLink : Prop :=
  (∀ s : State, beatsOn s = true → s.now % 128 = 64 →
    Runs .twinBeatSend s fun t => t.twin.sent = some ((s.now + 64) / 128, twinRole s, twinState s, s.twin.inOrder,
      s.getF TWIN_STAT_ELIGIBLE + 2 * s.getF TWIN_STAT_BEATS_OK + 4 * s.getF TWIN_STAT_LIVE_OK)) ∧
  (∀ s : State, beatsOn s = true → s.now % 128 = 112 → Runs .twinLiveToggle s fun t => t.pins.liveOut = !s.pins.liveOut) ∧
  (∀ s : State, beatsOn s = false → Runs .twinBeatSend s fun t => t.twin.sent = s.twin.sent) ∧
  (∀ s : State, beatsOn s = false → Runs .twinLiveToggle s fun t => t.pins.liveOut = s.pins.liveOut) ∧
  (∀ (b role st ack fl : Nat) (s : State), twinState s = 0 → s.isSet TWIN_CFG_AUTO = true → twinPref s ≠ 0 →
    Runs (.twinBeatReceive b role st ack fl) s fun t => t.twin.beat = some (b / 128, role, st) ∧ t.twin.beatAt = s.now
      ∧ t.twin.ack = ack ∧ twinState t = 1) ∧
  (∀ (b st ack fl : Nat) (s : State), twinState s = 3 → twinRole s = 2 → journalIdle s = true →
    Runs (.twinBeatReceive b 1 st ack fl) s fun t => t.twin.beat = some (b / 128, 1, st) ∧ t.twin.beatAt = s.now
      ∧ (st = 2 → twinState t = 2) ∧ (st = 4 → twinState t = 4) ∧ (st = 3 → twinState t = 3
        ∧ (s.isSet TWIN_STAT_ELIGIBLE = true → bitOf fl 0 = false →
            t.getF TWIN_STAT_ELIGIBLE = 0 ∧ 2 ≤ t.getF TWIN_STAT_CAUSE ∧ t.getF TWIN_STAT_CAUSE ≤ 4))) ∧
  (∀ (x : Nat) (s : State), beatsOn s = true → s.now % 128 = 120 → aligned s = true → beatStands s = true → x ≠ 0 →
    x ≤ s.now → s.now ≤ x + 16 →
    Runs (.twinBeatJudge x) s fun t => t.getF TWIN_STAT_BEATS_OK = 1 ∧ t.getF TWIN_STAT_LIVE_OK = 1
      ∧ t.r64 TWIN_LAST_BEAT_LO = (s.now + 8) % 2 ^ 64 ∧ t.twin.symMiss = false ∧ t.twin.togMiss = false) ∧
  (∀ s : State, beatsOn s = true → s.now % 128 = 120 → s.twin.beat = none → neverToggled s = true →
    (s.twin.symMiss || s.twin.togMiss) = true → twinState s = 3 →
    Runs (.twinBeatJudge 0) s fun t => t.isSet TWIN_EVT_PARTNER_DEAD = true ∧ t.getF TWIN_STAT_BEATS_OK = 0
      ∧ t.getF TWIN_STAT_LIVE_OK = 0
      ∧ (twinRole s = 2 → s.isSet TWIN_STAT_ELIGIBLE = true → t.twin.take = some (s.now + 8))
      ∧ (twinRole s = 2 → s.isSet TWIN_STAT_ELIGIBLE = false → t.twin.take = s.twin.take)
      ∧ (twinRole s = 1 → journalIdle s = true → twinState t = 0 ∧ twinRole t = 0)) ∧
  (∀ (x : Nat) (s : State), beatsOn s = true → s.now % 128 = 120 → s.twin.beat = none → s.twin.symMiss = true →
    aligned s = true → x ≠ 0 → x ≤ s.now → s.now ≤ x + 16 → s.isSet TWIN_CFG_AUTO = false →
    Runs (.twinBeatJudge x) s fun t => t.isSet TWIN_EVT_LINK_FAULT = true ∧ t.getF TWIN_STAT_BEATS_OK = 0
      ∧ (twinState s = 3 → s.isSet TWIN_STAT_ELIGIBLE = true → t.getF TWIN_STAT_ELIGIBLE = 0 ∧ t.getF TWIN_STAT_CAUSE = 2)) ∧
  (∀ s : State, beatsOn s = true → s.now % 128 = 120 → aligned s = true → beatStands s = true → neverToggled s = true →
    s.twin.togMiss = true → s.isSet TWIN_CFG_AUTO = false →
    Runs (.twinBeatJudge 0) s fun t => t.isSet TWIN_EVT_SIDEBAND_FAULT = true ∧ t.getF TWIN_STAT_LIVE_OK = 0
      ∧ (twinState s = 3 → s.isSet TWIN_STAT_ELIGIBLE = true → t.getF TWIN_STAT_ELIGIBLE = 0 ∧ t.getF TWIN_STAT_CAUSE = 3)) ∧
  (∀ (k : Nat) (s : State),
    Runs (.twinFrameReceive k false) s fun t => t.twin.badAt.isSome = true ∧ t.twin.fseq = s.twin.fseq
      ∧ t.getF TWIN_LINK_ERR_CRC = satAdd 16 (s.getF TWIN_LINK_ERR_CRC) 1) ∧
  (∀ (k : Nat) (s : State), k ≠ s.twin.fseq →
    Runs (.twinFrameReceive k true) s fun t => t.twin.fseq = k
      ∧ (k = (s.twin.fseq + 1) % 2 ^ 32 → t.twin.inOrder = k)
      ∧ t.getF TWIN_LINK_ERR_SEQ
        = if k = (s.twin.fseq + 1) % 2 ^ 32 then s.getF TWIN_LINK_ERR_SEQ else satAdd 16 (s.getF TWIN_LINK_ERR_SEQ) 1) ∧
  (∀ (at' : Nat) (s : State), s.twin.badAt = some at' → at' ≤ s.now → s.isSet TWIN_CFG_AUTO = false →
    Runs .linkFault s fun t => t.isSet TWIN_EVT_LINK_FAULT = true ∧ t.twin.badAt = none
      ∧ (twinState s = 3 → s.isSet TWIN_STAT_ELIGIBLE = true → t.getF TWIN_STAT_ELIGIBLE = 0 ∧ t.getF TWIN_STAT_CAUSE = 2)) ∧
  (∀ s : State, s.twin.syncLow = none → wakeBits 64 [] [] s ≠ 0 →
    Runs .twinSyncEdge s fun t => t.getF PWR_WAKE_SRC_SRC = (s.getF PWR_WAKE_SRC_SRC ||| wakeBits 64 [] [] s)) ∧
  (∀ (at' : Nat) (s : State), s.twin.syncLow = some at' → at' + 12000 ≤ s.now →
    Runs .twinSyncRelease s fun t => t.pins.twinSync = true ∧ t.twin.syncLow = none)

namespace Sys2Proof.Claims

/-- The command whose completion may go to ring `r` on a primary in PAIRED, its mirror held there. -/
def mirrorSends (r : Nat) (c : Cmd) (m : TwinMirror) (s : State) : Bool :=
  decide (r < 64) && mirrorsOn s && ringWrites s r && !isStandby s && portFlows s (s.getF (RING_CFG_PORT r)) && noneCloses s
    && decide (ringNext s r = some c) && decide (mirrorAt s (.ring r) c.seq = some m) && decide (c.seq < 2 ^ 64)
    && checkRange s (settAcq (s.getF (RING_CFG_SESSION r)) true) none (cqSlot s r c.seq) 32 == .ok
    && !chanFull s false (cqSlot s r c.seq) 32 && (rmwErrs s (cqSlot s r c.seq) 32).isEmpty

/-- A journal record is the next and takes effect here. -/
def applies (jseq apply : Nat) (s : State) : Bool := journalNext jseq apply s && effectDue s

end Sys2Proof.Claims

/-- R542, R543, R546 to R549, R552, R557, R565: the journal's records take effect in JSEQ order at their APPLY, mirrors
hold completions back until FINISH, and digests are compared. The model's own reading behind it: log entries 60, 80, 81. -/
def Obligations.TwinJournal : Prop :=
  (∀ (q a r k f : Nat) (raw : BitVec 512) (s : State), applies q a s = true → twinRole s = 1 → r < 64 →
    s.twin.unapplied.find? (fun e => decide (e.1 = .ring r)) = some (.ring r, k) →
    Runs (.journalCommand q a (.ring r) [raw] f) s fun t => t.twin.jseq = q
      ∧ t.twin.unapplied = s.twin.unapplied.erase (.ring r, k)
      ∧ if twinState s = 3 ∧ fseqPast s.twin.ack f = false
        then (r, k, f) ∈ t.twin.unacked ∧ t.getF (RING_SQ_HEAD_HEAD r) = s.getF (RING_SQ_HEAD_HEAD r)
        else t.getF (RING_SQ_HEAD_HEAD r) = k % 65536) ∧
  (∀ (q a r f : Nat) (raw : BitVec 512) (s : State), applies q a s = true → twinRole s = 2 → twinState s ≠ 0 → r < 64 →
    findCmd s (.ring r) ((s.ring r).fetched + 1) = none →
    Runs (.journalCommand q a (.ring r) [raw] f) s fun t => t.twin.jseq = q
      ∧ (∃ c, findCmd t (.ring r) ((s.ring r).fetched + 1) = some c ∧ c.phase = .fetched ∧ c.raw = raw)
      ∧ t.getF (RING_SQ_HEAD_HEAD r) = ((s.ring r).fetched + 1) % 65536) ∧
  (∀ (q a k : Nat) (src : Src) (s : State), applies q a s = true →
    Runs (.journalStart q a src k) s fun t => t.twin.jseq = q ∧ (src, k) ∈ t.twin.starts) ∧
  (∀ (q a p v : Nat) (s : State), applies q a s = true → p < 10 →
    Runs (.journalIndex q a (MBOX_IN_TAIL p) v) s fun t => t.twin.jseq = q
      ∧ if inTailFits p v s then t.getF (MBOX_IN_TAIL_TAIL p) = v % 256
        else t.getF (MBOX_IN_TAIL_TAIL p) = s.getF (MBOX_IN_TAIL_TAIL p) ∧ t.isSet (MBOX_STAT_PROTO_ERR p) = true) ∧
  (∀ (q a r v : Nat) (s : State), applies q a s = true → r < 64 →
    Runs (.journalIndex q a (RING_SQ_TAIL r) v) s fun t => t.twin.jseq = q
      ∧ if sqTailFits r v s then t.getF (RING_SQ_TAIL_TAIL r) = v % 65536
        else t.getF (RING_SQ_TAIL_TAIL r) = s.getF (RING_SQ_TAIL_TAIL r) ∧ t.isSet (RING_STAT_DB_ERR r) = true) ∧
  (∀ (q a x : Nat) (l : List Byte) (s : State), applies q a s = true →
    Runs (.journalHostWrite q a x l) s fun t => t.twin.jseq = q ∧ t.bytes x l.length = l ∧ memKept x (x + l.length) s t) ∧
  (∀ (q a x : Nat) (l : List Byte) (s : State), applies q a s = true →
    Runs (.journalHostRead q a x l) s fun t => t.twin.jseq = q ∧ t.bytes x l.length = l ∧ memKept x (x + l.length) s t) ∧
  (∀ (q a p : Nat) (s : State), applies q a s = true → p < 10 → openSessions s p = [] → noneCloses s = true →
    Runs (.journalPortEvent q a p) s fun t => t.twin.jseq = q ∧ t.getF (MBOX_STAT_READY p) = 0
      ∧ t.isSet ERR_STAT_2_PORT_RESET = true) ∧
  (∀ (q a op x : Nat) (l : List Nat) (s : State), applies q a s = true →
    Runs (.journalRandom q a op (x :: l)) s fun t => t.twin.jseq = q
      ∧ ∀ e ∈ t.fog.ops, e.1 = op → e.2.seed = x) ∧
  (∀ (q a x : Nat) (s : State), applies q a s = true → twinState s = 3 →
    Runs (.journalSwap q a x) s fun t => t.twin.jseq = q ∧ t.twin.swap = some (swapTick x a)
      ∧ t.getF TWIN_SWAP_CTRL_PENDING = 1) ∧
  (∀ (q a : Nat) (s : State), applies q a s = true → journalIdle s = true → twinState s = 3 →
    Runs (.detachRecordApply q a) s fun t =>
      (twinRole s = 2 → twinState t = 4 ∧ twinRole t = 2 ∧ t.getF TWIN_STAT_ELIGIBLE = 0 ∧ t.getF TWIN_STAT_CAUSE = 5)
      ∧ (twinRole s = 1 → twinState t = 0 ∧ twinRole t = 0)) ∧
  (∀ (r q w : Nat) (bs : List Byte) (s : State), twinRole s = 2 → twinState s = 3 → bs.length = 32 → w < q →
    ringNext s r = none →
    Runs (.mirror (.ring r) q w bs) s fun t => ∃ m ∈ t.twin.mirrors, m.src = .ring r ∧ m.seq = q ∧ m.written = w
      ∧ m.bytes = bs ∧ m.finished = false) ∧
  (∀ (r : Nat) (c : Cmd) (m : TwinMirror) (s : State), mirrorSends r c m s = true →
    m.bytes.length = 32 →
    Runs (.finish (.ring r) c.seq) s fun t => t.bytes (cqSlot s r c.seq) 32 = m.bytes
      ∧ t.r64 (RING_SEQ_LO r) = (c.seq + 1) % 2 ^ 64 ∧ mirrorAt t (.ring r) c.seq = none) ∧
  (∀ (h x v : Nat) (s : State), twinState s = 3 → s.twin.own.find? (·.1 == h) = none →
    Runs (.digest h x v) s fun t => (h, x % 2 ^ 128) ∈ t.twin.theirs
      ∧ t.getF TWIN_STAT_ELIGIBLE = s.getF TWIN_STAT_ELIGIBLE
      ∧ (twinRole s = 2 → ∀ k, k < 24 → bitOf v (32 + k) = true → (k, h - 1, bitOf v k) ∈ t.lynx.verdicts)) ∧
  (∀ (h x v : Nat) (s : State), twinState s = 3 → s.getF TWIN_STAT_ELIGIBLE = 1 →
    (s.twin.own.find? (·.1 == h)).any (fun e => e.2 != x % 2 ^ 128) = true →
    Runs (.digest h x v) s fun t => t.getF TWIN_STAT_ELIGIBLE = 0 ∧ t.getF TWIN_STAT_CAUSE = 1
      ∧ t.r64 TWIN_DIV_HOP_LO = h % 2 ^ 64 ∧ t.isSet TWIN_EVT_DIVERGE = true
      ∧ (twinRole s = 1 → t.isSet ERR_STAT_3_DIVERGE = true)) ∧
  (∀ (h : Nat) (s : State), twinState s = 3 → h * 49152 + 36864 ≤ s.now → s.twin.own = [] → s.twin.theirs = [] →
    Runs (.twinDigestSend h) s fun t => t.twin.own = [(h, digestOf s h)]
      ∧ t.getF TWIN_STAT_ELIGIBLE = s.getF TWIN_STAT_ELIGIBLE) ∧
  (∀ (h : Nat) (s : State), twinState s = 3 → s.getF TWIN_STAT_ELIGIBLE = 1 → h * 49152 + 36864 ≤ s.now →
    s.twin.own = [] → (s.twin.theirs.find? (·.1 == h)).any (fun e => e.2 != digestOf s h) = true →
    Runs (.twinDigestSend h) s fun t => t.getF TWIN_STAT_ELIGIBLE = 0 ∧ t.getF TWIN_STAT_CAUSE = 1
      ∧ t.r64 TWIN_DIV_HOP_LO = h % 2 ^ 64) ∧
  (∀ (p : Nat) (m : TwinMirror) (s : State), mirrorsOn s = true → s.twin.mirrors = [m] → m.src = .mbox p → m.finished = false →
    m.sentAt + max 1 (s.getF TWIN_CFG_ACK_TO) * 49152 ≤ s.now → s.isSet TWIN_CFG_AUTO = false →
    Runs .ackTimeout s fun t => t.isSet TWIN_EVT_ACK_TIMEOUT = true ∧ t.getF TWIN_STAT_ELIGIBLE = 0
      ∧ t.getF TWIN_STAT_CAUSE = 4)

namespace Sys2Proof.Claims

/-- The primary's PREF and versions suit this twin's (R551). -/
def controlSuits (v : List Nat) (pref : Nat) (s : State) : Bool :=
  twinState s == 1 && s.twin.ctl.isNone && pref != twinPref s && decide (v = ownVersions s)

/-- No ball of a session is open at any port. -/
def noneOpen (s : State) : Bool := (List.range 10).all (fun p => (openSessions s p).isEmpty)

end Sys2Proof.Claims

/-- R43, R535, R551 to R557: the control exchange gives the roles, the standby adopts the time and locks on TWIN, catch-up
runs through its phases, and a takeover and a role swap happen at T. The model's own reading behind it: log entries
59, 60. -/
def Obligations.TwinPairing : Prop :=
  (∀ (x : Nat) (s : State), s.twin.take = some x → x ≤ s.now → twinRole s = 2 → twinState s = 3 → s.twin.mirrors = [] →
    s.denrek.cmds = [] →
    Runs .takeover s fun t => twinState t = 0 ∧ twinRole t = 0 ∧ t.r64 TWIN_T_LO = x % 2 ^ 64
      ∧ t.isSet TWIN_EVT_TAKEOVER = true ∧ t.isSet ERR_STAT_3_FAILOVER = true ∧ t.getF TWIN_STAT_ELIGIBLE = 0
      ∧ t.getF PINMUX_SHARED_OE = 1 ∧ t.reg CLK_REF_PRIO = s.twin.clk.1) ∧
  (∀ (x : Nat) (s : State), s.twin.swap = some x → x ≤ s.now → twinState s = 3 → s.twin.mirrors = [] →
    Runs .roleSwapExecute s fun t => twinState t = 3 ∧ t.r64 TWIN_T_LO = x % 2 ^ 64
      ∧ t.getF TWIN_SWAP_CTRL_PENDING = 0 ∧ t.twin.swap = none
      ∧ (twinRole s = 1 → twinRole t = 2 ∧ t.reg CLK_REF_PRIO = 8)
      ∧ (twinRole s = 2 → twinRole t = 1 ∧ t.reg CLK_REF_PRIO = s.twin.clk.1)) ∧
  (∀ (v : List Nat) (s : State), twinState s = 1 → s.twin.ctl = none → s.marked TWIN_CTRL_ATTACH 0 = false →
    Runs (.control v (twinPref s)) s fun t => t.isSet TWIN_EVT_ROLE_CLASH = true ∧ twinState t = 0) ∧
  (∀ (v : List Nat) (pref : Nat) (s : State), twinState s = 1 → s.twin.ctl = none → pref ≠ twinPref s → v ≠ ownVersions s →
    s.marked TWIN_CTRL_ATTACH 0 = false →
    Runs (.control v pref) s fun t => t.isSet TWIN_EVT_VERSION_MISMATCH = true ∧ twinState t = 0) ∧
  (∀ (v : List Nat) (pref : Nat) (s : State), controlSuits v pref s = true → noneOpen s = true → noneCloses s = true →
    Runs (.control v pref) s fun t => twinState t = 1 ∧ t.twin.ctl = some (v, pref)
      ∧ twinRole t = (if twinPref s = 2 then 2 else 1)) ∧
  (∀ (x : Nat) (s : State), twinState s = 1 → twinRole s = 2 → s.twin.ctl.isSome = true → s.twin.adopted = false →
    s.now % 128 = 0 → x % 128 = 0 →
    Runs (.twinTimeAdopt x) s fun t => t.clk.time = x % 2 ^ 64 ∧ t.twin.adopted = true) ∧
  (∀ s : State, twinState s = 1 → twinRole s = 2 → s.twin.adopted = true → qualified s 8 = true → journalIdle s = true →
    Runs .pairingDone s fun t => twinState t = 2 ∧ t.getF CLK_STATUS_SEL = 8 ∧ t.getF CLK_STATUS_STATE = 1
      ∧ t.getF TWIN_CATCHUP_PHASE = 1) ∧
  (∀ (b : Nat) (s : State), twinState s = 1 → twinRole s = 1 → s.twin.beat = some (b, 2, 2) → journalIdle s = true →
    Runs .pairingDone s fun t => twinState t = 2 ∧ twinRole t = 1) ∧
  (∀ s : State, twinState s = 2 → s.getF TWIN_CATCHUP_PHASE = 1 → s.now % 49152 = 0 → s.now < 2 ^ 63 →
    (twinRole s = 2 ∨ replayGains s = true ∧ (findFree s ddrFwEnd (ddrEnd s) catchupBytes).isSome = true) →
    Runs .catchupSnapshot s fun t => t.getF TWIN_CATCHUP_PHASE = 2 ∧ t.twin.j = s.now ∧ t.twin.jseq = 0
      ∧ t.r64 TWIN_SNAP_BYTES_LO = 0 ∧ t.twin.own = [] ∧ t.twin.theirs = []) ∧
  (∀ s : State, twinState s = 2 → s.getF TWIN_CATCHUP_PHASE = 1 → s.now % 49152 = 0 → twinRole s ≠ 2 →
    (replayGains s = false ∨ findFree s ddrFwEnd (ddrEnd s) catchupBytes = none) → s.marked TWIN_CTRL_ATTACH 0 = false →
    Runs .catchupSnapshot s fun t => t.isSet TWIN_EVT_CATCHUP_FAIL = true ∧ twinState t = 0) ∧
  (∀ (x : Nat) (l : List Byte) (s : State), twinState s = 2 → twinRole s = 2 →
    2 ≤ s.getF TWIN_CATCHUP_PHASE → s.getF TWIN_CATCHUP_PHASE ≤ 3 → kindOf s x ≠ .regs →
    Runs (.snapshot x l false) s fun t => t.bytes x l.length = l ∧ memKept x (x + l.length) s t
      ∧ t.getF TWIN_CATCHUP_PHASE = 3 ∧ t.r64 TWIN_SNAP_BYTES_LO = (s.r64 TWIN_SNAP_BYTES_LO + l.length) % 2 ^ 64) ∧
  (∀ (x : Nat) (l : List Byte) (s : State), twinState s = 2 → twinRole s = 2 →
    2 ≤ s.getF TWIN_CATCHUP_PHASE → s.getF TWIN_CATCHUP_PHASE ≤ 3 →
    Runs (.snapshot x l true) s fun t => t.twin.snap = l ∧ t.getF TWIN_CATCHUP_PHASE = 4
      ∧ t.r64 TWIN_SNAP_BYTES_LO = (s.r64 TWIN_SNAP_BYTES_LO + l.length) % 2 ^ 64) ∧
  (∀ s : State, twinState s = 2 → twinRole s = 2 → s.getF TWIN_CATCHUP_PHASE = 4 → s.now % 49152 = 0 →
    Runs .catchupJoin s fun t => twinState t = 3 ∧ t.getF TWIN_STAT_ELIGIBLE = 1 ∧ t.isSet TWIN_EVT_CATCHUP_DONE = true
      ∧ t.getF TWIN_CATCHUP_PHASE = 0) ∧
  (∀ (b : Nat) (s : State), twinState s = 2 → twinRole s = 1 → 2 ≤ s.getF TWIN_CATCHUP_PHASE → s.twin.beat = some (b, 2, 3) →
    Runs .catchupJoin s fun t => twinState t = 3 ∧ twinRole t = 1 ∧ t.getF TWIN_STAT_ELIGIBLE = 1
      ∧ t.isSet TWIN_EVT_CATCHUP_DONE = true ∧ t.getF TWIN_CATCHUP_PHASE = 0 ∧ t.twin.buf = none) ∧
  (∀ (full : Bool) (s : State), twinState s = 2 → s.marked TWIN_CTRL_ATTACH 0 = false →
    (full = true ∧ 2 ≤ s.getF TWIN_CATCHUP_PHASE) ∨ s.twin.pairFrom + clampN 100 2000 (s.getF TWIN_CFG_CATCHUP_MS) * 98304 ≤ s.now →
    Runs (.catchupTimeout full) s fun t => twinState t = 0 ∧ twinRole t = 0 ∧ t.isSet TWIN_EVT_CATCHUP_FAIL = true
      ∧ t.getF TWIN_CATCHUP_PHASE = 0)

/-! ### Status commands (R447, R474) -/

namespace Sys2Proof.Claims

/-- A status command writes the record of these items, as they stand when it runs. -/
def statusGives (i : Instr) (d : Desc) (out : Nat) (l : List RecItem) (s : State) : Prop :=
  outForm d out (recBytes s 0 l).length s = true → Runs i s (recordAt d out (recBytes s 0 l) s)

/-- The items of TDM_STATUS. -/
def tdmItems (n : Nat) : List RecItem :=
  [.w (TDM_CLK_STAT n), .w (TDM_BCLK_PER n), .q (TDM_FS_TIME_LO n)] ++ dirRecord n 0 ++ dirRecord n 1 ++ [.w TDM_EVT]

/-- The items of LYNX_STATUS. -/
def lynxItems : List RecItem :=
  (List.range 8).flatMap (fun n => [RecItem.w (LYNX_CTRL n), .w (LYNX_INFL n), .w (LYNX_PERF_MAC n)]
      ++ (List.range 4).map (fun l => .w (LYNX_PERF_STALL n l)))
    ++ [.w LYNX_EVT] ++ (List.range 24).map (fun k => .w (LYNX_STR_STAT k))

end Sys2Proof.Claims

/-- R447, R474, R61, R93, R167, R187, R208, R228, R250, R270, R304, R352, R379, R403, R442, R460, R472, R558, R476: every
status command writes its record to OUT, or, through a mailbox with OUT zero, gives its first 32 bytes in the message.
The model's own reading behind it: log entries 17, 22. -/
def Obligations.StatusRecords : Prop :=
  (∀ (d : Desc) (s : State), canStart d 0x0D03 [8] s = true → statusGives (.clockStatus d) d (d.arg [8] 0) clockRecord s) ∧
  (∀ (d : Desc) (s : State), canStart d 0x0D08 [8] s = true →
    statusGives (.powerStatus d) d (d.arg [8] 0) [.w PWR_STATUS, .w PWR_CTRL, .w PWR_WAKE_SRC, .w PWR_THERM] s) ∧
  (∀ (d : Desc) (s : State), canStart d 0x0E01 [8] s = true →
    statusGives (.deviceInfo d) d (d.arg [8] 0)
      ([.w SYS_ID, .w SYS_BOOT_STATUS, .w SYS_RST_CAUSE, .w SYS_LIFECYCLE, .w SYS_ROLLBACK, .raw 4 0]
        ++ imgItems s 1 ++ imgItems s 2 ++ imgItems s 3 ++ imgItems s 4) s) ∧
  (∀ (d : Desc) (s : State), canStart d 0x050A [8] s = true →
    statusGives (.decStatus d) d (d.arg [8] 0)
      ([.w DEC_SYNC_STAT, .q DEC_SYNC_TIME_LO] ++ (List.range 4).map (fun p => .w (DEC_FIR_CTRL p)) ++ [.w DEC_EVT]) s) ∧
  (∀ (d : Desc) (s : State), canStart d 0x0506 [1, 8] s = true → d.arg [1, 8] 0 < 32 →
    ownC s d (.channel (d.arg [1, 8] 0)) = 0 →
    statusGives (.decReadDetectors d) d (d.arg [1, 8] 1) [.w (DEC_CH_PEAK (d.arg [1, 8] 0)), .w (DEC_CH_RMS (d.arg [1, 8] 0)),
      .w (DEC_CH_ENV (d.arg [1, 8] 0)), .w (DEC_CH_STAT (d.arg [1, 8] 0))] s) ∧
  (∀ (d : Desc) (s : State), canStart d 0x0408 [1, 8] s = true → d.arg [1, 8] 0 < 4 →
    statusGives (.tdmStatus d) d (d.arg [1, 8] 1) (tdmItems (d.arg [1, 8] 0)) s) ∧
  (∀ (d : Desc) (s : State), canStart d 0x0308 [1, 8] s = true → d.arg [1, 8] 0 < 8 →
    statusGives (.asrcStatus d) d (d.arg [1, 8] 1) [.w (ASRC_STAT (d.arg [1, 8] 0)), .w (ASRC_RATIO (d.arg [1, 8] 0)),
      .w (ASRC_LAT (d.arg [1, 8] 0)), .q (ASRC_T0_LO (d.arg [1, 8] 0)), .w ASRC_EVT] s) ∧
  (∀ (d : Desc) (s : State), canStart d 0x040A [8] s = true →
    statusGives (.spdifStatus d) d (d.arg [8] 0)
      ([.w SPDIF_STAT, .w SPDIF_PERIOD, .w SPDIF_ERR] ++ (List.range 6).map (fun k => .w (SPDIF_CS k))) s) ∧
  (∀ (d : Desc) (s : State), canStart d 0x0609 [8] s = true →
    statusGives (.gustStatus d) d (d.arg [8] 0)
      ([.w GUST_STAT, .w GUST_EVT, .q GUST_SWAP_TIME_LO, .w GUST_DIV_STAT, .w GUST_CLIP]
        ++ (List.range 16).map (fun i => .w (GUST_IN i)) ++ (List.range 32).map (fun o => .w (GUST_OUT_LVL o))) s) ∧
  (∀ (d : Desc) (s : State), canStart d 0x070F [8] s = true → outForm d (d.arg [8] 0) 32768 s = true →
    Runs (.foxReadTracks d) s (recordAt d (d.arg [8] 0) (s.bytes (foxBase + 0xC000) 32768) s)) ∧
  (∀ (d : Desc) (s : State), canStart d 0x0710 [8] s = true →
    statusGives (.foxStatus d) d (d.arg [8] 0)
      ([.w SENSE_EVT] ++ (List.range 4).map (fun j => .w (FOX_EGO_OUT j)) ++ [.w FOX_EVT]
        ++ (List.range 272).map (fun i => .raw 4 (s.le (foxBase + 0x14000 + 4 * i) 4))) s) ∧
  (∀ (d : Desc) (s : State), canStart d 0x0908 [1, 8] s = true → coreC s d (d.arg [1, 8] 0) = 0 →
    statusGives (.martenStatus d) d (d.arg [1, 8] 1)
      ([.w (MARTEN_CTRL (d.arg [1, 8] 0)), .w (MARTEN_PC (d.arg [1, 8] 0)), .w (MARTEN_FAULT (d.arg [1, 8] 0)),
        .q (MARTEN_FADDR_LO (d.arg [1, 8] 0)), .w (MARTEN_PERF_CYC (d.arg [1, 8] 0)),
        .w (MARTEN_PERF_STALL_INFL (d.arg [1, 8] 0)), .w (MARTEN_PERF_STALL_BANK (d.arg [1, 8] 0)),
        .w (MARTEN_PERF_HOP_BUSY (d.arg [1, 8] 0)), .w (MARTEN_PERF_HOP_MAX (d.arg [1, 8] 0)),
        .w (MARTEN_PERF_HOP_OVR (d.arg [1, 8] 0)), .w (MARTEN_PERF_INFL (d.arg [1, 8] 0))]) s) ∧
  (∀ (d : Desc) (s : State), canStart d 0x0807 [8] s = true →
    statusGives (.lynxStatus d) d (d.arg [8] 0) lynxItems s) ∧
  (∀ (d : Desc) (s : State), canStart d 0x0A06 [8] s = true →
    statusGives (.fogStatus d) d (d.arg [8] 0) [.w FOG_STAT, .w (FOG_PERF_KIB 1), .w (FOG_PERF_KIB 2), .w (FOG_PERF_KIB 3),
      .w FOG_PERF_BUSY, .w FOG_PERF_STALL_MEM, .w FOG_EVT] s) ∧
  (∀ (d : Desc) (s : State), canStart d 0x0207 [8] s = true →
    statusGives (.memStatus d) d (d.arg [8] 0) ([RecItem.w MEMC_STAT, .w MEMC_USABLE]
      ++ (List.range 4).map (fun c => .w (MEMC_BW c)) ++ (List.range 8).map (fun g => .w (MEMC_ECC g))) s) ∧
  (∀ (d : Desc) (s : State), canStart d 0x0108 [2, 8] s = true → d.arg [2, 8] 0 < 64 →
    ringOf s (portOf s d.src) (d.arg [2, 8] 0) = true →
    statusGives (.ringStatus d) d (d.arg [2, 8] 1) (ringRecord (d.arg [2, 8] 0)) s) ∧
  (∀ (d : Desc) (s : State), canStart d 0x0305 [1, 8] s = true → d.arg [1, 8] 0 < 24 →
    statusGives (.streamStatus d) d (d.arg [1, 8] 1) [.w (LYNX_STR_CFG (d.arg [1, 8] 0)), .w (LYNX_STR_POL (d.arg [1, 8] 0)),
      .w (LYNX_STR_STAT (d.arg [1, 8] 0))] s) ∧
  (∀ (d : Desc) (s : State), canStart d 0x0C06 [8] s = true → statusGives (.twinStatus d) d (d.arg [8] 0) twinRecord s)

/-! ### Frames: what commands leave as it was -/

namespace Sys2Proof.Claims

/-- The rows that store no byte: those that are no Denrek command, write no memory and finish no command. -/
def storesNothing : Instr → Bool
  | .pairLoRead _ _ | .registerReadClear _ _ _ | .syncOverflowApply | .refLost _ _ _ _ _ | .refInitialQualify _ _ _ _ _
  | .refRequalify _ _ _ _ _ | .refSwitchDone | .xtalLost | .audioPllLock | .fastCountHandover | .clkAlarm
  | .senseSyncPulse _ | .lynxIdleGate _ | .dormouseHitValidWrite | .wakeOutRelease | .porRelease _ _
  | .watchdogKick _ | .decOutputStrobe _ _ _ | .decStuckDetect _ _ | .syncInEdge _ | .decSyncGo | .decSwapRequest _
  | .txSlotFetch _ _ _ | .rxFrameReceive _ _ _ _ | .tdmTrigGo | .startInEdge _ | .muteNChange _
  | .spdifFrameReceive _ _ _ _ _ _ | .guardRelease _ | .gustMonitorWindow _ | .gustTripClear _ | .gustSwapRequest
  | .gustCopyDone | .gustCoefWrite _ _ | .gustPathWrite _ _ _ | .gustLoadGo _ | .martenTimer _ | .martenDmaGo _ _
  | .martenCtrlRun _ | .martenSignalRaise _ _ | .martenXcoreRaise _ | .lynxJobRelease | .lynxJobPush _ | .fogOpAdmit
  | .fogExchangeTimeout _ | .fLoad _ | .fEncenc _ | .fAdd _ | .fSub _ | .fMulp _ | .fMulc _ | .fAddc _ | .fMul _ | .fRelin _
  | .fRescale _ | .fModsw _ | .fRot _ | .fConj _ | .fLevel _ | .fPoly _ | .fogOpPush | .fogKsRegisterGo | .fogRetGo
  | .memcScrub _ | .memcTrain | .memcTrainDone _ | .mboxInTailWrite _ _ | .mboxOutHeadWrite _ _ | .mboxDescriptorTake _
  | .noticeWrite _ | .ringSqTailWrite _ _ _ | .ringCqHeadWrite _ _ _ | .ringFetch _ | .ringCoalTimeout _
  | .ringIrqPendClear _ _ | .syncObjSignalWrite _ _ | .syncAddDeltaWrite _ | .twinSwapGo | .pciePowerStateChange _ _ _ _
  | .msixUnmask _ _ | .portReady _ | .regRead _ _ _ _ | .memRead _ _ _ _ _ | .status _ | .resetEn _ | .directModeClose _ _
  | .twinBeatSend | .twinLiveToggle | .twinFrameReceive _ _ | .digest _ _ _ | .twinDigestSend _
  | .journalCommand _ _ _ _ _ | .journalStart _ _ _ _ | .journalIndex _ _ _ _ | .journalRandom _ _ _ _ | .journalSwap _ _ _
  | .twinSyncRelease | .twinTimeAdopt _ | .read _ _ _ | .write _ _ _ _ _ | .rdbuf _ | .debugStatus _ | .dbgChallengeNew
  | .dbgUnlockGo | .dbgTokenVerifyDone | .dbgHalt _ | .dbgHaltComplete _ | .dbgRegdataAccess _ _ | .trstNAssert
  | .tapExtest _ _ | .tapIdcode | .tapSamplePreload _ _ | .tapClamp | .tapHighz | .tapMbist | .tapBypass
  | .requalificationRestart _ _ _ | .systemPllLock => true
  | _ => false

end Sys2Proof.Claims

/-- No row of these changes a byte of memory, whatever its operands and whatever the state; a frame of the keyword engine
changes the pre-roll ring alone, and a converter's reads only its input ring, where streams feed it. -/
def Obligations.FrameMemory : Prop :=
  (∀ (i : Instr) (s t : State), storesNothing i = true → exec i s = .next t → memSame s t) ∧
  (∀ (scores : List Nat) (x : Nat) (audio : List (BitVec 16)) (s t : State), exec (.kwsFrame scores x audio) s = .next t →
    (prerollBytes (s.reg DORMOUSE_CTRL).toNat = 0 ∨ s.getF DORMOUSE_PREROLL_WR < prerollBytes (s.reg DORMOUSE_CTRL).toNat) →
    ∀ a, (∀ w, w < prerollBytes (s.reg DORMOUSE_CTRL).toNat → a ≠ prerollAddr s w) → t.byte a = s.byte a) ∧
  (∀ (n : Nat) (s t : State), exec (.asrcOutwardRead n) s = .next t → converterFed s n = false → memSame s t) ∧
  (∀ (n : Nat) (s t : State), exec (.asrcOutwardRead n) s = .next t →
    ∀ a, (∀ k, a < asrcWord s n k ∨ asrcWord s n k + 4 ≤ a) → t.byte a = s.byte a)

namespace Sys2Proof.Claims

/-- The register blocks (R10) that a row may write, for rows that are no Denrek command. -/
def writesIn : Instr → Option (List Nat)
  | .watchdogKick _ | .startInEdge _ | .resetEn _ | .twinBeatSend | .twinLiveToggle | .twinSyncRelease
  | .twinTimeAdopt _ | .trstNAssert | .tapExtest _ _ | .tapIdcode | .tapSamplePreload _ _ | .tapClamp | .tapHighz
  | .tapMbist | .tapBypass => some []
  | .bootSourceVerify _ _ _ | .sysDlGo _ => some [0x2000]
  | .audioPllLock | .requalificationRestart _ _ _ => some [0x2001]
  | .refLost _ _ _ _ _ | .refInitialQualify _ _ _ _ _ | .refRequalify _ _ _ _ _ | .refSwitchDone | .xtalLost => some [0x2001, 0x2003]
  | .wakeOutRelease => some [0x2002]
  | .lynxIdleGate _ => some [0x2002, 0x200C]
  | .mboxDescriptorTake _ => some [0x2003, 0x2004]
  | .ringSqTailWrite _ _ _ | .ringCqHeadWrite _ _ _ => some [0x2003, 0x2004, 0x2016]
  | .syncObjSignalWrite _ _ | .syncAddDeltaWrite _ => some [0x2003, 0x2005, 0x2016]
  | .muteNChange _ => some [0x2003, 0x2007, 0x200A]
  | .pciePowerStateChange _ _ _ _ => some [0x2003, 0x2012]
  | .mboxInTailWrite _ _ | .mboxOutHeadWrite _ _ => some [0x2003, 0x2016]
  | .ringCoalTimeout _ | .ringIrqPendClear _ _ => some [0x2004]
  | .decStuckDetect _ _ | .syncInEdge _ | .decSyncGo | .decSwapRequest _ => some [0x2006]
  | .tdmTrigGo => some [0x2007]
  | .guardRelease _ => some [0x2008]
  | .rxFrameReceive _ _ _ _ => some [0x2003, 0x2005, 0x2008, 0x200E, 0x2016]
  | .gustCoefWrite _ _ => some [0x2003, 0x2004, 0x2005, 0x200A, 0x200E, 0x2016]
  | .gustTripClear _ | .gustSwapRequest | .gustPathWrite _ _ _ | .gustLoadGo _ => some [0x200A]
  | .doaPush _ _ => some [0x200B]
  | .martenTimer _ | .martenSignalRaise _ _ | .martenXcoreRaise _ => some [0x200E]
  | .martenDmaGo _ _ => some [0x200E, 0x2012]
  | .dbgHalt _ => some [0x200E, 0x2013]
  | .memcTrain | .memcTrainDone _ => some [0x200F]
  | .twinSwapGo | .twinFrameReceive _ _ | .journalStart _ _ _ _ | .journalHostWrite _ _ _ _ | .journalRandom _ _ _ _
  | .journalSwap _ _ _ => some [0x2011]
  | .msixUnmask _ _ | .status _ | .directModeClose _ _ => some [0x2012]
  | .read _ _ _ | .write _ _ _ _ _ | .rdbuf _ | .debugStatus _ | .dbgChallengeNew | .dbgUnlockGo | .dbgTokenVerifyDone
  | .dbgHaltComplete _ | .dbgRegdataAccess _ _ => some [0x2013]
  | .kwsFrame _ _ _ | .dormouseHitValidWrite => some [0x2014]
  | .spiImuIntEdge _ | .imuReadStart | .wheelEdgeAccept _ | .wheelTickEdge _ _ => some [0x2015]
  | _ => none

end Sys2Proof.Claims

/-- A well-formed row of these writes no register outside its blocks. -/
def Obligations.FrameRegisters : Prop :=
  ∀ (i : Instr) (bs : List Nat) (s t : State), i.wf = true → writesIn i = some bs → exec i s = .next t → regsKept bs s t

namespace Sys2Proof.Claims

/-- Denrek commands that set something up and write no memory: the descriptor, its opcode and PARAM layout, the blocks of
its unit. -/
def setupRow : Instr → Option (Desc × Nat × List Nat × List Nat)
  | .sessionOpen d => some (d, 0x0101, [8], [])
  | .sessionInfo d => some (d, 0x0103, [2], [])
  | .ringConfig d => some (d, 0x0106, [2, 4, 4, 4, 4], [])
  | .streamRoute d => some (d, 0x0303, [1, 1, 1], [])
  | .noticeMask d => some (d, 0x0E07, [4], [])
  | .nop d => some (d, 0x0E08, [8], [])
  | .deviceReset d => some (d, 0x0E02, [], [])
  | .syncAlloc d => some (d, 0x0B01, [2, 8], [])
  | .syncSignal d => some (d, 0x0B03, [2, 8], [])
  | .syncAdd d => some (d, 0x0B04, [2, 8], [])
  | .syncRead d => some (d, 0x0B05, [2], [])
  | .decOpenChannel d => some (d, 0x0502, [1, 4, 4], [0x2006])
  | .decSetClocks d => some (d, 0x0501, [4, 8], [0x2006])
  | .decSwapBank d => some (d, 0x0508, [1], [0x2006])
  | .decSync d => some (d, 0x0509, [1, 8], [0x2006])
  | .tdmConfigClock d => some (d, 0x0401, [1, 4], [0x2007])
  | .tdmConfigDir d => some (d, 0x0402, [1, 1, 4, 4], [0x2007])
  | .tdmSetMute d => some (d, 0x0407, [1, 1], [0x2007])
  | .gustConfig d => some (d, 0x0601, [16, 4], [0x200A])
  | .gustLoadCoef d => some (d, 0x0603, [1, 2, 8], [0x200A])
  | .gustSwap d => some (d, 0x0604, [], [0x200A])
  | .gustClearTrip d => some (d, 0x0607, [4], [0x200A])
  | .gustSetMute d => some (d, 0x0608, [4], [0x200A])
  | .foxConfig d => some (d, 0x0701, [4, 4, 4], [0x200B])
  | .foxSensorEn d => some (d, 0x070A, [4], [0x200B])
  | .foxGrant d => some (d, 0x070B, [1, 16], [0x200B])
  | .senseSetWheel d => some (d, 0x0705, [1, 4], [0x2015])
  | .martenStart d => some (d, 0x0903, [1, 2], [0x200E, 0x2013])
  | .martenSignal d => some (d, 0x0905, [1, 4], [0x200E])
  | .lynxStreamBind d => some (d, 0x0803, [1, 1, 4, 4], [0x200C])
  | .lynxStreamReset d => some (d, 0x0804, [1], [0x200C])
  | .fogExchangeRing d => some (d, 0x0A03, [8, 8, 1, 4], [0x200D])
  | .twinConfig d => some (d, 0x0C01, [1, 1, 2], [0x2011])
  | .twinRoleSwap d => some (d, 0x0C04, [8], [0x2011])
  | .clockSetRefs d => some (d, 0x0D01, [4, 4, 4, 4], [0x2001])
  | .clockForceRef d => some (d, 0x0D02, [1, 1], [0x2001])
  | .clockSetMclk d => some (d, 0x0D04, [4], [0x2001])
  | .powerSetClocks d => some (d, 0x0D07, [1], [0x2002, 0x200C, 0x200D])
  | .dormouseConfig d => some (d, 0x0D0C, [4], [0x2014])
  | .rollbackAdvance d => some (d, 0x0E03, [1], [0x2000])
  | .keyRevoke d => some (d, 0x0E04, [1], [0x2000])
  | .watchdogSet d => some (d, 0x0E06, [4], [0x2000])
  | _ => none

/-- The command's origin and the objects it names exist. -/
def namesInRange (d : Desc) : Bool := d.src.wf && decide (d.waitId < 4096) && decide (d.signalId < 4096)

end Sys2Proof.Claims

/-- A set-up command changes no byte of memory, and no register outside its unit's blocks and those of mailboxes, rings,
sync objects and errors, whether it completes or is turned away by a check. -/
def Obligations.FrameCommands : Prop :=
  ∀ (i : Instr) (d : Desc) (op : Nat) (z own : List Nat) (s t : State), setupRow i = some (d, op, z, own) →
    canStart d op z s = true → namesInRange d = true → exec i s = .next t →
    memSame s t ∧ regsKept (own ++ [0x2003, 0x2004, 0x2005, 0x2016]) s t
end

