-- ==== Sys2Proof/Laws/Tab.lean ====
section
/-! SUPPORT. Sparse tables: what a read gives after each operation, and that every operation keeps the canonical form. -/

namespace Sys2Proof.Machine

variable {α : Type}

/-! ### Reads after writes -/

@[simp] theorem tabGet_nil (d : α) (k : Nat) : tabGet d k [] = d := rfl

@[simp] theorem tabGet_tabIns_self (d : α) (k : Nat) (v : α) (t : Tab α) : tabGet d k (tabIns k v t) = v := by
  induction t with
  | nil => simp [tabIns, tabGet]
  | cons e r ih =>
    obtain ⟨j, w⟩ := e
    simp only [tabIns]
    split
    · simp [tabGet]
    · split
      · simp [tabGet]
      · rename_i _ h; simp [tabGet, Ne.symm h, ih]

@[simp] theorem tabGet_tabDel_self (d : α) (k : Nat) (t : Tab α) : tabGet d k (tabDel k t) = d := by
  induction t with
  | nil => rfl
  | cons e r ih =>
    obtain ⟨j, w⟩ := e
    simp only [tabDel]
    split
    · exact ih
    · rename_i h; simp [tabGet, h, ih]

theorem tabGet_tabIns_ne (d : α) {k j : Nat} (h : j ≠ k) (v : α) (t : Tab α) :
    tabGet d j (tabIns k v t) = tabGet d j t := by
  induction t with
  | nil => simp [tabIns, tabGet, Ne.symm h]
  | cons e r ih =>
    obtain ⟨i, w⟩ := e
    simp only [tabIns]
    split
    · simp [tabGet, Ne.symm h]
    · split
      · rename_i _ hk; subst hk; simp [tabGet, Ne.symm h]
      · simp [tabGet, ih]

theorem tabGet_tabDel_ne (d : α) {k j : Nat} (h : j ≠ k) (t : Tab α) : tabGet d j (tabDel k t) = tabGet d j t := by
  induction t with
  | nil => rfl
  | cons e r ih =>
    obtain ⟨i, w⟩ := e
    simp only [tabDel]
    split
    · rename_i hk; subst hk; simp [tabGet, Ne.symm h, ih]
    · simp [tabGet, ih]

@[simp] theorem tabGet_tabPut_self [DecidableEq α] (d : α) (k : Nat) (v : α) (t : Tab α) :
    tabGet d k (tabPut d k v t) = v := by
  unfold tabPut; split
  · rename_i h; simp [h]
  · simp

theorem tabGet_tabPut_ne [DecidableEq α] (d d' : α) {k j : Nat} (h : j ≠ k) (v : α) (t : Tab α) :
    tabGet d j (tabPut d' k v t) = tabGet d j t := by
  unfold tabPut; split
  · exact tabGet_tabDel_ne d h t
  · exact tabGet_tabIns_ne d h v t

/-- After a clear, keys in the range read as unlisted and the others as before. -/
theorem tabGet_tabClear (d : α) (lo hi k : Nat) (t : Tab α) :
    tabGet d k (tabClear lo hi t) = if lo ≤ k ∧ k < hi then d else tabGet d k t := by
  induction t with
  | nil => simp [tabClear]
  | cons e r ih =>
    obtain ⟨j, w⟩ := e
    simp only [tabClear, List.filter_cons] at ih ⊢
    by_cases hj : lo ≤ j ∧ j < hi
    · have : (!(decide (lo ≤ j) && decide (j < hi))) = false := by simp [hj.1, hj.2]
      simp only [this, Bool.false_eq_true, if_false, ih, tabGet]
      by_cases hk : j = k
      · subst hk; simp [hj]
      · simp [hk]
    · have : (!(decide (lo ≤ j) && decide (j < hi))) = true := by
        simp only [Bool.not_eq_true', Bool.and_eq_false_iff, decide_eq_false_iff_not]; omega
      simp only [this, if_true, tabGet, ih]
      by_cases hk : j = k
      · subst hk; simp [hj]
      · simp [hk]

/-! ### The canonical form -/

/-- A table above a bound is above a smaller one. -/
theorem tabAbove_mono {b c : Nat} (h : b ≤ c) : ∀ t : Tab α, tabAbove c t = true → tabAbove b t = true
  | [], _ => rfl
  | (j, _) :: r, ht => by
    simp only [tabAbove, Bool.and_eq_true, decide_eq_true_eq] at ht ⊢
    exact ⟨by omega, tabAbove_mono h r ht.2⟩

theorem tabAbove_tabIns {b k : Nat} (h : b < k) (v : α) : ∀ t : Tab α, tabAbove b t = true → tabAbove b (tabIns k v t) = true
  | [], _ => by simp [tabIns, tabAbove, h]
  | (j, w) :: r, ht => by
    simp only [tabAbove, Bool.and_eq_true, decide_eq_true_eq] at ht
    simp only [tabIns]
    split
    · simp [tabAbove, h, ht]
    · split
      · simp [tabAbove, h, ht]
      · simp [tabAbove, ht.1, tabAbove_tabIns h v r ht.2]

/-- Removing entries keeps a lower bound of the keys. -/
theorem tabAbove_filter {b : Nat} (p : Nat × α → Bool) : ∀ t : Tab α, tabAbove b t = true → tabAbove b (t.filter p) = true
  | [], _ => rfl
  | (j, w) :: r, ht => by
    simp only [tabAbove, Bool.and_eq_true, decide_eq_true_eq] at ht
    simp only [List.filter_cons]
    split
    · simp [tabAbove, ht.1, tabAbove_filter p r ht.2]
    · exact tabAbove_filter p r ht.2

theorem tabDel_eq_filter (k : Nat) (t : Tab α) : tabDel k t = t.filter (fun e => decide (e.1 ≠ k)) := by
  induction t with
  | nil => rfl
  | cons e r ih =>
    obtain ⟨j, w⟩ := e
    by_cases h : j = k <;> simp [tabDel, h, ih]

/-- Removing entries keeps the canonical form. -/
theorem tabWf_filter [DecidableEq α] (d : Nat → α) (p : Nat × α → Bool) :
    ∀ t : Tab α, tabWf d t = true → tabWf d (t.filter p) = true
  | [], _ => rfl
  | (j, w) :: r, ht => by
    simp only [tabWf, Bool.and_eq_true, decide_eq_true_eq] at ht
    simp only [List.filter_cons]
    split
    · simp [tabWf, ht.1.1, tabAbove_filter p r ht.1.2, tabWf_filter d p r ht.2]
    · exact tabWf_filter d p r ht.2

theorem tabWf_tabDel [DecidableEq α] (d : Nat → α) (k : Nat) (t : Tab α) (h : tabWf d t = true) :
    tabWf d (tabDel k t) = true := by
  rw [tabDel_eq_filter]; exact tabWf_filter d _ t h

theorem tabWf_tabClear [DecidableEq α] (d : Nat → α) (lo hi : Nat) (t : Tab α) (h : tabWf d t = true) :
    tabWf d (tabClear lo hi t) = true := tabWf_filter d _ t h

theorem tabWf_tabIns [DecidableEq α] (d : Nat → α) (k : Nat) (v : α) (hv : v ≠ d k) :
    ∀ t : Tab α, tabWf d t = true → tabWf d (tabIns k v t) = true
  | [], _ => by simp [tabIns, tabWf, tabAbove, hv]
  | (j, w) :: r, ht => by
    simp only [tabWf, Bool.and_eq_true, decide_eq_true_eq] at ht
    simp only [tabIns]
    split
    · rename_i h
      simp [tabWf, tabAbove, hv, h, ht.1.1, ht.1.2, ht.2, tabAbove_mono (Nat.le_of_lt h) r ht.1.2]
    · split
      · rename_i _ h; subst h; simp [tabWf, hv, ht.1.2, ht.2]
      · rename_i h1 h2
        simp [tabWf, ht.1.1, tabAbove_tabIns (show j < k by omega) v r ht.1.2, tabWf_tabIns d k v hv r ht.2]

/-- A write of a table keeps its canonical form. -/
theorem tabWf_tabPut [DecidableEq α] (d : Nat → α) (k : Nat) (v : α) (t : Tab α) (h : tabWf d t = true) :
    tabWf d (tabPut (d k) k v t) = true := by
  unfold tabPut; split
  · exact tabWf_tabDel d k t h
  · rename_i hv; exact tabWf_tabIns d k v hv t h

end Sys2Proof.Machine
end

