-- ==== Sys2Proof/Laws/State.lean ====
section
/-! SUPPORT. What every update of a register or of memory leaves as it was, one lemma per field, and what a read gives
after it. No proof over the model needs to unfold a record update. -/

namespace Sys2Proof.Machine

variable (s : State)

/-! ### A register is stored -/

@[simp] theorem State.setReg_pending (a : Nat) (v : Word) : (s.setReg a v).pending = s.pending := rfl
@[simp] theorem State.setReg_mem (a : Nat) (v : Word) : (s.setReg a v).mem = s.mem := rfl
@[simp] theorem State.setReg_pairRead (a : Nat) (v : Word) : (s.setReg a v).pairRead = s.pairRead := rfl
@[simp] theorem State.setReg_pairWrite (a : Nat) (v : Word) : (s.setReg a v).pairWrite = s.pairWrite := rfl
@[simp] theorem State.setReg_pairLast (a : Nat) (v : Word) : (s.setReg a v).pairLast = s.pairLast := rfl
@[simp] theorem State.setReg_cyc (a : Nat) (v : Word) : (s.setReg a v).cyc = s.cyc := rfl
@[simp] theorem State.setReg_resp (a : Nat) (v : Word) : (s.setReg a v).resp = s.resp := rfl
@[simp] theorem State.setReg_clk (a : Nat) (v : Word) : (s.setReg a v).clk = s.clk := rfl
@[simp] theorem State.setReg_pwr (a : Nat) (v : Word) : (s.setReg a v).pwr = s.pwr := rfl
@[simp] theorem State.setReg_boot (a : Nat) (v : Word) : (s.setReg a v).boot = s.boot := rfl
@[simp] theorem State.setReg_pins (a : Nat) (v : Word) : (s.setReg a v).pins = s.pins := rfl
@[simp] theorem State.setReg_ecc (a : Nat) (v : Word) : (s.setReg a v).ecc = s.ecc := rfl
@[simp] theorem State.setReg_hostif (a : Nat) (v : Word) : (s.setReg a v).hostif = s.hostif := rfl
@[simp] theorem State.setReg_denrek (a : Nat) (v : Word) : (s.setReg a v).denrek = s.denrek := rfl
@[simp] theorem State.setReg_dbg (a : Nat) (v : Word) : (s.setReg a v).dbg = s.dbg := rfl
@[simp] theorem State.setReg_cores (a : Nat) (v : Word) : (s.setReg a v).cores = s.cores := rfl
@[simp] theorem State.setReg_dec (a : Nat) (v : Word) : (s.setReg a v).dec = s.dec := rfl
@[simp] theorem State.setReg_tdm (a : Nat) (v : Word) : (s.setReg a v).tdm = s.tdm := rfl
@[simp] theorem State.setReg_rate (a : Nat) (v : Word) : (s.setReg a v).rate = s.rate := rfl
@[simp] theorem State.setReg_gust (a : Nat) (v : Word) : (s.setReg a v).gust = s.gust := rfl
@[simp] theorem State.setReg_sense (a : Nat) (v : Word) : (s.setReg a v).sense = s.sense := rfl
@[simp] theorem State.setReg_fox (a : Nat) (v : Word) : (s.setReg a v).fox = s.fox := rfl
@[simp] theorem State.setReg_lynx (a : Nat) (v : Word) : (s.setReg a v).lynx = s.lynx := rfl
@[simp] theorem State.setReg_fog (a : Nat) (v : Word) : (s.setReg a v).fog = s.fog := rfl
@[simp] theorem State.setReg_twin (a : Nat) (v : Word) : (s.setReg a v).twin = s.twin := rfl
@[simp] theorem State.setReg_freeCtr (a : Nat) (v : Word) : (s.setReg a v).freeCtr = s.freeCtr := rfl

/-! ### A field is stored -/

@[simp] theorem State.setF_pending (f : Fld) (v : Nat) : (s.setF f v).pending = s.pending := rfl
@[simp] theorem State.setF_mem (f : Fld) (v : Nat) : (s.setF f v).mem = s.mem := rfl
@[simp] theorem State.setF_pairRead (f : Fld) (v : Nat) : (s.setF f v).pairRead = s.pairRead := rfl
@[simp] theorem State.setF_pairWrite (f : Fld) (v : Nat) : (s.setF f v).pairWrite = s.pairWrite := rfl
@[simp] theorem State.setF_pairLast (f : Fld) (v : Nat) : (s.setF f v).pairLast = s.pairLast := rfl
@[simp] theorem State.setF_cyc (f : Fld) (v : Nat) : (s.setF f v).cyc = s.cyc := rfl
@[simp] theorem State.setF_resp (f : Fld) (v : Nat) : (s.setF f v).resp = s.resp := rfl
@[simp] theorem State.setF_clk (f : Fld) (v : Nat) : (s.setF f v).clk = s.clk := rfl
@[simp] theorem State.setF_pwr (f : Fld) (v : Nat) : (s.setF f v).pwr = s.pwr := rfl
@[simp] theorem State.setF_boot (f : Fld) (v : Nat) : (s.setF f v).boot = s.boot := rfl
@[simp] theorem State.setF_pins (f : Fld) (v : Nat) : (s.setF f v).pins = s.pins := rfl
@[simp] theorem State.setF_ecc (f : Fld) (v : Nat) : (s.setF f v).ecc = s.ecc := rfl
@[simp] theorem State.setF_hostif (f : Fld) (v : Nat) : (s.setF f v).hostif = s.hostif := rfl
@[simp] theorem State.setF_denrek (f : Fld) (v : Nat) : (s.setF f v).denrek = s.denrek := rfl
@[simp] theorem State.setF_dbg (f : Fld) (v : Nat) : (s.setF f v).dbg = s.dbg := rfl
@[simp] theorem State.setF_cores (f : Fld) (v : Nat) : (s.setF f v).cores = s.cores := rfl
@[simp] theorem State.setF_dec (f : Fld) (v : Nat) : (s.setF f v).dec = s.dec := rfl
@[simp] theorem State.setF_tdm (f : Fld) (v : Nat) : (s.setF f v).tdm = s.tdm := rfl
@[simp] theorem State.setF_rate (f : Fld) (v : Nat) : (s.setF f v).rate = s.rate := rfl
@[simp] theorem State.setF_gust (f : Fld) (v : Nat) : (s.setF f v).gust = s.gust := rfl
@[simp] theorem State.setF_sense (f : Fld) (v : Nat) : (s.setF f v).sense = s.sense := rfl
@[simp] theorem State.setF_fox (f : Fld) (v : Nat) : (s.setF f v).fox = s.fox := rfl
@[simp] theorem State.setF_lynx (f : Fld) (v : Nat) : (s.setF f v).lynx = s.lynx := rfl
@[simp] theorem State.setF_fog (f : Fld) (v : Nat) : (s.setF f v).fog = s.fog := rfl
@[simp] theorem State.setF_twin (f : Fld) (v : Nat) : (s.setF f v).twin = s.twin := rfl
@[simp] theorem State.setF_freeCtr (f : Fld) (v : Nat) : (s.setF f v).freeCtr = s.freeCtr := rfl

/-! ### A bit is set -/

@[simp] theorem State.setB_pending (f : Fld) (i : Nat) : (s.setB f i).pending = s.pending := rfl
@[simp] theorem State.setB_mem (f : Fld) (i : Nat) : (s.setB f i).mem = s.mem := rfl
@[simp] theorem State.setB_pairRead (f : Fld) (i : Nat) : (s.setB f i).pairRead = s.pairRead := rfl
@[simp] theorem State.setB_pairWrite (f : Fld) (i : Nat) : (s.setB f i).pairWrite = s.pairWrite := rfl
@[simp] theorem State.setB_pairLast (f : Fld) (i : Nat) : (s.setB f i).pairLast = s.pairLast := rfl
@[simp] theorem State.setB_cyc (f : Fld) (i : Nat) : (s.setB f i).cyc = s.cyc := rfl
@[simp] theorem State.setB_resp (f : Fld) (i : Nat) : (s.setB f i).resp = s.resp := rfl
@[simp] theorem State.setB_clk (f : Fld) (i : Nat) : (s.setB f i).clk = s.clk := rfl
@[simp] theorem State.setB_pwr (f : Fld) (i : Nat) : (s.setB f i).pwr = s.pwr := rfl
@[simp] theorem State.setB_boot (f : Fld) (i : Nat) : (s.setB f i).boot = s.boot := rfl
@[simp] theorem State.setB_pins (f : Fld) (i : Nat) : (s.setB f i).pins = s.pins := rfl
@[simp] theorem State.setB_ecc (f : Fld) (i : Nat) : (s.setB f i).ecc = s.ecc := rfl
@[simp] theorem State.setB_hostif (f : Fld) (i : Nat) : (s.setB f i).hostif = s.hostif := rfl
@[simp] theorem State.setB_denrek (f : Fld) (i : Nat) : (s.setB f i).denrek = s.denrek := rfl
@[simp] theorem State.setB_dbg (f : Fld) (i : Nat) : (s.setB f i).dbg = s.dbg := rfl
@[simp] theorem State.setB_cores (f : Fld) (i : Nat) : (s.setB f i).cores = s.cores := rfl
@[simp] theorem State.setB_dec (f : Fld) (i : Nat) : (s.setB f i).dec = s.dec := rfl
@[simp] theorem State.setB_tdm (f : Fld) (i : Nat) : (s.setB f i).tdm = s.tdm := rfl
@[simp] theorem State.setB_rate (f : Fld) (i : Nat) : (s.setB f i).rate = s.rate := rfl
@[simp] theorem State.setB_gust (f : Fld) (i : Nat) : (s.setB f i).gust = s.gust := rfl
@[simp] theorem State.setB_sense (f : Fld) (i : Nat) : (s.setB f i).sense = s.sense := rfl
@[simp] theorem State.setB_fox (f : Fld) (i : Nat) : (s.setB f i).fox = s.fox := rfl
@[simp] theorem State.setB_lynx (f : Fld) (i : Nat) : (s.setB f i).lynx = s.lynx := rfl
@[simp] theorem State.setB_fog (f : Fld) (i : Nat) : (s.setB f i).fog = s.fog := rfl
@[simp] theorem State.setB_twin (f : Fld) (i : Nat) : (s.setB f i).twin = s.twin := rfl
@[simp] theorem State.setB_freeCtr (f : Fld) (i : Nat) : (s.setB f i).freeCtr = s.freeCtr := rfl

/-! ### A bit is cleared -/

@[simp] theorem State.clrB_pending (f : Fld) (i : Nat) : (s.clrB f i).pending = s.pending := by unfold State.clrB; split <;> rfl
@[simp] theorem State.clrB_mem (f : Fld) (i : Nat) : (s.clrB f i).mem = s.mem := by unfold State.clrB; split <;> rfl
@[simp] theorem State.clrB_pairRead (f : Fld) (i : Nat) : (s.clrB f i).pairRead = s.pairRead := by unfold State.clrB; split <;> rfl
@[simp] theorem State.clrB_pairWrite (f : Fld) (i : Nat) : (s.clrB f i).pairWrite = s.pairWrite := by unfold State.clrB; split <;> rfl
@[simp] theorem State.clrB_pairLast (f : Fld) (i : Nat) : (s.clrB f i).pairLast = s.pairLast := by unfold State.clrB; split <;> rfl
@[simp] theorem State.clrB_cyc (f : Fld) (i : Nat) : (s.clrB f i).cyc = s.cyc := by unfold State.clrB; split <;> rfl
@[simp] theorem State.clrB_resp (f : Fld) (i : Nat) : (s.clrB f i).resp = s.resp := by unfold State.clrB; split <;> rfl
@[simp] theorem State.clrB_clk (f : Fld) (i : Nat) : (s.clrB f i).clk = s.clk := by unfold State.clrB; split <;> rfl
@[simp] theorem State.clrB_pwr (f : Fld) (i : Nat) : (s.clrB f i).pwr = s.pwr := by unfold State.clrB; split <;> rfl
@[simp] theorem State.clrB_boot (f : Fld) (i : Nat) : (s.clrB f i).boot = s.boot := by unfold State.clrB; split <;> rfl
@[simp] theorem State.clrB_pins (f : Fld) (i : Nat) : (s.clrB f i).pins = s.pins := by unfold State.clrB; split <;> rfl
@[simp] theorem State.clrB_ecc (f : Fld) (i : Nat) : (s.clrB f i).ecc = s.ecc := by unfold State.clrB; split <;> rfl
@[simp] theorem State.clrB_hostif (f : Fld) (i : Nat) : (s.clrB f i).hostif = s.hostif := by unfold State.clrB; split <;> rfl
@[simp] theorem State.clrB_denrek (f : Fld) (i : Nat) : (s.clrB f i).denrek = s.denrek := by unfold State.clrB; split <;> rfl
@[simp] theorem State.clrB_dbg (f : Fld) (i : Nat) : (s.clrB f i).dbg = s.dbg := by unfold State.clrB; split <;> rfl
@[simp] theorem State.clrB_cores (f : Fld) (i : Nat) : (s.clrB f i).cores = s.cores := by unfold State.clrB; split <;> rfl
@[simp] theorem State.clrB_dec (f : Fld) (i : Nat) : (s.clrB f i).dec = s.dec := by unfold State.clrB; split <;> rfl
@[simp] theorem State.clrB_tdm (f : Fld) (i : Nat) : (s.clrB f i).tdm = s.tdm := by unfold State.clrB; split <;> rfl
@[simp] theorem State.clrB_rate (f : Fld) (i : Nat) : (s.clrB f i).rate = s.rate := by unfold State.clrB; split <;> rfl
@[simp] theorem State.clrB_gust (f : Fld) (i : Nat) : (s.clrB f i).gust = s.gust := by unfold State.clrB; split <;> rfl
@[simp] theorem State.clrB_sense (f : Fld) (i : Nat) : (s.clrB f i).sense = s.sense := by unfold State.clrB; split <;> rfl
@[simp] theorem State.clrB_fox (f : Fld) (i : Nat) : (s.clrB f i).fox = s.fox := by unfold State.clrB; split <;> rfl
@[simp] theorem State.clrB_lynx (f : Fld) (i : Nat) : (s.clrB f i).lynx = s.lynx := by unfold State.clrB; split <;> rfl
@[simp] theorem State.clrB_fog (f : Fld) (i : Nat) : (s.clrB f i).fog = s.fog := by unfold State.clrB; split <;> rfl
@[simp] theorem State.clrB_twin (f : Fld) (i : Nat) : (s.clrB f i).twin = s.twin := by unfold State.clrB; split <;> rfl
@[simp] theorem State.clrB_freeCtr (f : Fld) (i : Nat) : (s.clrB f i).freeCtr = s.freeCtr := by unfold State.clrB; split <;> rfl

/-! ### A bit takes a value -/

@[simp] theorem State.putB_pending (f : Fld) (i : Nat) (b : Bool) : (s.putB f i b).pending = s.pending := by cases b <;> simp [State.putB]
@[simp] theorem State.putB_mem (f : Fld) (i : Nat) (b : Bool) : (s.putB f i b).mem = s.mem := by cases b <;> simp [State.putB]
@[simp] theorem State.putB_pairRead (f : Fld) (i : Nat) (b : Bool) : (s.putB f i b).pairRead = s.pairRead := by cases b <;> simp [State.putB]
@[simp] theorem State.putB_pairWrite (f : Fld) (i : Nat) (b : Bool) : (s.putB f i b).pairWrite = s.pairWrite := by cases b <;> simp [State.putB]
@[simp] theorem State.putB_pairLast (f : Fld) (i : Nat) (b : Bool) : (s.putB f i b).pairLast = s.pairLast := by cases b <;> simp [State.putB]
@[simp] theorem State.putB_cyc (f : Fld) (i : Nat) (b : Bool) : (s.putB f i b).cyc = s.cyc := by cases b <;> simp [State.putB]
@[simp] theorem State.putB_resp (f : Fld) (i : Nat) (b : Bool) : (s.putB f i b).resp = s.resp := by cases b <;> simp [State.putB]
@[simp] theorem State.putB_clk (f : Fld) (i : Nat) (b : Bool) : (s.putB f i b).clk = s.clk := by cases b <;> simp [State.putB]
@[simp] theorem State.putB_pwr (f : Fld) (i : Nat) (b : Bool) : (s.putB f i b).pwr = s.pwr := by cases b <;> simp [State.putB]
@[simp] theorem State.putB_boot (f : Fld) (i : Nat) (b : Bool) : (s.putB f i b).boot = s.boot := by cases b <;> simp [State.putB]
@[simp] theorem State.putB_pins (f : Fld) (i : Nat) (b : Bool) : (s.putB f i b).pins = s.pins := by cases b <;> simp [State.putB]
@[simp] theorem State.putB_ecc (f : Fld) (i : Nat) (b : Bool) : (s.putB f i b).ecc = s.ecc := by cases b <;> simp [State.putB]
@[simp] theorem State.putB_hostif (f : Fld) (i : Nat) (b : Bool) : (s.putB f i b).hostif = s.hostif := by cases b <;> simp [State.putB]
@[simp] theorem State.putB_denrek (f : Fld) (i : Nat) (b : Bool) : (s.putB f i b).denrek = s.denrek := by cases b <;> simp [State.putB]
@[simp] theorem State.putB_dbg (f : Fld) (i : Nat) (b : Bool) : (s.putB f i b).dbg = s.dbg := by cases b <;> simp [State.putB]
@[simp] theorem State.putB_cores (f : Fld) (i : Nat) (b : Bool) : (s.putB f i b).cores = s.cores := by cases b <;> simp [State.putB]
@[simp] theorem State.putB_dec (f : Fld) (i : Nat) (b : Bool) : (s.putB f i b).dec = s.dec := by cases b <;> simp [State.putB]
@[simp] theorem State.putB_tdm (f : Fld) (i : Nat) (b : Bool) : (s.putB f i b).tdm = s.tdm := by cases b <;> simp [State.putB]
@[simp] theorem State.putB_rate (f : Fld) (i : Nat) (b : Bool) : (s.putB f i b).rate = s.rate := by cases b <;> simp [State.putB]
@[simp] theorem State.putB_gust (f : Fld) (i : Nat) (b : Bool) : (s.putB f i b).gust = s.gust := by cases b <;> simp [State.putB]
@[simp] theorem State.putB_sense (f : Fld) (i : Nat) (b : Bool) : (s.putB f i b).sense = s.sense := by cases b <;> simp [State.putB]
@[simp] theorem State.putB_fox (f : Fld) (i : Nat) (b : Bool) : (s.putB f i b).fox = s.fox := by cases b <;> simp [State.putB]
@[simp] theorem State.putB_lynx (f : Fld) (i : Nat) (b : Bool) : (s.putB f i b).lynx = s.lynx := by cases b <;> simp [State.putB]
@[simp] theorem State.putB_fog (f : Fld) (i : Nat) (b : Bool) : (s.putB f i b).fog = s.fog := by cases b <;> simp [State.putB]
@[simp] theorem State.putB_twin (f : Fld) (i : Nat) (b : Bool) : (s.putB f i b).twin = s.twin := by cases b <;> simp [State.putB]
@[simp] theorem State.putB_freeCtr (f : Fld) (i : Nat) (b : Bool) : (s.putB f i b).freeCtr = s.freeCtr := by cases b <;> simp [State.putB]

/-! ### A register is noted before an event -/

@[simp] theorem State.note_regs (a : Nat) : (s.note a).regs = s.regs := by unfold State.note; split <;> rfl
@[simp] theorem State.note_pending (a : Nat) : (s.note a).pending = s.pending := by unfold State.note; split <;> rfl
@[simp] theorem State.note_mem (a : Nat) : (s.note a).mem = s.mem := by unfold State.note; split <;> rfl
@[simp] theorem State.note_pairRead (a : Nat) : (s.note a).pairRead = s.pairRead := by unfold State.note; split <;> rfl
@[simp] theorem State.note_pairWrite (a : Nat) : (s.note a).pairWrite = s.pairWrite := by unfold State.note; split <;> rfl
@[simp] theorem State.note_pairLast (a : Nat) : (s.note a).pairLast = s.pairLast := by unfold State.note; split <;> rfl
@[simp] theorem State.note_resp (a : Nat) : (s.note a).resp = s.resp := by unfold State.note; split <;> rfl
@[simp] theorem State.note_clk (a : Nat) : (s.note a).clk = s.clk := by unfold State.note; split <;> rfl
@[simp] theorem State.note_pwr (a : Nat) : (s.note a).pwr = s.pwr := by unfold State.note; split <;> rfl
@[simp] theorem State.note_boot (a : Nat) : (s.note a).boot = s.boot := by unfold State.note; split <;> rfl
@[simp] theorem State.note_pins (a : Nat) : (s.note a).pins = s.pins := by unfold State.note; split <;> rfl
@[simp] theorem State.note_ecc (a : Nat) : (s.note a).ecc = s.ecc := by unfold State.note; split <;> rfl
@[simp] theorem State.note_hostif (a : Nat) : (s.note a).hostif = s.hostif := by unfold State.note; split <;> rfl
@[simp] theorem State.note_denrek (a : Nat) : (s.note a).denrek = s.denrek := by unfold State.note; split <;> rfl
@[simp] theorem State.note_dbg (a : Nat) : (s.note a).dbg = s.dbg := by unfold State.note; split <;> rfl
@[simp] theorem State.note_cores (a : Nat) : (s.note a).cores = s.cores := by unfold State.note; split <;> rfl
@[simp] theorem State.note_dec (a : Nat) : (s.note a).dec = s.dec := by unfold State.note; split <;> rfl
@[simp] theorem State.note_tdm (a : Nat) : (s.note a).tdm = s.tdm := by unfold State.note; split <;> rfl
@[simp] theorem State.note_rate (a : Nat) : (s.note a).rate = s.rate := by unfold State.note; split <;> rfl
@[simp] theorem State.note_gust (a : Nat) : (s.note a).gust = s.gust := by unfold State.note; split <;> rfl
@[simp] theorem State.note_sense (a : Nat) : (s.note a).sense = s.sense := by unfold State.note; split <;> rfl
@[simp] theorem State.note_fox (a : Nat) : (s.note a).fox = s.fox := by unfold State.note; split <;> rfl
@[simp] theorem State.note_lynx (a : Nat) : (s.note a).lynx = s.lynx := by unfold State.note; split <;> rfl
@[simp] theorem State.note_fog (a : Nat) : (s.note a).fog = s.fog := by unfold State.note; split <;> rfl
@[simp] theorem State.note_twin (a : Nat) : (s.note a).twin = s.twin := by unfold State.note; split <;> rfl
@[simp] theorem State.note_freeCtr (a : Nat) : (s.note a).freeCtr = s.freeCtr := by unfold State.note; split <;> rfl

/-! ### Bits are marked for the cycle -/

@[simp] theorem State.mark_regs (a m : Nat) : (s.mark a m).regs = s.regs := rfl
@[simp] theorem State.mark_pending (a m : Nat) : (s.mark a m).pending = s.pending := rfl
@[simp] theorem State.mark_mem (a m : Nat) : (s.mark a m).mem = s.mem := rfl
@[simp] theorem State.mark_pairRead (a m : Nat) : (s.mark a m).pairRead = s.pairRead := rfl
@[simp] theorem State.mark_pairWrite (a m : Nat) : (s.mark a m).pairWrite = s.pairWrite := rfl
@[simp] theorem State.mark_pairLast (a m : Nat) : (s.mark a m).pairLast = s.pairLast := rfl
@[simp] theorem State.mark_resp (a m : Nat) : (s.mark a m).resp = s.resp := rfl
@[simp] theorem State.mark_clk (a m : Nat) : (s.mark a m).clk = s.clk := rfl
@[simp] theorem State.mark_pwr (a m : Nat) : (s.mark a m).pwr = s.pwr := rfl
@[simp] theorem State.mark_boot (a m : Nat) : (s.mark a m).boot = s.boot := rfl
@[simp] theorem State.mark_pins (a m : Nat) : (s.mark a m).pins = s.pins := rfl
@[simp] theorem State.mark_ecc (a m : Nat) : (s.mark a m).ecc = s.ecc := rfl
@[simp] theorem State.mark_hostif (a m : Nat) : (s.mark a m).hostif = s.hostif := rfl
@[simp] theorem State.mark_denrek (a m : Nat) : (s.mark a m).denrek = s.denrek := rfl
@[simp] theorem State.mark_dbg (a m : Nat) : (s.mark a m).dbg = s.dbg := rfl
@[simp] theorem State.mark_cores (a m : Nat) : (s.mark a m).cores = s.cores := rfl
@[simp] theorem State.mark_dec (a m : Nat) : (s.mark a m).dec = s.dec := rfl
@[simp] theorem State.mark_tdm (a m : Nat) : (s.mark a m).tdm = s.tdm := rfl
@[simp] theorem State.mark_rate (a m : Nat) : (s.mark a m).rate = s.rate := rfl
@[simp] theorem State.mark_gust (a m : Nat) : (s.mark a m).gust = s.gust := rfl
@[simp] theorem State.mark_sense (a m : Nat) : (s.mark a m).sense = s.sense := rfl
@[simp] theorem State.mark_fox (a m : Nat) : (s.mark a m).fox = s.fox := rfl
@[simp] theorem State.mark_lynx (a m : Nat) : (s.mark a m).lynx = s.lynx := rfl
@[simp] theorem State.mark_fog (a m : Nat) : (s.mark a m).fog = s.fog := rfl
@[simp] theorem State.mark_twin (a m : Nat) : (s.mark a m).twin = s.twin := rfl
@[simp] theorem State.mark_freeCtr (a m : Nat) : (s.mark a m).freeCtr = s.freeCtr := rfl

/-! ### A write serves from the next cycle -/

@[simp] theorem State.defer_regs (a : Nat) (w : Word) : (s.defer a w).regs = s.regs := by unfold State.defer; split <;> rfl
@[simp] theorem State.defer_pending (a : Nat) (w : Word) : (s.defer a w).pending = s.pending := by unfold State.defer; split <;> rfl
@[simp] theorem State.defer_mem (a : Nat) (w : Word) : (s.defer a w).mem = s.mem := by unfold State.defer; split <;> rfl
@[simp] theorem State.defer_pairRead (a : Nat) (w : Word) : (s.defer a w).pairRead = s.pairRead := by unfold State.defer; split <;> rfl
@[simp] theorem State.defer_pairWrite (a : Nat) (w : Word) : (s.defer a w).pairWrite = s.pairWrite := by unfold State.defer; split <;> rfl
@[simp] theorem State.defer_pairLast (a : Nat) (w : Word) : (s.defer a w).pairLast = s.pairLast := by unfold State.defer; split <;> rfl
@[simp] theorem State.defer_resp (a : Nat) (w : Word) : (s.defer a w).resp = s.resp := by unfold State.defer; split <;> rfl
@[simp] theorem State.defer_clk (a : Nat) (w : Word) : (s.defer a w).clk = s.clk := by unfold State.defer; split <;> rfl
@[simp] theorem State.defer_pwr (a : Nat) (w : Word) : (s.defer a w).pwr = s.pwr := by unfold State.defer; split <;> rfl
@[simp] theorem State.defer_boot (a : Nat) (w : Word) : (s.defer a w).boot = s.boot := by unfold State.defer; split <;> rfl
@[simp] theorem State.defer_pins (a : Nat) (w : Word) : (s.defer a w).pins = s.pins := by unfold State.defer; split <;> rfl
@[simp] theorem State.defer_ecc (a : Nat) (w : Word) : (s.defer a w).ecc = s.ecc := by unfold State.defer; split <;> rfl
@[simp] theorem State.defer_hostif (a : Nat) (w : Word) : (s.defer a w).hostif = s.hostif := by unfold State.defer; split <;> rfl
@[simp] theorem State.defer_denrek (a : Nat) (w : Word) : (s.defer a w).denrek = s.denrek := by unfold State.defer; split <;> rfl
@[simp] theorem State.defer_dbg (a : Nat) (w : Word) : (s.defer a w).dbg = s.dbg := by unfold State.defer; split <;> rfl
@[simp] theorem State.defer_cores (a : Nat) (w : Word) : (s.defer a w).cores = s.cores := by unfold State.defer; split <;> rfl
@[simp] theorem State.defer_dec (a : Nat) (w : Word) : (s.defer a w).dec = s.dec := by unfold State.defer; split <;> rfl
@[simp] theorem State.defer_tdm (a : Nat) (w : Word) : (s.defer a w).tdm = s.tdm := by unfold State.defer; split <;> rfl
@[simp] theorem State.defer_rate (a : Nat) (w : Word) : (s.defer a w).rate = s.rate := by unfold State.defer; split <;> rfl
@[simp] theorem State.defer_gust (a : Nat) (w : Word) : (s.defer a w).gust = s.gust := by unfold State.defer; split <;> rfl
@[simp] theorem State.defer_sense (a : Nat) (w : Word) : (s.defer a w).sense = s.sense := by unfold State.defer; split <;> rfl
@[simp] theorem State.defer_fox (a : Nat) (w : Word) : (s.defer a w).fox = s.fox := by unfold State.defer; split <;> rfl
@[simp] theorem State.defer_lynx (a : Nat) (w : Word) : (s.defer a w).lynx = s.lynx := by unfold State.defer; split <;> rfl
@[simp] theorem State.defer_fog (a : Nat) (w : Word) : (s.defer a w).fog = s.fog := by unfold State.defer; split <;> rfl
@[simp] theorem State.defer_twin (a : Nat) (w : Word) : (s.defer a w).twin = s.twin := by unfold State.defer; split <;> rfl
@[simp] theorem State.defer_freeCtr (a : Nat) (w : Word) : (s.defer a w).freeCtr = s.freeCtr := by unfold State.defer; split <;> rfl

/-! ### An event sets a field -/

@[simp] theorem State.hitF_pending (f : Fld) (v : Nat) : (s.hitF f v).pending = s.pending := by simp [State.hitF]
@[simp] theorem State.hitF_mem (f : Fld) (v : Nat) : (s.hitF f v).mem = s.mem := by simp [State.hitF]
@[simp] theorem State.hitF_pairRead (f : Fld) (v : Nat) : (s.hitF f v).pairRead = s.pairRead := by simp [State.hitF]
@[simp] theorem State.hitF_pairWrite (f : Fld) (v : Nat) : (s.hitF f v).pairWrite = s.pairWrite := by simp [State.hitF]
@[simp] theorem State.hitF_pairLast (f : Fld) (v : Nat) : (s.hitF f v).pairLast = s.pairLast := by simp [State.hitF]
@[simp] theorem State.hitF_resp (f : Fld) (v : Nat) : (s.hitF f v).resp = s.resp := by simp [State.hitF]
@[simp] theorem State.hitF_clk (f : Fld) (v : Nat) : (s.hitF f v).clk = s.clk := by simp [State.hitF]
@[simp] theorem State.hitF_pwr (f : Fld) (v : Nat) : (s.hitF f v).pwr = s.pwr := by simp [State.hitF]
@[simp] theorem State.hitF_boot (f : Fld) (v : Nat) : (s.hitF f v).boot = s.boot := by simp [State.hitF]
@[simp] theorem State.hitF_pins (f : Fld) (v : Nat) : (s.hitF f v).pins = s.pins := by simp [State.hitF]
@[simp] theorem State.hitF_ecc (f : Fld) (v : Nat) : (s.hitF f v).ecc = s.ecc := by simp [State.hitF]
@[simp] theorem State.hitF_hostif (f : Fld) (v : Nat) : (s.hitF f v).hostif = s.hostif := by simp [State.hitF]
@[simp] theorem State.hitF_denrek (f : Fld) (v : Nat) : (s.hitF f v).denrek = s.denrek := by simp [State.hitF]
@[simp] theorem State.hitF_dbg (f : Fld) (v : Nat) : (s.hitF f v).dbg = s.dbg := by simp [State.hitF]
@[simp] theorem State.hitF_cores (f : Fld) (v : Nat) : (s.hitF f v).cores = s.cores := by simp [State.hitF]
@[simp] theorem State.hitF_dec (f : Fld) (v : Nat) : (s.hitF f v).dec = s.dec := by simp [State.hitF]
@[simp] theorem State.hitF_tdm (f : Fld) (v : Nat) : (s.hitF f v).tdm = s.tdm := by simp [State.hitF]
@[simp] theorem State.hitF_rate (f : Fld) (v : Nat) : (s.hitF f v).rate = s.rate := by simp [State.hitF]
@[simp] theorem State.hitF_gust (f : Fld) (v : Nat) : (s.hitF f v).gust = s.gust := by simp [State.hitF]
@[simp] theorem State.hitF_sense (f : Fld) (v : Nat) : (s.hitF f v).sense = s.sense := by simp [State.hitF]
@[simp] theorem State.hitF_fox (f : Fld) (v : Nat) : (s.hitF f v).fox = s.fox := by simp [State.hitF]
@[simp] theorem State.hitF_lynx (f : Fld) (v : Nat) : (s.hitF f v).lynx = s.lynx := by simp [State.hitF]
@[simp] theorem State.hitF_fog (f : Fld) (v : Nat) : (s.hitF f v).fog = s.fog := by simp [State.hitF]
@[simp] theorem State.hitF_twin (f : Fld) (v : Nat) : (s.hitF f v).twin = s.twin := by simp [State.hitF]
@[simp] theorem State.hitF_freeCtr (f : Fld) (v : Nat) : (s.hitF f v).freeCtr = s.freeCtr := by simp [State.hitF]

/-! ### An event sets a bit -/

@[simp] theorem State.hitB_pending (f : Fld) (i : Nat) : (s.hitB f i).pending = s.pending := by simp [State.hitB]
@[simp] theorem State.hitB_mem (f : Fld) (i : Nat) : (s.hitB f i).mem = s.mem := by simp [State.hitB]
@[simp] theorem State.hitB_pairRead (f : Fld) (i : Nat) : (s.hitB f i).pairRead = s.pairRead := by simp [State.hitB]
@[simp] theorem State.hitB_pairWrite (f : Fld) (i : Nat) : (s.hitB f i).pairWrite = s.pairWrite := by simp [State.hitB]
@[simp] theorem State.hitB_pairLast (f : Fld) (i : Nat) : (s.hitB f i).pairLast = s.pairLast := by simp [State.hitB]
@[simp] theorem State.hitB_resp (f : Fld) (i : Nat) : (s.hitB f i).resp = s.resp := by simp [State.hitB]
@[simp] theorem State.hitB_clk (f : Fld) (i : Nat) : (s.hitB f i).clk = s.clk := by simp [State.hitB]
@[simp] theorem State.hitB_pwr (f : Fld) (i : Nat) : (s.hitB f i).pwr = s.pwr := by simp [State.hitB]
@[simp] theorem State.hitB_boot (f : Fld) (i : Nat) : (s.hitB f i).boot = s.boot := by simp [State.hitB]
@[simp] theorem State.hitB_pins (f : Fld) (i : Nat) : (s.hitB f i).pins = s.pins := by simp [State.hitB]
@[simp] theorem State.hitB_ecc (f : Fld) (i : Nat) : (s.hitB f i).ecc = s.ecc := by simp [State.hitB]
@[simp] theorem State.hitB_hostif (f : Fld) (i : Nat) : (s.hitB f i).hostif = s.hostif := by simp [State.hitB]
@[simp] theorem State.hitB_denrek (f : Fld) (i : Nat) : (s.hitB f i).denrek = s.denrek := by simp [State.hitB]
@[simp] theorem State.hitB_dbg (f : Fld) (i : Nat) : (s.hitB f i).dbg = s.dbg := by simp [State.hitB]
@[simp] theorem State.hitB_cores (f : Fld) (i : Nat) : (s.hitB f i).cores = s.cores := by simp [State.hitB]
@[simp] theorem State.hitB_dec (f : Fld) (i : Nat) : (s.hitB f i).dec = s.dec := by simp [State.hitB]
@[simp] theorem State.hitB_tdm (f : Fld) (i : Nat) : (s.hitB f i).tdm = s.tdm := by simp [State.hitB]
@[simp] theorem State.hitB_rate (f : Fld) (i : Nat) : (s.hitB f i).rate = s.rate := by simp [State.hitB]
@[simp] theorem State.hitB_gust (f : Fld) (i : Nat) : (s.hitB f i).gust = s.gust := by simp [State.hitB]
@[simp] theorem State.hitB_sense (f : Fld) (i : Nat) : (s.hitB f i).sense = s.sense := by simp [State.hitB]
@[simp] theorem State.hitB_fox (f : Fld) (i : Nat) : (s.hitB f i).fox = s.fox := by simp [State.hitB]
@[simp] theorem State.hitB_lynx (f : Fld) (i : Nat) : (s.hitB f i).lynx = s.lynx := by simp [State.hitB]
@[simp] theorem State.hitB_fog (f : Fld) (i : Nat) : (s.hitB f i).fog = s.fog := by simp [State.hitB]
@[simp] theorem State.hitB_twin (f : Fld) (i : Nat) : (s.hitB f i).twin = s.twin := by simp [State.hitB]
@[simp] theorem State.hitB_freeCtr (f : Fld) (i : Nat) : (s.hitB f i).freeCtr = s.freeCtr := by simp [State.hitB]

/-! ### A write of 1 clears a bit -/

@[simp] theorem State.wipeF_pending (f : Fld) : (s.wipeF f).pending = s.pending := by unfold State.wipeF; split <;> simp
@[simp] theorem State.wipeF_mem (f : Fld) : (s.wipeF f).mem = s.mem := by unfold State.wipeF; split <;> simp
@[simp] theorem State.wipeF_pairRead (f : Fld) : (s.wipeF f).pairRead = s.pairRead := by unfold State.wipeF; split <;> simp
@[simp] theorem State.wipeF_pairWrite (f : Fld) : (s.wipeF f).pairWrite = s.pairWrite := by unfold State.wipeF; split <;> simp
@[simp] theorem State.wipeF_pairLast (f : Fld) : (s.wipeF f).pairLast = s.pairLast := by unfold State.wipeF; split <;> simp
@[simp] theorem State.wipeF_resp (f : Fld) : (s.wipeF f).resp = s.resp := by unfold State.wipeF; split <;> simp
@[simp] theorem State.wipeF_clk (f : Fld) : (s.wipeF f).clk = s.clk := by unfold State.wipeF; split <;> simp
@[simp] theorem State.wipeF_pwr (f : Fld) : (s.wipeF f).pwr = s.pwr := by unfold State.wipeF; split <;> simp
@[simp] theorem State.wipeF_boot (f : Fld) : (s.wipeF f).boot = s.boot := by unfold State.wipeF; split <;> simp
@[simp] theorem State.wipeF_pins (f : Fld) : (s.wipeF f).pins = s.pins := by unfold State.wipeF; split <;> simp
@[simp] theorem State.wipeF_ecc (f : Fld) : (s.wipeF f).ecc = s.ecc := by unfold State.wipeF; split <;> simp
@[simp] theorem State.wipeF_hostif (f : Fld) : (s.wipeF f).hostif = s.hostif := by unfold State.wipeF; split <;> simp
@[simp] theorem State.wipeF_denrek (f : Fld) : (s.wipeF f).denrek = s.denrek := by unfold State.wipeF; split <;> simp
@[simp] theorem State.wipeF_dbg (f : Fld) : (s.wipeF f).dbg = s.dbg := by unfold State.wipeF; split <;> simp
@[simp] theorem State.wipeF_cores (f : Fld) : (s.wipeF f).cores = s.cores := by unfold State.wipeF; split <;> simp
@[simp] theorem State.wipeF_dec (f : Fld) : (s.wipeF f).dec = s.dec := by unfold State.wipeF; split <;> simp
@[simp] theorem State.wipeF_tdm (f : Fld) : (s.wipeF f).tdm = s.tdm := by unfold State.wipeF; split <;> simp
@[simp] theorem State.wipeF_rate (f : Fld) : (s.wipeF f).rate = s.rate := by unfold State.wipeF; split <;> simp
@[simp] theorem State.wipeF_gust (f : Fld) : (s.wipeF f).gust = s.gust := by unfold State.wipeF; split <;> simp
@[simp] theorem State.wipeF_sense (f : Fld) : (s.wipeF f).sense = s.sense := by unfold State.wipeF; split <;> simp
@[simp] theorem State.wipeF_fox (f : Fld) : (s.wipeF f).fox = s.fox := by unfold State.wipeF; split <;> simp
@[simp] theorem State.wipeF_lynx (f : Fld) : (s.wipeF f).lynx = s.lynx := by unfold State.wipeF; split <;> simp
@[simp] theorem State.wipeF_fog (f : Fld) : (s.wipeF f).fog = s.fog := by unfold State.wipeF; split <;> simp
@[simp] theorem State.wipeF_twin (f : Fld) : (s.wipeF f).twin = s.twin := by unfold State.wipeF; split <;> simp
@[simp] theorem State.wipeF_freeCtr (f : Fld) : (s.wipeF f).freeCtr = s.freeCtr := by unfold State.wipeF; split <;> simp

/-! ### A counter grows -/

@[simp] theorem State.incF_pending (f : Fld) (n : Nat) : (s.incF f n).pending = s.pending := by simp [State.incF]
@[simp] theorem State.incF_mem (f : Fld) (n : Nat) : (s.incF f n).mem = s.mem := by simp [State.incF]
@[simp] theorem State.incF_pairRead (f : Fld) (n : Nat) : (s.incF f n).pairRead = s.pairRead := by simp [State.incF]
@[simp] theorem State.incF_pairWrite (f : Fld) (n : Nat) : (s.incF f n).pairWrite = s.pairWrite := by simp [State.incF]
@[simp] theorem State.incF_pairLast (f : Fld) (n : Nat) : (s.incF f n).pairLast = s.pairLast := by simp [State.incF]
@[simp] theorem State.incF_resp (f : Fld) (n : Nat) : (s.incF f n).resp = s.resp := by simp [State.incF]
@[simp] theorem State.incF_clk (f : Fld) (n : Nat) : (s.incF f n).clk = s.clk := by simp [State.incF]
@[simp] theorem State.incF_pwr (f : Fld) (n : Nat) : (s.incF f n).pwr = s.pwr := by simp [State.incF]
@[simp] theorem State.incF_boot (f : Fld) (n : Nat) : (s.incF f n).boot = s.boot := by simp [State.incF]
@[simp] theorem State.incF_pins (f : Fld) (n : Nat) : (s.incF f n).pins = s.pins := by simp [State.incF]
@[simp] theorem State.incF_ecc (f : Fld) (n : Nat) : (s.incF f n).ecc = s.ecc := by simp [State.incF]
@[simp] theorem State.incF_hostif (f : Fld) (n : Nat) : (s.incF f n).hostif = s.hostif := by simp [State.incF]
@[simp] theorem State.incF_denrek (f : Fld) (n : Nat) : (s.incF f n).denrek = s.denrek := by simp [State.incF]
@[simp] theorem State.incF_dbg (f : Fld) (n : Nat) : (s.incF f n).dbg = s.dbg := by simp [State.incF]
@[simp] theorem State.incF_cores (f : Fld) (n : Nat) : (s.incF f n).cores = s.cores := by simp [State.incF]
@[simp] theorem State.incF_dec (f : Fld) (n : Nat) : (s.incF f n).dec = s.dec := by simp [State.incF]
@[simp] theorem State.incF_tdm (f : Fld) (n : Nat) : (s.incF f n).tdm = s.tdm := by simp [State.incF]
@[simp] theorem State.incF_rate (f : Fld) (n : Nat) : (s.incF f n).rate = s.rate := by simp [State.incF]
@[simp] theorem State.incF_gust (f : Fld) (n : Nat) : (s.incF f n).gust = s.gust := by simp [State.incF]
@[simp] theorem State.incF_sense (f : Fld) (n : Nat) : (s.incF f n).sense = s.sense := by simp [State.incF]
@[simp] theorem State.incF_fox (f : Fld) (n : Nat) : (s.incF f n).fox = s.fox := by simp [State.incF]
@[simp] theorem State.incF_lynx (f : Fld) (n : Nat) : (s.incF f n).lynx = s.lynx := by simp [State.incF]
@[simp] theorem State.incF_fog (f : Fld) (n : Nat) : (s.incF f n).fog = s.fog := by simp [State.incF]
@[simp] theorem State.incF_twin (f : Fld) (n : Nat) : (s.incF f n).twin = s.twin := by simp [State.incF]
@[simp] theorem State.incF_freeCtr (f : Fld) (n : Nat) : (s.incF f n).freeCtr = s.freeCtr := by simp [State.incF]

/-! ### A greatest value is kept -/

@[simp] theorem State.maxF_pending (f : Fld) (v : Nat) : (s.maxF f v).pending = s.pending := by unfold State.maxF; split <;> simp
@[simp] theorem State.maxF_mem (f : Fld) (v : Nat) : (s.maxF f v).mem = s.mem := by unfold State.maxF; split <;> simp
@[simp] theorem State.maxF_pairRead (f : Fld) (v : Nat) : (s.maxF f v).pairRead = s.pairRead := by unfold State.maxF; split <;> simp
@[simp] theorem State.maxF_pairWrite (f : Fld) (v : Nat) : (s.maxF f v).pairWrite = s.pairWrite := by unfold State.maxF; split <;> simp
@[simp] theorem State.maxF_pairLast (f : Fld) (v : Nat) : (s.maxF f v).pairLast = s.pairLast := by unfold State.maxF; split <;> simp
@[simp] theorem State.maxF_resp (f : Fld) (v : Nat) : (s.maxF f v).resp = s.resp := by unfold State.maxF; split <;> simp
@[simp] theorem State.maxF_clk (f : Fld) (v : Nat) : (s.maxF f v).clk = s.clk := by unfold State.maxF; split <;> simp
@[simp] theorem State.maxF_pwr (f : Fld) (v : Nat) : (s.maxF f v).pwr = s.pwr := by unfold State.maxF; split <;> simp
@[simp] theorem State.maxF_boot (f : Fld) (v : Nat) : (s.maxF f v).boot = s.boot := by unfold State.maxF; split <;> simp
@[simp] theorem State.maxF_pins (f : Fld) (v : Nat) : (s.maxF f v).pins = s.pins := by unfold State.maxF; split <;> simp
@[simp] theorem State.maxF_ecc (f : Fld) (v : Nat) : (s.maxF f v).ecc = s.ecc := by unfold State.maxF; split <;> simp
@[simp] theorem State.maxF_hostif (f : Fld) (v : Nat) : (s.maxF f v).hostif = s.hostif := by unfold State.maxF; split <;> simp
@[simp] theorem State.maxF_denrek (f : Fld) (v : Nat) : (s.maxF f v).denrek = s.denrek := by unfold State.maxF; split <;> simp
@[simp] theorem State.maxF_dbg (f : Fld) (v : Nat) : (s.maxF f v).dbg = s.dbg := by unfold State.maxF; split <;> simp
@[simp] theorem State.maxF_cores (f : Fld) (v : Nat) : (s.maxF f v).cores = s.cores := by unfold State.maxF; split <;> simp
@[simp] theorem State.maxF_dec (f : Fld) (v : Nat) : (s.maxF f v).dec = s.dec := by unfold State.maxF; split <;> simp
@[simp] theorem State.maxF_tdm (f : Fld) (v : Nat) : (s.maxF f v).tdm = s.tdm := by unfold State.maxF; split <;> simp
@[simp] theorem State.maxF_rate (f : Fld) (v : Nat) : (s.maxF f v).rate = s.rate := by unfold State.maxF; split <;> simp
@[simp] theorem State.maxF_gust (f : Fld) (v : Nat) : (s.maxF f v).gust = s.gust := by unfold State.maxF; split <;> simp
@[simp] theorem State.maxF_sense (f : Fld) (v : Nat) : (s.maxF f v).sense = s.sense := by unfold State.maxF; split <;> simp
@[simp] theorem State.maxF_fox (f : Fld) (v : Nat) : (s.maxF f v).fox = s.fox := by unfold State.maxF; split <;> simp
@[simp] theorem State.maxF_lynx (f : Fld) (v : Nat) : (s.maxF f v).lynx = s.lynx := by unfold State.maxF; split <;> simp
@[simp] theorem State.maxF_fog (f : Fld) (v : Nat) : (s.maxF f v).fog = s.fog := by unfold State.maxF; split <;> simp
@[simp] theorem State.maxF_twin (f : Fld) (v : Nat) : (s.maxF f v).twin = s.twin := by unfold State.maxF; split <;> simp
@[simp] theorem State.maxF_freeCtr (f : Fld) (v : Nat) : (s.maxF f v).freeCtr = s.freeCtr := by unfold State.maxF; split <;> simp

/-! ### A counter wraps -/

@[simp] theorem State.addF_pending (f : Fld) (n : Nat) : (s.addF f n).pending = s.pending := rfl
@[simp] theorem State.addF_mem (f : Fld) (n : Nat) : (s.addF f n).mem = s.mem := rfl
@[simp] theorem State.addF_pairRead (f : Fld) (n : Nat) : (s.addF f n).pairRead = s.pairRead := rfl
@[simp] theorem State.addF_pairWrite (f : Fld) (n : Nat) : (s.addF f n).pairWrite = s.pairWrite := rfl
@[simp] theorem State.addF_pairLast (f : Fld) (n : Nat) : (s.addF f n).pairLast = s.pairLast := rfl
@[simp] theorem State.addF_cyc (f : Fld) (n : Nat) : (s.addF f n).cyc = s.cyc := rfl
@[simp] theorem State.addF_resp (f : Fld) (n : Nat) : (s.addF f n).resp = s.resp := rfl
@[simp] theorem State.addF_clk (f : Fld) (n : Nat) : (s.addF f n).clk = s.clk := rfl
@[simp] theorem State.addF_pwr (f : Fld) (n : Nat) : (s.addF f n).pwr = s.pwr := rfl
@[simp] theorem State.addF_boot (f : Fld) (n : Nat) : (s.addF f n).boot = s.boot := rfl
@[simp] theorem State.addF_pins (f : Fld) (n : Nat) : (s.addF f n).pins = s.pins := rfl
@[simp] theorem State.addF_ecc (f : Fld) (n : Nat) : (s.addF f n).ecc = s.ecc := rfl
@[simp] theorem State.addF_hostif (f : Fld) (n : Nat) : (s.addF f n).hostif = s.hostif := rfl
@[simp] theorem State.addF_denrek (f : Fld) (n : Nat) : (s.addF f n).denrek = s.denrek := rfl
@[simp] theorem State.addF_dbg (f : Fld) (n : Nat) : (s.addF f n).dbg = s.dbg := rfl
@[simp] theorem State.addF_cores (f : Fld) (n : Nat) : (s.addF f n).cores = s.cores := rfl
@[simp] theorem State.addF_dec (f : Fld) (n : Nat) : (s.addF f n).dec = s.dec := rfl
@[simp] theorem State.addF_tdm (f : Fld) (n : Nat) : (s.addF f n).tdm = s.tdm := rfl
@[simp] theorem State.addF_rate (f : Fld) (n : Nat) : (s.addF f n).rate = s.rate := rfl
@[simp] theorem State.addF_gust (f : Fld) (n : Nat) : (s.addF f n).gust = s.gust := rfl
@[simp] theorem State.addF_sense (f : Fld) (n : Nat) : (s.addF f n).sense = s.sense := rfl
@[simp] theorem State.addF_fox (f : Fld) (n : Nat) : (s.addF f n).fox = s.fox := rfl
@[simp] theorem State.addF_lynx (f : Fld) (n : Nat) : (s.addF f n).lynx = s.lynx := rfl
@[simp] theorem State.addF_fog (f : Fld) (n : Nat) : (s.addF f n).fog = s.fog := rfl
@[simp] theorem State.addF_twin (f : Fld) (n : Nat) : (s.addF f n).twin = s.twin := rfl
@[simp] theorem State.addF_freeCtr (f : Fld) (n : Nat) : (s.addF f n).freeCtr = s.freeCtr := rfl

/-! ### A 64-bit quantity is stored -/

@[simp] theorem State.set64_pending (lo v : Nat) : (s.set64 lo v).pending = s.pending := rfl
@[simp] theorem State.set64_mem (lo v : Nat) : (s.set64 lo v).mem = s.mem := rfl
@[simp] theorem State.set64_pairRead (lo v : Nat) : (s.set64 lo v).pairRead = s.pairRead := rfl
@[simp] theorem State.set64_pairWrite (lo v : Nat) : (s.set64 lo v).pairWrite = s.pairWrite := rfl
@[simp] theorem State.set64_pairLast (lo v : Nat) : (s.set64 lo v).pairLast = s.pairLast := rfl
@[simp] theorem State.set64_cyc (lo v : Nat) : (s.set64 lo v).cyc = s.cyc := rfl
@[simp] theorem State.set64_resp (lo v : Nat) : (s.set64 lo v).resp = s.resp := rfl
@[simp] theorem State.set64_clk (lo v : Nat) : (s.set64 lo v).clk = s.clk := rfl
@[simp] theorem State.set64_pwr (lo v : Nat) : (s.set64 lo v).pwr = s.pwr := rfl
@[simp] theorem State.set64_boot (lo v : Nat) : (s.set64 lo v).boot = s.boot := rfl
@[simp] theorem State.set64_pins (lo v : Nat) : (s.set64 lo v).pins = s.pins := rfl
@[simp] theorem State.set64_ecc (lo v : Nat) : (s.set64 lo v).ecc = s.ecc := rfl
@[simp] theorem State.set64_hostif (lo v : Nat) : (s.set64 lo v).hostif = s.hostif := rfl
@[simp] theorem State.set64_denrek (lo v : Nat) : (s.set64 lo v).denrek = s.denrek := rfl
@[simp] theorem State.set64_dbg (lo v : Nat) : (s.set64 lo v).dbg = s.dbg := rfl
@[simp] theorem State.set64_cores (lo v : Nat) : (s.set64 lo v).cores = s.cores := rfl
@[simp] theorem State.set64_dec (lo v : Nat) : (s.set64 lo v).dec = s.dec := rfl
@[simp] theorem State.set64_tdm (lo v : Nat) : (s.set64 lo v).tdm = s.tdm := rfl
@[simp] theorem State.set64_rate (lo v : Nat) : (s.set64 lo v).rate = s.rate := rfl
@[simp] theorem State.set64_gust (lo v : Nat) : (s.set64 lo v).gust = s.gust := rfl
@[simp] theorem State.set64_sense (lo v : Nat) : (s.set64 lo v).sense = s.sense := rfl
@[simp] theorem State.set64_fox (lo v : Nat) : (s.set64 lo v).fox = s.fox := rfl
@[simp] theorem State.set64_lynx (lo v : Nat) : (s.set64 lo v).lynx = s.lynx := rfl
@[simp] theorem State.set64_fog (lo v : Nat) : (s.set64 lo v).fog = s.fog := rfl
@[simp] theorem State.set64_twin (lo v : Nat) : (s.set64 lo v).twin = s.twin := rfl
@[simp] theorem State.set64_freeCtr (lo v : Nat) : (s.set64 lo v).freeCtr = s.freeCtr := rfl

/-! ### Blocks return to reset -/

@[simp] theorem State.clearRegs_pending (lo hi : Nat) : (s.clearRegs lo hi).pending = s.pending := rfl
@[simp] theorem State.clearRegs_mem (lo hi : Nat) : (s.clearRegs lo hi).mem = s.mem := rfl
@[simp] theorem State.clearRegs_pairRead (lo hi : Nat) : (s.clearRegs lo hi).pairRead = s.pairRead := rfl
@[simp] theorem State.clearRegs_pairWrite (lo hi : Nat) : (s.clearRegs lo hi).pairWrite = s.pairWrite := rfl
@[simp] theorem State.clearRegs_pairLast (lo hi : Nat) : (s.clearRegs lo hi).pairLast = s.pairLast := rfl
@[simp] theorem State.clearRegs_cyc (lo hi : Nat) : (s.clearRegs lo hi).cyc = s.cyc := rfl
@[simp] theorem State.clearRegs_resp (lo hi : Nat) : (s.clearRegs lo hi).resp = s.resp := rfl
@[simp] theorem State.clearRegs_clk (lo hi : Nat) : (s.clearRegs lo hi).clk = s.clk := rfl
@[simp] theorem State.clearRegs_pwr (lo hi : Nat) : (s.clearRegs lo hi).pwr = s.pwr := rfl
@[simp] theorem State.clearRegs_boot (lo hi : Nat) : (s.clearRegs lo hi).boot = s.boot := rfl
@[simp] theorem State.clearRegs_pins (lo hi : Nat) : (s.clearRegs lo hi).pins = s.pins := rfl
@[simp] theorem State.clearRegs_ecc (lo hi : Nat) : (s.clearRegs lo hi).ecc = s.ecc := rfl
@[simp] theorem State.clearRegs_hostif (lo hi : Nat) : (s.clearRegs lo hi).hostif = s.hostif := rfl
@[simp] theorem State.clearRegs_denrek (lo hi : Nat) : (s.clearRegs lo hi).denrek = s.denrek := rfl
@[simp] theorem State.clearRegs_dbg (lo hi : Nat) : (s.clearRegs lo hi).dbg = s.dbg := rfl
@[simp] theorem State.clearRegs_cores (lo hi : Nat) : (s.clearRegs lo hi).cores = s.cores := rfl
@[simp] theorem State.clearRegs_dec (lo hi : Nat) : (s.clearRegs lo hi).dec = s.dec := rfl
@[simp] theorem State.clearRegs_tdm (lo hi : Nat) : (s.clearRegs lo hi).tdm = s.tdm := rfl
@[simp] theorem State.clearRegs_rate (lo hi : Nat) : (s.clearRegs lo hi).rate = s.rate := rfl
@[simp] theorem State.clearRegs_gust (lo hi : Nat) : (s.clearRegs lo hi).gust = s.gust := rfl
@[simp] theorem State.clearRegs_sense (lo hi : Nat) : (s.clearRegs lo hi).sense = s.sense := rfl
@[simp] theorem State.clearRegs_fox (lo hi : Nat) : (s.clearRegs lo hi).fox = s.fox := rfl
@[simp] theorem State.clearRegs_lynx (lo hi : Nat) : (s.clearRegs lo hi).lynx = s.lynx := rfl
@[simp] theorem State.clearRegs_fog (lo hi : Nat) : (s.clearRegs lo hi).fog = s.fog := rfl
@[simp] theorem State.clearRegs_twin (lo hi : Nat) : (s.clearRegs lo hi).twin = s.twin := rfl
@[simp] theorem State.clearRegs_freeCtr (lo hi : Nat) : (s.clearRegs lo hi).freeCtr = s.freeCtr := rfl

/-! ### A domain returns to reset -/

@[simp] theorem State.resetDomain_pending (d : Domain) : (s.resetDomain d).pending = s.pending := rfl
@[simp] theorem State.resetDomain_mem (d : Domain) : (s.resetDomain d).mem = s.mem := rfl
@[simp] theorem State.resetDomain_pairRead (d : Domain) : (s.resetDomain d).pairRead = s.pairRead := rfl
@[simp] theorem State.resetDomain_pairWrite (d : Domain) : (s.resetDomain d).pairWrite = s.pairWrite := rfl
@[simp] theorem State.resetDomain_pairLast (d : Domain) : (s.resetDomain d).pairLast = s.pairLast := rfl
@[simp] theorem State.resetDomain_cyc (d : Domain) : (s.resetDomain d).cyc = s.cyc := rfl
@[simp] theorem State.resetDomain_resp (d : Domain) : (s.resetDomain d).resp = s.resp := rfl
@[simp] theorem State.resetDomain_clk (d : Domain) : (s.resetDomain d).clk = s.clk := rfl
@[simp] theorem State.resetDomain_pwr (d : Domain) : (s.resetDomain d).pwr = s.pwr := rfl
@[simp] theorem State.resetDomain_boot (d : Domain) : (s.resetDomain d).boot = s.boot := rfl
@[simp] theorem State.resetDomain_pins (d : Domain) : (s.resetDomain d).pins = s.pins := rfl
@[simp] theorem State.resetDomain_ecc (d : Domain) : (s.resetDomain d).ecc = s.ecc := rfl
@[simp] theorem State.resetDomain_hostif (d : Domain) : (s.resetDomain d).hostif = s.hostif := rfl
@[simp] theorem State.resetDomain_denrek (d : Domain) : (s.resetDomain d).denrek = s.denrek := rfl
@[simp] theorem State.resetDomain_dbg (d : Domain) : (s.resetDomain d).dbg = s.dbg := rfl
@[simp] theorem State.resetDomain_cores (d : Domain) : (s.resetDomain d).cores = s.cores := rfl
@[simp] theorem State.resetDomain_dec (d : Domain) : (s.resetDomain d).dec = s.dec := rfl
@[simp] theorem State.resetDomain_tdm (d : Domain) : (s.resetDomain d).tdm = s.tdm := rfl
@[simp] theorem State.resetDomain_rate (d : Domain) : (s.resetDomain d).rate = s.rate := rfl
@[simp] theorem State.resetDomain_gust (d : Domain) : (s.resetDomain d).gust = s.gust := rfl
@[simp] theorem State.resetDomain_sense (d : Domain) : (s.resetDomain d).sense = s.sense := rfl
@[simp] theorem State.resetDomain_fox (d : Domain) : (s.resetDomain d).fox = s.fox := rfl
@[simp] theorem State.resetDomain_lynx (d : Domain) : (s.resetDomain d).lynx = s.lynx := rfl
@[simp] theorem State.resetDomain_fog (d : Domain) : (s.resetDomain d).fog = s.fog := rfl
@[simp] theorem State.resetDomain_twin (d : Domain) : (s.resetDomain d).twin = s.twin := rfl
@[simp] theorem State.resetDomain_freeCtr (d : Domain) : (s.resetDomain d).freeCtr = s.freeCtr := rfl

/-! ### A byte is stored -/

@[simp] theorem State.setByte_pending (a : Nat) (b : Byte) : (s.setByte a b).pending = s.pending := rfl
@[simp] theorem State.setByte_regs (a : Nat) (b : Byte) : (s.setByte a b).regs = s.regs := rfl
@[simp] theorem State.setByte_pairRead (a : Nat) (b : Byte) : (s.setByte a b).pairRead = s.pairRead := rfl
@[simp] theorem State.setByte_pairWrite (a : Nat) (b : Byte) : (s.setByte a b).pairWrite = s.pairWrite := rfl
@[simp] theorem State.setByte_pairLast (a : Nat) (b : Byte) : (s.setByte a b).pairLast = s.pairLast := rfl
@[simp] theorem State.setByte_cyc (a : Nat) (b : Byte) : (s.setByte a b).cyc = s.cyc := rfl
@[simp] theorem State.setByte_resp (a : Nat) (b : Byte) : (s.setByte a b).resp = s.resp := rfl
@[simp] theorem State.setByte_clk (a : Nat) (b : Byte) : (s.setByte a b).clk = s.clk := rfl
@[simp] theorem State.setByte_pwr (a : Nat) (b : Byte) : (s.setByte a b).pwr = s.pwr := rfl
@[simp] theorem State.setByte_boot (a : Nat) (b : Byte) : (s.setByte a b).boot = s.boot := rfl
@[simp] theorem State.setByte_pins (a : Nat) (b : Byte) : (s.setByte a b).pins = s.pins := rfl
@[simp] theorem State.setByte_ecc (a : Nat) (b : Byte) : (s.setByte a b).ecc = s.ecc := rfl
@[simp] theorem State.setByte_hostif (a : Nat) (b : Byte) : (s.setByte a b).hostif = s.hostif := rfl
@[simp] theorem State.setByte_denrek (a : Nat) (b : Byte) : (s.setByte a b).denrek = s.denrek := rfl
@[simp] theorem State.setByte_dbg (a : Nat) (b : Byte) : (s.setByte a b).dbg = s.dbg := rfl
@[simp] theorem State.setByte_cores (a : Nat) (b : Byte) : (s.setByte a b).cores = s.cores := rfl
@[simp] theorem State.setByte_dec (a : Nat) (b : Byte) : (s.setByte a b).dec = s.dec := rfl
@[simp] theorem State.setByte_tdm (a : Nat) (b : Byte) : (s.setByte a b).tdm = s.tdm := rfl
@[simp] theorem State.setByte_rate (a : Nat) (b : Byte) : (s.setByte a b).rate = s.rate := rfl
@[simp] theorem State.setByte_gust (a : Nat) (b : Byte) : (s.setByte a b).gust = s.gust := rfl
@[simp] theorem State.setByte_sense (a : Nat) (b : Byte) : (s.setByte a b).sense = s.sense := rfl
@[simp] theorem State.setByte_fox (a : Nat) (b : Byte) : (s.setByte a b).fox = s.fox := rfl
@[simp] theorem State.setByte_lynx (a : Nat) (b : Byte) : (s.setByte a b).lynx = s.lynx := rfl
@[simp] theorem State.setByte_fog (a : Nat) (b : Byte) : (s.setByte a b).fog = s.fog := rfl
@[simp] theorem State.setByte_twin (a : Nat) (b : Byte) : (s.setByte a b).twin = s.twin := rfl
@[simp] theorem State.setByte_freeCtr (a : Nat) (b : Byte) : (s.setByte a b).freeCtr = s.freeCtr := rfl

/-! ### Bytes are stored -/

@[simp] theorem State.setBytes_pending (a : Nat) (l : List Byte) : (s.setBytes a l).pending = s.pending := by
  induction l generalizing s a with
  | nil => rfl
  | cons b r ih => simp [State.setBytes, ih]
@[simp] theorem State.setBytes_regs (a : Nat) (l : List Byte) : (s.setBytes a l).regs = s.regs := by
  induction l generalizing s a with
  | nil => rfl
  | cons b r ih => simp [State.setBytes, ih]
@[simp] theorem State.setBytes_pairRead (a : Nat) (l : List Byte) : (s.setBytes a l).pairRead = s.pairRead := by
  induction l generalizing s a with
  | nil => rfl
  | cons b r ih => simp [State.setBytes, ih]
@[simp] theorem State.setBytes_pairWrite (a : Nat) (l : List Byte) : (s.setBytes a l).pairWrite = s.pairWrite := by
  induction l generalizing s a with
  | nil => rfl
  | cons b r ih => simp [State.setBytes, ih]
@[simp] theorem State.setBytes_pairLast (a : Nat) (l : List Byte) : (s.setBytes a l).pairLast = s.pairLast := by
  induction l generalizing s a with
  | nil => rfl
  | cons b r ih => simp [State.setBytes, ih]
@[simp] theorem State.setBytes_cyc (a : Nat) (l : List Byte) : (s.setBytes a l).cyc = s.cyc := by
  induction l generalizing s a with
  | nil => rfl
  | cons b r ih => simp [State.setBytes, ih]
@[simp] theorem State.setBytes_resp (a : Nat) (l : List Byte) : (s.setBytes a l).resp = s.resp := by
  induction l generalizing s a with
  | nil => rfl
  | cons b r ih => simp [State.setBytes, ih]
@[simp] theorem State.setBytes_clk (a : Nat) (l : List Byte) : (s.setBytes a l).clk = s.clk := by
  induction l generalizing s a with
  | nil => rfl
  | cons b r ih => simp [State.setBytes, ih]
@[simp] theorem State.setBytes_pwr (a : Nat) (l : List Byte) : (s.setBytes a l).pwr = s.pwr := by
  induction l generalizing s a with
  | nil => rfl
  | cons b r ih => simp [State.setBytes, ih]
@[simp] theorem State.setBytes_boot (a : Nat) (l : List Byte) : (s.setBytes a l).boot = s.boot := by
  induction l generalizing s a with
  | nil => rfl
  | cons b r ih => simp [State.setBytes, ih]
@[simp] theorem State.setBytes_pins (a : Nat) (l : List Byte) : (s.setBytes a l).pins = s.pins := by
  induction l generalizing s a with
  | nil => rfl
  | cons b r ih => simp [State.setBytes, ih]
@[simp] theorem State.setBytes_ecc (a : Nat) (l : List Byte) : (s.setBytes a l).ecc = s.ecc := by
  induction l generalizing s a with
  | nil => rfl
  | cons b r ih => simp [State.setBytes, ih]
@[simp] theorem State.setBytes_hostif (a : Nat) (l : List Byte) : (s.setBytes a l).hostif = s.hostif := by
  induction l generalizing s a with
  | nil => rfl
  | cons b r ih => simp [State.setBytes, ih]
@[simp] theorem State.setBytes_denrek (a : Nat) (l : List Byte) : (s.setBytes a l).denrek = s.denrek := by
  induction l generalizing s a with
  | nil => rfl
  | cons b r ih => simp [State.setBytes, ih]
@[simp] theorem State.setBytes_dbg (a : Nat) (l : List Byte) : (s.setBytes a l).dbg = s.dbg := by
  induction l generalizing s a with
  | nil => rfl
  | cons b r ih => simp [State.setBytes, ih]
@[simp] theorem State.setBytes_cores (a : Nat) (l : List Byte) : (s.setBytes a l).cores = s.cores := by
  induction l generalizing s a with
  | nil => rfl
  | cons b r ih => simp [State.setBytes, ih]
@[simp] theorem State.setBytes_dec (a : Nat) (l : List Byte) : (s.setBytes a l).dec = s.dec := by
  induction l generalizing s a with
  | nil => rfl
  | cons b r ih => simp [State.setBytes, ih]
@[simp] theorem State.setBytes_tdm (a : Nat) (l : List Byte) : (s.setBytes a l).tdm = s.tdm := by
  induction l generalizing s a with
  | nil => rfl
  | cons b r ih => simp [State.setBytes, ih]
@[simp] theorem State.setBytes_rate (a : Nat) (l : List Byte) : (s.setBytes a l).rate = s.rate := by
  induction l generalizing s a with
  | nil => rfl
  | cons b r ih => simp [State.setBytes, ih]
@[simp] theorem State.setBytes_gust (a : Nat) (l : List Byte) : (s.setBytes a l).gust = s.gust := by
  induction l generalizing s a with
  | nil => rfl
  | cons b r ih => simp [State.setBytes, ih]
@[simp] theorem State.setBytes_sense (a : Nat) (l : List Byte) : (s.setBytes a l).sense = s.sense := by
  induction l generalizing s a with
  | nil => rfl
  | cons b r ih => simp [State.setBytes, ih]
@[simp] theorem State.setBytes_fox (a : Nat) (l : List Byte) : (s.setBytes a l).fox = s.fox := by
  induction l generalizing s a with
  | nil => rfl
  | cons b r ih => simp [State.setBytes, ih]
@[simp] theorem State.setBytes_lynx (a : Nat) (l : List Byte) : (s.setBytes a l).lynx = s.lynx := by
  induction l generalizing s a with
  | nil => rfl
  | cons b r ih => simp [State.setBytes, ih]
@[simp] theorem State.setBytes_fog (a : Nat) (l : List Byte) : (s.setBytes a l).fog = s.fog := by
  induction l generalizing s a with
  | nil => rfl
  | cons b r ih => simp [State.setBytes, ih]
@[simp] theorem State.setBytes_twin (a : Nat) (l : List Byte) : (s.setBytes a l).twin = s.twin := by
  induction l generalizing s a with
  | nil => rfl
  | cons b r ih => simp [State.setBytes, ih]
@[simp] theorem State.setBytes_freeCtr (a : Nat) (l : List Byte) : (s.setBytes a l).freeCtr = s.freeCtr := by
  induction l generalizing s a with
  | nil => rfl
  | cons b r ih => simp [State.setBytes, ih]

/-! ### A little-endian number is stored -/

@[simp] theorem State.setLe_pending (a n v : Nat) : (s.setLe a n v).pending = s.pending := by simp [State.setLe]
@[simp] theorem State.setLe_regs (a n v : Nat) : (s.setLe a n v).regs = s.regs := by simp [State.setLe]
@[simp] theorem State.setLe_pairRead (a n v : Nat) : (s.setLe a n v).pairRead = s.pairRead := by simp [State.setLe]
@[simp] theorem State.setLe_pairWrite (a n v : Nat) : (s.setLe a n v).pairWrite = s.pairWrite := by simp [State.setLe]
@[simp] theorem State.setLe_pairLast (a n v : Nat) : (s.setLe a n v).pairLast = s.pairLast := by simp [State.setLe]
@[simp] theorem State.setLe_cyc (a n v : Nat) : (s.setLe a n v).cyc = s.cyc := by simp [State.setLe]
@[simp] theorem State.setLe_resp (a n v : Nat) : (s.setLe a n v).resp = s.resp := by simp [State.setLe]
@[simp] theorem State.setLe_clk (a n v : Nat) : (s.setLe a n v).clk = s.clk := by simp [State.setLe]
@[simp] theorem State.setLe_pwr (a n v : Nat) : (s.setLe a n v).pwr = s.pwr := by simp [State.setLe]
@[simp] theorem State.setLe_boot (a n v : Nat) : (s.setLe a n v).boot = s.boot := by simp [State.setLe]
@[simp] theorem State.setLe_pins (a n v : Nat) : (s.setLe a n v).pins = s.pins := by simp [State.setLe]
@[simp] theorem State.setLe_ecc (a n v : Nat) : (s.setLe a n v).ecc = s.ecc := by simp [State.setLe]
@[simp] theorem State.setLe_hostif (a n v : Nat) : (s.setLe a n v).hostif = s.hostif := by simp [State.setLe]
@[simp] theorem State.setLe_denrek (a n v : Nat) : (s.setLe a n v).denrek = s.denrek := by simp [State.setLe]
@[simp] theorem State.setLe_dbg (a n v : Nat) : (s.setLe a n v).dbg = s.dbg := by simp [State.setLe]
@[simp] theorem State.setLe_cores (a n v : Nat) : (s.setLe a n v).cores = s.cores := by simp [State.setLe]
@[simp] theorem State.setLe_dec (a n v : Nat) : (s.setLe a n v).dec = s.dec := by simp [State.setLe]
@[simp] theorem State.setLe_tdm (a n v : Nat) : (s.setLe a n v).tdm = s.tdm := by simp [State.setLe]
@[simp] theorem State.setLe_rate (a n v : Nat) : (s.setLe a n v).rate = s.rate := by simp [State.setLe]
@[simp] theorem State.setLe_gust (a n v : Nat) : (s.setLe a n v).gust = s.gust := by simp [State.setLe]
@[simp] theorem State.setLe_sense (a n v : Nat) : (s.setLe a n v).sense = s.sense := by simp [State.setLe]
@[simp] theorem State.setLe_fox (a n v : Nat) : (s.setLe a n v).fox = s.fox := by simp [State.setLe]
@[simp] theorem State.setLe_lynx (a n v : Nat) : (s.setLe a n v).lynx = s.lynx := by simp [State.setLe]
@[simp] theorem State.setLe_fog (a n v : Nat) : (s.setLe a n v).fog = s.fog := by simp [State.setLe]
@[simp] theorem State.setLe_twin (a n v : Nat) : (s.setLe a n v).twin = s.twin := by simp [State.setLe]
@[simp] theorem State.setLe_freeCtr (a n v : Nat) : (s.setLe a n v).freeCtr = s.freeCtr := by simp [State.setLe]

/-! ### Memory is zeroed -/

@[simp] theorem State.zeroMem_pending (lo hi : Nat) : (s.zeroMem lo hi).pending = s.pending := rfl
@[simp] theorem State.zeroMem_regs (lo hi : Nat) : (s.zeroMem lo hi).regs = s.regs := rfl
@[simp] theorem State.zeroMem_pairRead (lo hi : Nat) : (s.zeroMem lo hi).pairRead = s.pairRead := rfl
@[simp] theorem State.zeroMem_pairWrite (lo hi : Nat) : (s.zeroMem lo hi).pairWrite = s.pairWrite := rfl
@[simp] theorem State.zeroMem_pairLast (lo hi : Nat) : (s.zeroMem lo hi).pairLast = s.pairLast := rfl
@[simp] theorem State.zeroMem_cyc (lo hi : Nat) : (s.zeroMem lo hi).cyc = s.cyc := rfl
@[simp] theorem State.zeroMem_resp (lo hi : Nat) : (s.zeroMem lo hi).resp = s.resp := rfl
@[simp] theorem State.zeroMem_clk (lo hi : Nat) : (s.zeroMem lo hi).clk = s.clk := rfl
@[simp] theorem State.zeroMem_pwr (lo hi : Nat) : (s.zeroMem lo hi).pwr = s.pwr := rfl
@[simp] theorem State.zeroMem_boot (lo hi : Nat) : (s.zeroMem lo hi).boot = s.boot := rfl
@[simp] theorem State.zeroMem_pins (lo hi : Nat) : (s.zeroMem lo hi).pins = s.pins := rfl
@[simp] theorem State.zeroMem_ecc (lo hi : Nat) : (s.zeroMem lo hi).ecc = s.ecc := rfl
@[simp] theorem State.zeroMem_hostif (lo hi : Nat) : (s.zeroMem lo hi).hostif = s.hostif := rfl
@[simp] theorem State.zeroMem_denrek (lo hi : Nat) : (s.zeroMem lo hi).denrek = s.denrek := rfl
@[simp] theorem State.zeroMem_dbg (lo hi : Nat) : (s.zeroMem lo hi).dbg = s.dbg := rfl
@[simp] theorem State.zeroMem_cores (lo hi : Nat) : (s.zeroMem lo hi).cores = s.cores := rfl
@[simp] theorem State.zeroMem_dec (lo hi : Nat) : (s.zeroMem lo hi).dec = s.dec := rfl
@[simp] theorem State.zeroMem_tdm (lo hi : Nat) : (s.zeroMem lo hi).tdm = s.tdm := rfl
@[simp] theorem State.zeroMem_rate (lo hi : Nat) : (s.zeroMem lo hi).rate = s.rate := rfl
@[simp] theorem State.zeroMem_gust (lo hi : Nat) : (s.zeroMem lo hi).gust = s.gust := rfl
@[simp] theorem State.zeroMem_sense (lo hi : Nat) : (s.zeroMem lo hi).sense = s.sense := rfl
@[simp] theorem State.zeroMem_fox (lo hi : Nat) : (s.zeroMem lo hi).fox = s.fox := rfl
@[simp] theorem State.zeroMem_lynx (lo hi : Nat) : (s.zeroMem lo hi).lynx = s.lynx := rfl
@[simp] theorem State.zeroMem_fog (lo hi : Nat) : (s.zeroMem lo hi).fog = s.fog := rfl
@[simp] theorem State.zeroMem_twin (lo hi : Nat) : (s.zeroMem lo hi).twin = s.twin := rfl
@[simp] theorem State.zeroMem_freeCtr (lo hi : Nat) : (s.zeroMem lo hi).freeCtr = s.freeCtr := rfl

/-! ### Reads of registers -/

@[simp] theorem State.reg_setReg_self (a : Nat) (v : Word) : (s.setReg a v).reg a = v := by
  simp [State.reg, State.setReg]

theorem State.reg_setReg_ne {a b : Nat} (h : b ≠ a) (v : Word) : (s.setReg a v).reg b = s.reg b := by
  simp [State.reg, State.setReg, tabGet_tabPut_ne _ _ h]

@[simp] theorem State.reg_setF_self (f : Fld) (v : Nat) : (s.setF f v).reg f.addr = f.insert (s.reg f.addr) v := by
  simp [State.setF]

theorem State.reg_setF_ne (f : Fld) {b : Nat} (h : b ≠ f.addr) (v : Nat) : (s.setF f v).reg b = s.reg b := by
  simp [State.setF, State.reg_setReg_ne s h]

/-- A field of another register reads as before. -/
theorem State.getF_setF_ne (f g : Fld) (h : g.addr ≠ f.addr) (v : Nat) : (s.setF f v).getF g = s.getF g := by
  simp [State.getF, State.reg_setF_ne s f h]

/-- A field whose bits lie in its register reads back what was stored, in its width. -/
theorem Fld.of_insert (f : Fld) (h : f.lo ≤ f.hi) (h32 : f.hi < 32) (w : Word) (v : Nat) :
    f.of (f.insert w v) = v % 2 ^ (f.hi - f.lo + 1) := by
  obtain ⟨a, hi, lo⟩ := f
  simp only [Fld.of, Fld.insert, bitsOf, BitVec.toNat_ofNat] at *
  generalize hn : hi - lo + 1 = n
  obtain ⟨m, hm⟩ : ∃ m, 32 = lo + (n + m) := ⟨31 - hi, by omega⟩
  generalize w.toNat = x
  have hx := Nat.mod_add_div x (2 ^ lo)
  have hz := Nat.mod_add_div (x / 2 ^ lo) (2 ^ n)
  rw [← hz, Nat.mul_add] at hx
  have hy : x - x / 2 ^ lo % 2 ^ n * 2 ^ lo + v % 2 ^ n * 2 ^ lo
      = x % 2 ^ lo + 2 ^ lo * (v % 2 ^ n + 2 ^ n * (x / 2 ^ lo / 2 ^ n)) := by
    rw [Nat.mul_add, Nat.mul_comm (x / 2 ^ lo % 2 ^ n), Nat.mul_comm (v % 2 ^ n)]; omega
  rw [hy, hm, Nat.pow_add, Nat.mod_mul_right_div_self, Nat.add_mul_div_left _ _ (Nat.two_pow_pos lo),
    Nat.div_eq_of_lt (Nat.mod_lt _ (Nat.two_pow_pos lo)), Nat.zero_add, Nat.pow_add, Nat.mod_mul_right_mod,
    Nat.add_mul_mod_self_left, Nat.mod_mod]

@[simp] theorem State.reg_note (a b : Nat) : (s.note a).reg b = s.reg b := by simp [State.reg]

@[simp] theorem State.reg_mark (a m b : Nat) : (s.mark a m).reg b = s.reg b := rfl

@[simp] theorem State.reg_defer (a : Nat) (w : Word) (b : Nat) : (s.defer a w).reg b = s.reg b := by simp [State.reg]

/-- An event's field is stored as any other. -/
@[simp] theorem State.reg_hitF (f : Fld) (v b : Nat) : (s.hitF f v).reg b = (s.setF f v).reg b := by
  by_cases h : b = f.addr
  · subst h; simp [State.hitF]
  · simp [State.hitF, State.reg_setF_ne _ f h]

/-- A counter grows in its own register. -/
@[simp] theorem State.reg_incF (f : Fld) (n b : Nat) :
    (s.incF f n).reg b = (s.setF f (satAdd (f.hi - f.lo + 1) (s.getF f) n)).reg b := by
  by_cases h : b = f.addr
  · subst h; simp [State.incF]
  · simp [State.incF, State.reg_setF_ne _ f h]

@[simp] theorem State.getF_setF_self (f : Fld) (h : f.lo ≤ f.hi) (h32 : f.hi < 32) (v : Nat) :
    (s.setF f v).getF f = v % 2 ^ (f.hi - f.lo + 1) := by
  simp [State.getF, Fld.of_insert f h h32]

/-- A block of registers cleared reads as after reset; the others read as before. -/
theorem State.reg_clearRegs (lo hi a : Nat) :
    (s.clearRegs lo hi).reg a = if lo ≤ a ∧ a < hi then resetWord a else s.reg a := by
  simp [State.reg, State.clearRegs, tabGet_tabClear]

/-! ### Reads of memory -/

@[simp] theorem State.byte_setByte_self (a : Nat) (b : Byte) : (s.setByte a b).byte a = b := by
  simp [State.byte, State.setByte]

theorem State.byte_setByte_ne {a c : Nat} (h : c ≠ a) (b : Byte) : (s.setByte a b).byte c = s.byte c := by
  simp [State.byte, State.setByte, tabGet_tabPut_ne _ _ h]

/-- A byte outside the stored range reads as before. -/
theorem State.byte_setBytes_out (a c : Nat) (l : List Byte) (h : c < a ∨ a + l.length ≤ c) :
    (s.setBytes a l).byte c = s.byte c := by
  induction l generalizing s a with
  | nil => rfl
  | cons b r ih =>
    simp only [List.length_cons] at h
    simp only [State.setBytes]
    rw [ih _ _ (by omega), State.byte_setByte_ne s (by omega)]

/-- A byte of the stored range reads as stored. -/
theorem State.byte_setBytes_in (a i : Nat) (l : List Byte) (h : i < l.length) :
    (s.setBytes a l).byte (a + i) = l[i] := by
  induction l generalizing s a i with
  | nil => simp at h
  | cons b r ih =>
    simp only [State.setBytes]
    cases i with
    | zero => rw [State.byte_setBytes_out _ _ _ _ (by omega)]; simp
    | succ i =>
      simp only [List.length_cons] at h
      have := ih (s.setByte a b) (a + 1) i (by omega)
      rw [show a + (i + 1) = a + 1 + i by omega, this]; rfl

@[simp] theorem State.length_bytes (a n : Nat) : (s.bytes a n).length = n := by
  induction n generalizing a with
  | zero => rfl
  | succ n ih => simp [State.bytes, ih]

/-- Bytes read as stored. -/
@[simp] theorem State.bytes_setBytes (a : Nat) (l : List Byte) : (s.setBytes a l).bytes a l.length = l := by
  induction l generalizing s a with
  | nil => rfl
  | cons b r ih =>
    simp only [State.setBytes, List.length_cons, State.bytes, ih]
    rw [State.byte_setBytes_out _ _ _ _ (by omega)]; simp

theorem State.byte_zeroMem (lo hi a : Nat) :
    (s.zeroMem lo hi).byte a = if lo ≤ a ∧ a < hi then memDefault else s.byte a := by
  simp [State.byte, State.zeroMem, tabGet_tabClear]

end Sys2Proof.Machine
end

