-- ==== Sys2Proof/Laws/Keeps.lean ====
section
/-! SUPPORT. What every shared operation keeps, said once: the queue of waiting commands, the canonical form, device time
and the level of POR_N. One lemma per operation, in the form in which operations are composed. -/

namespace Sys2Proof.Machine

/-- What an operation that starts nothing new keeps. -/
structure Keeps (s t : State) : Prop where
  pending : t.pending = s.pending
  canonical : s.canonical = true → t.canonical = true
  time : t.clk.time = s.clk.time
  porN : t.pins.porN = s.pins.porN

variable {s t : State}

@[simp] theorem Keeps.refl (s : State) : Keeps s s := ⟨rfl, id, rfl, rfl⟩

theorem Keeps.trans {u : State} (h : Keeps s t) (k : Keeps t u) : Keeps s u :=
  ⟨k.pending.trans h.pending, fun x => k.canonical (h.canonical x), k.time.trans h.time, k.porN.trans h.porN⟩

/-- An update that leaves registers, memory, the queue, device time and POR_N alone. -/
theorem Keeps.hidden (h : Keeps s t) {u : State} (hp : u.pending = t.pending := by rfl) (hr : u.regs = t.regs := by rfl)
    (hm : u.mem = t.mem := by rfl) (ht : u.clk.time = t.clk.time := by rfl) (hn : u.pins.porN = t.pins.porN := by rfl) :
    Keeps s u :=
  h.trans ⟨hp, fun x => by simpa [State.canonical, hr, hm] using x, ht, hn⟩

theorem canonical_iff : s.canonical = true ↔ memWf s.mem = true ∧ tabWf resetWord s.regs = true := by
  simp [State.canonical]

/-! ### Composition -/

theorem Keeps.ite {c : Prop} [Decidable c] {u v : State} (h : Keeps s u) (k : Keeps s v) : Keeps s (if c then u else v) := by
  split <;> assumption

theorem Keeps.bif {c : Bool} {u v : State} (h : Keeps s u) (k : Keeps s v) : Keeps s (if c then u else v) := by
  split <;> assumption

theorem Keeps.when {c : Bool} {f : State → State} (h : Keeps s t) (k : Keeps t (f t)) : Keeps s (when c f t) := by
  unfold Machine.when; split
  · exact h.trans k
  · exact h

theorem Keeps.foldl {α : Type} {f : State → α → State} (l : List α) (h : Keeps s t) (k : ∀ u a, Keeps u (f u a)) :
    Keeps s (l.foldl f t) := by
  induction l generalizing t with
  | nil => exact h
  | cons a r ih => exact ih (h.trans (k t a))

theorem Keeps.forN {n : Nat} {f : Nat → State → State} (h : Keeps s t) (k : ∀ i u, Keeps u (f i u)) :
    Keeps s (forN n f t) := Keeps.foldl _ h (fun u i => k i u)

/-! ### The primitive operations -/

theorem Keeps.setReg (h : Keeps s t) (a : Nat) (v : Word) : Keeps s (t.setReg a v) :=
  h.trans ⟨rfl, fun x => canonical_iff.2 ⟨(canonical_iff.1 x).1, tabWf_tabPut _ _ _ _ (canonical_iff.1 x).2⟩, rfl, rfl⟩

theorem Keeps.setF (h : Keeps s t) (f : Fld) (v : Nat) : Keeps s (t.setF f v) := h.setReg _ _

theorem Keeps.setB (h : Keeps s t) (f : Fld) (i : Nat) : Keeps s (t.setB f i) := h.setF _ _

theorem Keeps.clrB (h : Keeps s t) (f : Fld) (i : Nat) : Keeps s (t.clrB f i) := by
  unfold State.clrB; exact Keeps.ite (h.setF _ _) h

theorem Keeps.putB (h : Keeps s t) (f : Fld) (i : Nat) (b : Bool) : Keeps s (t.putB f i b) := by
  unfold State.putB; exact Keeps.ite (h.setB _ _) (h.clrB _ _)

theorem Keeps.note (h : Keeps s t) (a : Nat) : Keeps s (t.note a) := by
  unfold State.note; exact Keeps.ite h h.hidden

theorem Keeps.mark (h : Keeps s t) (a m : Nat) : Keeps s (t.mark a m) := h.hidden

theorem Keeps.defer (h : Keeps s t) (a : Nat) (w : Word) : Keeps s (t.defer a w) := by
  unfold State.defer; exact Keeps.ite h h.hidden

theorem Keeps.hitF (h : Keeps s t) (f : Fld) (v : Nat) : Keeps s (t.hitF f v) := ((h.note _).mark _ _).setF _ _

theorem Keeps.hitB (h : Keeps s t) (f : Fld) (i : Nat) : Keeps s (t.hitB f i) := ((h.note _).mark _ _).setB _ _

theorem Keeps.wipeF (h : Keeps s t) (f : Fld) : Keeps s (t.wipeF f) := by
  unfold State.wipeF; exact Keeps.ite h (h.setF _ _)

theorem Keeps.incF (h : Keeps s t) (f : Fld) (n : Nat) : Keeps s (t.incF f n) := (h.note _).setF _ _

theorem Keeps.maxF (h : Keeps s t) (f : Fld) (v : Nat) : Keeps s (t.maxF f v) := by
  unfold State.maxF; exact Keeps.ite (((h.note _).mark _ _).setF _ _) h

theorem Keeps.addF (h : Keeps s t) (f : Fld) (n : Nat) : Keeps s (t.addF f n) := h.setF _ _

theorem Keeps.set64 (h : Keeps s t) (a v : Nat) : Keeps s (t.set64 a v) := (h.setReg _ _).setReg _ _

theorem Keeps.clearRegs (h : Keeps s t) (lo hi : Nat) : Keeps s (t.clearRegs lo hi) :=
  h.trans ⟨rfl, fun x => canonical_iff.2 ⟨(canonical_iff.1 x).1, tabWf_tabClear _ _ _ _ (canonical_iff.1 x).2⟩, rfl, rfl⟩

theorem Keeps.showMuteN (h : Keeps s t) : Keeps s (showMuteN t) := h.setF _ _

theorem Keeps.resetDomain (h : Keeps s t) (d : Domain) : Keeps s (t.resetDomain d) :=
  Keeps.showMuteN
    (h.trans ⟨rfl, fun x => canonical_iff.2 ⟨(canonical_iff.1 x).1, tabWf_filter _ _ _ (canonical_iff.1 x).2⟩, rfl, rfl⟩)

theorem Keeps.setByte (h : Keeps s t) (a : Nat) (b : Byte) : Keeps s (t.setByte a b) :=
  h.trans ⟨rfl, fun x => canonical_iff.2 ⟨tabWf_tabPut (fun _ => memDefault) _ _ _ (canonical_iff.1 x).1, (canonical_iff.1 x).2⟩,
    rfl, rfl⟩

theorem Keeps.setBytes (h : Keeps s t) (a : Nat) (l : List Byte) : Keeps s (t.setBytes a l) := by
  induction l generalizing t a with
  | nil => exact h
  | cons b r ih => exact ih (h.setByte a b) (a + 1)

theorem Keeps.setLe (h : Keeps s t) (a n v : Nat) : Keeps s (t.setLe a n v) := h.setBytes _ _

theorem Keeps.zeroMem (h : Keeps s t) (lo hi : Nat) : Keeps s (t.zeroMem lo hi) :=
  h.trans ⟨rfl, fun x => canonical_iff.2 ⟨tabWf_tabClear _ _ _ _ (canonical_iff.1 x).1, (canonical_iff.1 x).2⟩, rfl, rfl⟩

/-! ### The shared operations -/

theorem Keeps.setSession (h : Keeps s t) (n : Nat) (x : Session) : Keeps s (t.setSession n x) := h.hidden

theorem Keeps.claim (h : Keeps s t) (r : Res) (n : Nat) : Keeps s (t.claim r n) := h.hidden

theorem Keeps.release (h : Keeps s t) (r : Res) : Keeps s (t.release r) := h.hidden

theorem Keeps.setVote (h : Keeps s t) (v : Vote) (n x : Nat) : Keeps s (t.setVote v n x) := h.hidden

theorem Keeps.setPort (h : Keeps s t) (p : Nat) (x : PortSt) : Keeps s (t.setPort p x) := (Keeps.hidden h : Keeps s { t with denrek := { t.denrek with ports := tabPut PortSt.reset p x t.denrek.ports } }).setF _ _

theorem Keeps.setRing (h : Keeps s t) (r : Nat) (x : RingSt) : Keeps s (t.setRing r x) := h.hidden

theorem Keeps.setCore (h : Keeps s t) (n : Nat) (c : Core) : Keeps s (t.setCore n c) := h.hidden

theorem Keeps.fresh (h : Keeps s t) : Keeps s (t.fresh.1) := h.hidden

theorem Keeps.notice (h : Keeps s t) (code detail : Nat) : Keeps s (t.notice code detail) := by
  unfold State.notice
  exact h.forN fun p u => Keeps.ite ((Keeps.refl u).setPort _ _) (Keeps.refl u)

theorem Keeps.errLog (h : Keeps s t) (c u st se p q a : Nat) : Keeps s (t.errLog c u st se p q a) := by
  unfold State.errLog
  exact Keeps.addF (Keeps.when (Keeps.hidden h) (Keeps.incF (Keeps.refl _) _ _)) _ _

theorem Keeps.withFaultPin (h : Keeps s t) {f : State → State} (k : Keeps t (f t)) : Keeps s (withFaultPin f t) := by
  unfold Machine.withFaultPin
  dsimp only
  split
  · exact (h.trans k).notice _ _
  · exact h.trans k

theorem Keeps.syncPut (h : Keeps s t) (i : Nat) (e : SyncCyc) : Keeps s (syncPut i e t) := by
  unfold Machine.syncPut
  exact Keeps.when (Keeps.set64 (Keeps.hidden h) _ _)
    (Keeps.withFaultPin (Keeps.hitF (Keeps.refl _) _ _) (Keeps.hitF (Keeps.refl _) _ _))

theorem Keeps.syncInc (h : Keeps s t) (p i w : Nat) : Keeps s (syncInc p i w t) := h.syncPut _ _

theorem Keeps.syncSignalNow (h : Keeps s t) (i v : Nat) : Keeps s (syncSignalNow i v t) := h.syncPut _ _

theorem Keeps.syncCycle (h : Keeps s t) : Keeps s (syncCycle t) := by
  unfold Machine.syncCycle
  exact Keeps.foldl _ (Keeps.when (Keeps.hidden h) (Keeps.incF (Keeps.refl _) _ _))
    fun u e => (Keeps.refl u).syncInc _ _ _

theorem Keeps.raiseSource (h : Keeps s t) (n k : Nat) : Keeps s (raiseSource n k t) := by
  unfold Machine.raiseSource
  exact Keeps.ite (((h.setCore _ _).hitB _ _).incF _ _) (h.setCore _ _)

theorem Keeps.event (h : Keeps s t) (ev : Nat) : Keeps s (t.event ev) := by
  unfold State.event
  exact Keeps.ite h (Keeps.forN (Keeps.foldl _ h fun u i => (Keeps.refl u).syncInc _ _ _) fun n u =>
    Keeps.forN (Keeps.refl u) fun k v => Keeps.ite ((Keeps.refl v).raiseSource _ _) (Keeps.refl v))

theorem Keeps.logUe (h : Keeps s t) (a i n : Nat) (b : Bool) : Keeps s (logUe a i n b t) := by
  unfold Machine.logUe
  refine Keeps.event (Keeps.notice (Keeps.errLog (Keeps.withFaultPin (Keeps.hitF (Keeps.incF (Keeps.setReg (Keeps.set64 h _ _)
    _ _) _ _) _ _) ?_) _ _ _ _ _ _ _) _ _) _
  split
  · exact Keeps.hitF (Keeps.refl _) _ _
  · exact Keeps.hitF (Keeps.refl _) _ _

theorem Keeps.fixCe (h : Keeps s t) (a n : Nat) : Keeps s (fixCe a n t) := by
  unfold Machine.fixCe
  exact Keeps.foldl _ (Keeps.hidden h) fun u w => ((Keeps.refl u).incF _ _).hitF _ _

theorem Keeps.rejectAccess (h : Keeps s t) (q : Acq) (a : Nat) (w : Bool) : Keeps s (rejectAccess q a w t) := by
  unfold Machine.rejectAccess
  exact (Keeps.ite ((h.hitF _ _).incF _ _) (((((h.hitF _ _).note _).mark _ _).setReg _ _).set64 _ _)).errLog _ _ _ _ _ _ _

theorem Keeps.countBw (h : Keeps s t) (q : Acq) (c : Option Nat) (a n : Nat) : Keeps s (countBw q c a n t) := by
  unfold Machine.countBw
  split
  · exact Keeps.incF (Keeps.hidden h) _ _
  · exact h

theorem Keeps.noteOutst (h : Keeps s t) (a n m : Nat) : Keeps s (noteOutst a n m t) :=
  h.forN fun _ u => Keeps.ite ((Keeps.refl u).maxF _ _) (Keeps.refl u)

theorem Keeps.takeEntry (h : Keeps s t) (c : Option Nat) (a n : Nat) : Keeps s (takeEntry c a n t) := h.noteOutst _ _ _

theorem Keeps.overwrite (h : Keeps s t) (a : Nat) (l : List Byte) : Keeps s (t.overwrite a l) :=
  Keeps.setBytes (Keeps.hidden h) _ _

theorem Keeps.readChecked (h : Keeps s t) (q : Acq) (c : Option Nat) (a n : Nat) : Keeps s ((t.readChecked q c a n).1) := by
  unfold State.readChecked
  split
  · exact h
  · exact h.rejectAccess _ _ _
  · split
    · exact h
    · split
      · exact h.logUe _ _ _ _
      · exact ((h.fixCe _ _).takeEntry _ _ _).countBw _ _ _ _

theorem Keeps.writeChecked (h : Keeps s t) (q : Acq) (c : Option Nat) (a : Nat) (l : List Byte) : Keeps s ((t.writeChecked q c a l).1) := by
  unfold State.writeChecked
  dsimp only
  split
  · exact h
  · exact h.rejectAccess _ _ _
  · split
    · exact h
    · split
      · exact h.logUe _ _ _ _
      · exact ((h.overwrite _ _).takeEntry _ _ _).countBw _ _ _ _

theorem Keeps.take (h : Keeps s t) (d : Desc) (r : Res) : Keeps s (t.take d r) := by
  unfold State.take
  split
  · exact h
  · exact (h.claim r d.session).hidden

theorem Keeps.giveUp (h : Keeps s t) (d : Desc) (r : Res) : Keeps s (t.giveUp d r) := h.hidden

theorem Keeps.putCmd (h : Keeps s t) (c : Cmd) : Keeps s (t.putCmd c) := h.hidden

theorem Keeps.countTable (h : Keeps s t) (x : Src) : Keeps s (t.countTable x) := by
  cases x with
  | mbox _ => exact h
  | ring r => exact ((h.setF _ _).setF _ _).setF _ _

theorem Keeps.addCmd (h : Keeps s t) (d : Desc) : Keeps s (t.addCmd d) := by
  unfold State.addCmd
  exact Keeps.countTable (Keeps.hidden h) _

theorem Keeps.dropWaiter (h : Keeps s t) (c : Cmd) : Keeps s (dropWaiter c t) := by
  unfold Machine.dropWaiter
  exact Keeps.ite (h.setF _ _) h

theorem Keeps.markStarted (h : Keeps s t) (c : Cmd) : Keeps s (markStarted c t) := by
  unfold Machine.markStarted
  split
  · exact h
  · cases c.src with
    | mbox p => exact (h.dropWaiter c).addF _ _
    | ring r => exact h.dropWaiter c

theorem Keeps.haltRing (h : Keeps s t) (r q x n : Nat) : Keeps s (haltRing r q x n t) := by
  unfold Machine.haltRing
  exact (((h.setF _ _).set64 _ _).withFaultPin ((Keeps.refl _).hitF _ _)).errLog _ _ _ _ _ _ _

theorem Keeps.finishCmd (h : Keeps s t) (x : Src) (q a r : Nat) (e : List Word) : Keeps s (finishCmd x q a r e t) := by
  unfold Machine.finishCmd
  split
  · exact h
  · rename_i c _
    split
    · exact h
    · have k : Keeps s (if c.unstarted then Machine.markStarted c t else t) := Keeps.ite (h.markStarted c) h
      have k2 := (k.when (c := c.desc.signalEn && ((if c.phase == .lost then stFAILOVER else a) == stDONE
          || (if c.phase == .lost then stFAILOVER else a) == stMISS)
          && syncOwner (if c.unstarted then Machine.markStarted c t else t) c.desc.signalId != none)
        ((Keeps.refl _).syncSignalNow c.desc.signalId c.desc.signalValue))
      cases x with
      | mbox p => exact k2.putCmd _
      | ring r' => exact (k2.putCmd _).when ((Keeps.refl _).haltRing _ _ _ _)

theorem Keeps.await (h : Keeps s t) (w : Await) (x : Src) (q : Nat) : Keeps s (t.await w x q) := h.hidden

theorem Keeps.finishAwaits (h : Keeps s t) (p : Await → Bool) (a r : Nat) : Keeps s (finishAwaits p a r t) := by
  unfold Machine.finishAwaits
  exact Keeps.foldl _ (Keeps.hidden h) fun u e => (Keeps.refl u).finishCmd _ _ _ _ _

theorem Keeps.holdWaiting (h : Keeps s t) (c : Cmd) : Keeps s (holdWaiting c t) := by
  unfold Machine.holdWaiting
  exact Keeps.ite h (Keeps.ite (h.putCmd _) ((h.putCmd _).setF _ _))

theorem Keeps.takeIn (h : Keeps s t) (d : Desc) : Keeps s (t.takeIn d) := by
  unfold State.takeIn
  have k := h.addCmd d
  cases d.src with
  | mbox p => exact Keeps.ite (k.hidden) k
  | ring r =>
    have k2 := k.setRing r { (t.addCmd d).ring r with fetched := d.seq }
    have k3 : Keeps s (if (t.addCmd d).getF TWIN_STAT_STATE == 3 then
        (t.addCmd d).setRing r { (t.addCmd d).ring r with fetched := d.seq }
        else ((t.addCmd d).setRing r { (t.addCmd d).ring r with fetched := d.seq }).setF (RING_SQ_HEAD_HEAD r) d.seq) :=
      Keeps.ite k2 (k2.setF _ _)
    exact Keeps.ite (k3.hidden) k3

theorem Keeps.setImg (h : Keeps s t) (a : Nat) (o i : List Fld) (v : Nat) : Keeps s (t.setImg a o i v) := h.setReg _ _

theorem Keeps.setBase (h : Keeps s t) (a v : Nat) : Keeps s (t.setBase a v) := h.set64 _ _

theorem Keeps.unbindWhere (h : Keeps s t) (p : Nat × Nat × Nat → Bool) : Keeps s (unbindWhere p t) := by
  unfold Machine.unbindWhere
  exact Keeps.foldl _ (Keeps.hidden h) fun u b => (Keeps.refl u).setReg _ _

theorem Keeps.unbindEvents (h : Keeps s t) (p : Nat → Bool) : Keeps s (unbindEvents p t) := h.unbindWhere _

theorem Keeps.unbindObj (h : Keeps s t) (i : Nat) : Keeps s (unbindObj i t) := h.unbindWhere _

theorem Keeps.readWas (h : Keeps s t) (a : Nat) : Keeps s (readWas a t) := by
  unfold Machine.readWas
  split <;> exact h.hidden

theorem Keeps.clearRC (h : Keeps s t) (a : Nat) : Keeps s (clearRC a t) := by
  unfold Machine.clearRC
  split
  · exact Keeps.readWas (Keeps.foldl _ h fun u f => by split <;> first | exact (Keeps.refl u).setF _ _ | exact Keeps.refl u) _
  · exact h

theorem Keeps.clearRead (h : Keeps s t) (l : List RecItem) : Keeps s (clearRead l t) := by
  unfold Machine.clearRead
  refine Keeps.foldl _ h fun u i => ?_
  cases i with
  | w a => exact (Keeps.refl u).clearRC a
  | q lo => exact Keeps.refl u
  | raw n v => exact Keeps.refl u

theorem Keeps.deliver (h : Keeps s t) (p v : Nat) : Keeps s (deliver p v t) := by
  unfold Machine.deliver
  exact Keeps.ite h (Keeps.ite (h.hidden) (h.hidden))

theorem Keeps.pendMbox (h : Keeps s t) (p : Nat) : Keeps s (pendMbox p t) := by
  unfold Machine.pendMbox
  exact (h.hitF _ _).when ((Keeps.refl _).deliver _ _)

theorem Keeps.pendRing (h : Keeps s t) (r : Nat) : Keeps s (pendRing r t) := by
  unfold Machine.pendRing
  exact (h.hitF _ _).when ((Keeps.refl _).deliver _ _)

/-! ### Bindings, checks and evaluation -/

theorem keeps_bindAdd {s : State} {n f e o : Nat} {u : State} (h : bindAdd n f e o s = .ok u) : Keeps s u := by
  unfold bindAdd at h
  split at h
  · cases h
  · split at h
    · cases h
    · split at h
      · cases h
      · generalize BitVec.ofNat 32 _ = v at h
        injection h with h
        subst h
        exact Keeps.hidden (Keeps.setReg (Keeps.refl s) _ v)

theorem keeps_bindOne {s : State} {n : Nat} {b : Nat × Nat × Nat} {u : State} (h : bindOne n b s = .ok u) : Keeps s u := by
  unfold bindOne at h
  split at h
  · cases h; exact (Keeps.refl s).unbindWhere _
  · exact ((Keeps.refl s).unbindWhere _).trans (keeps_bindAdd h)

theorem keeps_bindAll {n : Nat} : ∀ (l : List (Nat × Nat × Nat)) {s u : State}, bindAll n l s = .ok u → Keeps s u
  | [], s, u, h => by cases h; exact Keeps.refl s
  | b :: r, s, u, h => by
    unfold bindAll at h
    split at h
    · exact Keeps.trans (keeps_bindOne (by assumption)) (keeps_bindAll r h)
    · cases h

theorem Keeps.checked {l : List Nat} {k : State × Rsp} (h : Keeps s t) (hk : Keeps s k.1) : Keeps s (checked l t k).1 := by
  unfold Machine.checked; split <;> assumption

theorem Keeps.withMem {r : State × Acc2} {k : State → List Byte → State × Rsp} (h : Keeps s r.1)
    (hk : ∀ bs, Keeps r.1 (k r.1 bs).1) : Keeps s (withMem r k).1 := by
  unfold Machine.withMem
  split
  · exact h.trans (hk _)
  all_goals exact h

theorem Keeps.withBinds {d : Desc} {l : List (Nat × Nat × Nat)} {k : State → State × Rsp} (h : Keeps s t)
    (hk : ∀ u, Keeps u (k u).1) : Keeps s (withBinds d l t k).1 := by
  unfold Machine.withBinds
  split
  · exact (h.trans (keeps_bindAll l (by assumption))).trans (hk _)
  · exact h

theorem Keeps.outRecord {d : Desc} {o : Nat} {bs : List Byte} (h : Keeps s t) : Keeps s (outRecord d o bs t).1 := by
  unfold Machine.outRecord
  split
  · split <;> exact h
  · exact h.checked (Keeps.withMem (h.writeChecked _ _ _ _) fun _ => Keeps.refl _)

theorem Keeps.outStatus {d : Desc} {o : Nat} {l : List RecItem} (h : Keeps s t) : Keeps s (outStatus d o l t).1 := by
  have k : Keeps s (Machine.outRecord d o (recBytes t 0 l) t).1 := h.outRecord
  unfold Machine.outStatus
  split
  · rename_i heq; rw [heq] at k; exact k.clearRead _
  · exact k

/-- Starting a command keeps what its body keeps. -/
theorem Keeps.startCmd {c : Cmd} {z : List Nat} {cls : State → Desc → Nat} {body : State → Desc → State × Rsp}
    (h : Keeps s t) (hb : ∀ u d, Keeps u (body u d).1) : Keeps s (startCmd c z cls body t) := by
  unfold Machine.startCmd
  dsimp only
  split
  · exact h
  have k : Keeps s ((Machine.markStarted c t).putCmd { c with phase := .started, overlapped := overlapsPrev t c.desc }) :=
    (h.markStarted c).putCmd _
  have k2 := k.trans (hb _ c.desc)
  split
  · split <;> rename_i heq <;> (try rw [heq] at k2)
    · exact k2.finishCmd _ _ _ _ _
    · exact k2.finishCmd _ _ _ _ _
    · exact k2.await _ _ _
    · exact h
    · exact k2
  · exact k.finishCmd _ _ _ _ _

/-- Evaluating a command keeps what its body keeps. -/
theorem Keeps.evalCmd {c : Cmd} {z : List Nat} {cls : State → Desc → Nat} {body : State → Desc → State × Rsp}
    (h : Keeps s t) (hb : ∀ u d, Keeps u (body u d).1) : Keeps s (evalCmd c z cls body t) := by
  unfold Machine.evalCmd
  refine Keeps.ite (h.finishCmd _ _ _ _ _) (Keeps.ite h ?_)
  split
  · exact Keeps.ite (h.holdWaiting c) (h.startCmd hb)
  · exact h.finishCmd _ _ _ _ _

theorem keeps_submitted {d : Desc} {u : State} (h : submitted s d = some u) : Keeps s u := by
  unfold submitted at h
  split at h <;> split at h <;> cases h
  · exact ((Keeps.refl s).addF _ _).takeIn _
  · exact ((Keeps.refl s).addF _ _).takeIn _

/-- A Denrek command always answers a next state, and keeps what its body keeps. -/
theorem keeps_runCmd {d : Desc} {o : Nat} {z : List Nat} {cls : State → Desc → Nat} {body : State → Desc → State × Rsp}
    (hb : ∀ u d, Keeps u (body u d).1) : ∃ u, runCmd d o z cls body s = .next u ∧ Keeps s u := by
  unfold runCmd
  split
  · exact ⟨_, rfl, Keeps.refl s⟩
  · split
    · split
      · exact ⟨_, rfl, (Keeps.refl s).evalCmd hb⟩
      · exact ⟨_, rfl, Keeps.refl s⟩
    · split
      · exact ⟨_, rfl, Keeps.refl s⟩
      · split
        · exact ⟨_, rfl, Keeps.refl _⟩
        · rename_i hs
          split
          · exact ⟨_, rfl, (keeps_submitted hs).evalCmd hb⟩
          · exact ⟨_, rfl, keeps_submitted hs⟩

end Sys2Proof.Machine
end

