-- ==== Sys2Proof/Tests/Slice0.lean ====
section
/-! SUPPORT. The model's own tests: terms that WellFormed refuses, the specification's worked examples, and for every
obligation with hypotheses a named theorem that shows states and operands that meet them, clause by clause. -/

open Sys2Proof Sys2Proof.Machine Sys2Proof.Claims

namespace Sys2Proof.Tests

set_option Elab.async false

/-! ### States and commands of the tests -/

/-- The state with fields of registers set. -/
def flds (l : List (Fld × Nat)) (s : State) : State := l.foldl (fun s e => s.setF e.1 e.2) s

/-- RUN, with session 1 open on port 0 and region 0 of the MPU open to it and to firmware, below 4 GiB. -/
def base : State :=
  (flds [(PWR_STATUS_STATE, 3), (MPU_REG_LIMIT_PAGE 0, 0xFFFFF), (MPU_REG_CFG_EN 0, 1), (MPU_REG_CFG_R 0, 1),
    (MPU_REG_CFG_W 0, 1), (MPU_REG_CFG_FW 0, 1), (MPU_REG_CFG_INIT 0, 255), (MPU_REG_CFG_SESSION 0, 1)] State.reset).setSession 1 ⟨1, 0, 0, 0⟩

/-- A descriptor of mailbox 0 for session 1 with PARAM. -/
def dsc (op param : Nat) : Desc := ⟨.mbox 0, 0, BitVec.ofNat 512 (op + 2 ^ 32 + 2 ^ 256 * param)⟩

/-- PARAM with fields of the sizes at their offsets. -/
def pack (sizes vals : List Nat) : Nat :=
  ((fieldOffs 0 sizes).zip vals).foldl (fun p e => p + e.2 * 2 ^ (8 * e.1)) 0

/-- A descriptor of mailbox 0 for session 1 with field values. -/
def cmd (op : Nat) (sizes vals : List Nat) : Desc := dsc op (pack sizes vals)

/-- The state holds the command, fetched. -/
def hold (d : Desc) (s : State) : State :=
  { s with denrek := { s.denrek with
    cmds := s.denrek.cmds ++ [⟨d.src, d.seq, d.raw, .fetched, 0, 0, [], false, false, false, false, s.now⟩] } }

/-- Device time. -/
def atTick (n : Nat) (s : State) : State := { s with clk := { s.clk with time := n } }

def onClk (f : Clk → Clk) (s : State) : State := { s with clk := f s.clk }
def onPwr (f : Pwr → Pwr) (s : State) : State := { s with pwr := f s.pwr }
def onBoot (f : Boot → Boot) (s : State) : State := { s with boot := f s.boot }
def onPins (f : Pins → Pins) (s : State) : State := { s with pins := f s.pins }
def onHost (f : Hostif → Hostif) (s : State) : State := { s with hostif := f s.hostif }
def onDen (f : Denrek → Denrek) (s : State) : State := { s with denrek := f s.denrek }
def onDebug (f : Debug → Debug) (s : State) : State := { s with dbg := f s.dbg }
def onDec (f : Dec → Dec) (s : State) : State := { s with dec := f s.dec }
def onTdm (f : Tdm → Tdm) (s : State) : State := { s with tdm := f s.tdm }
def onRate (f : Rate → Rate) (s : State) : State := { s with rate := f s.rate }
def onGust (f : Gust → Gust) (s : State) : State := { s with gust := f s.gust }
def onSense (f : Sense → Sense) (s : State) : State := { s with sense := f s.sense }
def onFox (f : Fox → Fox) (s : State) : State := { s with fox := f s.fox }
def onLynx (f : Lynx → Lynx) (s : State) : State := { s with lynx := f s.lynx }
def onFog (f : Fog → Fog) (s : State) : State := { s with fog := f s.fog }
def onTwin (f : Twin → Twin) (s : State) : State := { s with twin := f s.twin }
def onCore (n : Nat) (f : Core → Core) (s : State) : State := s.setCore n (f (s.core n))

/-- A register image with these field values. -/
def image (l : List (Fld × Nat)) : Nat := (l.foldl (fun (w : Word) e => e.1.insert w e.2) 0).toNat

/-- An address of the pool that session 1 may use. -/
def poolAt : Nat := 0x2000

/-- The part is READY: the link is up, function 0 and SPI_A are ready, and a session of each is open. -/
def up : State :=
  onBoot (fun b => { b with inReset := false, sramFilled := true }) (flds [(SYS_BOOT_STATUS_CODE, 5), (HOSTIF_LINK_STATE, 2),
    (HOSTIF_F_STAT_MSE 0, 1), (HOSTIF_F_STAT_BME 0, 1), (MBOX_STAT_READY 0, 1), (MBOX_STAT_READY 8, 1)] (base.setSession 2 ⟨1, 8, 0, 0⟩))

/-- Region 1 of the MPU opens the pool to session 2 as well. -/
def up2 : State :=
  flds [(MPU_REG_LIMIT_PAGE 1, 0xFFFFF), (MPU_REG_CFG_EN 1, 1), (MPU_REG_CFG_R 1, 1), (MPU_REG_CFG_W 1, 1),
    (MPU_REG_CFG_INIT 1, 255), (MPU_REG_CFG_SESSION 1, 2)] up

/-- The debug port is attached and unlocked with every scope. -/
def dbgUp : State := flds [(DBG_STAT_ATTACHED, 1), (DBG_STAT_UNLOCKED, 1), (DBG_STAT_SCOPE, 63)] up

/-- Ring 63 of session 1 runs with 16 slots: its SQ at 0x4000, its CQ at 0x8000. -/
def ringed : State :=
  flds [(RING_CFG_EN 63, 1), (RING_CFG_PORT 63, 0), (RING_CFG_SESSION 63, 1), (RING_CFG_DEPTH 63, 4), (RING_STAT_STATE 63, 1),
    (RING_LIMIT_MAXINF 63, 8), (RING_IRQ_COAL_CNT 63, 1)]
    (((up.set64 (RING_SQ_LO 63) 0x4000).set64 (RING_CQ_LO 63) 0x8000).set64 (RING_SEQ_LO 63) 1)

/-- A command of ring 63 with SEQ 1. -/
def ringCmd (op param : Nat) : Desc := ⟨.ring 63, 1, BitVec.ofNat 512 (op + 2 ^ 32 + 2 ^ 256 * param)⟩

/-- The held command in a phase. -/
def holdAs (p : Phase) (d : Desc) (s : State) : State :=
  { s with denrek := { s.denrek with
    cmds := s.denrek.cmds ++ [⟨d.src, d.seq, d.raw, p, 0, 7, [], false, false, false, false, 5⟩] } }

/-- Objects 0 to 3 belong to session 1. -/
def synced : State := flds ((List.range 4).flatMap (fun k => [(SYNC_OWN_VALID k, 1), (SYNC_OWN_SESSION k, 1)])) up

/-- The state that a command answers. -/
def next : Out → State
  | .next t => t
  | _ => State.reset

/-- The state a step leads to. -/
def stepped : State := match step base with | .next t => t | _ => base

/-- The TWIN source was lost and is usable again. -/
def refBack : State :=
  atTick (2 ^ 40) (flds [(TWIN_STAT_ROLE, 2), (TWIN_STAT_STATE, 3)] { base with clk := { base.clk with lostMask := 256 } })

/-- A drain runs. -/
def drainState : State := onPwr (fun p => { p with phase := .drainDoze }) (onLynx (fun l => { l with draining := true }) base)

/-- A job with a tile issued. -/
def lateJob : LynxJob := ⟨1, 0, 24, 0, 0, 0, 0, [], 0, none, 1, 1, 0, false, false⟩

/-- The wake is at its last step. -/
def wakingState : State :=
  onPwr (fun p => { p with phase := .waking }) (onClk (fun c => { c with fast := true }) (flds [(SYS_BOOT_STATUS_CODE, 5), (PWR_STATUS_STATE, 1), (PWR_CTRL_REQ, 2), (PWR_CTRL_WAKE_TARGET, 0)] base))

def refsCmd : Desc := cmd 0x0D01 [4, 4, 4, 4] [0x87654321, image [(CLK_REF_CTRL_REQUAL, 600), (CLK_REF_CTRL_SLEW, 100), (CLK_REF_CTRL_BW, 2)], 300, 48000]

def forceCmd : Desc := cmd 0x0D02 [1, 1] [1, 8]

def mclkCmd : Desc := cmd 0x0D04 [4] [image [(CLK_MCLK_DIV, 16), (CLK_MCLK_EN, 1)]]

def alarmCmd : Desc := cmd 0x0D05 [1, 8, 2] [1, 12345, 0xFFFF]

def stateCmd : Desc := cmd 0x0D06 [1] [3]

def clocksCmd : Desc := cmd 0x0D07 [1] [1]

def wakeCmd : Desc := cmd 0x0D09 [4, 4, 4, 4, 4, 4] [image [(PWR_WAKE_EN_EN, 255)], 0, image [(PWR_WHEEL_CFG_COUNT, 3), (PWR_WHEEL_CFG_WINDOW, 9)], 0, image [(PWR_CTRL_GATE_IDLE, 50), (PWR_CTRL_DRAIN_TO, 20)], 0]

def modelCmd : Desc := cmd 0x0D0A [8, 4] [poolAt, image [(DORMOUSE_MODEL_SIZE, 1), (DORMOUSE_MODEL_ENTRIES, 64), (DORMOUSE_MODEL_BASE, 127)]]

def vocabCmd : Desc := cmd 0x0D0B [1, 1, 8] [62, 2, poolAt]

def dormCmd : Desc := cmd 0x0D0C [4] [image [(DORMOUSE_CTRL_EN, 1), (DORMOUSE_CTRL_MIC_MASK, 1)]]

def hitCmd : Desc := cmd 0x0D0D [8, 4] [poolAt, 16]

def hitMsg : Desc := cmd 0x0D0D [8, 4] [0, 16]

/-- The ROM runs with flash A next. -/
def rom : State := onBoot (fun b => { b with inReset := false, sramFilled := true }) (flds [(SYS_BOOT_STATUS_CODE, 1)] base)

def resetCmd : Desc := cmd 0x0E02 [] []

def rollCmd : Desc := cmd 0x0E03 [1] [128]

def revokeCmd : Desc := cmd 0x0E04 [1] [3]

def loadCmd : Desc := cmd 0x0E05 [8, 4] [poolAt, 256]

def wdogCmd : Desc := cmd 0x0E06 [4] [image [(SYS_WDOG_EN, 1), (SYS_WDOG_TIMEOUT, 500)]]

def maskCmd : Desc := cmd 0x0E07 [4] [0xFFFFFFFE]

def nopCmd : Desc := cmd 0x0E08 [8] [2 ^ 64 - 1]

/-- NOP that waits on object 1. -/
def waitCmd : Desc := ⟨.mbox 0, 0, BitVec.ofNat 512 (0x0E08 + 2 ^ 16 * 4 + 2 ^ 32 + 2 ^ 48 * 1 + 2 ^ 128 * 9)⟩

def openCmd : Desc := cmd 0x0101 [8] [2 ^ 64 - 1]

def closeCmd : Desc := cmd 0x0102 [2] [1]

def infoCmd : Desc := cmd 0x0103 [2] [1]

def createCmd : Desc := cmd 0x0104 [8, 8, 4, 4, 4, 4] [0x4000, 0x8000, image [(RING_CFG_DEPTH 0, 12)], image [(RING_LIMIT_MAXINF 0, 256)], image [(RING_IRQ_COAL_CNT 0, 1)], 0]

def destroyCmd : Desc := cmd 0x0105 [2] [63]

def reconfCmd : Desc := cmd 0x0106 [2, 4, 4, 4, 4] [63, image [(RING_CFG_ERR_MODE 0, 1)], image [(RING_LIMIT_MAXINF 0, 4)], image [(RING_IRQ_COAL_CNT 0, 1)], image [(RING_VEC_VEC 0, 3)]]

def resumeCmd : Desc := cmd 0x0107 [2] [63]

def allocCmd : Desc := cmd 0x0B01 [2, 8] [64, 2 ^ 63]

def freeCmd : Desc := cmd 0x0B02 [2, 2] [0, 4]

def signalCmd : Desc := cmd 0x0B03 [2, 8] [3, 9]

def addCmd : Desc := cmd 0x0B04 [2, 8] [3, 2 ^ 64 - 1]

def readCmd : Desc := cmd 0x0B05 [2] [3]

def bindCmd : Desc := cmd 0x0B06 [2, 2] [1, 3]

def unbindCmd : Desc := cmd 0x0B07 [2, 2] [1, 3]

def shareCmd : Desc := cmd 0x0B08 [2, 2, 1] [3, 1023, 3]

/-- A block of two samples. -/
def blk : DecBlock := ⟨77, 3, [1, -1], true, false, false, false, false, false, false, 0x2000, 1, 8⟩

/-- Channel 31 runs preset 1, at the strobe of instant 512. -/
def capt : State :=
  (onDec (fun d => { d with startAt := some 0 }) <| atTick 4618 <| flds [(DEC_CTRL_EN, 1), (DEC_CLK_EN 0, 1), (DEC_LINE_CLK 15, 0), (DEC_LINE_EN_R 15, 1), (DEC_LINE_EN_F 15, 1), (DEC_CH_CFG_SEC 31, 1)] up).setCh 31 { DecCh.reset with heard := some 0 }

def clksCmd : Desc := cmd 0x0501 [4, 8] [0x00010301, 2 ^ 64 - 1]

def chanCmd : Desc := cmd 0x0502 [1, 4, 4] [31, image [(DEC_CH_CFG_SEC 0, 3), (DEC_CH_CFG_GAIN 0, 128), (DEC_CH_CFG_GUST_EN 0, 1)], image [(DEC_CH_ADJ_STAMP_ADJ 0, 9)]]

def unchanCmd : Desc := cmd 0x0503 [1] [31]

def bufCmd : Desc := cmd 0x0504 [1, 8, 4, 2] [31, 2 ^ 40 - 64, image [(DEC_CH_BUF_CFG_BLOCK 0, 1024), (DEC_CH_BUF_CFG_NBLK 0, 1), (DEC_CH_BUF_CFG_EN 0, 1)], 0xFFFF]

def detCmd : Desc := cmd 0x0505 [1, 1, 4, 4, 4, 4, 2, 2] [0, 1, image [(DEC_CH_RMS_WIN 0, 14)], image [(DEC_CH_ENV_ATT 0, 20), (DEC_CH_ENV_REL 0, 0)], 0, image [(DEC_CH_THR_LEVEL 0 1, 77)], 0xFFFF, 0xFFFF]

def coefCmd : Desc := cmd 0x0507 [1, 2, 8] [3, 64, poolAt]

def swapCmd : Desc := cmd 0x0508 [1] [3]

def syncCmd : Desc := cmd 0x0509 [1, 8] [1, 1000]

/-- Group 3 is a running SLAVE of 64 bit periods of one tick. -/
def slaveUp : State := flds [(TDM_CLK_ROLE 3, 2), (TDM_CLK_STAT_RUN 3, 1), (TDM_CLK_FRAME_LEN 3, 64), (TDM_BCLK_PER_PER 3, 16)] up

/-- TX 0 is LIVE on group 0, a MASTER of 256 bit periods of one tick, at the fetch of slot 0. -/
def txNow : State :=
  atTick 231 (flds [(TDM_CLK_ROLE 0, 1), (TDM_CLK_STAT_RUN 0, 1), (TDM_CLK_FRAME_LEN 0, 256), (TDM_CLK_DIV 0, 2), (TDM_CTRL_STATE 0 0, 3), (TDM_CFG_DATA 0 0, 23)] up)

/-- RX 3 is LIVE with one FIFO slot on line 1. -/
def rxNow : State :=
  (flds [(TDM_CTRL_STATE 3 1, 3), (TDM_RX_SLOT_EN 3 1 0, 1), (TDM_CFG_DATA 3 1, 15)] up).setTdir 3 1 { TdmDir.reset with liveFrom := some 0 }

def tclkCmd : Desc := cmd 0x0401 [1, 4] [3, image [(TDM_CLK_ROLE 0, 1), (TDM_CLK_FRAME_LEN 0, 64), (TDM_CLK_DIV 0, 32)]]

def tdirCmd : Desc := cmd 0x0402 [1, 1, 4, 4] [3, 0, image [(TDM_CFG_CLK_SEL 0 0, 3), (TDM_CFG_SLOTS 0 0, 3), (TDM_CFG_WIDTH 0 0, 2), (TDM_CFG_DATA 0 0, 23)], 500]

def tslotCmd : Desc := cmd 0x0403 [1, 1, 1, 1, 1, 8] [3, 0, 1, 31, 1, poolAt]

def tringCmd : Desc := cmd 0x0404 [1, 1, 1, 8, 4, 2] [3, 1, 1, 2 ^ 40 - 64, image [(TDM_RING_CFG_SIZE 0 0 0, 15), (TDM_RING_CFG_EN 0 0 0, 1)], 0xFFFF]

def tstartCmd : Desc := cmd 0x0405 [1, 1, 1, 8] [0xC0, 1, 1, 1000]

def tstopCmd : Desc := cmd 0x0406 [1] [0x80]

def tmuteCmd : Desc := cmd 0x0407 [1, 1] [3, 1]

/-- Converter 7 runs inward, locked. -/
def inwardNow : State :=
  (flds [(ASRC_CFG_EN 7, 1), (ASRC_STAT_STATE 7, 1)] up).setAsrc 7 { Asrc.reset with everLocked := true }

/-- Converter 7 runs outward, locked, its next internal instant due. -/
def outwardNow : State :=
  atTick 24576 (flds [(ASRC_CFG_EN 7, 1), (ASRC_CFG_DIR 7, 1), (ASRC_STAT_STATE 7, 2), (ASRC_RING_CFG_SIZE 7, 6), (ASRC_RING_LO_BASE 7, 0x80)] up)

/-- The receiver is enabled. -/
def spOn : State := flds [(SPDIF_CTRL_EN, 1)] up

def aopenCmd : Desc := cmd 0x0306 [4, 4, 4, 8, 4, 2, 2] [0, 0, 0, 2 ^ 40 - 64, image [(ASRC_RING_CFG_BLOCK 0, 8), (ASRC_RING_CFG_NBLK 0, 1), (ASRC_RING_CFG_SIZE 0, 6)], 0xFFFF, 0xFFFF]

def acloseCmd : Desc := cmd 0x0307 [1] [7]

def spCmd : Desc := cmd 0x0409 [4, 8, 4, 2] [1, 2 ^ 40 - 64, image [(SPDIF_RING_CFG_SIZE, 6)], 0xFFFF]

def guardCmd : Desc := cmd 0x040B [1, 4, 4, 2] [8, image [(GUARD_CFG_EN 1, 1), (GUARD_CFG_PREVIEW 1, 64), (GUARD_CFG_HOLD 1, 10)], 1, 0xFFFF]

/-- Two bank swaps wait. -/
def swapNow : State :=
  atTick 4000 (onGust (fun g => { g with swaps := [(some 100, none), (some 101, none)] }) (onDec (fun d => { d with startAt := some 0 }) (flds [(GUST_STAT_PENDING, 2), (GUST_CTRL_COPY_EN, 1), (DEC_CTRL_EN, 1)] up)))

def gcfgCmd : Desc := cmd 0x0601 [16, 4] [0x3F0100, image [(GUST_CTRL_RAMP, 1024)]]

def gpathCmd : Desc := cmd 0x0602 [1, 2, 8] [255, 1, poolAt]

def gloadCmd : Desc := cmd 0x0603 [1, 2, 8] [0, 256, 2 ^ 40 - 16]

def gswapCmd : Desc := cmd 0x0604 [] []

def gbindCmd : Desc := cmd 0x0605 [1, 2, 2] [15, 0xFFFF, 0xFFFF]

def gmonCmd : Desc := cmd 0x0606 [1, 1, 8] [31, 1, poolAt]

def gtripCmd : Desc := cmd 0x0607 [4] [2]

def gmuteCmd : Desc := cmd 0x0608 [4] [5]

/-- Port 1 runs with blocks of two frames of two slots. -/
def sportUp : State :=
  onSense (fun x => { x with sport := [(1, some ⟨0x170411, 0, true, none⟩)] }) <| atTick 4096 (flds [(SENSE_SPORT_CFG_EN 1, 1), (SENSE_SPORT_CFG_RDIV 1, 1), (SENSE_SPORT_CFG_SLOTS 1, 1), (SENSE_SPORT_CFG_DATA 1, 23),
    (SENSE_SPORT_RING_CFG_EN 1, 1), (SENSE_SPORT_RING_CFG_BLOCK 1, 1), (SENSE_SPORT_RING_CFG_NBLK 1, 1), (SENSE_SPORT_RING_LO_BASE 1, 0x80),
    (SENSE_SPORT_ADJ_ADJ 1, 0xFFFF), (SENSE_SPORT_STAT_SEQ 1, 3)] up)

def foxed : State := up.claim .fox 1

def ssyncCmd : Desc := cmd 0x0702 [1, 4, 4, 8, 2] [1, image [(SENSE_SYNC_CTRL_EN 1, 1), (SENSE_SYNC_CTRL_WIDTH 1, 12287)], 12288, 7, 0xFFFF]

def sportCmd : Desc := cmd 0x0703 [1, 4, 4, 8, 4, 2] [1, image [(SENSE_SPORT_CFG_EN 1, 1), (SENSE_SPORT_CFG_RDIV 1, 48), (SENSE_SPORT_CFG_SLOTS 1, 15), (SENSE_SPORT_CFG_WIDTH 1, 2), (SENSE_SPORT_CFG_DATA 1, 31)], 0xFFFF, 2 ^ 40 - 64, image [(SENSE_SPORT_RING_CFG_BLOCK 1, 255), (SENSE_SPORT_RING_CFG_NBLK 1, 1), (SENSE_SPORT_RING_CFG_EN 1, 1)], 0xFFFF]

def imuCmd : Desc := cmd 0x0704 [4, 4, 4, 4, 4, 4, 2] [image [(SENSE_IMU_CFG_EN, 1), (SENSE_IMU_CFG_READ_LEN, 12), (SENSE_IMU_CFG_SCK_DIV, 4), (SENSE_IMU_CFG_CMD_LEN, 4), (SENSE_IMU_CFG_DATA_OFS, 4)], 0x12345678, 100, 5, 0x3F800000, 0x40000000, 0xFFFF]

def wheelCmd : Desc := cmd 0x0705 [1, 4] [3, image [(SENSE_WHEEL_CFG_EN 3, 1), (SENSE_WHEEL_CFG_EDGE 3, 3), (SENSE_WHEEL_CFG_MIN_PULSE 3, 65535)]]

def egoCmd : Desc := cmd 0x0706 [8, 2, 2] [poolAt, 0xFFFF, 0xFFFF]

def fcfgCmd : Desc := cmd 0x0701 [4, 4, 4] [image [(FOX_CTRL_EN, 1), (FOX_CTRL_EGO_EN, 1)], 15, 49152]

def fxfCmd : Desc := cmd 0x0707 [1, 1, 8] [63, 1, poolAt]

def ffrCmd : Desc := cmd 0x0708 [1, 1, 1, 8] [0, 0, 1, poolAt]

def ftrkCmd : Desc := cmd 0x0709 [8] [poolAt]

def fsenCmd : Desc := cmd 0x070A [4] [2 ^ 30 - 1]

def fgrCmd : Desc := cmd 0x070B [1, 16] [1, 2 ^ 128 - 2 ^ 16 + 1023]

def fobsCmd : Desc := cmd 0x070C [1, 8] [1, poolAt]

def fmeasCmd : Desc := cmd 0x070D [1, 8] [1, poolAt]

def fsubCmd : Desc := cmd 0x070E [8, 1, 2, 2] [2 ^ 40 - 64, 6, 0xFFFF, 0xFFFF]

def funsubCmd : Desc := cmd 0x070E [8, 1, 2, 2] [0, 0, 0xFFFF, 0xFFFF]

/-- A bundle of five slots. -/
def bun (mac0 mac1 xm ym ctl : Nat) : BitVec 128 := BitVec.ofNat 128 (mac0 * 2 ^ 104 + mac1 * 2 ^ 80 + xm * 2 ^ 60 + ym * 2 ^ 40 + ctl)

/-- A MAC slot on A1, V1, V2 and V3. -/
def macW (op : Nat) : Nat := op * 2 ^ 18 + ((if op < 16 then 2 ^ 15 + 2 ^ 11 + 2 ^ 8 + 2 else 3 * 2 ^ 14 + 2 ^ 10 + 2 ^ 7 + 4) &&& (macMask op).getD 0)

/-- A core with registers set. -/
def busyCore : Core :=
  { Core.reset with
    v := [(4, 5), (5, BitVec.ofInt 24 (-6)), (6, 7), (7, 0x800000), (8, 3), (9, 0x7FFFFF), (10, 9), (11, 0x800000)],
    a := [(4, 1), (5, BitVec.ofInt 56 (-(2 ^ 55))), (6, 0x7FFFFFFFFFFFFF), (7, 0x1800000), (8, 77), (9, BitVec.ofInt 56 (-1)), (10, 5), (11, 6)],
    sv := [(0, 5), (1, BitVec.ofInt 24 (-6))], si := [(0, 9), (1, 3)],
    cr := [(0, 100), (1, 200), (8, 0xFFFF), (9, 2), (0x18, 0x2000), (0x1C, 0x12), (0x23, 0xFFFF)] }

/-- Core 3 runs with a bundle at its PC. -/
def coreWith (b : BitVec 128) (c : Core) : State := ((flds [(MARTEN_CTRL_STATE 3, 2)] up).setLe (coreP 3 + 16 * c.pc) 16 b.toNat).setCore 3 c

/-- A move slot: OP, pointer, AM, register, VEC, lane, HI, S. -/
def mvW (op p am r vec lane hi sat : Nat) : Nat := op * 65536 + p * 8192 + am * 2048 + r * 128 + vec * 64 + lane * 16 + hi * 8 + sat * 4

def xDat (s : State) : State := s.setLe (coreX 3 + 400) 16 0x800000FF_7FFFFF01_12345678_FEDCBA98

/-- Core 3 in a state. -/
def coreIn (st : Nat) (c : Core) : State := (flds [(MARTEN_CTRL_STATE 3, st)] (up.claim (.core 3) 1)).setCore 3 c

/-- Sources 5 and 21 wait at levels 1 and 3. -/
def irqCore : Core := ((({ Core.reset with rets := [(9, 9)] }.setIpend (2 ^ 21 + 2 ^ 5)).setCreg 0x24 (2 ^ 10)).setCreg 0x26 (3 * 2 ^ 10)).setCreg 0x22 16320

/-- The oldest far access of core 3. -/
def farAt (st vec : Bool) (a : Nat) : FarAcc := ⟨st, a, vec, 15, 2, true, if st then (if vec then [1, 2, 3, 4] else [0x80000000]) else []⟩

def mopenCmd : Desc := cmd 0x0901 [1] [3]

def mcodeCmd : Desc := cmd 0x0902 [1, 1, 4, 4, 8] [3, 0, 0x3FFF0, 16, poolAt]

def mstartCmd : Desc := cmd 0x0903 [1, 2] [3, 16383]

def mstopCmd : Desc := cmd 0x0904 [1] [3]

def msigCmd : Desc := cmd 0x0905 [1, 4] [3, 0xFFFFFF]

def mbindCmd : Desc := cmd 0x0906 [1, 1, 2, 2, 2, 8] [3, 15, 0x8001, 0xFFFF, 0xFFFF, 2 ^ 64 - 1]

def mdmaCmd : Desc := cmd 0x0907 [1, 1, 4, 8, 8] [3, 3, 262144, 0x2000, 2 ^ 40 - 4]

def mcloseCmd : Desc := cmd 0x0909 [1] [3]

/-- A program of two tiles. -/
def prog7 : LynxProg := ⟨1, 1, 2, 1000, 4096, 64, 6, 1, 2, [64, 0, 0, 0], [0, 0, 0], false⟩

/-- Engine 7 runs, with one program, bound to stream 23. -/
def lynxUp : State :=
  flds [(PWR_STATUS_LYNX_ON, 255), (PWR_STATUS_FOG_ON, 1), (LYNX_CTRL_EN 7, 1), (LYNX_STR_CFG_EN 23, 1), (LYNX_STR_STAT_STATE 23, 1), (LYNX_STR_POL_MISS_N 23, 1)]
    (onLynx (fun l => { l with progs := [(7, prog7), (23, prog7)], strms := [(23, { Strm.reset with opened := true })], strs := [(23, { LynxStr.reset with prog := some 7 })], nextId := 9 })
      (((up.claim (.program 7) 1).claim (.program 23) 1).claim (.stream 23) 1))

/-- A stream job of hop 2. -/
def job7 (id issued ended dl : Nat) : LynxJob := ⟨id, 7, 23, 7, 0, dl, 2, [], 0, none, 1, issued, ended, false, false⟩

def elem1 : TileElem := ⟨[127, -128], [127, 127], 5, 2 ^ 31 - 1, 7, 3, false, []⟩

def elem2 : TileElem := ⟨[32767, 32767], [32767, 32767], 5, 2 ^ 31 - 1, 0, 3, true, (List.range 257).map Int.ofNat⟩

def lloadCmd : Desc := cmd 0x0801 [8, 8, 1, 1] [poolAt, 0x2800, 7, 6]

/-- A program's header in memory. -/
def lynxImage : State :=
  (((flds [(PWR_STATUS_FOG_ON, 1)] up).setLe 0x2000 16 0x00020002_00000180_00010001_584E594C).setLe 0x2010 16 0x00001000_00000040_00000000_000003E8).setLe
    0x2020 24 0x00000140_00000000_000000C0_00000080_00020100_00000040

def lunCmd : Desc := cmd 0x0802 [1] [7]

def lsbCmd : Desc := cmd 0x0803 [1, 1, 4, 4] [23, 23, image [(LYNX_STR_CFG_EN 0, 1), (LYNX_STR_CFG_POLICY 0, 2)], image [(LYNX_STR_POL_MISS_N 0, 1), (LYNX_STR_POL_MISS_W 0, 16), (LYNX_STR_POL_RECOVER_N 0, 1)]]

def lsrCmd : Desc := cmd 0x0804 [1] [23]

def lseCmd : Desc := cmd 0x0805 [1, 2, 2, 2, 2] [23, 5, 0xFFFF, 5, 0xFFFF]

def lrunCmd : Desc := cmd 0x0806 [1, 8, 8, 8] [7, 2 ^ 64 - 1, poolAt, 0x4000]

/-- A small key set. -/
def fkeys (sch : Nat) : FogKeys := ⟨1, sch, 2, 3, 1, 1, if sch = 2 then 17 else 0, 99, 0x7000, [97, 193, 257, 353], [(0, 0x6000), (5, 0x6400), (7, 0x6800)], [], false⟩

def fct (comp first : Nat) : FogCt := ⟨3, comp, 0x4090000000000000, (List.range (comp * 12)).map (fun k => first + k)⟩

/-- An operation with one instruction to run. -/
def fop (sch : Nat) (i : FogInstr) : FogOp :=
  ⟨none, 1, 3, fkeys sch, [i], [(0x2000, 4096, 1)], 5, 0, 0, [(1, fct 2 1), (2, fct 2 30), (3, fct 3 5), (4, { fct 2 1 with level := 2, words := (List.range 16).map (fun k => k) })], 0, none, none⟩

/-- It is at place 7. -/
def fogAt (o : FogOp) : State := onFog (fun f => { f with ops := [(7, o)], keys := [(3, o.keys)] }) (flds [(PWR_STATUS_FOG_ON, 1), (FOG_CTRL_EN, 1)] up)

def fins (op : Nat) (a b : Nat) (imm : Int) (arg : Nat) : FogInstr := ⟨op, 15, a, b, imm, arg⟩

def fregCmd : Desc := cmd 0x0A01 [8] [poolAt]

/-- A descriptor of one modulus and no key in memory. -/
def keyMem : State := ((up.setLe 0x2000 16 0x00000000_00000001_0C010001_53594B46).setLe 0x2018 8 77).setLe 0x2040 8 134250497

def frelCmd : Desc := cmd 0x0A02 [1] [3]

def fringCmd : Desc := cmd 0x0A03 [8, 8, 1, 4] [0x2000, 2 ^ 40 - 64, 64, 2 ^ 24 - 1]

def fevCmd : Desc := cmd 0x0A04 [8, 1] [poolAt, 3]

/-- A program of one ADD and one operand in memory. -/
def progMem : State :=
  ((fogAt (fop 1 (fins 4 1 2 0 0))).setLe 0x2000 14 0x0005_00_01_0001_0003_0001_50474F46).setLe 0x2040 32 0x00000000_00000000_00000000_0201000004_00000001_00001000_0000000000003000

def fretCmd : Desc := cmd 0x0A05 [8, 8] [6, poolAt]

/-- An operation that waits on exchange 6. -/
def waiting : FogOp := { fop 1 (fins 17 1 0 9 0) with wait := some (6, 1000, 1) }

/-- A ciphertext of level 3 in memory. -/
def retMem (o : FogOp) : State := (((fogAt o).setLe 0x2000 10 0x02_03_02_01_0001_54434746).setLe 0x2010 16 0x0000000000000063_4090000000000000).setLe 0x2040 16 0x00000000000000050000000000000007

/-- The command has started. -/
def holdSt (d : Desc) (s : State) : State :=
  { s with denrek := { s.denrek with cmds := s.denrek.cmds ++ [⟨d.src, d.seq, d.raw, .started, 0, 0, [], false, false, false, false, 5⟩] } }

/-- An operation has ended, and its command waits. -/
def opEnds : State := onDen (fun d => { d with awaits := [(.fogOp 7, .mbox 0, 0)] }) (holdSt (dsc 0x0A04 0) (fogAt { fop 1 (fins 4 1 2 0 0) with pc := 1, exch := 2 }))

def mallocCmd : Desc := cmd 0x0201 [8, 1, 1, 1] [4096, 1, 3, 255]

/-- Page 0 is allocated to session 1, with region 16. -/
def pooled : State := onDen (fun d => { d with ranges := [⟨0, 0, 4096, 1, 1, 16⟩] }) (flds [(MPU_REG_CFG_EN 16, 1)] up)

def mdeclCmd : Desc := cmd 0x0202 [8, 8, 1, 1] [0x8000000000, 2 ^ 36, 3, 255]

def mshareCmd : Desc := cmd 0x0203 [8, 8, 2, 1, 1] [0, 4096, 2, 1, 2]

def sharedM : State := onDen (fun d => { d with ranges := [⟨0, 0, 4096, 1, 1, 16⟩, ⟨2, 0, 4096, 1, 2, 255⟩] }) (flds [(MPU_REG_CFG_EN 16, 1), (MPU_REG_CFG_EN 255, 1)] up)

def munshCmd : Desc := cmd 0x0204 [8, 8, 2] [0, 4096, 2]

def mfreeCmd : Desc := cmd 0x0205 [8] [0]

def mcopyCmd : Desc := cmd 0x0206 [8, 8, 4] [0x2000, 0x3000, 64]

def sopenCmd : Desc := cmd 0x0301 [1, 1, 1, 1, 4, 8, 8, 2, 1, 1, 2] [15, 1, 31, 1, 2 ^ 31, 0, 0, 1024, 15, 0, 0xFFFF]

/-- Channel 31 is the session's, at CALM; it holds an allocation. -/
def chanS : State := onDen (fun d => { d with ranges := [⟨0, 0, 2 ^ 20, 1, 1, 16⟩] }) (flds [(DEC_CH_CFG_SEC 31, 2)] (capt.claim (.channel 31) 1))

def scloseCmd : Desc := cmd 0x0302 [1] [23]

def srouteCmd : Desc := cmd 0x0303 [1, 1, 1] [23, 2, 0]

def gmuteCmd2 : Desc := cmd 0x0304 [1] [1]

def tconfCmd : Desc := cmd 0x0C01 [1, 1, 2] [2, 1, 2000]

/-- The beat of boundary 256 stands. -/
def heard (s : State) : State := onTwin (fun w => { w with beat := some (2, 2, 3), beatAt := 200 }) s

/-- A twin in a pairing state and role, beats heard, PREF 1. -/
def twin (st role : Nat) : State :=
  onClk (fun c => { c with fast := true })
    (flds [(TWIN_STAT_STATE, st), (TWIN_STAT_ROLE, role), (TWIN_STAT_BEATS_OK, 1), (TWIN_CFG_PREF, 1)] up)

def tattCmd : Desc := cmd 0x0C02 [] []

def tdetCmd : Desc := cmd 0x0C03 [] []

def tswapCmd : Desc := cmd 0x0C04 [8] [98304]

def tbindCmd : Desc := cmd 0x0C05 [2, 2] [1, 3]

/-- The interval before was missed in symbol and in toggle. -/
def missed (s : State) : State := onTwin (fun w => { w with symMiss := true, togMiss := true }) s

/-- A twin at tick 300 whose next record has JSEQ 1. -/
def jrn (st role : Nat) : State := atTick 300 (twin st role)

/-- A twin in PAIRING with PREF 2 and no session. -/
def suited : State := flds [(TWIN_STAT_STATE, 1), (TWIN_CFG_PREF, 2)] State.reset

def statCmd1 : Desc := cmd 0x0D03 [8] [0]

def statCmd2 : Desc := cmd 0x0D08 [8] [poolAt]

def statCmd3 : Desc := cmd 0x0E01 [8] [poolAt]

def statCmd4 : Desc := cmd 0x050A [8] [poolAt]

def statCmd5 : Desc := cmd 0x0506 [1, 8] [31, 0]

def statCmd6 : Desc := cmd 0x0408 [1, 8] [3, poolAt]

def statCmd7 : Desc := cmd 0x0308 [1, 8] [7, 0]

def statCmd8 : Desc := cmd 0x040A [8] [0]

def statCmd9 : Desc := cmd 0x0609 [8] [poolAt]

def statCmd10 : Desc := cmd 0x070F [8] [poolAt]

def statCmd11 : Desc := cmd 0x0710 [8] [poolAt]

def statCmd12 : Desc := cmd 0x0908 [1, 8] [3, 0]

def statCmd13 : Desc := cmd 0x0807 [8] [poolAt]

def statCmd14 : Desc := cmd 0x0A06 [8] [0]

def statCmd15 : Desc := cmd 0x0207 [8] [poolAt]

def statCmd16 : Desc := cmd 0x0108 [2, 8] [63, 0]

def statCmd17 : Desc := cmd 0x0305 [1, 8] [23, 0]

def statCmd18 : Desc := cmd 0x0C06 [8] [0]

/-- A standby in PAIRING before it adopts. -/
def adopts : State := atTick 128 (onTwin (fun w => { w with ctl := some ([], 1) }) (twin 1 2))

/-! ### Well-formedness: a term for each check, which the check refuses -/

/-- A descriptor of mailbox 0 that carries the opcode alone. -/
def op (o : Nat) : Desc := ⟨.mbox 0, 0, BitVec.ofNat 512 o⟩

theorem test_illFormed_refused_1 :
    ([.pairLoRead (.marten 4) 0, .pairLoRead .sett 1, .pairLoRead .sett (2 ^ 40), .pairLoWrite (.marten 4) 0 0,
      .pairLoWrite .sett 1 0, .pairLoWrite .sett (2 ^ 40) 0, .pairHiWrite (.marten 4) 0 0, .pairHiWrite .sett 1 0,
      .pairHiWrite .sett (2 ^ 40) 0, .registerWrite .sett (2 ^ 40) 0 0, .registerWrite (.marten 4) 0 0 0,
      .registerReadClear .sett (2 ^ 40) 0, .registerReadClear (.marten 4) 0 0, .refLost 0 0 none 0 false, .refLost 9 0 none 0 false,
      .refInitialQualify 0 [] 0 0 false, .refInitialQualify 9 [] 0 0 false, .refRequalify 0 [] 0 0 false, .refRequalify 9 [] 0 0
      false, .senseSyncPulse 2, .lynxIdleGate 8, .wakeDetect 256 [] [], .thermalSample [], .kwsFrame [] 0 [],
      .kwsFrame (List.replicate 64 0) 0 (List.replicate 641 0), .porRelease 8
      false, .sysDlGo 10, .watchdogKick 65536, .decOutputStrobe 32 0 [], .decOutputStrobe 0 4 [],
      .decOutputStrobe 0 0 (List.replicate 385 true), .decStuckDetect 32 true,
      .decBlockComplete 32, .decSwapRequest 4, .decBankSwap 4, .decSetClocks (op 0xFFFF), .decOpenChannel (op 0xFFFF),
      .decCloseChannel (op 0xFFFF), .decSetBuffer (op 0xFFFF), .decSetDetector (op 0xFFFF), .decReadDetectors (op
      0xFFFF), .decLoadCoef (op 0xFFFF)]
      : List Instr).all (fun i => !i.wf) = true := by decide +kernel

theorem test_illFormed_refused_2 :
    ([.decSwapBank (op 0xFFFF), .decSync (op 0xFFFF), .decStatus (op 0xFFFF), .tdmSlaveFsEdge 4 0 0, .tdmFsMissing 4,
      .tdmClkLost 4 0, .tdmClkLost 0 1024, .txSlotFetch 4 0 0, .txSlotFetch 0 2 0, .txSlotFetch 0 0 32, .rxFrameReceive 4 0 0 [],
      .rxFrameReceive 0 2 0 [], .tdmFifoRefill 4 0, .tdmFifoRefill 0 2, .tdmFifoDrain 4 0, .tdmFifoDrain 0 2, .tdmGoLive
      4 0, .tdmGoLive 0 2, .tdmCtrlStop 4 0, .tdmCtrlStop 0 2, .tdmTailEnd 4 0, .tdmTailEnd 0 2, .tdmSilentChange 4 0 0,
      .tdmSilentChange 0 2 0, .tdmSilentChange 0 0 32, .tdmZcTimeout 4 0 0, .tdmZcTimeout 0 2 0, .tdmZcTimeout 0 0 32,
      .tdmConfigClock (op 0xFFFF), .tdmConfigDir (op 0xFFFF), .tdmSetSlots (op 0xFFFF), .tdmSetRing (op 0xFFFF),
      .tdmStart (op 0xFFFF), .tdmStop (op 0xFFFF), .tdmSetMute (op 0xFFFF), .tdmStatus (op 0xFFFF), .asrcTrackUpdate 8 0
      0, .asrcOutputSample 8, .asrcOutwardRead 8, .spdifFrameReceive (2 ^ 32) 0 0 0 false false, .spdifFrameReceive 0 (2
      ^ 32) 0 0 false false]
      : List Instr).all (fun i => !i.wf) = true := by decide +kernel

theorem test_illFormed_refused_3 :
    ([.guardFrameRelease 9, .guardRelease 9, .asrcOpen (op 0xFFFF), .asrcClose (op 0xFFFF), .asrcStatus (op 0xFFFF),
      .spdifConfig (op 0xFFFF), .spdifStatus (op 0xFFFF), .guardConfig (op 0xFFFF), .gustMonitorWindow 32,
      .gustTripClear (2 ^ 32), .gustCoefWrite (.marten 4) 0, .gustPathWrite .sett 256 0, .gustPathWrite (.marten 4) 0 0,
      .gustLoadGo (.marten 4), .gustConfig (op 0xFFFF), .gustSetPaths (op 0xFFFF), .gustLoadCoef (op 0xFFFF), .gustSwap
      (op 0xFFFF), .gustBindMarten (op 0xFFFF), .gustSetMonitor (op 0xFFFF), .gustClearTrip (op 0xFFFF), .gustSetMute
      (op 0xFFFF), .gustStatus (op 0xFFFF), .sportBlockComplete 2 [], .wheelTickEdge 4 false, .wheelEdgeAccept 4,
      .doaPush 4 0, .foxConfig (op 0xFFFF), .senseSetSync (op 0xFFFF), .senseSetSport (op 0xFFFF), .senseSetImu (op
      0xFFFF), .senseSetWheel (op 0xFFFF), .foxSetEgo (op 0xFFFF), .foxSetXform (op 0xFFFF), .foxSetFrames (op 0xFFFF),
      .foxSetTracker (op 0xFFFF), .foxSensorEn (op 0xFFFF), .foxGrant (op 0xFFFF), .foxObserve (op 0xFFFF), .foxMeasure
      (op 0xFFFF)]
      : List Instr).all (fun i => !i.wf) = true := by decide +kernel

theorem test_illFormed_refused_4 :
    ([.foxSubscribe (op 0xFFFF), .foxReadTracks (op 0xFFFF), .foxStatus (op 0xFFFF), .martenTimer 4,
      .martenInterruptAccept 4, .farAccessReturn 4, .martenDmaGo 4 0, .martenDmaGo 0 4, .martenDmaEnd 4 0, .martenDmaEnd
      0 4, .martenCtrlRun 4, .martenCtrlStop 4, .martenSignalRaise 4 0, .martenXcoreRaise 16, .martenOpen (op 0xFFFF),
      .martenLoadCode (op 0xFFFF), .martenStart (op 0xFFFF), .martenStop (op 0xFFFF), .martenSignal (op 0xFFFF),
      .martenBindEvent (op 0xFFFF), .martenDma (op 0xFFFF), .martenStatus (op 0xFFFF), .martenClose (op 0xFFFF), .mMpy 4
      0, .mMac 4 0, .mMsu 4 0, .mMpyi 4 0, .mMaci 4 0, .mMsui 4 0, .mAdda 4 0, .mSuba 4 0, .mClra 4 0, .mMova 4 0,
      .mAsra 4 0, .mAsla 4 0, .mNega 4 0, .mAbsa 4 0, .mMovr 4 0, .mVadd 4 0, .mVsub 4 0]
      : List Instr).all (fun i => !i.wf) = true := by decide +kernel

theorem test_illFormed_refused_5 :
    ([.mVmax 4 0, .mVmin 4 0, .mVabs 4 0, .mVneg 4 0, .mVmov 4 0, .mVand 4 0, .mVor 4 0, .mVxor 4 0, .mVmaxi 4 0,
      .mVmini 4 0, .mLd 4 0, .mLdb 4 0, .mSt 4 0, .mSta 4 0, .mUpd 4 0, .mLda 4 0, .mMovi 4 0, .mAddi 4 0, .mCmpi 4 0,
      .mFahi 4 0, .mMovc 4 0, .mAdd 4 0, .mSub 4 0, .mCmp 4 0, .mAnd 4 0, .mOr 4 0, .mXor 4 0, .mMvvc 4 0, .mMvcv 4 0,
      .mCmpv 4 0, .mCmpvi 4 0, .mBra 4 0, .mJsr 4 0, .mRts 4 0, .mRti 4 0, .mDo 4 0, .mDov 4 0, .mRep 4 0, .mRepc 4 0,
      .mLeave 4 0]
      : List Instr).all (fun i => !i.wf) = true := by decide +kernel

theorem test_illFormed_refused_6 :
    ([.mLdf 4 0, .mStf 4 0, .mWait 4 0, .mIclr 4 0, .mSetipl 4 0, .mSinit 4 0, .mSred 4 0, .mBkpt 4 0,
      .lynxTileBoundary 8 false [] 0 [0, 0, 0, 0], .lynxTileBoundary 0 false [] 16385 [0, 0, 0, 0], .lynxTileBoundary 0
      false [] 0 [], .lynxTileBoundary 0 false [⟨[1], [], 0, 2 ^ 30, 0, 0, false, []⟩] 0 [0, 0, 0, 0], .lynxTileBoundary
      0 false [⟨[], [], 2 ^ 31, 2 ^ 30, 0, 0, false, []⟩] 0 [0, 0, 0, 0], .lynxTileBoundary 0 false [⟨[], [], -(2 ^ 31)
      - 1, 2 ^ 30, 0, 0, false, []⟩] 0 [0, 0, 0, 0], .lynxTileBoundary 0 false [⟨[], [], 0, 1, 0, 0, false, []⟩] 0 [0,
      0, 0, 0], .lynxTileBoundary 0 false [⟨[], [], 0, 2 ^ 31, 0, 0, false, []⟩] 0 [0, 0, 0, 0], .lynxTileBoundary 0
      false [⟨[], [], 0, 2 ^ 30, 32, 0, false, []⟩] 0 [0, 0, 0, 0], .lynxTileBoundary 0 false [⟨[], [], 0, 2 ^ 30, 0, 0,
      true, [1]⟩] 0 [0, 0, 0, 0], .lynxJobComplete 8 [] [], .lynxJobPush 8, .lynxLoadProgram (op 0xFFFF), .lynxUnload
      (op 0xFFFF), .lynxStreamBind (op 0xFFFF), .lynxStreamReset (op 0xFFFF), .lynxStreamBindEvents (op 0xFFFF),
      .lynxRun (op 0xFFFF), .lynxStatus (op 0xFFFF), .fogOpEnd 8, .fogExchangeTimeout 8, .fLoad 8, .fStore 8, .fEncenc
      8, .fAdd 8, .fSub 8, .fMulp 8, .fMulc 8, .fAddc 8, .fMul 8, .fRelin 8, .fRescale 8]
      : List Instr).all (fun i => !i.wf) = true := by decide +kernel

theorem test_illFormed_refused_7 :
    ([.fModsw 8, .fRot 8, .fConj 8, .fLevel 8, .fPoly 8, .fExchange 8, .fogKeysetRegister (op 0xFFFF),
      .fogKeysetRelease (op 0xFFFF), .fogExchangeRing (op 0xFFFF), .fogEval (op 0xFFFF), .fogExchangeReturn (op 0xFFFF),
      .fogStatus (op 0xFFFF), .memAlloc (op 0xFFFF), .memHostDeclare (op 0xFFFF), .memShare (op 0xFFFF), .memUnshare (op
      0xFFFF), .memFree (op 0xFFFF), .memCopy (op 0xFFFF), .memStatus (op 0xFFFF), .mboxInTailWrite 10 0,
      .mboxInTailWrite 0 256, .mboxOutHeadWrite 10 0, .mboxOutHeadWrite 0 256, .mboxDescriptorTake 10, .noticeWrite 10,
      .ringSqTailWrite 10 0 0, .ringSqTailWrite 0 64 0, .ringSqTailWrite 0 0 65536, .ringCqHeadWrite 10 0 0,
      .ringCqHeadWrite 0 64 0, .ringCqHeadWrite 0 0 65536, .ringFetch 64, .completionWrite (.ring 64), .ringCoalTimeout
      64, .ringIrqPendClear 10 0, .ringIrqPendClear 0 64, .mboxWaitTimeout 10, .sessionOpen (op 0xFFFF), .sessionClose
      (op 0xFFFF), .sessionInfo (op 0xFFFF)]
      : List Instr).all (fun i => !i.wf) = true := by decide +kernel

theorem test_illFormed_refused_8 :
    ([.ringCreate (op 0xFFFF), .ringDestroy (op 0xFFFF), .ringConfig (op 0xFFFF), .ringResume (op 0xFFFF), .ringStatus
      (op 0xFFFF), .streamOpen (op 0xFFFF), .streamClose (op 0xFFFF), .streamRoute (op 0xFFFF), .routeGlobalMute (op
      0xFFFF), .streamStatus (op 0xFFFF), .syncAlloc (op 0xFFFF), .syncFree (op 0xFFFF), .syncSignal (op 0xFFFF),
      .syncAdd (op 0xFFFF), .syncRead (op 0xFFFF), .syncBindEvent (op 0xFFFF), .syncUnbindEvent (op 0xFFFF), .syncShare
      (op 0xFFFF), .syncObjSignalWrite 4096 0, .syncObjSignalWrite 0 (2 ^ 64), .syncAddDeltaWrite (2 ^ 32),
      .syncOwnFreeWrite 4096, .twinConfig (op 0xFFFF), .twinAttach (op 0xFFFF), .twinDetach (op 0xFFFF), .twinRoleSwap
      (op 0xFFFF), .twinBindEvents (op 0xFFFF), .twinStatus (op 0xFFFF), .clockSetRefs (op 0xFFFF), .clockForceRef (op
      0xFFFF), .clockStatus (op 0xFFFF), .clockSetMclk (op 0xFFFF), .clockSetAlarm (op 0xFFFF), .powerSetState (op
      0xFFFF), .powerSetClocks (op 0xFFFF), .powerStatus (op 0xFFFF), .powerSetWake (op 0xFFFF), .dormouseLoadModel (op
      0xFFFF), .dormouseSetVocab (op 0xFFFF), .dormouseConfig (op 0xFFFF)]
      : List Instr).all (fun i => !i.wf) = true := by decide +kernel

theorem test_illFormed_refused_9 :
    ([.dormouseRead (op 0xFFFF), .deviceInfo (op 0xFFFF), .deviceReset (op 0xFFFF), .rollbackAdvance (op 0xFFFF),
      .keyRevoke (op 0xFFFF), .imageLoad (op 0xFFFF), .watchdogSet (op 0xFFFF), .noticeMask (op 0xFFFF), .nop (op
      0xFFFF), .bar2Access 8 0 0 false [], .bar2Access 0 (2 ^ 25) 0 false [], .bar2Access 0 0 1 true [], .xlatWrite 8
      false 0, .pciePowerStateChange 8 0 false false, .pciePowerStateChange 0 1 false false, .msixUnmask 8 none,
      .msixUnmask 0 (some 64), .hostReadCompletion 256 false [], .completionTimeout 256, .functionLevelReset 8,
      .portReady 10, .regRead 2 0 0 false, .regWrite 2 0 [], .memRead 2 0 0 0 false, .memWrite 2 0 0 [], .status 2,
      .resetEn 2, .reset 2, .directModeOpen (.marten 4), .directModeClose (.marten 4) 0, .mirror (.ring 64) 0 0 [],
      .finish (.ring 64) 0, .journalCommand 0 0 (.ring 64) [] 0, .journalStart 0 0 (.ring 64) 0, .journalPortEvent 0 0 10,
      .dbgHalt 6, .dbgHaltComplete 6, .dbgResume 6, .dbgStep 6, .dbgRegdataAccess 6 none]
      : List Instr).all (fun i => !i.wf) = true := by decide +kernel

theorem test_illFormed_refused_10 :
    ([.requalificationRestart 0 0 0, .requalificationRestart 9 0 0, .memCopyEnd (.ring 64) 0]
      : List Instr).all (fun i => !i.wf) = true := by decide +kernel

theorem test_illFormed_source :
    (Instr.completionWrite (.mbox 10)).wf = false ∧ (Instr.nop ⟨.ring 64, 0, 0x0E08⟩).wf = false := by decide +kernel

theorem test_illFormed_initiator : (Instr.gustLoadGo (.port 10)).wf = false := by decide +kernel

theorem test_wellFormed_accepted :
    (Instr.completionWrite (.mbox 9)).wf = true ∧ (Instr.nop (op 0x0E08)).wf = true ∧ (Instr.refLost 8 0 none 0 false).wf = true
      ∧ (Instr.sysDlGo 9).wf = true ∧ (Instr.twinSyncRelease).wf = true := by decide +kernel

/-! ### Small tests; every expected value is the specification's own or worked by hand from its words -/

/-- Chapter 0, reading SYS_ID: SPI_A reads 0x4820_0010, least significant byte first. -/
theorem test_sysId_read :
    (tabGet Resp.reset (initKey (.port 8)) (next (execRegRead 0 SYS_ID 0 false up)).resp) = ⟨.ok, [0x10, 0x00, 0x20, 0x48]⟩ := by
  decide +kernel

/-- Chapter 0, the 5 ms timeout that starts at 0x0C00_0000 ends at 0x0C07_8000. -/
theorem test_zeroCross_ticks : 0x0C000000 + 5 * 98304 = 0x0C078000 := by decide

/-- R41: a step of the idle block after POR_N counts 3,000 ticks. -/
theorem test_slow_count : (next (step State.reset)).clk.time = 3000 := by decide +kernel

/-- R41, R56: with fast counting a step counts one tick. -/
theorem test_fast_count : (next (step (onClk (fun c => { c with fast := true, time := 5 }) State.reset))).clk.time = 6 := by
  decide +kernel

/-- Chapter 2, the camera trigger: 98,304,000 / 30 is 0x32_0000, so pulse 1 is at 0x0C32_0000 (SENSE_SYNC_LAST). -/
theorem test_senseSync_pulse :
    (next (execSenseSyncPulse 0 (onSense (fun x => { x with nextK := [(0, 1)] }) (atTick 0x0C320000
      (((flds [(SENSE_SYNC_CTRL_EN 0, 1)] up).set64 (SENSE_SYNC_START_LO 0) 0x0C000000).setReg (SENSE_SYNC_PERIOD 0)
        0x320000))))).r64 (SENSE_SYNC_LAST_LO 0) = 0x0C320000 := by decide +kernel

/-- Chapter 3, votes from three hosts: RUN and DOZE give RUN, and DOZE is left when the RUN vote is gone. -/
theorem test_votes :
    reqState ((up.setVote .state 1 3).setVote .state 2 2) = 3 ∧ reqState (up.setVote .state 2 2) = 2 ∧ reqState up = 1 := by
  decide +kernel

/-- Chapter 5, a pin and a command at 0x0C00_0013: S is 0x0C00_0020, one reset, both events counted. -/
theorem test_sync_pin_and_command :
    let s := next (execDecSyncGo (next (execSyncInEdge true (flds [(DEC_SYNC_CTRL_PIN_EN, 1)] (atTick 0x0C000013 up)))))
    let t := next (execDecSyncReset (atTick 0x0C000020 s))
    t.r64 DEC_SYNC_TIME_LO = 0x0C000020 ∧ t.getF DEC_SYNC_STAT_PIN_LAST = 1 ∧ t.getF DEC_SYNC_STAT_CMD_LAST = 1
      ∧ syncResult t 0x0C000020 = 0x800000000C000020 := by decide +kernel

/-- Chapter 11, the FIR body: its three slots as the example encodes them. -/
theorem test_fir_body_slots :
    let b := slots 0x08008000000010840128C00000000000#128
    b.mac0 = 0x080080 ∧ b.mac1 = 0 ∧ b.xm = 0x10840 ∧ b.ym = 0x128C0 ∧ b.ctl = 0 ∧ macOp b.mac0 = 2 ∧ xmOp b.xm = 1
      ∧ xmPT b.ym = 1 ∧ xmAM b.ym = 1 := by decide +kernel

/-- Chapter 11, the REP bundle: OP 0x1A and COUNT 64. -/
theorem test_rep_bundle :
    ctlOp (slots 0x00000000000000000000006801000000#128).ctl = 0x1A
      ∧ bitsOf (slots 0x00000000000000000000006801000000#128).ctl 18 16 = 64 := by decide +kernel

/-- Chapter 11: P byte 0x1000 of core 2 lies at 0x00_1420_1000. -/
theorem test_core2_program : coreP 2 + 0x1000 = 0x14201000 := by decide

/-- Chapter 11, the bit-reversed pointer: element 4 is followed by 12 and element 15 by 0, from base 0x1000 with SPAN 16. -/
theorem test_bitReversed :
    let c := fun (p : Nat) => { Core.reset with cr := [(2, BitVec.ofNat 40 p), (0x12, 0x20010)] }
    xmNext (c 0x1004) (mvW 6 2 1 0 0 0 0 0) = 0x100C ∧ xmNext (c 0x100F) (mvW 6 2 1 0 0 0 0 0) = 0x1000 := by decide +kernel

/-- R118: a step counts as set in either copy, and the count stops at the first step set in neither. -/
theorem test_rollback_count : rollbackCount { Otp.blank with rollbackA := 0b10001, rollbackB := 0b00110 } = 3 := by
  decide +kernel

/-- R483: an increment that passes 2^64 - 1 saturates. -/
theorem test_syncAdd_saturates :
    (next (execSyncAdd addCmd (hold addCmd (synced.set64 (SYNC_OBJ_LO 3) 4)))).r64 (SYNC_OBJ_LO 3) = 2 ^ 64 - 1 := by
  decide +kernel

/-- R482: a signal below the value leaves it. -/
theorem test_syncSignal_below :
    (next (execSyncSignal signalCmd (hold signalCmd (synced.set64 (SYNC_OBJ_LO 3) 40)))).r64 (SYNC_OBJ_LO 3) = 40 := by
  decide +kernel

/-- R471: a channel index of 32 gives BAD_FIELD, not NOT_OWNER. -/
theorem test_badIndex :
    (findCmd (next (execDecCloseChannel (cmd 0x0503 [1] [32]) (hold (cmd 0x0503 [1] [32]) up))) (.mbox 0) 0).map (·.status)
      = some stBAD := by decide +kernel

/-- R592: the TAP's IDCODE. -/
theorem test_idcode : (next (execTapIdcode up)).dbg.tapDr = 0x1482054B := by decide +kernel

/-- R104: a pulse of 19 ns is ignored, one of 100 ns resets. -/
theorem test_resetN :
    (next (execResetNPulse 19 up)).boot.inReset = false ∧ (next (execResetNPulse 100 up)).boot.inReset = true := by
  decide +kernel

/-- R600: the four corners of the ball map, and two of its middle. -/
theorem test_balls :
    [ballName 1 1, ballName 1 25, ballName 25 1, ballName 25 25, ballName 2 9, ballName 23 19]
      = ["DDR0_DQ_0", "DDR1_DQ_0", "DDR0_RDQS_T_3", "DDR1_RDQS_T_3", "TDM0_BCLK", "RESET_OUT_N"] := by decide +kernel

/-- R537: the CRC of the nine bytes "123456789" is 0xCBF43926. -/
theorem test_crc32 : crc32 [0x31, 0x32, 0x33, 0x34, 0x35, 0x36, 0x37, 0x38, 0x39] = 0xCBF43926#32 := by decide +kernel

/-- The queue: the front command runs with the rest left, and a command put in front runs first. -/
theorem test_queue :
    (next (step { up with pending := [.wakeOutRelease, .coreRstWrite] })).pending = [.coreRstWrite] := by decide +kernel

/-! ### Witnesses: the hypotheses of each obligation, clause by clause, met by a state and operands -/

theorem test_witness_IdleStepCountsDeviceTime :
    (let s : State := base; s.pending = [] ∧ s.pins.porN = true) := by decide +kernel

theorem test_witness_RegisterPairs :
    (let i : Initiator := .sett; let a : Nat := CLK_TIME_LO; let s : State := atTick (2 ^ 40 + 7) base;
      isPairLo a = true ∧ regStatus s i a 4 false = .ok ∧ seesReg s a i = true) ∧
    (let i : Initiator := .sett; let a : Nat := CLK_ALARM_LO; let s : State := base; isPairLo a = true
      ∧ regStatus s i a 4 true = .ok ∧ writesWhole s i = true) ∧
    (let i : Initiator := .sett; let s : State := { base with pairWrite := [(latchKey .sett CLK_ALARM_LO, some 4)] };
      regStatus s i CLK_ALARM_HI 4 true = .ok ∧ writesWhole s i = true) := by decide +kernel

theorem test_witness_AccessCodes :
    (let i : Initiator := .sett; let a : Nat := 0x20100004; let s : State := base; a / 65536 = 0x2010
      ∧ isPairLo a = false ∧ isPairHi a = false ∧ regStatus s i a 4 true = .ok ∧ writesWhole s i = true) ∧
    (let i : Initiator := .sett; let a : Nat := 0x20080014; let s : State := base.setReg 0x20080014 0x00050007;
      let r : RegSpec := ⟨0x20080014, [], .core, 0, [⟨15, 0, .rc, 0⟩, ⟨31, 16, .rc, 0⟩]⟩;
      let f : FieldSpec := ⟨15, 0, .rc, 0⟩; isPairHi a = false ∧ regdataUnit a = none ∧ a ≠ GUST_COEF_DATA
      ∧ specOf a = some r ∧ f ∈ r.fields ∧ f.acc = .rc ∧ regStatus s i a 4 false = .ok ∧ seesReg s a i = true) := by
  refine ⟨?_, ?_⟩ <;> decide +kernel

theorem test_witness_ReferencesAndLoop :
    (let src : Nat := 3;
      let s : State := flds [(CLK_REF_QUAL_QUAL, 4), (CLK_STATUS_STATE, 1), (CLK_STATUS_SEL, 3)] base;
      let edge : Nat := 0; let band : Option Int := some 2000000; qualified s src = true ∧ monitorRuns s = true
      ∧ lossDue s src edge band = true) ∧
    (let src : Nat := 1; let ofs : Int := 250; let s : State := base;
      let edges : List Nat := (List.range 17).map (fun k => 4 * k); refCan false src ofs edges s = true) ∧
    (let src : Nat := 8; let ofs : Int := -100; let s : State := flds [(CLK_REF_QUAL_REQ, 128)] refBack;
      let edges : List Nat := (List.range 17).map (fun k => 2 ^ 40 - 2048 + 128 * k);
      refCan true src ofs edges s = true ∧ s.getB CLK_REF_QUAL_REQ (src - 1) = true
      ∧ tabGet 0 src s.clk.reqFrom + requalTicks s ≤ s.now) ∧
    (let src : Nat := 1; let s : State := base; refWatched src s = true) ∧
    (let s : State := flds [(CLK_STATUS_STATE, 2), (CLK_STATUS_SEL, 2), (CLK_REF_QUAL_QUAL, 2)] { base with clk := { base.clk with prio := 2 } };
      s.getF CLK_STATUS_STATE = 2 ∧ qualified s (s.getF CLK_STATUS_SEL) = true
      ∧ (loopFreq s - s.regS (CLK_REF_OFS (s.getF CLK_STATUS_SEL))).natAbs ≤ 50) ∧
    (let s : State := base; s.clk.pllFromAudio = false) ∧
    (let s : State := flds [(CLK_REF_QUAL_QUAL, 1)] { base with clk := { base.clk with prio := 1 } };
      let n : Nat := 1; refTarget s = some n ∧ pllMayLock s = true) ∧
    (let s : State := { base with clk := { base.clk with handover := true, fast := false } }; s.clk.handover = true
      ∧ s.clk.fast = false ∧ s.clk.lockSrc ≤ 8) ∧
    (let s : State := flds [(CLK_ALARM_CTRL_EN, 1)] { base with clk := { base.clk with alarmFrom := some 0, time := 5 } };
      let from' : Nat := 0; s.clk.alarmFrom = some from' ∧ s.isSet CLK_ALARM_CTRL_EN = true ∧ from' < s.now
      ∧ alarmTime s ≤ s.now) := by
  refine ⟨?_, ?_, ?_, ?_, ?_, ?_, ?_, ?_, ?_⟩ <;> decide +kernel

theorem test_witness_PowerTransitions :
    (let s : State := atTick 5 (onPwr (fun p => { p with holdUntil := some 5 }) base); let h : Nat := 5;
      s.pwr.holdUntil = some h ∧ h ≤ s.now) ∧
    (let n : Nat := 7;
      let s : State := flds [(PWR_STATUS_LYNX_ON, 255), (PWR_CTRL_GATE_IDLE, 50)] (atTick 50000 (onPwr (fun p => { p with idleFrom := [(7, some 0)] }) base));
      let since : Nat := 0; n < 8 ∧ tabGet none n s.pwr.idleFrom = some since ∧ engineIdle s n = true
      ∧ s.isSet PWR_CTRL_HOLD_CLK = false ∧ max 1 (s.getF PWR_CTRL_GATE_IDLE) * 98304 ≤ (s.now - since) * 1000) ∧
    (let s : State := flds [(PWR_STATUS_LYNX_ON, 255), (PWR_STATUS_FOG_ON, 1)] drainState; drainRuns s = true
      ∧ lynxDrained s = true ∧ fogDrained s = true) ∧
    (let s : State := flds [(PWR_STATUS_LYNX_ON, 255), (PWR_CTRL_DRAIN_TO, 1)] (atTick 98304 (onLynx (fun l => { l with jobs := [lateJob] }) drainState));
      drainRuns s = true ∧ (lynxDrained s && fogDrained s) = false
      ∧ s.pwr.drainFrom + max 1 (s.getF PWR_CTRL_DRAIN_TO) * 98304 ≤ s.now) ∧
    (let mv : Nat := 700; let s : State := atTick 98304 (onPwr (fun p => { p with lynxEn := true }) up);
      ungateDue s = true ∧ s.pwr.lynxEnAt + 98304 ≤ s.now ∧ 700 ≤ mv) ∧
    (let mv : Nat := 699;
      let s : State := atTick 983040 (onPwr (fun p => { p with lynxEn := true, lynxRailOk := true }) up);
      ungateDue s = true ∧ s.pwr.lynxRailOk = true ∧ s.pwr.lynxEnAt + 983040 ≤ s.now ∧ mv < 700) := by
  refine ⟨?_, ?_, ?_, ?_, ?_, ?_⟩ <;> decide +kernel

theorem test_witness_ParkWakeAndKeywords :
    (let s : State := onPwr (fun p => { p with phase := .parkEntry }) base; s.pwr.phase = .parkEntry
      ∧ dbgHeld s 4 = false ∧ startedMask s = 0) ∧
    (let s : State := flds [(PWR_WAKE_EN_EN, 255)] (onPwr (fun p => { p with phase := .parked }) base);
      let pins : Nat := 2; let wakeIn : List Bool := []; let wheel : List Nat := []; wakeBits pins wakeIn wheel s ≠ 0) ∧
    (let s : State := atTick 500 wakingState; wakeReady s = true ∧ sumsHold s = true) ∧
    (let s : State := wakingState; wakeReady s = true) ∧
    (let scores : List Nat := [0, 9, 9]; let lastSample : Nat := 77; let n : Nat := 1; let x : Nat := 9;
      let s : State := atTick 98381 (flds [(DORMOUSE_STATUS_LISTENING, 1), (DORMOUSE_STATUS_MODEL_OK, 1), (DORMOUSE_MODEL_ENTRIES, 3), (DORMOUSE_THR_EN 1, 1), (DORMOUSE_THR_THR 1, 9), (DORMOUSE_THR_EN 2, 1), (DORMOUSE_THR_THR 2, 9)] base);
      let audio : List (BitVec 16) := List.replicate 320 0; s.isSet DORMOUSE_STATUS_LISTENING = true
      ∧ frameFits s lastSample audio = true ∧ s.isSet DORMOUSE_STATUS_MODEL_OK = true
      ∧ s.isSet DORMOUSE_HIT_VALID = false ∧ kwsBest s scores = some (n, x) ∧ lastSample < 2 ^ 64) ∧
    (let s : State := base; s.marked DORMOUSE_HIT_VALID 0 = false) := by
  refine ⟨?_, ?_, ?_, ?_, ?_, ?_⟩ <;> decide +kernel

theorem test_witness_ClockAndPowerCommands :
    (let d : Desc := refsCmd; let s : State := hold refsCmd up; canStart d 0x0D01 [4, 4, 4, 4] s = true
      ∧ s.getF TWIN_STAT_ROLE ≠ 2 ∧ claimC s d .clock = 0 ∧ refsOk d = true) ∧
    (let d : Desc := forceCmd; let s : State := hold forceCmd (up.claim .clock 1); canStart d 0x0D02 [1, 1] s = true
      ∧ s.getF TWIN_STAT_ROLE ≠ 2 ∧ ownC s d .clock = 0 ∧ d.arg [1, 1] 0 ≤ 1 ∧ d.arg [1, 1] 1 ≤ 8) ∧
    (let d : Desc := mclkCmd; let s : State := hold mclkCmd (up.claim .clock 1); canStart d 0x0D04 [4] s = true
      ∧ ownC s d .clock = 0 ∧ imgOk CLK_MCLK [] [] (d.arg [4] 0) = 0 ∧ CLK_MCLK_DIV.img (d.arg [4] 0) % 2 = 0
      ∧ 2 ≤ CLK_MCLK_DIV.img (d.arg [4] 0) ∧ CLK_MCLK_DIV.img (d.arg [4] 0) ≤ 16) ∧
    (let d : Desc := alarmCmd; let s : State := hold alarmCmd (up.claim .clock 1);
      canStart d 0x0D05 [1, 8, 2] s = true ∧ ownC s d .clock = 0 ∧ bindOwn s d [d.arg [1, 8, 2] 2] = 0
      ∧ d.arg [1, 8, 2] 0 ≤ 1 ∧ bindOk [d.arg [1, 8, 2] 2] = 0
      ∧ (d.arg [1, 8, 2] 2 = 0xFFFF ∨ ((boundTo s 0x001).isEmpty = true ∧ (freeBind s).isSome = true))) ∧
    (let d : Desc := stateCmd; let s : State := hold stateCmd up; canStart d 0x0D06 [1] s = true ∧ d.arg [1] 0 ≤ 3) ∧
    (let d : Desc := clocksCmd; let s : State := hold clocksCmd up; canStart d 0x0D07 [1] s = true ∧ d.arg [1] 0 ≤ 1) ∧
    (let d : Desc := wakeCmd; let s : State := hold wakeCmd up; canStart d 0x0D09 [4, 4, 4, 4, 4, 4] s = true
      ∧ claimC s d .wake = 0 ∧ wakeImgsOk d = true) ∧
    (let d : Desc := modelCmd; let s : State := hold modelCmd up; canStart d 0x0D0A [8, 4] s = true
      ∧ claimC s d .dormouse = 0 ∧ modelFits d s = true
      ∧ memReads d (d.arg [8, 4] 0) (DORMOUSE_MODEL_SIZE.img (d.arg [8, 4] 1) * 4096) s = true) ∧
    (let d : Desc := vocabCmd;
      let s : State := hold vocabCmd ((up.setLe poolAt 4 0).setLe (poolAt + 4) 4 (image [(DORMOUSE_THR_THR 0, 7)]));
      canStart d 0x0D0B [1, 1, 8] s = true ∧ claimC s d .dormouse = 0 ∧ d.arg [1, 1, 8] 0 + d.arg [1, 1, 8] 1 ≤ 64
      ∧ memReads d (d.arg [1, 1, 8] 2) (4 * d.arg [1, 1, 8] 1) s = true ∧ vocabOk d s = true) ∧
    (let d : Desc := dormCmd; let s : State := hold dormCmd up; canStart d 0x0D0C [4] s = true
      ∧ claimC s d .dormouse = 0 ∧ imgOk DORMOUSE_CTRL [] [] (d.arg [4] 0) = 0
      ∧ DORMOUSE_CTRL_PREROLL_MS.img (d.arg [4] 0) ≤ 2000 ∧ dormMics (d.arg [4] 0) ≠ 0
      ∧ dormFits s (d.arg [4] 0) (s.reg DORMOUSE_MODEL).toNat = true) ∧
    (let d : Desc := hitCmd; let s : State := hold hitCmd up; canStart d 0x0D0D [8, 4] s = true
      ∧ claimC s d .dormouse = 0 ∧ 16 ≤ d.arg [8, 4] 1
      ∧ memWrites d (d.arg [8, 4] 0) (16 + min (d.arg [8, 4] 1 - 16) (prerollBytes (s.reg DORMOUSE_CTRL).toNat)) s = true
      ∧ s.marked DORMOUSE_HIT_VALID 0 = false) ∧
    (let d : Desc := hitMsg; let s : State := hold hitMsg up; canStart d 0x0D0D [8, 4] s = true
      ∧ claimC s d .dormouse = 0 ∧ 16 ≤ d.arg [8, 4] 1 ∧ inMessage d (d.arg [8, 4] 0) = true
      ∧ s.marked DORMOUSE_HIT_VALID 0 = false) := by
  refine ⟨?_, ?_, ?_, ?_, ?_, ?_, ?_, ?_, ?_, ?_, ?_, ?_⟩ <;> decide +kernel

theorem test_witness_Resets :
    (let straps : Nat := 7; let s : State := onPins (fun p => { p with porN := false }) base; s.pins.porN = false
      ∧ straps < 8) ∧
    (let ns : Nat := 100; let s : State := up; s.pins.porN = true ∧ 100 ≤ ns) ∧
    (let ns : Nat := 19; ns < 20) ∧
    (let s : State := up; s.pins.porN = true) ∧
    (let s : State := atTick 98304 (flds [(SYS_WDOG_EN, 1), (SYS_WDOG_TIMEOUT, 1)] up); wdogOut s = true) ∧
    (let s : State := atTick 9 (onBoot (fun b => { b with resetAt := some 9 }) up); let at' : Nat := 9;
      s.boot.resetAt = some at' ∧ at' ≤ s.now) ∧
    (let s : State := up; s.pins.porN = true) := by
  refine ⟨?_, ?_, ?_, ?_, ?_, ?_, ?_⟩ <;> decide +kernel

theorem test_witness_BootSequence :
    (let s : State := base; s.pins.porN = true ∧ s.boot.inReset = true) ∧
    (let s : State := onBoot (fun b => { b with inReset := false }) (base.setLe 64 4 77); s.boot.inReset = false
      ∧ s.boot.sramFilled = false) ∧
    (let src : Nat := 1; let s : State := rom; flashNext src s = true) ∧
    (let port : Nat := 0; let src : Nat := 3;
      let s : State := onBoot (fun b => { b with srcIdx := 2 }) (flds [(SYS_STRAP_BOOT_SEL, 3), (SYS_BOOT_STATUS_CODE, 2), (SYS_DL_LEN, 16)] rom);
      downloadNext port src s = true) ∧
    (let s : State := onClk (fun c => { c with fast := true }) (flds [(SYS_BOOT_STATUS_CODE, 4)] up);
      s.getF SYS_BOOT_STATUS_CODE = 4 ∧ s.clk.fast = true ∧ dbgHeld s 4 = false ∧ s.pins.porN = true) ∧
    (let key : Nat := 0; key ≠ 0x5A3C) := by
  refine ⟨?_, ?_, ?_, ?_, ?_, ?_⟩ <;> decide +kernel

theorem test_witness_SystemCommands :
    (let d : Desc := resetCmd; let s : State := hold resetCmd up; canStart d 0x0E02 [] s = true
      ∧ claimC s d .system = 0) ∧
    (let d : Desc := rollCmd; let s : State := hold rollCmd up; canStart d 0x0E03 [1] s = true ∧ claimC s d .system = 0
      ∧ d.arg [1] 0 ≤ minSec s ∧ rollbackCount s.boot.otp ≤ d.arg [1] 0 ∧ d.arg [1] 0 ≤ 128) ∧
    (let d : Desc := revokeCmd; let s : State := hold revokeCmd up; canStart d 0x0E04 [1] s = true
      ∧ claimC s d .system = 0 ∧ d.arg [1] 0 < 4
      ∧ (secure s.boot.otp && s.getF SYS_LIFECYCLE_SLOT == d.arg [1] 0) = false) ∧
    (let d : Desc := loadCmd; let s : State := hold loadCmd up; canStart d 0x0E05 [8, 4] s = true
      ∧ claimC s d .system = 0 ∧ 256 ≤ d.arg [8, 4] 1 ∧ d.arg [8, 4] 1 ≤ 0x100_0000
      ∧ memReads d (d.arg [8, 4] 0) (d.arg [8, 4] 1) s = true ∧ ((hdrType (loadHdr d s) ≠ 4 ∨ (s.lynx.jobs = []
      ∧ ceilDiv (hdrSize (loadHdr d s)) 4096 * 4096 ≤ s.boot.lynxPages)))) ∧
    (let d : Desc := wdogCmd; let s : State := hold wdogCmd up; canStart d 0x0E06 [4] s = true ∧ claimC s d .system = 0
      ∧ imgOk SYS_WDOG [] [] (d.arg [4] 0) = 0 ∧ SYS_WDOG_TIMEOUT.img (d.arg [4] 0) ≠ 0) ∧
    (let d : Desc := maskCmd; let s : State := hold maskCmd up; canStart d 0x0E07 [4] s = true) ∧
    (let d : Desc := nopCmd; let s : State := hold nopCmd up; canStart d 0x0E08 [8] s = true) := by
  refine ⟨?_, ?_, ?_, ?_, ?_, ?_, ?_⟩ <;> decide +kernel

theorem test_witness_DebugPackets :
    (let periods : Nat := 64; let s : State := up; s.pins.porN = true ∧ 64 ≤ periods) ∧
    (let periods : Nat := 64; let select : Nat := 1; let s : State := dbgUp; s.pins.porN = true ∧ 64 ≤ periods
      ∧ select ≠ 0x48424447) ∧
    (let addr : Nat := poolAt; let s : State := dbgUp; let hdr : Nat := 33; let parity : Bool := true;
      packetGoes s 1 hdr addr false parity = true) ∧
    (let addr : Nat := poolAt; let ws : List Word := [7]; let s : State := dbgUp; let hdr : Nat := 130;
      let parity : Bool := true; packetGoes s 2 hdr addr true parity = true ∧ ws.length = hdrWords hdr) ∧
    (let s : State := onDebug (fun d => { d with readBuf := [5, 6], readDone := true }) dbgUp; let hdr : Nat := 3;
      hears s 3 hdr = true ∧ s.isSet DBG_STAT_FAULT = false ∧ (s.dbg.readDone || s.dbg.access.isNone) = true) ∧
    (let s : State := dbgUp; let hdr : Nat := 132; hears s 4 hdr = true) ∧
    (let s : State := onDebug (fun d => { d with access := some (false, poolAt, []), readLen := 1 }) (dbgUp.setF DBG_STAT_BUSY 1);
      let hdr : Nat := 5; hears s 5 hdr = true ∧ s.dbg.access.isSome = true) ∧
    (let a : Nat := poolAt;
      let s : State := onDebug (fun d => { d with access := some (false, poolAt, []), readLen := 4 }) ((dbgUp.setF DBG_STAT_BUSY 1).setLe poolAt 4 99);
      s.dbg.access = some (false, a, []) ∧ dbgCheck s false a (4 * s.dbg.readLen) = .ok ∧ kindOf s a ≠ .regs
      ∧ allMemory s a s.dbg.readLen = true ∧ errWords s.ues a (4 * s.dbg.readLen) = []) ∧
    (let a : Nat := poolAt; let ws : List (Option Word) := [some 7, none, some 9];
      let s : State := onDebug (fun d => { d with access := some (true, poolAt, [some 7, none, some 9]) }) (dbgUp.setF DBG_STAT_BUSY 1);
      s.dbg.access = some (true, a, ws) ∧ dbgCheck s true a (4 * ws.length) = .ok ∧ kindOf s a ≠ .regs
      ∧ allMemory s a ws.length = true ∧ rmwErrs s a (4 * ws.length) = []) := by
  refine ⟨?_, ?_, ?_, ?_, ?_, ?_, ?_, ?_, ?_⟩ <;> decide +kernel

theorem test_witness_DebugControl :
    (let s : State := flds [(DBG_STAT_TRIES, 7), (DBG_CHAL_CTRL_VALID, 1), (DBG_UNLOCK_SCOPE, 5)] up;
      s.dbg.verifying = none ∧ s.getF DBG_STAT_TRIES < 8 ∧ s.isSet DBG_CHAL_CTRL_VALID = true) ∧
    (let s : State := flds [(DBG_STAT_TRIES, 8)] up; s.dbg.verifying = none ∧ 8 ≤ s.getF DBG_STAT_TRIES) ∧
    (let s : State := onDebug (fun d => { d with verifying := some 5 }) up; let scope : Nat := 5;
      s.dbg.verifying = some scope ∧ s.marked DBG_UNLOCK_GO 0 = false) ∧
    (let c : Nat := 5; let s : State := dbgUp; c < 6 ∧ granted s (unitScope c) = true ∧ dbgHeld s c = false
      ∧ (4 ≤ c ∨ ((coreState s c = 2 ∨ coreState s c = 3) ∧ (s.core c).rep = 0))) ∧
    (let c : Nat := 3;
      let s : State := onCore 3 (fun c => { c with rep := 2 }) (flds [(MARTEN_CTRL_STATE 3, 2)] dbgUp); c < 4
      ∧ granted s (unitScope c) = true ∧ dbgHeld s c = false ∧ (coreState s c = 2 ∨ coreState s c = 3)
      ∧ (s.core c).rep ≠ 0) ∧
    (let c : Nat := 0; let s : State := flds [(DBG_CORE_CTRL_STATE 0, 1)] dbgUp; c < 6
      ∧ s.getF (DBG_CORE_CTRL_STATE c) = 1 ∧ (4 ≤ c ∨ coreQuiet s c = true)) ∧
    (let c : Nat := 4; let s : State := flds [(DBG_CORE_CTRL_STATE 4, 2)] dbgUp; c < 6
      ∧ granted s (unitScope c) = true ∧ s.getF (DBG_CORE_CTRL_STATE c) = 2) ∧
    (let c : Nat := 0; let s : State := flds [(DBG_CORE_CTRL_STATE 0, 2), (MARTEN_CTRL_STATE 0, 4)] dbgUp; c < 6
      ∧ granted s (unitScope c) = true ∧ s.getF (DBG_CORE_CTRL_STATE c) = 2) ∧
    (let c : Nat := 0; let s : State := flds [(DBG_CORE_CTRL_STATE 0, 2)] dbgUp; let v : Nat := 0; c < 6
      ∧ granted s (unitScope c) = true ∧ unitOpen s c = true ∧ unitReg s c = some v) ∧
    (let c : Nat := 4; let s : State := flds [(DBG_CORE_CTRL_STATE 4, 2), (DBG_CORE_REGSEL_INDEX 4, 31)] dbgUp; c < 6
      ∧ granted s (unitScope c) = true ∧ unitOpen s c = true ∧ (unitReg s c).isSome = true) ∧
    (let s : State := dbgUp; s.pins.porN = true) := by
  refine ⟨?_, ?_, ?_, ?_, ?_, ?_, ?_, ?_, ?_, ?_, ?_⟩ <;> decide +kernel

theorem test_witness_SpiTransactions :
    (let x : Nat := 0; let a : Nat := SYS_ID; let w : Nat := 0; let s : State := up; x < 2 ∧ s.pins.porN = true
      ∧ regStatus s (.port (8 + x)) a 4 false = .ok ∧ hostSees s (8 + x) a = true ∧ spiLate s x w = false
      ∧ isPairHi a = false ∧ regdataUnit a = none) ∧
    (let x : Nat := 1; let bs : List Byte := [255, 255, 0, 0]; let s : State := flds [(SYS_RST_CAUSE_SW, 1)] up; x < 2
      ∧ s.pins.porN = true ∧ bs.length = 4 ∧ regStatus s (.port (8 + x)) SYS_RST_CAUSE 4 true = .ok
      ∧ tabGet 0 SYS_RST_CAUSE s.cyc.hits = 0) ∧
    (let x : Nat := 0; let a : Nat := poolAt; let n : Nat := 256; let w : Nat := 0; let s : State := up2;
      spiReady x a n s = true ∧ spiLate s x w = false ∧ hostReads (8 + x) a n s = true) ∧
    (let x : Nat := 0; let a : Nat := poolAt; let bs : List Byte := [1, 2, 3, 4]; let s : State := up2;
      spiReady x a bs.length s = true ∧ hostWrites (8 + x) a bs.length s = true) ∧
    (let x : Nat := 1; let s : State := flds [(HOSTIF_SPI_STAT_LAST 1, 2)] up; x < 2 ∧ spiOpen s x = true) ∧
    (let x : Nat := 0; let s : State := up; x < 2 ∧ spiOpen s x = true) ∧
    (let x : Nat := 1; let s : State := onHost (fun h => { h with rstArmed := [(1, true)] }) up; x < 2
      ∧ spiOpen s x = true ∧ tabGet false x s.hostif.rstArmed = true) := by
  refine ⟨?_, ?_, ?_, ?_, ?_, ?_, ?_⟩ <;> decide +kernel

theorem test_witness_PcieConfiguration :
    (let f : Nat := 7; let s : State := up; f < 8 ∧ cfgOpen s = true) ∧
    (let f : Nat := 7; let s : State := up; f < 8 ∧ cfgOpen s = true) ∧
    (let f : Nat := 0; let dst : Nat := 3; let s : State := up; f < 8 ∧ cfgOpen s = true ∧ ((dst = 0 ∨ dst = 3))) ∧
    (let f : Nat := 7; let v : Nat := 63;
      let s : State := onHost (fun h => { h with msixPend := [(511, true)] }) (flds [(HOSTIF_F_STAT_MSIX_EN 7, 1)] up);
      f < 8 ∧ v < 64 ∧ cfgOpen s = true) ∧
    (let f : Nat := 0; let s : State := up; f < 8 ∧ cfgOpen s = true) ∧
    (let s : State := up; linkLives s = true) := by
  refine ⟨?_, ?_, ?_, ?_, ?_, ?_⟩ <;> decide +kernel

theorem test_witness_HostAccesses :
    (let f : Nat := 0; let a : Nat := poolAt; let n : Nat := 16; let s : State := up; bar2Open f a n s = true
      ∧ hostReads f a n s = true) ∧
    (let f : Nat := 0; let a : Nat := 0x017FFFFC; let bs : List Byte := [1, 2, 3, 4]; let s : State := up;
      bar2Open f a bs.length s = true ∧ hostWrites f a bs.length s = true) ∧
    (let f : Nat := 0; let a : Nat := poolAt; let b : Nat := poolAt; let n : Nat := 4;
      let s : State := up.setSession 1 ⟨0, 0, 0, 0⟩; bar2Open f a n s = true
      ∧ checkRange s (hostAcq s f false) none a n = .bad b) ∧
    (let tag : Nat := 255; let a : Nat := poolAt; let n : Nat := 4; let c : Nat := 0; let k : Nat := 1;
      let bs : List Byte := [1, 2, 3, 4];
      let s : State := onHost (fun h => { h with tags := [⟨255, poolAt, 4, .dma 0 1⟩] }) up;
      tagOf s tag = some ⟨tag, a, n, .dma c k⟩ ∧ bs.length = n ∧ paired s = false ∧ s.hostif.todo = []
      ∧ closingSessions s = [] ∧ closingRings s = []) ∧
    (let tag : Nat := 0; let a : Nat := 0x8000000000; let n : Nat := 4; let c : Nat := 3; let k : Nat := 3;
      let s : State := onHost (fun h => { h with tags := [⟨0, 0x8000000000, 4, .dma 3 3⟩] }) up;
      tagOf s tag = some ⟨tag, a, n, .dma c k⟩ ∧ s.hostif.todo = []) ∧
    (let p : Nat := 9; let s : State := up; readyDue p s = true) ∧
    (let i : Initiator := .port 8; let s : State := up; keyOpens s i = true) ∧
    (let i : Initiator := .port 8; let key : Word := 0; let s : State := flds [(HOSTIF_DIRECT_STAT_OPEN, 1)] up;
      ((i = .port 8 ∧ spiOpen s 0 = true) ∨ (i = .debug ∧ granted s 3 = true)) ∧ key ≠ 0x44524D4F) := by
  refine ⟨?_, ?_, ?_, ?_, ?_, ?_, ?_, ?_⟩ <;> decide +kernel

theorem test_witness_IndexesAndFetch :
    (let p : Nat := 0; let s : State := up; indexOpen p s = true) ∧
    (let p : Nat := 8; let s : State := flds [(MBOX_OUT_TAIL_TAIL 8, 1)] up; indexOpen p s = true) ∧
    (let p : Nat := 0; let r : Nat := 63; let s : State := ringed; indexOpen p s = true ∧ ringOf s p r = true) ∧
    (let p : Nat := 0; let r : Nat := 63; let s : State := ringed; indexOpen p s = true ∧ ringOf s p r = true) ∧
    (let p : Nat := 8; let s : State := flds [(MBOX_IN_TAIL_TAIL 8, 4)] up; mayTake p s = true) ∧
    (let r : Nat := 63; let s : State := flds [(RING_SQ_TAIL_TAIL 63, 16)] ringed; fetchTurn s = some r
      ∧ isStandby s = false ∧ hostOf s (sqSlot s r) = none
      ∧ checkRange s (settAcq (s.getF (RING_CFG_SESSION r)) false) none (sqSlot s r) (64 * fetchCount s r) = .ok
      ∧ chanFull s false (sqSlot s r) (64 * fetchCount s r) = false
      ∧ errWords s.ues (sqSlot s r) (64 * fetchCount s r) = []) ∧
    (let r : Nat := 63; let f : Nat := 0;
      let s : State := (flds [(RING_SQ_TAIL_TAIL 63, 1), (HOSTIF_F_XLAT_LO_EN 0, 1), (MPU_REG_LIMIT_PAGE 0, 2 ^ 28 - 1)] ringed).set64 (RING_SQ_LO 63) 0x8000000000;
      fetchTurn s = some r ∧ isStandby s = false ∧ hostOf s (sqSlot s r) = some f
      ∧ checkRange s (settAcq (s.getF (RING_CFG_SESSION r)) false) none (sqSlot s r) (64 * fetchCount s r) = .ok) ∧
    (let r : Nat := 63; let a : Nat := 0x30000000;
      let s : State := (flds [(RING_SQ_TAIL_TAIL 63, 1)] ringed).set64 (RING_SQ_LO 63) 0x30000000;
      fetchTurn s = some r ∧ isStandby s = false
      ∧ checkRange s (settAcq (s.getF (RING_CFG_SESSION r)) false) none (sqSlot s r) (64 * fetchCount s r) = .bad a) := by
  refine ⟨?_, ?_, ?_, ?_, ?_, ?_, ?_, ?_⟩ <;> decide +kernel

theorem test_witness_CompletionsGoOut :
    (let r : Nat := 63;
      let c : Cmd := ⟨.ring 63, 1, (ringCmd 0x0E08 0).raw, .finished, 0, 7, [], false, false, false, false, 5⟩;
      let s : State := holdAs .finished (ringCmd 0x0E08 0) ringed; ringSends r (finishPlain (.ring r) s) = true
      ∧ ringNext (finishPlain (.ring r) s) r = some c) ∧
    (let p : Nat := 0; let c : Cmd := ⟨.mbox 0, 0, nopCmd.raw, .finished, 0, 7, [], false, false, false, false, 5⟩;
      let s : State := holdAs .finished nopCmd (flds [(MBOX_OUT_TAIL_TAIL 0, 255), (MBOX_OUT_HEAD_HEAD 0, 252)] up);
      mboxSends p (finishPlain (.mbox p) s) = true ∧ mboxNext (finishPlain (.mbox p) s) p = some c) ∧
    (let p : Nat := 8; let n : Notice := ⟨4, 5, 6, 0⟩; let l : List Notice := [];
      let s : State := up.setPort 8 ⟨[⟨4, 5, 6, 0⟩], 0, false⟩; portFlows s p = true ∧ outUsed s p ≤ 3
      ∧ isStandby s = false ∧ mirrorsOn s = false ∧ mirrorsOf s (.mbox p) = [] ∧ (s.port p).notices = n :: l) ∧
    (let r : Nat := 63; let f : Nat := 0;
      let s : State := atTick 98304 ((flds [(RING_IRQ_COAL_TIME 63, 1000), (RING_IRQ_COAL_CNT 63, 4)] ringed).setRing 63 ⟨1, some 0, 0, false⟩);
      r < 64 ∧ s.isSet (RING_CFG_EN r) = true ∧ (s.ring r).coalFrom = some f ∧ 0 < s.getF (RING_IRQ_COAL_TIME r)
      ∧ s.getF (RING_IRQ_COAL_TIME r) * 98304 ≤ (s.now - f) * 1000) ∧
    (let p : Nat := 0; let r : Nat := 63; let s : State := flds [(RING_IRQ_PEND 63, 1)] ringed; portIsReady s p = true
      ∧ ringOf s p r = true ∧ (s.ring r).coalFrom = none ∧ (s.ring r).elig < max 1 (s.getF (RING_IRQ_COAL_CNT r))
      ∧ s.marked (RING_IRQ_PEND r) 0 = false) ∧
    (let p : Nat := 0; let c : Cmd := ⟨.mbox 0, 0, waitCmd.raw, .waiting, 0, 0, [], true, false, false, false, 0⟩;
      let s : State := atTick 98304 (flds [(SYNC_MBOX_TO_MS, 1), (SYNC_OWN_WAITERS 1, 1)] { up with denrek := { up.denrek with cmds := [⟨.mbox 0, 0, waitCmd.raw, .waiting, 0, 0, [], true, false, false, false, 0⟩] } });
      findCmd s (.mbox p) 0 = some c ∧ c.unstarted = true ∧ c.waited = true
      ∧ c.time + max 1 (s.getF SYNC_MBOX_TO_MS) * 98304 ≤ s.now) := by
  refine ⟨?_, ?_, ?_, ?_, ?_, ?_⟩ <;> decide +kernel

theorem test_witness_Sessions :
    (let d : Desc := openCmd; let n : Nat := 0; let s : State := hold openCmd up; canStart d 0x0101 [8] s = true
      ∧ longestFree s = some n) ∧
    (let d : Desc := closeCmd; let s : State := hold closeCmd up; canStart d 0x0102 [2] s = true
      ∧ targetC s d (d.arg [2] 0) = 0 ∧ sessOpen s (d.arg [2] 0) = true ∧ noneCloses s = true
      ∧ holdsNothing (d.arg [2] 0) s = true) ∧
    (let d : Desc := closeCmd;
      let s : State := hold closeCmd (holdAs .started ⟨.ring 3, 9, (ringCmd 0x0206 0).raw⟩ up);
      canStart d 0x0102 [2] s = true ∧ targetC s d (d.arg [2] 0) = 0 ∧ sessOpen s (d.arg [2] 0) = true
      ∧ noneCloses s = true ∧ runsCmd s (d.arg [2] 0) = true ∧ (ringsOf s (d.arg [2] 0)).isEmpty = true) ∧
    (let d : Desc := infoCmd; let s : State := hold infoCmd up; canStart d 0x0103 [2] s = true
      ∧ targetC s d (d.arg [2] 0) = 0) := by decide +kernel

theorem test_witness_Rings :
    (let d : Desc := createCmd; let r : Nat := 0; let s : State := hold createCmd (up.setLe 0x8040 4 99);
      canStart d 0x0104 [8, 8, 4, 4, 4, 4] s = true ∧ ringChecks d s = 0 ∧ queuesOk d s = true ∧ freeRing s = some r) ∧
    (let d : Desc := destroyCmd; let s : State := hold destroyCmd ringed; canStart d 0x0105 [2] s = true
      ∧ ringC s d (d.arg [2] 0) = 0 ∧ inTable s (d.arg [2] 0) = 0) ∧
    (let d : Desc := destroyCmd; let s : State := hold destroyCmd (holdAs .started (ringCmd 0x0206 0) ringed);
      canStart d 0x0105 [2] s = true ∧ ringC s d (d.arg [2] 0) = 0 ∧ 0 < inTable s (d.arg [2] 0)
      ∧ s.getF (RING_STAT_FAULT (d.arg [2] 0)) = 0 ∧ (s.ring (d.arg [2] 0)).quiet = false) ∧
    (let d : Desc := reconfCmd; let s : State := hold reconfCmd ringed; canStart d 0x0106 [2, 4, 4, 4, 4] s = true
      ∧ ringC s d (d.arg [2, 4, 4, 4, 4] 0) = 0
      ∧ imgOk (RING_CFG (d.arg [2, 4, 4, 4, 4] 0)) [] [RING_CFG_EN (d.arg [2, 4, 4, 4, 4] 0), RING_CFG_DEPTH (d.arg [2, 4, 4, 4, 4] 0), RING_CFG_PORT (d.arg [2, 4, 4, 4, 4] 0), RING_CFG_SESSION (d.arg [2, 4, 4, 4, 4] 0)] (d.arg [2, 4, 4, 4, 4] 1) = 0
      ∧ firstBad (ringImgs (d.arg [2, 4, 4, 4, 4] 2) (d.arg [2, 4, 4, 4, 4] 3) (d.arg [2, 4, 4, 4, 4] 4) [RING_IRQ_EN 0]) = 0
      ∧ ringFetches s (d.arg [2, 4, 4, 4, 4] 0) = true) ∧
    (let d : Desc := resumeCmd;
      let s : State := hold resumeCmd (flds [(RING_STAT_STATE 63, 2)] (ringed.setRing 63 ⟨0, none, 2, false⟩));
      canStart d 0x0107 [2] s = true ∧ ringC s d (d.arg [2] 0) = 0 ∧ s.getF (RING_STAT_STATE (d.arg [2] 0)) = 2) := by decide +kernel

theorem test_witness_SyncObjects :
    (let d : Desc := allocCmd; let j : Nat := 4; let s : State := hold allocCmd synced;
      canStart d 0x0B01 [2, 8] s = true ∧ s.canonical = true ∧ 1 ≤ d.arg [2, 8] 0 ∧ d.arg [2, 8] 0 ≤ 64
      ∧ (List.range (4097 - d.arg [2, 8] 0)).find? (fun k => runFree s k (d.arg [2, 8] 0)) = some j) ∧
    (let d : Desc := freeCmd; let s : State := hold freeCmd synced; canStart d 0x0B02 [2, 2] s = true
      ∧ 0 < d.arg [2, 2] 1 ∧ d.arg [2, 2] 0 + d.arg [2, 2] 1 ≤ 4096
      ∧ (∀ k, k < d.arg [2, 2] 1 → syncOwner s (d.arg [2, 2] 0 + k) = some d.session
      ∧ hasWaiter s (d.arg [2, 2] 0 + k) = false)) ∧
    (let d : Desc := signalCmd; let s : State := hold signalCmd (synced.set64 (SYNC_OBJ_LO 3) 4);
      canStart d 0x0B03 [2, 8] s = true ∧ syncC s d (d.arg [2, 8] 0) (some 1) = 0 ∧ cycOk s (d.arg [2, 8] 0) = true) ∧
    (let d : Desc := addCmd; let s : State := hold addCmd (synced.set64 (SYNC_OBJ_LO 3) 4);
      canStart d 0x0B04 [2, 8] s = true ∧ syncC s d (d.arg [2, 8] 0) (some 1) = 0 ∧ quietObj s (d.arg [2, 8] 0) = true) ∧
    (let d : Desc := addCmd;
      let s : State := hold addCmd (onDen (fun d => { d with syncIn := [(3, some ⟨0, List.replicate 8 (5, 1), 0⟩)] }) (synced.set64 (SYNC_OBJ_LO 3) 8));
      canStart d 0x0B04 [2, 8] s = true ∧ syncC s d (d.arg [2, 8] 0) (some 1) = 0 ∧ cycOk s (d.arg [2, 8] 0) = true
      ∧ 8 ≤ (syncCyc s (d.arg [2, 8] 0)).ins.length ∧ (∀ x ∈ (syncCyc s (d.arg [2, 8] 0)).ins, x.1 ≤ placeAdd)) ∧
    (let d : Desc := readCmd; let s : State := hold readCmd (synced.set64 (SYNC_OBJ_LO 3) 4);
      canStart d 0x0B05 [2] s = true ∧ syncC s d (d.arg [2] 0) (some 0) = 0) ∧
    (let n : Nat := 3; let s : State := synced; n < 4096 ∧ s.isSet (SYNC_OWN_VALID n) = true ∧ cycOk s n = true) ∧
    (let delta : Nat := 2 ^ 32 - 1; let s : State := flds [(SYNC_ADD_ID_ID, 3)] synced;
      s.isSet (SYNC_OWN_VALID (s.getF SYNC_ADD_ID_ID)) = true ∧ delta % 2 ^ 32 ≠ 0
      ∧ quietObj s (s.getF SYNC_ADD_ID_ID) = true) ∧
    (let n : Nat := 3; let s : State := synced; n < 4096 ∧ s.isSet (SYNC_OWN_VALID n) = true) ∧
    (let n : Nat := 3; let w : Nat := 5; let s : State := onDen (fun d => { d with syncOvf := [(3, 5)] }) synced;
      s.denrek.syncOvf = [(n, w)] ∧ n < 4096 ∧ syncValue s n + w < 2 ^ 64) ∧
    (let d : Desc := bindCmd; let e : Nat := 0; let s : State := hold bindCmd (synced.claim .clock 1);
      canStart d 0x0B06 [2, 2] s = true ∧ bindC s d (d.arg [2, 2] 0) (d.arg [2, 2] 1) = 0
      ∧ (boundTo s (d.arg [2, 2] 0)).any (fun b => b.2.2 == d.arg [2, 2] 1) = false
      ∧ (boundTo s (d.arg [2, 2] 0)).length < 8 ∧ freeBind s = some e) ∧
    (let d : Desc := unbindCmd; let e : Nat := 1023;
      let s : State := hold unbindCmd (onDen (fun d => { d with binders := [(1023, 1, 0x0B060)] }) (flds [(SYNC_BIND_EVENT 1023, 1), (SYNC_BIND_OBJ 1023, 3), (SYNC_BIND_EN 1023, 1)] synced));
      canStart d 0x0B07 [2, 2] s = true ∧ evKnown (d.arg [2, 2] 0) = true ∧ syncC s d (d.arg [2, 2] 1) none = 0
      ∧ e < 1024 ∧ s.denrek.binders.any (fun b => b.1 == e) = true ∧ s.getF (SYNC_BIND_EVENT e) = d.arg [2, 2] 0
      ∧ s.getF (SYNC_BIND_OBJ e) = d.arg [2, 2] 1) ∧
    (let d : Desc := shareCmd; let s : State := hold shareCmd (synced.setSession 1023 ⟨1, 0, 0, 0⟩);
      canStart d 0x0B08 [2, 2, 1] s = true ∧ syncC s d (d.arg [2, 2, 1] 0) none = 0 ∧ d.arg [2, 2, 1] 1 < 1024
      ∧ sessOpen s (d.arg [2, 2, 1] 1) = true ∧ d.arg [2, 2, 1] 2 ≤ 3
      ∧ (s.denrek.shares.filter (fun e => e.1 == d.arg [2, 2, 1] 0)).length < 8) ∧
    (let fk : Nat := 7; let ev : Nat := 1; let obj : Nat := 4095; let e : Nat := 0; let s : State := up; obj ≤ 4095
      ∧ ev < 65536 ∧ boundTo s ev = [] ∧ freeBind s = some e
      ∧ s.denrek.binders.all (fun b => b.1 != e && b.2.2 != fk) = true) ∧
    (let sess : Nat := 1; let fk : Nat := 7; let ev : Nat := 1; let e : Nat := 1023;
      let s : State := onDen (fun d => { d with binders := [(1023, 1, 7)] }) (flds [(SYNC_BIND_EVENT 1023, 1), (SYNC_BIND_OBJ 1023, 3), (SYNC_BIND_EN 1023, 1)] synced);
      (e, sess, fk) ∈ s.denrek.binders ∧ e < 1024 ∧ s.getF (SYNC_BIND_EVENT e) = ev) := by
  refine ⟨?_, ?_, ?_, ?_, ?_, ?_, ?_, ?_, ?_, ?_, ?_, ?_, ?_, ?_, ?_⟩ <;> decide +kernel

theorem test_witness_CaptureOutputs :
    (let ch : Nat := 31; let p : Nat := 1; let s : State := capt; let bits : List Bool := List.replicate 32 true;
      strobeDue ch p bits s = true) ∧
    (let ch : Nat := 31; let s : State := capt; ch < 32 ∧ chClocked s ch = true) ∧
    (let ch : Nat := 31; let b : DecBlock := blk; let l : List DecBlock := [];
      let s : State := capt.setCh 31 { DecCh.reset with done := [blk] }; ch < 32 ∧ (s.ch ch).done = b :: l
      ∧ checkRange s (blockAcq ch s) none (blockSlot b.base b.size b.nblk b.seq) b.toBytes.length = .ok
      ∧ chanFull s true (blockSlot b.base b.size b.nblk b.seq) b.toBytes.length = false
      ∧ rmwErrs s (blockSlot b.base b.size b.nblk b.seq) b.toBytes.length = []) ∧
    (let ch : Nat := 31; let a : Nat := 0x30000040; let b : DecBlock := { blk with base := 0x30000000 };
      let l : List DecBlock := [];
      let s : State := ((capt.claim (.channel 31) 1).setCh 31 { DecCh.reset with done := [{ blk with base := 0x30000000 }] }).setF (DEC_CH_BUF_CFG_EN 31) 1;
      ch < 32 ∧ (s.ch ch).done = b :: l
      ∧ checkRange s (blockAcq ch s) none (blockSlot b.base b.size b.nblk b.seq) b.toBytes.length = .bad a) := by
  refine ⟨?_, ?_, ?_, ?_⟩ <;> decide +kernel

theorem test_witness_SyncAndSwaps :
    (let rising : Bool := true;
      let s : State := flds [(DEC_SYNC_CTRL_PIN_EN, 1), (DEC_SYNC_CTRL_EDGE, 0)] (atTick 100 up);
      s.isSet DEC_SYNC_CTRL_PIN_EN = true ∧ s.isSet DEC_SYNC_CTRL_EDGE = !rising) ∧
    (let s : State := flds [(DEC_SYNC_CTRL_PIN_EN, 0)] up; s.isSet DEC_SYNC_CTRL_PIN_EN = false) ∧
    (let S : Nat := 256; let pin : Nat := 1; let cmd : Nat := 0;
      let s : State := onDec (fun d => { d with sched := [(512, 0, 1), (256, 1, 0)] }) (atTick 256 up);
      nextReset s = some (S, pin, cmd) ∧ S ≤ s.now ∧ asleep s = false) ∧
    (let p : Nat := 3; p < 4) ∧
    (let p : Nat := 0; let q : Nat := 0; let land : Nat := 100; let cmd : Option (Src × Nat) := none;
      let s : State := onDec (fun d => { d with swaps := [(0, 100, none)], startAt := some 0 }) (atTick 1000 (flds [(DEC_FIR_CTRL_PENDING 0, 1), (DEC_CTRL_EN, 1)] up));
      p < 4 ∧ s.dec.swaps.find? (fun e => e.1 == p) = some (q, land, cmd)
      ∧ swapBoundary s p land + decLatency p ≤ s.now ∧ s.dec.startAt.isSome = true) := by
  refine ⟨?_, ?_, ?_, ?_, ?_⟩ <;> decide +kernel

theorem test_witness_CaptureCommands :
    (let d : Desc := clksCmd; let s : State := hold clksCmd up; canStart d 0x0501 [4, 8] s = true
      ∧ claimC s d .capture = 0 ∧ clocksOk d s = true) ∧
    (let d : Desc := chanCmd; let s : State := hold chanCmd up; canStart d 0x0502 [1, 4, 4] s = true
      ∧ claimC s d (.channel (d.arg [1, 4, 4] 0)) = 0 ∧ channelOk d s = true) ∧
    (let d : Desc := unchanCmd; let s : State := hold unchanCmd (capt.claim (.channel 31) 1);
      canStart d 0x0503 [1] s = true ∧ d.arg [1] 0 < 32 ∧ ownC s d (.channel (d.arg [1] 0)) = 0) ∧
    (let d : Desc := bufCmd; let s : State := hold bufCmd (capt.claim (.channel 31) 1);
      canStart d 0x0504 [1, 8, 4, 2] s = true ∧ bufferOk d = true ∧ ownC s d (.channel (d.arg [1, 8, 4, 2] 0)) = 0
      ∧ bindOwn s d [d.arg [1, 8, 4, 2] 3] = 0
      ∧ bindRoom s [(0x080 + d.arg [1, 8, 4, 2] 0, d.arg [1, 8, 4, 2] 3)] = true) ∧
    (let d : Desc := detCmd; let s : State := hold detCmd (capt.claim (.channel 0) 1);
      canStart d 0x0505 [1, 1, 4, 4, 4, 4, 2, 2] s = true ∧ detectorOk d = true
      ∧ ownC s d (.channel (d.arg [1, 1, 4, 4, 4, 4, 2, 2] 0)) = 0
      ∧ bindOwn s d [d.arg [1, 1, 4, 4, 4, 4, 2, 2] 6, d.arg [1, 1, 4, 4, 4, 4, 2, 2] 7] = 0
      ∧ bindRoom s [(0x0A0 + d.arg [1, 1, 4, 4, 4, 4, 2, 2] 0, d.arg [1, 1, 4, 4, 4, 4, 2, 2] 6), (0x0C0 + d.arg [1, 1, 4, 4, 4, 4, 2, 2] 0, d.arg [1, 1, 4, 4, 4, 4, 2, 2] 7)] = true) ∧
    (let d : Desc := coefCmd; let s : State := hold coefCmd ((up.claim .capture 1).setLe (poolAt + 252) 4 0x00FFFFFF);
      canStart d 0x0507 [1, 2, 8] s = true ∧ d.arg [1, 2, 8] 0 < 4 ∧ ownC s d .capture = 0
      ∧ memReads d (d.arg [1, 2, 8] 2) 256 s = true) ∧
    (let d : Desc := swapCmd;
      let s : State := hold swapCmd (flds [(DEC_FIR_CTRL_PENDING 3, 2)] (up.claim .capture 1));
      canStart d 0x0508 [1] s = true ∧ d.arg [1] 0 < 4 ∧ ownC s d .capture = 0
      ∧ s.getF (DEC_FIR_CTRL_PENDING (d.arg [1] 0)) ≠ 3) ∧
    (let d : Desc := swapCmd;
      let s : State := hold swapCmd (flds [(DEC_FIR_CTRL_PENDING 3, 3)] (up.claim .capture 1));
      canStart d 0x0508 [1] s = true ∧ d.arg [1] 0 < 4 ∧ ownC s d .capture = 0
      ∧ s.getF (DEC_FIR_CTRL_PENDING (d.arg [1] 0)) = 3) ∧
    (let d : Desc := syncCmd; let s : State := hold syncCmd (up.claim .capture 1); canStart d 0x0509 [1, 8] s = true
      ∧ ownC s d .capture = 0 ∧ d.arg [1, 8] 0 ≤ 1 ∧ (d.arg [1, 8] 0 = 1 → s.isSet DEC_SYNC_STAT_PENDING = false)) := by
  refine ⟨?_, ?_, ?_, ?_, ?_, ?_, ?_, ?_, ?_⟩ <;> decide +kernel

theorem test_witness_PortClocksAndWords :
    (let g : Nat := 3;
      let s : State := flds [(TDM_CLK_ROLE 3, 2), (TDM_CLK_STAT_RUN 3, 1), (TDM_CLK_FRAME_LEN 3, 64)] (atTick 900 up);
      g < 4 ∧ grpRole s g = 2) ∧
    (let g : Nat := 3; let s : State := atTick 64 slaveUp; slaveRuns g s = true
      ∧ s.isSet (TDM_CLK_STAT_LOST g) = false ∧ frameStart s g + framePeriod s g ≤ s.now) ∧
    (let g : Nat := 3; let s : State := atTick 128 slaveUp; let pos : Nat := 0; slaveRuns g s = true
      ∧ frameStart s g + pos * bclk16 s g / 16 + 2 * framePeriod s g ≤ s.now) ∧
    (let n : Nat := 0; let l : Nat := 0; let k : Nat := 0; let s : State := flds [(TDM_CFG_HIZ_UNUSED 0 0, 1)] txNow;
      let i : Nat := 1; let fs : Nat := 256; fetchesNow n l k i fs s = true ∧ imgSrc (s.tslot n l k).img = 0) ∧
    (let n : Nat := 0; let l : Nat := 0; let k : Nat := 0;
      let s : State := txNow.setTslot 0 0 0 { TdmSlot.reset with img := 2, muted := false }; let i : Nat := 1;
      let fs : Nat := 256; fetchesNow n l k i fs s = true ∧ imgSrc (s.tslot n l k).img = 2) ∧
    (let n : Nat := 0; let l : Nat := 0; let k : Nat := 0; let w : Nat := 0x7FFFFFFF; let mark : Option Nat := none;
      let rest : List (Nat × Option Nat) := [];
      let s : State := (txNow.setTslot 0 0 0 { TdmSlot.reset with img := 1, muted := false }).setTline 0 0 0 { TdmLine.reset with fifo := [(0x7FFFFFFF, none)] };
      let i : Nat := 1; let fs : Nat := 256; fetchesNow n l k i fs s = true ∧ fifoFed n l k i s = true
      ∧ (dropOwed (s.tline n 0 l)).fifo = (w, mark) :: rest) ∧
    (let n : Nat := 0; let l : Nat := 0; let k : Nat := 0;
      let s : State := txNow.setTslot 0 0 0 { TdmSlot.reset with img := 1, muted := false }; let i : Nat := 1;
      let fs : Nat := 256; fetchesNow n l k i fs s = true ∧ fifoFed n l k i s = true
      ∧ (dropOwed (s.tline n 0 l)).fifo = [] ∧ ringDry n l s = true) ∧
    (let n : Nat := 3; let l : Nat := 1; let s : State := rxNow; let stamp : Nat := 5; n < 4 ∧ l < 2
      ∧ rxLive s n stamp = true ∧ fifoSlots s n 1 l ≠ []) ∧
    (let n : Nat := 0; let l : Nat := 1;
      let s : State := (flds [(TDM_RING_CFG_EN 0 0 1, 1), (TDM_RING_CFG_SIZE 0 0 1, 6), (TDM_RING_PTR_SW 0 0 1, 2), (TDM_RING_PTR_HW 0 0 1, 0), (TDM_RING_LO_BASE 0 0 1, 0x80)] txNow).setLe 0x2004 4 99;
      n < 4 ∧ l < 2 ∧ takesAt s n 0 (s.tdir n 0).frames = true ∧ s.isSet (TDM_RING_CFG_EN n 0 l) = true
      ∧ hostFed s n l = false ∧ (s.tline n 0 l).owed = 0 ∧ ringWordsOk n 0 l (refillCount n l s) false s = true) ∧
    (let n : Nat := 3; let l : Nat := 1;
      let s : State := (flds [(TDM_RING_CFG_EN 3 1 1, 1), (TDM_RING_CFG_SIZE 3 1 1, 6), (TDM_RING_LO_BASE 3 1 1, 0x80)] rxNow).setTline 3 1 1 { TdmLine.reset with fifo := [(5, none), (6, none)] };
      n < 4 ∧ l < 2 ∧ tdState s n 1 ≠ tsWAIT ∧ s.isSet (TDM_RING_CFG_EN n 1 l) = true
      ∧ ringWordsOk n 1 l (drainCount n l s) true s = true) := by
  refine ⟨?_, ?_, ?_, ?_, ?_, ?_, ?_, ?_, ?_, ?_⟩ <;> decide +kernel

theorem test_witness_StartStopAndChanges :
    (let s : State := flds [(TDM_TRIG_CTRL_ARM_MASK, 3), (TDM_TRIG_CTRL_SRC, 0)] (atTick 100 up);
      s.isSet TDM_TRIG_CTRL_PENDING = false) ∧
    (let s : State := flds [(TDM_TRIG_CTRL_PENDING, 1)] up; s.isSet TDM_TRIG_CTRL_PENDING = true) ∧
    (let rising : Bool := true;
      let s : State := flds [(TDM_TRIG_CTRL_PENDING, 1), (TDM_TRIG_CTRL_SRC, 2), (TDM_TRIG_CTRL_EDGE, 0)] up;
      s.isSet TDM_TRIG_CTRL_PENDING = true ∧ s.getF TDM_TRIG_CTRL_SRC = 2 ∧ s.tdm.trigAt = none
      ∧ s.isSet TDM_TRIG_CTRL_EDGE = !rising) ∧
    (let s : State := onTdm (fun t => { t with trigAt := some 96 }) (flds [(TDM_TRIG_CTRL_PENDING, 1)] (atTick 96 up));
      let T : Nat := 96; s.tdm.trigAt = some T ∧ T ≤ s.now ∧ s.isSet TDM_TRIG_CTRL_PENDING = true) ∧
    (let n : Nat := 0; let d : Nat := 0;
      let s : State := (flds [(TDM_CTRL_STATE 0 0, 2), (TDM_CFG_LEAD 0 0, 2)] txNow).setTdir 0 0 { TdmDir.reset with frames := 2 };
      n < 4 ∧ d < 2 ∧ tdState s n d = tsLEAD ∧ (s.tdir n d).lead ≤ (s.tdir n d).frames) ∧
    (let n : Nat := 3; let d : Nat := 1; let s : State := flds [(TDM_CTRL_STATE 3 1, 6)] up; n < 4 ∧ d < 2
      ∧ tdState s n d ≤ tsWAIT) ∧
    (let n : Nat := 3; let d : Nat := 1;
      let s : State := (flds [(TDM_CTRL_STATE 3 1, 5)] up).setTdir 3 1 { TdmDir.reset with tail := 1 }; n < 4 ∧ d < 2
      ∧ tdState s n d = tsTAIL ∧ (if d = 0 then s.getF (TDM_CFG_LEAD n d) + 1 else 1) ≤ (s.tdir n d).tail) ∧
    (let n : Nat := 3; let l : Nat := 1; let k : Nat := 31;
      let s : State := (flds [(TDM_TX_SLOT_SRC 3 1 31, 2)] up).setTslot 3 1 31 { TdmSlot.reset with since := some 0 };
      n < 4 ∧ l < 2 ∧ k < 32 ∧ changeMay n l k s = true) ∧
    (let n : Nat := 3; let l : Nat := 1; let k : Nat := 31; let x : Nat := 0;
      let s : State := (flds [(TDM_TX_SLOT_SRC 3 1 31, 2), (TDM_TX_SLOT_SIL 3 1 31, 2), (TDM_ZC_TO 3 0, 10)] (atTick 98304 up)).setTslot 3 1 31 { TdmSlot.reset with since := some 0 };
      n < 4 ∧ l < 2 ∧ k < 32 ∧ (s.tslot n l k).since = some x ∧ zeroCross s n l k = true
      ∧ clampN 1 500 (s.getF (TDM_ZC_TO n 0)) * 49152 ≤ 5 * (s.now - x)) ∧
    (let high : Bool := true; let s : State := onPins (fun p => { p with muteN := false }) up; s.pins.muteN ≠ high) := by
  refine ⟨?_, ?_, ?_, ?_, ?_, ?_, ?_, ?_, ?_, ?_⟩ <;> decide +kernel

theorem test_witness_PortCommands :
    (let d : Desc := tclkCmd; let s : State := hold tclkCmd up; canStart d 0x0401 [1, 4] s = true ∧ d.arg [1, 4] 0 < 4
      ∧ claimC s d (.tdm (d.arg [1, 4] 0)) = 0 ∧ imgOk (TDM_CLK (d.arg [1, 4] 0)) [] [] (d.arg [1, 4] 1) = 0
      ∧ clkOk (d.arg [1, 4] 1) = true ∧ (TDM_CLK_ROLE 0).img (d.arg [1, 4] 1) ≠ 3
      ∧ framesFit s (d.arg [1, 4] 0) (d.arg [1, 4] 1) = true ∧ grpServes s (d.arg [1, 4] 0) = false) ∧
    (let d : Desc := tdirCmd; let s : State := hold tdirCmd ((flds [(TDM_CLK_FRAME_LEN 3, 256)] up).claim (.tdm 3) 1);
      canStart d 0x0402 [1, 1, 4, 4] s = true ∧ dirOk d s = true
      ∧ dirClaims s d (d.arg [1, 1, 4, 4] 0) ((TDM_CFG_CLK_SEL 0 0).img (d.arg [1, 1, 4, 4] 2)) = 0) ∧
    (let d : Desc := tslotCmd; let s : State := hold tslotCmd ((up.claim (.tdm 3) 1).setLe poolAt 4 1);
      canStart d 0x0403 [1, 1, 1, 1, 1, 8] s = true ∧ slotsOk d s = true
      ∧ ownC s d (.tdm (d.arg [1, 1, 1, 1, 1, 8] 0)) = 0
      ∧ memReads d (d.arg [1, 1, 1, 1, 1, 8] 5) (4 * d.arg [1, 1, 1, 1, 1, 8] 4) s = true) ∧
    (let d : Desc := tringCmd; let s : State := hold tringCmd (up.claim (.tdm 3) 1);
      canStart d 0x0404 [1, 1, 1, 8, 4, 2] s = true ∧ tdmRingOk d = true
      ∧ ownC s d (.tdm (d.arg [1, 1, 1, 8, 4, 2] 0)) = 0 ∧ bindOwn s d [d.arg [1, 1, 1, 8, 4, 2] 5] = 0
      ∧ bindRoom s [(0x020 + 4 * d.arg [1, 1, 1, 8, 4, 2] 0 + 2 * d.arg [1, 1, 1, 8, 4, 2] 1 + d.arg [1, 1, 1, 8, 4, 2] 2, d.arg [1, 1, 1, 8, 4, 2] 5)] = true) ∧
    (let d : Desc := tstartCmd; let s : State := hold tstartCmd (up.claim (.tdm 3) 1);
      canStart d 0x0405 [1, 1, 1, 8] s = true ∧ maskOwn s d (d.arg [1, 1, 1, 8] 0) = 0 ∧ d.arg [1, 1, 1, 8] 0 ≠ 0
      ∧ d.arg [1, 1, 1, 8] 1 ≤ 2 ∧ d.arg [1, 1, 1, 8] 2 ≤ 1 ∧ (d.arg [1, 1, 1, 8] 1 = 1 ∨ d.arg [1, 1, 1, 8] 3 = 0)
      ∧ s.isSet TDM_TRIG_CTRL_PENDING = false) ∧
    (let d : Desc := tstopCmd; let s : State := hold tstopCmd (flds [(TDM_CTRL_STATE 3 1, 3)] (up.claim (.tdm 3) 1));
      canStart d 0x0406 [1] s = true ∧ maskOwn s d (d.arg [1] 0) = 0 ∧ d.arg [1] 0 ≠ 0) ∧
    (let d : Desc := tmuteCmd; let s : State := hold tmuteCmd up; canStart d 0x0407 [1, 1] s = true
      ∧ d.arg [1, 1] 0 < 4 ∧ d.arg [1, 1] 1 ≤ 1) := by
  refine ⟨?_, ?_, ?_, ?_, ?_, ?_, ?_⟩ <;> decide +kernel

theorem test_witness_ConvertersAndReceiver :
    (let n : Nat := 7; let s : State := flds [(ASRC_STAT_STATE 7, 1)] up; n < 8 ∧ asrcState s n ≠ 0) ∧
    (let n : Nat := 7; let r : Nat := 2 ^ 40; let stamp : Nat := 200000;
      let s : State := (atTick 300000 (flds [(ASRC_STAT_STATE 7, 1)] up)).setAsrc 7 { Asrc.reset with testAt := 3000, testR := 2 ^ 40, stable := 15 };
      n < 8 ∧ lockTest n r stamp s = true) ∧
    (let n : Nat := 7; let s : State := inwardNow; inwardDue n s = true) ∧
    (let n : Nat := 7;
      let s : State := flds [(ASRC_CFG_DIR 7, 1), (ASRC_CFG_EXT 7, 3), (TDM_RING_CFG_SIZE 3 0 0, 6), (TDM_RING_CFG_EN 3 0 0, 1), (TDM_RING_LO_BASE 3 0 0, 0x80), (TDM_CLK_STAT_RUN 3, 1), (ASRC_STAT_STATE 7, 2)] (inwardNow.claim (.converter 7) 1);
      outwardDue n s = true) ∧
    (let n : Nat := 7;
      let s : State := onLynx (fun l => { l with strms := [(0, { Strm.reset with opened := true, sink := 30, pos := 0 })] }) outwardNow;
      inputDue n s = true ∧ converterFed s n = true ∧ feedReads n s = true) ∧
    (let n : Nat := 7; let s : State := flds [(ASRC_RING_PTR_SW 7, 1)] (outwardNow.setLe 0x2000 4 0x12345600);
      inputDue n s = true ∧ converterFed s n = false ∧ inputReads n s = true) ∧
    (let n : Nat := 7; let s : State := outwardNow; inputDue n s = true ∧ converterFed s n = false
      ∧ idxDiff 16 (s.getF (ASRC_RING_PTR_SW n)) (s.getF (ASRC_RING_PTR_HW n)) = 0) ∧
    (let s : State := spOn; s.isSet SPDIF_CTRL_EN = true) ∧
    (let period : Nat := 32768;
      let s : State := onRate (fun r => { r with spdif := { Spdif.reset with run := 15 } }) spOn;
      s.isSet SPDIF_CTRL_EN = true ∧ s.isSet SPDIF_STAT_LOCK = false ∧ s.rate.spdif.run = 15 ∧ spdifRate period ≠ 0) ∧
    (let s : State := flds [(SPDIF_STAT_LOCK, 1)] spOn; s.isSet SPDIF_CTRL_EN = true ∧ s.isSet SPDIF_STAT_LOCK = true) ∧
    (let s : State := flds [(SPDIF_STAT_LOCK, 1)] spOn; s.isSet SPDIF_STAT_LOCK = true) ∧
    (let g : Nat := 0; let f : GuardFrame := ⟨5, [1, 2], 0, 0⟩; let rest : List GuardFrame := [];
      let s : State := (atTick 602117 up).setGuard 0 { GuardSt.reset with frames := [⟨5, [1, 2], 0, 0⟩] };
      (s.guard g).frames = f :: rest ∧ f.stamp + guardDelay s g ≤ s.now) ∧
    (let n : Nat := 3; let l : Nat := 1; let f : GuardFrame := ⟨5, [1], 0, 1⟩; let rest : List GuardFrame := [];
      let s : State := (atTick 24581 rxNow).setGuard 8 { GuardSt.reset with frames := [⟨5, [1], 0, 1⟩] }; n < 4
      ∧ l < 2 ∧ (s.guard (1 + 2 * n + l)).frames = f :: rest ∧ f.stamp + guardDelay s (1 + 2 * n + l) ≤ s.now
      ∧ rxLive s n f.stamp = true ∧ (s.tline n 1 l).fifo.length + f.words.length ≤ 64) ∧
    (let g : Nat := 8; let s : State := atTick 24576000 (flds [(GUARD_STAT_MUTED 8, 1)] up); g < 9
      ∧ s.isSet (GUARD_STAT_MUTED g) = true
      ∧ (s.guard g).lastBurst + max 10 ((GUARD_CFG_HOLD g).of (guardCfg s g).1) * 98304 ≤ s.now
      ∧ (g = 0 → (GUARD_CFG_DET_CS 0).of (guardCfg s 0).1 = 1 → s.rate.spdif.nonAudio = false)
      ∧ (s.guard g).due.all (fun q => decide (s.now < q.1)) = true) := by
  refine ⟨?_, ?_, ?_, ?_, ?_, ?_, ?_, ?_, ?_, ?_, ?_, ?_, ?_, ?_⟩ <;> decide +kernel

theorem test_witness_RateCommands :
    (let d : Desc := aopenCmd; let n : Nat := 0; let s : State := hold aopenCmd (up.claim (.tdm 0) 1);
      canStart d 0x0306 [4, 4, 4, 8, 4, 2, 2] s = true ∧ asrcOpenOk d s = true
      ∧ ownC s d (extClaim ((ASRC_CFG_EXT 0).img (d.arg [4, 4, 4, 8, 4, 2, 2] 0))) = 0
      ∧ bindOwn s d [d.arg [4, 4, 4, 8, 4, 2, 2] 5, d.arg [4, 4, 4, 8, 4, 2, 2] 6] = 0
      ∧ (List.range 8).find? (fun k => s.owner (.converter k) == none) = some n ∧ bindRoom s (asrcBinds d n) = true) ∧
    (let d : Desc := acloseCmd; let s : State := hold acloseCmd (up.claim (.converter 7) 1);
      canStart d 0x0307 [1] s = true ∧ d.arg [1] 0 < 8 ∧ ownC s d (.converter (d.arg [1] 0)) = 0) ∧
    (let d : Desc := spCmd; let s : State := hold spCmd up; canStart d 0x0409 [4, 8, 4, 2] s = true
      ∧ claimC s d .spdif = 0 ∧ bindOwn s d [d.arg [4, 8, 4, 2] 3] = 0
      ∧ bindRoom s [(0x031, d.arg [4, 8, 4, 2] 3)] = true ∧ imgOk SPDIF_CTRL [] [] (d.arg [4, 8, 4, 2] 0) = 0
      ∧ d.arg [4, 8, 4, 2] 1 < 2 ^ 40 ∧ d.arg [4, 8, 4, 2] 1 % 64 = 0
      ∧ imgOk SPDIF_RING_CFG [] [] (d.arg [4, 8, 4, 2] 2) = 0 ∧ 6 ≤ SPDIF_RING_CFG_SIZE.img (d.arg [4, 8, 4, 2] 2)) ∧
    (let d : Desc := guardCmd; let s : State := hold guardCmd (up.claim (.tdm 3) 1);
      canStart d 0x040B [1, 4, 4, 2] s = true ∧ guardOk d s = true ∧ ownC s d (guardRes (d.arg [1, 4, 4, 2] 0)) = 0
      ∧ bindOwn s d [d.arg [1, 4, 4, 2] 3] = 0
      ∧ bindRoom s [(0x038 + d.arg [1, 4, 4, 2] 0, d.arg [1, 4, 4, 2] 3)] = true) := by decide +kernel

theorem test_witness_GustLane :
    (let T : Nat := 4096; let ramp : Nat := 64; let samples : List (Int × Bool) := List.replicate 16 (5, false);
      let s : State := atTick 4335 (onGust (fun g => { g with strobed := some (4096, List.replicate 16 (5, false), 64) }) up);
      s.gust.strobed = some (T, samples, ramp) ∧ samples.length = 16 ∧ s.now = T + 239 ∧ s.gust.inst ≠ some T) ∧
    (let o : Nat := 31;
      let s : State := onGust (fun g => { g with monCnt := [(31, 16384)], monSum := [(31, 77)] }) (flds [(GUST_OUT_MON_EN 31, 1), (GUST_OUT_MON_WIN 31, 14), (GUST_OUT_MON_LIMIT 31, 1000)] up);
      o < 32 ∧ s.isSet (GUST_OUT_MON_EN o) = true
      ∧ 2 ^ clampN 6 14 (s.getF (GUST_OUT_MON_WIN o)) ≤ tabGet 0 o s.gust.monCnt) ∧
    (let s : State := swapNow; let land : Nat := 100; let cmd : Option (Src × Nat) := none;
      let rest : List (Option Nat × Option (Src × Nat)) := [(some 101, none)]; s.gust.swaps = (some land, cmd) :: rest
      ∧ swapDue s land = true) ∧
    (let s : State := onGust (fun g => { g with copying := some (0, [51]), coef := [(0, 5), (51, 6), (13312, 7)] }) (flds [(GUST_STAT_COPYING, 1)] up);
      let from' : Nat := 0; let kept : List Nat := [51]; s.gust.copying = some (from', kept)) ∧
    (let ini : Initiator := .sett; let s : State := flds [(GUST_COEF_ADDR_WORD, 51), (GUST_COEF_ADDR_PATH, 255)] up;
      reaches s ini GUST_COEF_DATA true = true ∧ s.getF GUST_COEF_ADDR_WORD ≤ 51) ∧
    (let ini : Initiator := .sett; let p : Nat := 255; let s : State := up; p < 256
      ∧ reaches s ini (GUST_PATH p) true = true) ∧
    (let ini : Initiator := .sett; let s : State := flds [(GUST_LOAD_CTRL_FIRST, 255), (GUST_LOAD_CTRL_COUNT, 1)] up;
      reaches s ini GUST_LOAD_CTRL true = true ∧ s.gust.load = none
      ∧ loadRange (s.getF GUST_LOAD_CTRL_FIRST) (s.getF GUST_LOAD_CTRL_COUNT) = true) ∧
    (let s : State := (onGust (fun g => { g with load := some (255, 1, 0x2000) }) up).setLe 0x2000 4 0x123456;
      let f : Nat := 255; let c : Nat := 1; let a : Nat := 0x2000; s.gust.load = some (f, c, a) ∧ loadRange f c = true
      ∧ gustLoadReads a (256 * c) (bankSwap s) = true ∧ s.marked GUST_LOAD_CTRL_GO 0 = false) ∧
    (let s : State := onGust (fun g => { g with load := some (0, 1, 0x2000) }) (up.claim .gust 2); let f : Nat := 0;
      let c : Nat := 1; let a : Nat := 0x2000; let b : Nat := 0x2000; s.gust.load = some (f, c, a)
      ∧ checkRange (bankSwap s) ⟨clsAUDIO, (match s.owner .gust with | some m => .sess [m] | none => .fw), false⟩ none a (256 * c) = .bad b
      ∧ s.marked GUST_LOAD_CTRL_GO 0 = false) := by
  refine ⟨?_, ?_, ?_, ?_, ?_, ?_, ?_, ?_, ?_⟩ <;> decide +kernel

theorem test_witness_GustCommands :
    (let d : Desc := gcfgCmd; let s : State := hold gcfgCmd up; canStart d 0x0601 [16, 4] s = true
      ∧ claimC s d .gust = 0 ∧ (List.range 16).all (fun k => decide (d.elem 0 1 k < 64)) = true
      ∧ imgOk GUST_CTRL [GUST_CTRL_EN] [] (d.arg [16, 4] 1) = 0 ∧ GUST_CTRL_RAMP.img (d.arg [16, 4] 1) ≤ 1024) ∧
    (let d : Desc := gpathCmd;
      let s : State := hold gpathCmd ((up.claim .gust 1).setLe poolAt 4 (image [(GUST_PATH_EN 0, 1), (GUST_PATH_NBQ 0, 4)]));
      canStart d 0x0602 [1, 2, 8] s = true ∧ ownC s d .gust = 0
      ∧ loadRange (d.arg [1, 2, 8] 0) (d.arg [1, 2, 8] 1) = true
      ∧ memReads d (d.arg [1, 2, 8] 2) (4 * d.arg [1, 2, 8] 1) s = true
      ∧ (gustImgs d s).all (fun v => imgOk (GUST_PATH 0) [] [] v == 0 && decide ((GUST_PATH_NBQ 0).img v ≤ 4)) = true) ∧
    (let d : Desc := gloadCmd; let s : State := hold gloadCmd (up.claim .gust 1); canStart d 0x0603 [1, 2, 8] s = true
      ∧ ownC s d .gust = 0 ∧ loadRange (d.arg [1, 2, 8] 0) (d.arg [1, 2, 8] 1) = true ∧ d.arg [1, 2, 8] 2 < 2 ^ 40
      ∧ d.arg [1, 2, 8] 2 % 16 = 0 ∧ s.gust.load = none) ∧
    (let d : Desc := gswapCmd; let s : State := hold gswapCmd (flds [(GUST_STAT_PENDING, 2)] (up.claim .gust 1));
      canStart d 0x0604 [] s = true ∧ ownC s d .gust = 0 ∧ s.getF GUST_STAT_PENDING ≠ 3) ∧
    (let d : Desc := gbindCmd; let s : State := hold gbindCmd (up.claim .gust 1); canStart d 0x0605 [1, 2, 2] s = true
      ∧ ownC s d .gust = 0 ∧ coresFree s d (d.arg [1, 2, 2] 0) = 0 ∧ d.arg [1, 2, 2] 0 < 16
      ∧ bindOwn s d [d.arg [1, 2, 2] 1, d.arg [1, 2, 2] 2] = 0
      ∧ bindRoom s [(0x0E0, d.arg [1, 2, 2] 1), (0x0E1, d.arg [1, 2, 2] 2)] = true) ∧
    (let d : Desc := gmonCmd;
      let s : State := hold gmonCmd ((up.claim .gust 1).setLe poolAt 4 (image [(GUST_OUT_MON_EN 0, 1), (GUST_OUT_MON_WIN 0, 6), (GUST_OUT_MON_LIMIT 0, 9)]));
      canStart d 0x0606 [1, 1, 8] s = true ∧ ownC s d .gust = 0 ∧ 1 ≤ d.arg [1, 1, 8] 1
      ∧ d.arg [1, 1, 8] 0 + d.arg [1, 1, 8] 1 ≤ 32 ∧ memReads d (d.arg [1, 1, 8] 2) (4 * d.arg [1, 1, 8] 1) s = true
      ∧ (gustMonImgs d s).all (fun v => imgOk (GUST_OUT_MON 0) [] [] v == 0 && decide (6 ≤ (GUST_OUT_MON_WIN 0).img v) && decide ((GUST_OUT_MON_WIN 0).img v ≤ 14)) = true) ∧
    (let d : Desc := gtripCmd; let s : State := hold gtripCmd (flds [(GUST_DIV_STAT_TRIP, 3)] (up.claim .gust 1));
      canStart d 0x0607 [4] s = true ∧ ownC s d .gust = 0) ∧
    (let d : Desc := gmuteCmd; let s : State := hold gmuteCmd up; canStart d 0x0608 [4] s = true) := by
  refine ⟨?_, ?_, ?_, ?_, ?_, ?_, ?_, ?_⟩ <;> decide +kernel

theorem test_witness_Sensing :
    (let n : Nat := 1;
      let s : State := atTick 24577 (onSense (fun x => { x with nextK := [(1, 2)] }) (flds [(SENSE_SYNC_CTRL_EN 1, 1), (SENSE_SYNC_START_LO_V 1, 1), (SENSE_SYNC_PERIOD_TICKS 1, 12288)] up));
      n < 2 ∧ s.isSet (SENSE_SYNC_CTRL_EN n) = true ∧ asleep s = false ∧ pulseAt n s ≤ s.now) ∧
    (let n : Nat := 1; let frames : List (List Int) := [[1, -2], [3, 4]]; let s : State := sportUp;
      let r : SportRun := ⟨0x170411, 0, true, none⟩; sportDue n r frames s = true) ∧
    (let rising : Bool := true;
      let s : State := atTick 500 (flds [(SENSE_IMU_CFG_EN, 1), (SENSE_IMU_CFG_MODE, 1), (SENSE_IMU_CFG_INT_POL, 1), (SENSE_IMU_ADJ_ADJ, 0xFFFF)] up);
      s.isSet SENSE_IMU_CFG_EN = true ∧ asleep s = false ∧ s.getF SENSE_IMU_CFG_MODE = 1
      ∧ s.isSet SENSE_IMU_CFG_INT_POL = rising) ∧
    (let s : State := atTick 500 (onSense (fun x => { x with imuDue := [(500, 490), (900, 890)] }) (flds [(SENSE_IMU_CFG_EN, 1)] up));
      let x : Nat := 500; let inst : Nat := 490; let rest : List (Nat × Nat) := [(900, 890)];
      s.sense.imuDue = (x, inst) :: rest ∧ x ≤ s.now ∧ s.isSet SENSE_IMU_CFG_EN = true ∧ s.sense.imuRun = none) ∧
    (let bs : List Byte := [1, 2, 3, 4, 5, 6, 7, 8, 9, 10, 11, 255]; let inst : Nat := 490;
      let s : State := atTick 5000 (onSense (fun x => { x with imuRun := some (490, 100) }) (flds [(SENSE_IMU_CFG_READ_LEN, 12)] up));
      let began : Nat := 100; s.sense.imuRun = some (inst, began)
      ∧ bs.length = clampN 12 16 (s.getF SENSE_IMU_CFG_READ_LEN) ∧ began + imuBitTicks s ≤ s.now) ∧
    (let w : Nat := 3;
      let s : State := atTick 500 (onSense (fun x => { x with wCand := [(3, some (499, false))] }) (flds [(SENSE_WHEEL_CFG_EN 3, 1), (SENSE_WHEEL_CFG_EDGE 3, 1), (SENSE_WHEEL_CFG_MIN_PULSE 3, 9)] up));
      w < 4 ∧ s.isSet (SENSE_WHEEL_CFG_EN w) = true ∧ asleep s = false) ∧
    (let w : Nat := 3; let x : Nat := 500; let r : Bool := true;
      let s : State := atTick 509 (onSense (fun x => { x with wCand := [(3, some (500, true))], wFifo := [(3, List.replicate 64 1)] }) (flds [(FOX_SENSOR_EN_ALL, 2 ^ 30 - 1), (SENSE_WHEEL_CFG_MIN_PULSE 3, 9)] up));
      w < 4 ∧ tabGet none w s.sense.wCand = some (x, r) ∧ x + s.getF (SENSE_WHEEL_CFG_MIN_PULSE w) ≤ s.now) ∧
    (let s : State := atTick 98304 (onSense (fun x => { x with wFifo := [(3, [5])] }) (flds [(FOX_CTRL_EN, 1), (FOX_CTRL_EGO_EN, 1)] up));
      egoDue s = true) := by
  refine ⟨?_, ?_, ?_, ?_, ?_, ?_, ?_, ?_⟩ <;> decide +kernel

theorem test_witness_HopsAndPublications :
    (let s : State := atTick 49152 (onFox (fun f => { f with writes := [(foxBase, [1])], regWrites := [(FOX_L2_WIN, 5)] }) up);
      s.now % hopTicks = 0 ∧ s.pwr.phase ≠ .parked) ∧
    (let core : Nat := 3; let sw : Nat := 0;
      let s : State := flds [(FOX_MARTEN_CORE_MASK, 8), (FOX_DOA_PTR_HW, 65279)] up; core < 4
      ∧ s.getB FOX_MARTEN_CORE_MASK core = true ∧ sw < 65536) ∧
    (let b : Nat := 98304; let spk : Nat := 5; let bs : List Byte := [1, 2];
      let s : State := onFox (fun f => { f with pub := some (98304, [1, 2], 5) }) (flds [(FOX_PUB_SEQ_SEQ, 0xFFFFFFFF)] up);
      s.fox.pub = some (b, bs, spk)) := by decide +kernel

theorem test_witness_SenseCommands :
    (let d : Desc := ssyncCmd; let s : State := hold ssyncCmd (atTick 20000 foxed);
      canStart d 0x0702 [1, 4, 4, 8, 2] s = true ∧ d.arg [1, 4, 4, 8, 2] 0 < 2 ∧ ownC s d .fox = 0
      ∧ bindOwn s d [d.arg [1, 4, 4, 8, 2] 4] = 0
      ∧ bindRoom s [(0x100 + d.arg [1, 4, 4, 8, 2] 0, d.arg [1, 4, 4, 8, 2] 4)] = true
      ∧ imgOk (SENSE_SYNC_CTRL (d.arg [1, 4, 4, 8, 2] 0)) [] [] (d.arg [1, 4, 4, 8, 2] 1) = 0
      ∧ 12288 ≤ d.arg [1, 4, 4, 8, 2] 2 ∧ 1 ≤ (SENSE_SYNC_CTRL_WIDTH 0).img (d.arg [1, 4, 4, 8, 2] 1)
      ∧ (SENSE_SYNC_CTRL_WIDTH 0).img (d.arg [1, 4, 4, 8, 2] 1) < d.arg [1, 4, 4, 8, 2] 2) ∧
    (let d : Desc := sportCmd; let s : State := hold sportCmd foxed; canStart d 0x0703 [1, 4, 4, 8, 4, 2] s = true
      ∧ sportCmdOk d s = true ∧ ownC s d .fox = 0 ∧ bindOwn s d [d.arg [1, 4, 4, 8, 4, 2] 5] = 0
      ∧ bindRoom s [(0x102 + d.arg [1, 4, 4, 8, 4, 2] 0, d.arg [1, 4, 4, 8, 4, 2] 5)] = true) ∧
    (let d : Desc := imuCmd; let s : State := hold imuCmd foxed; canStart d 0x0704 [4, 4, 4, 4, 4, 4, 2] s = true
      ∧ imuCmdOk d s = true ∧ ownC s d .fox = 0 ∧ bindOwn s d [d.arg [4, 4, 4, 4, 4, 4, 2] 6] = 0
      ∧ bindRoom s [(0x104, d.arg [4, 4, 4, 4, 4, 4, 2] 6)] = true) ∧
    (let d : Desc := wheelCmd; let s : State := hold wheelCmd foxed; canStart d 0x0705 [1, 4] s = true
      ∧ d.arg [1, 4] 0 < 4 ∧ ownC s d .fox = 0 ∧ imgOk (SENSE_WHEEL_CFG (d.arg [1, 4] 0)) [] [] (d.arg [1, 4] 1) = 0
      ∧ (SENSE_WHEEL_CFG_EDGE 0).img (d.arg [1, 4] 1) ≠ 0) ∧
    (let d : Desc := egoCmd;
      let s : State := hold egoCmd ((foxed.setLe 0x2000 4 (image [(FOX_EGO_CFG_WIN_MS, 20)])).setLe 0x20A8 4 (image [(FOX_EGO_RING_CFG_SIZE, 12)]));
      canStart d 0x0706 [8, 2, 2] s = true ∧ ownC s d .fox = 0 ∧ bindOwn s d [d.arg [8, 2, 2] 1, d.arg [8, 2, 2] 2] = 0
      ∧ bindRoom s [(0x10B, d.arg [8, 2, 2] 1), (0x10A, d.arg [8, 2, 2] 2)] = true
      ∧ memReads d (d.arg [8, 2, 2] 0) 0xAC s = true ∧ egoCmdOk d s = true) := by decide +kernel

theorem test_witness_FoxCommands :
    (let d : Desc := fcfgCmd; let s : State := hold fcfgCmd up; canStart d 0x0701 [4, 4, 4] s = true
      ∧ claimC s d .fox = 0 ∧ imgOk FOX_CTRL [] [] (d.arg [4, 4, 4] 0) = 0
      ∧ imgOk FOX_MARTEN [] [] (d.arg [4, 4, 4] 1) = 0) ∧
    (let d : Desc := fxfCmd; let s : State := hold fxfCmd (foxed.setLe 0x2000 8 0x0000000100000100);
      canStart d 0x0707 [1, 1, 8] s = true ∧ ownC s d .fox = 0 ∧ 1 ≤ d.arg [1, 1, 8] 1
      ∧ d.arg [1, 1, 8] 0 + d.arg [1, 1, 8] 1 ≤ 64 ∧ memReads d (d.arg [1, 1, 8] 2) (64 * d.arg [1, 1, 8] 1) s = true
      ∧ (List.range (d.arg [1, 1, 8] 1)).all (fun k => xformEntryOk (entryAt (tableBytes d [1, 1, 8] 2 (64 * d.arg [1, 1, 8] 1) s) 64 k) == 0) = true) ∧
    (let d : Desc := ffrCmd; let s : State := hold ffrCmd foxed; canStart d 0x0708 [1, 1, 1, 8] s = true
      ∧ ownC s d .fox = 0 ∧ d.arg [1, 1, 1, 8] 0 ≤ 2 ∧ 1 ≤ d.arg [1, 1, 1, 8] 2
      ∧ d.arg [1, 1, 1, 8] 1 + d.arg [1, 1, 1, 8] 2 ≤ (frameTable (d.arg [1, 1, 1, 8] 0)).2.1
      ∧ memReads d (d.arg [1, 1, 1, 8] 3) ((frameTable (d.arg [1, 1, 1, 8] 0)).2.2 * d.arg [1, 1, 1, 8] 2) s = true
      ∧ (List.range (d.arg [1, 1, 1, 8] 2)).all (fun k => frameEntryOk (d.arg [1, 1, 1, 8] 0) (entryAt (tableBytes d [1, 1, 1, 8] 3 ((frameTable (d.arg [1, 1, 1, 8] 0)).2.2 * d.arg [1, 1, 1, 8] 2) s) (frameTable (d.arg [1, 1, 1, 8] 0)).2.2 k) == 0) = true) ∧
    (let d : Desc := ftrkCmd; let s : State := hold ftrkCmd (foxed.setLe 0x2000 4 (image [(FOX_TRK_CFG_MODEL, 2)]));
      canStart d 0x0709 [8] s = true ∧ ownC s d .fox = 0 ∧ memReads d (d.arg [8] 0) 0x30 s = true
      ∧ (List.range 12).all (fun k => recImgOk 0x200B0100 (s.bytes (d.arg [8] 0) 0x30) k == 0) = true
      ∧ FOX_TRK_CFG_MODEL.img (recField (s.bytes (d.arg [8] 0) 0x30) 0 4) ≤ 2) ∧
    (let d : Desc := fsenCmd; let s : State := hold fsenCmd foxed; canStart d 0x070A [4] s = true ∧ ownC s d .fox = 0
      ∧ imgOk FOX_SENSOR_EN [] [] (d.arg [4] 0) = 0) ∧
    (let d : Desc := fgrCmd; let s : State := hold fgrCmd foxed; canStart d 0x070B [1, 16] s = true ∧ ownC s d .fox = 0
      ∧ d.arg [1, 16] 0 ≤ 8
      ∧ (List.range 8).all (fun k => if k < d.arg [1, 16] 0 then decide (d.elem 16 2 k < 1024) else d.elem 16 2 k == 0xFFFF) = true) ∧
    (let d : Desc := fobsCmd; let s : State := hold fobsCmd (foxed.setLe 0x2000 8 5); canStart d 0x070C [1, 8] s = true
      ∧ grantC s d = 0 ∧ 1 ≤ d.arg [1, 8] 0 ∧ d.arg [1, 8] 0 ≤ 64
      ∧ memReads d (d.arg [1, 8] 1) (32 * d.arg [1, 8] 0) s = true ∧ observeOk d s = true
      ∧ queueRoom s (d.arg [1, 8] 0) = true) ∧
    (let d : Desc := fmeasCmd; let s : State := hold fmeasCmd ((foxed.setLe 0x2000 8 5).setLe 0x2008 1 1);
      canStart d 0x070D [1, 8] s = true ∧ grantC s d = 0 ∧ 1 ≤ d.arg [1, 8] 0 ∧ d.arg [1, 8] 0 ≤ 64
      ∧ memReads d (d.arg [1, 8] 1) (64 * d.arg [1, 8] 0) s = true ∧ measureOk d s = true
      ∧ queueRoom s (d.arg [1, 8] 0) = true) ∧
    (let d : Desc := fsubCmd; let k : Nat := 1; let s : State := hold fsubCmd (foxed.claim (.subscriber 0) 2);
      canStart d 0x070E [8, 1, 2, 2] s = true ∧ d.arg [8, 1, 2, 2] 0 ≠ 0 ∧ d.arg [8, 1, 2, 2] 0 < 2 ^ 40
      ∧ d.arg [8, 1, 2, 2] 0 % 64 = 0 ∧ 1 ≤ d.arg [8, 1, 2, 2] 1 ∧ d.arg [8, 1, 2, 2] 1 ≤ 6
      ∧ bindOwn s d [d.arg [8, 1, 2, 2] 2, d.arg [8, 1, 2, 2] 3] = 0
      ∧ bindRoom s [(0x108, d.arg [8, 1, 2, 2] 2), (0x109, d.arg [8, 1, 2, 2] 3)] = true
      ∧ (List.range 8).find? (fun n => s.owner (.subscriber n) == none) = some k) ∧
    (let d : Desc := funsubCmd; let s : State := hold funsubCmd (foxed.claim (.subscriber 7) 1);
      canStart d 0x070E [8, 1, 2, 2] s = true ∧ d.arg [8, 1, 2, 2] 0 = 0
      ∧ bindOwn s d [d.arg [8, 1, 2, 2] 2, d.arg [8, 1, 2, 2] 3] = 0) := by
  refine ⟨?_, ?_, ?_, ?_, ?_, ?_, ?_, ?_, ?_, ?_⟩ <;> decide +kernel

theorem test_witness_MartenMacSlots :
    (let n : Nat := 3; let b : BitVec 128 := bun (macW 1) 0 0 0 0;
      let s : State := coreWith (bun (macW 1) 0 0 0 0) busyCore; let m : Nat := macW 1; issues n b s = true
      ∧ (m = (slots b).mac0 ∨ m = (slots b).mac1) ∧ macOp m = 0x01) ∧
    (let n : Nat := 3; let b : BitVec 128 := bun 0 (macW 2) 0 0 0;
      let s : State := coreWith (bun 0 (macW 2) 0 0 0) busyCore; let m : Nat := macW 2; issues n b s = true
      ∧ (m = (slots b).mac0 ∨ m = (slots b).mac1) ∧ macOp m = 0x02) ∧
    (let n : Nat := 3; let b : BitVec 128 := bun (macW 3) 0 0 0 0;
      let s : State := coreWith (bun (macW 3) 0 0 0 0) busyCore; let m : Nat := macW 3; issues n b s = true
      ∧ (m = (slots b).mac0 ∨ m = (slots b).mac1) ∧ macOp m = 0x03) ∧
    (let n : Nat := 3; let b : BitVec 128 := bun 0 (macW 4) 0 0 0;
      let s : State := coreWith (bun 0 (macW 4) 0 0 0) busyCore; let m : Nat := macW 4; issues n b s = true
      ∧ (m = (slots b).mac0 ∨ m = (slots b).mac1) ∧ macOp m = 0x04) ∧
    (let n : Nat := 3; let b : BitVec 128 := bun (macW 5) 0 0 0 0;
      let s : State := coreWith (bun (macW 5) 0 0 0 0) busyCore; let m : Nat := macW 5; issues n b s = true
      ∧ (m = (slots b).mac0 ∨ m = (slots b).mac1) ∧ macOp m = 0x05) ∧
    (let n : Nat := 3; let b : BitVec 128 := bun 0 (macW 6) 0 0 0;
      let s : State := coreWith (bun 0 (macW 6) 0 0 0) busyCore; let m : Nat := macW 6; issues n b s = true
      ∧ (m = (slots b).mac0 ∨ m = (slots b).mac1) ∧ macOp m = 0x06) ∧
    (let n : Nat := 3; let b : BitVec 128 := bun (macW 8) 0 0 0 0;
      let s : State := coreWith (bun (macW 8) 0 0 0 0) busyCore; let m : Nat := macW 8; issues n b s = true
      ∧ (m = (slots b).mac0 ∨ m = (slots b).mac1) ∧ macOp m = 0x08) ∧
    (let n : Nat := 3; let b : BitVec 128 := bun 0 (macW 9) 0 0 0;
      let s : State := coreWith (bun 0 (macW 9) 0 0 0) busyCore; let m : Nat := macW 9; issues n b s = true
      ∧ (m = (slots b).mac0 ∨ m = (slots b).mac1) ∧ macOp m = 0x09) ∧
    (let n : Nat := 3; let b : BitVec 128 := bun (macW 10) 0 0 0 0;
      let s : State := coreWith (bun (macW 10) 0 0 0 0) busyCore; let m : Nat := macW 10; issues n b s = true
      ∧ (m = (slots b).mac0 ∨ m = (slots b).mac1) ∧ macOp m = 0x0A) ∧
    (let n : Nat := 3; let b : BitVec 128 := bun 0 (macW 11) 0 0 0;
      let s : State := coreWith (bun 0 (macW 11) 0 0 0) busyCore; let m : Nat := macW 11; issues n b s = true
      ∧ (m = (slots b).mac0 ∨ m = (slots b).mac1) ∧ macOp m = 0x0B) ∧
    (let n : Nat := 3; let b : BitVec 128 := bun (macW 12) 0 0 0 0;
      let s : State := coreWith (bun (macW 12) 0 0 0 0) busyCore; let m : Nat := macW 12; issues n b s = true
      ∧ (m = (slots b).mac0 ∨ m = (slots b).mac1) ∧ macOp m = 0x0C) ∧
    (let n : Nat := 3; let b : BitVec 128 := bun 0 (macW 13) 0 0 0;
      let s : State := coreWith (bun 0 (macW 13) 0 0 0) busyCore; let m : Nat := macW 13; issues n b s = true
      ∧ (m = (slots b).mac0 ∨ m = (slots b).mac1) ∧ macOp m = 0x0D) ∧
    (let n : Nat := 3; let b : BitVec 128 := bun (macW 14) 0 0 0 0;
      let s : State := coreWith (bun (macW 14) 0 0 0 0) busyCore; let m : Nat := macW 14; issues n b s = true
      ∧ (m = (slots b).mac0 ∨ m = (slots b).mac1) ∧ macOp m = 0x0E) ∧
    (let n : Nat := 3; let b : BitVec 128 := bun 0 (macW 15) 0 0 0;
      let s : State := coreWith (bun 0 (macW 15) 0 0 0) busyCore; let m : Nat := macW 15; issues n b s = true
      ∧ (m = (slots b).mac0 ∨ m = (slots b).mac1) ∧ macOp m = 0x0F) ∧
    (let n : Nat := 3; let b : BitVec 128 := bun (macW 16) 0 0 0 0;
      let s : State := coreWith (bun (macW 16) 0 0 0 0) busyCore; let m : Nat := macW 16; issues n b s = true
      ∧ (m = (slots b).mac0 ∨ m = (slots b).mac1) ∧ macOp m = 0x10) ∧
    (let n : Nat := 3; let b : BitVec 128 := bun 0 (macW 17) 0 0 0;
      let s : State := coreWith (bun 0 (macW 17) 0 0 0) busyCore; let m : Nat := macW 17; issues n b s = true
      ∧ (m = (slots b).mac0 ∨ m = (slots b).mac1) ∧ macOp m = 0x11) ∧
    (let n : Nat := 3; let b : BitVec 128 := bun (macW 18) 0 0 0 0;
      let s : State := coreWith (bun (macW 18) 0 0 0 0) busyCore; let m : Nat := macW 18; issues n b s = true
      ∧ (m = (slots b).mac0 ∨ m = (slots b).mac1) ∧ macOp m = 0x12) ∧
    (let n : Nat := 3; let b : BitVec 128 := bun 0 (macW 19) 0 0 0;
      let s : State := coreWith (bun 0 (macW 19) 0 0 0) busyCore; let m : Nat := macW 19; issues n b s = true
      ∧ (m = (slots b).mac0 ∨ m = (slots b).mac1) ∧ macOp m = 0x13) ∧
    (let n : Nat := 3; let b : BitVec 128 := bun (macW 20) 0 0 0 0;
      let s : State := coreWith (bun (macW 20) 0 0 0 0) busyCore; let m : Nat := macW 20; issues n b s = true
      ∧ (m = (slots b).mac0 ∨ m = (slots b).mac1) ∧ macOp m = 0x14) ∧
    (let n : Nat := 3; let b : BitVec 128 := bun 0 (macW 21) 0 0 0;
      let s : State := coreWith (bun 0 (macW 21) 0 0 0) busyCore; let m : Nat := macW 21; issues n b s = true
      ∧ (m = (slots b).mac0 ∨ m = (slots b).mac1) ∧ macOp m = 0x15) ∧
    (let n : Nat := 3; let b : BitVec 128 := bun (macW 22) 0 0 0 0;
      let s : State := coreWith (bun (macW 22) 0 0 0 0) busyCore; let m : Nat := macW 22; issues n b s = true
      ∧ (m = (slots b).mac0 ∨ m = (slots b).mac1) ∧ macOp m = 0x16) ∧
    (let n : Nat := 3; let b : BitVec 128 := bun 0 (macW 23) 0 0 0;
      let s : State := coreWith (bun 0 (macW 23) 0 0 0) busyCore; let m : Nat := macW 23; issues n b s = true
      ∧ (m = (slots b).mac0 ∨ m = (slots b).mac1) ∧ macOp m = 0x17) ∧
    (let n : Nat := 3; let b : BitVec 128 := bun (macW 24) 0 0 0 0;
      let s : State := coreWith (bun (macW 24) 0 0 0 0) busyCore; let m : Nat := macW 24; issues n b s = true
      ∧ (m = (slots b).mac0 ∨ m = (slots b).mac1) ∧ macOp m = 0x18) ∧
    (let n : Nat := 3; let b : BitVec 128 := bun 0 (macW 25) 0 0 0;
      let s : State := coreWith (bun 0 (macW 25) 0 0 0) busyCore; let m : Nat := macW 25; issues n b s = true
      ∧ (m = (slots b).mac0 ∨ m = (slots b).mac1) ∧ macOp m = 0x19) ∧
    (let n : Nat := 3; let b : BitVec 128 := bun (macW 26) 0 0 0 0;
      let s : State := coreWith (bun (macW 26) 0 0 0 0) busyCore; let m : Nat := macW 26; issues n b s = true
      ∧ (m = (slots b).mac0 ∨ m = (slots b).mac1) ∧ macOp m = 0x1A) ∧
    (let n : Nat := 3; let b : BitVec 128 := bun 0 (macW 28) 0 0 0;
      let s : State := coreWith (bun 0 (macW 28) 0 0 0) busyCore; let m : Nat := macW 28; issues n b s = true
      ∧ (m = (slots b).mac0 ∨ m = (slots b).mac1) ∧ macOp m = 0x1C) ∧
    (let n : Nat := 3; let b : BitVec 128 := bun (macW 29) 0 0 0 0;
      let s : State := coreWith (bun (macW 29) 0 0 0 0) busyCore; let m : Nat := macW 29; issues n b s = true
      ∧ (m = (slots b).mac0 ∨ m = (slots b).mac1) ∧ macOp m = 0x1D) := by
  refine ⟨?_, ?_, ?_, ?_, ?_, ?_, ?_, ?_, ?_, ?_, ?_, ?_, ?_, ?_, ?_, ?_, ?_, ?_, ?_, ?_, ?_, ?_, ?_, ?_, ?_, ?_, ?_⟩ <;> decide +kernel

theorem test_witness_MartenMoveSlots :
    (let n : Nat := 3; let b : BitVec 128 := bun 0 0 (mvW 1 0 1 3 1 0 1 0) 0 0;
      let s : State := xDat (coreWith (bun 0 0 (mvW 1 0 1 3 1 0 1 0) 0 0) busyCore);
      let m : Nat := mvW 1 0 1 3 1 0 1 0; let base : Nat := coreX 3; issues n b s = true ∧ (m = (slots b).xm
      ∧ base = coreX n ∨ m = (slots b).ym ∧ base = coreY n) ∧ xmOp m = 0x1) ∧
    (let n : Nat := 3; let b : BitVec 128 := bun 0 0 (mvW 2 0 2 15 0 3 0 0) 0 0;
      let s : State := xDat (coreWith (bun 0 0 (mvW 2 0 2 15 0 3 0 0) 0 0) busyCore);
      let m : Nat := mvW 2 0 2 15 0 3 0 0; let base : Nat := coreX 3; issues n b s = true ∧ (m = (slots b).xm
      ∧ base = coreX n ∨ m = (slots b).ym ∧ base = coreY n) ∧ xmOp m = 0x2) ∧
    (let n : Nat := 3; let b : BitVec 128 := bun 0 0 0 (mvW 3 0 1 1 1 0 0 0) 0;
      let s : State := coreWith (bun 0 0 0 (mvW 3 0 1 1 1 0 0 0) 0) { busyCore with cr := tabIns 0x10 0x10004 busyCore.cr };
      let m : Nat := mvW 3 0 1 1 1 0 0 0; let base : Nat := coreY 3; issues n b s = true ∧ (m = (slots b).xm
      ∧ base = coreX n ∨ m = (slots b).ym ∧ base = coreY n) ∧ xmOp m = 0x3) ∧
    (let n : Nat := 3; let b : BitVec 128 := bun 0 0 0 (mvW 4 0 1 1 1 0 1 1) 0;
      let s : State := coreWith (bun 0 0 0 (mvW 4 0 1 1 1 0 1 1) 0) busyCore; let m : Nat := mvW 4 0 1 1 1 0 1 1;
      let base : Nat := coreY 3; issues n b s = true ∧ (m = (slots b).xm ∧ base = coreX n ∨ m = (slots b).ym
      ∧ base = coreY n) ∧ xmOp m = 0x4) ∧
    (let n : Nat := 3; let b : BitVec 128 := bun 0 0 (mvW 5 0 2 0 0 0 0 0) 0 0;
      let s : State := coreWith (bun 0 0 (mvW 5 0 2 0 0 0 0 0) 0 0) busyCore; let m : Nat := mvW 5 0 2 0 0 0 0 0;
      let base : Nat := coreX 3; issues n b s = true ∧ (m = (slots b).xm ∧ base = coreX n ∨ m = (slots b).ym
      ∧ base = coreY n) ∧ xmOp m = 0x5) ∧
    (let n : Nat := 3; let b : BitVec 128 := bun 0 0 (mvW 6 0 1 7 1 0 1 0) 0 0;
      let s : State := xDat (coreWith (bun 0 0 (mvW 6 0 1 7 1 0 1 0) 0 0) busyCore);
      let m : Nat := mvW 6 0 1 7 1 0 1 0; let base : Nat := coreX 3; issues n b s = true ∧ (m = (slots b).xm
      ∧ base = coreX n ∨ m = (slots b).ym ∧ base = coreY n) ∧ xmOp m = 0x6) ∧
    (let n : Nat := 3; let b : BitVec 128 := bun 0 0 0 (mvW 3 0 1 1 1 0 0 0) 0;
      let s : State := coreWith (bun 0 0 0 (mvW 3 0 1 1 1 0 0 0) 0) busyCore; issues n b s = true) := by
  refine ⟨?_, ?_, ?_, ?_, ?_, ?_, ?_⟩ <;> decide +kernel

theorem test_witness_MartenControlSlot :
    (let n : Nat := 3; let b : BitVec 128 := bun 0 0 0 0 24696061999;
      let s : State := coreWith (bun 0 0 0 0 24696061999) busyCore; issues n b s = true ∧ ctlOp (slots b).ctl = 0x01) ∧
    (let n : Nat := 3; let b : BitVec 128 := bun 0 0 0 0 34376515583;
      let s : State := coreWith (bun 0 0 0 0 34376515583) busyCore; issues n b s = true ∧ ctlOp (slots b).ctl = 0x02) ∧
    (let n : Nat := 3; let b : BitVec 128 := bun 0 0 0 0 51539607652;
      let s : State := coreWith (bun 0 0 0 0 51539607652) busyCore; issues n b s = true ∧ ctlOp (slots b).ctl = 0x03) ∧
    (let n : Nat := 3; let b : BitVec 128 := bun 0 0 0 0 75161971661;
      let s : State := coreWith (bun 0 0 0 0 75161971661) busyCore; issues n b s = true ∧ ctlOp (slots b).ctl = 0x04) ∧
    (let n : Nat := 3; let b : BitVec 128 := bun 0 0 0 0 95126814720;
      let s : State := coreWith (bun 0 0 0 0 95126814720) busyCore; issues n b s = true ∧ ctlOp (slots b).ctl = 0x05) ∧
    (let n : Nat := 3; let b : BitVec 128 := bun 0 0 0 0 103381204992;
      let s : State := coreWith (bun 0 0 0 0 103381204992) busyCore; issues n b s = true ∧ ctlOp (slots b).ctl = 0x06) ∧
    (let n : Nat := 3; let b : BitVec 128 := bun 0 0 0 0 120527519744;
      let s : State := coreWith (bun 0 0 0 0 120527519744) busyCore; issues n b s = true ∧ ctlOp (slots b).ctl = 0x07) ∧
    (let n : Nat := 3; let b : BitVec 128 := bun 0 0 0 0 137808052224;
      let s : State := coreWith (bun 0 0 0 0 137808052224) busyCore; issues n b s = true ∧ ctlOp (slots b).ctl = 0x08) ∧
    (let n : Nat := 3; let b : BitVec 128 := bun 0 0 0 0 154623016960;
      let s : State := coreWith (bun 0 0 0 0 154623016960) busyCore; issues n b s = true ∧ ctlOp (slots b).ctl = 0x09) ∧
    (let n : Nat := 3; let b : BitVec 128 := bun 0 0 0 0 171802886144;
      let s : State := coreWith (bun 0 0 0 0 171802886144) busyCore; issues n b s = true ∧ ctlOp (slots b).ctl = 0x0A) ∧
    (let n : Nat := 3; let b : BitVec 128 := bun 0 0 0 0 188978561024;
      let s : State := coreWith (bun 0 0 0 0 188978561024) busyCore; issues n b s = true ∧ ctlOp (slots b).ctl = 0x0B) ∧
    (let n : Nat := 3; let b : BitVec 128 := bun 0 0 0 0 212630241280;
      let s : State := coreWith (bun 0 0 0 0 212630241280) busyCore; issues n b s = true ∧ ctlOp (slots b).ctl = 0x0C) ∧
    (let n : Nat := 3; let b : BitVec 128 := bun 0 0 0 0 225745829888;
      let s : State := coreWith (bun 0 0 0 0 225745829888) busyCore; issues n b s = true ∧ ctlOp (slots b).ctl = 0x0D) ∧
    (let n : Nat := 3; let b : BitVec 128 := bun 0 0 0 0 240535535616;
      let s : State := coreWith (bun 0 0 0 0 240535535616) busyCore; issues n b s = true ∧ ctlOp (slots b).ctl = 0x0E) ∧
    (let n : Nat := 3; let b : BitVec 128 := bun 0 0 0 0 259585474560;
      let s : State := coreWith (bun 0 0 0 0 259585474560) busyCore; issues n b s = true ∧ ctlOp (slots b).ctl = 0x0F) ∧
    (let n : Nat := 3; let b : BitVec 128 := bun 0 0 0 0 553924952064;
      let s : State := coreWith (bun 0 0 0 0 553924952064) busyCore; issues n b s = true ∧ ctlOp (slots b).ctl = 0x20) ∧
    (let n : Nat := 3; let b : BitVec 128 := bun 0 0 0 0 567363502080;
      let s : State := coreWith (bun 0 0 0 0 567363502080) busyCore; issues n b s = true ∧ ctlOp (slots b).ctl = 0x21) ∧
    (let n : Nat := 3; let b : BitVec 128 := bun 0 0 0 0 643976658944;
      let s : State := coreWith (bun 0 0 0 0 643976658944) busyCore; issues n b s = true ∧ ctlOp (slots b).ctl = 0x25) ∧
    (let n : Nat := 3; let b : BitVec 128 := bun 0 0 0 0 653640335360;
      let s : State := coreWith (bun 0 0 0 0 653640335360) busyCore; issues n b s = true ∧ ctlOp (slots b).ctl = 0x26) ∧
    (let n : Nat := 3; let b : BitVec 128 := bun 0 0 0 0 687463202816;
      let s : State := coreWith (bun 0 0 0 0 687463202816) busyCore; issues n b s = true ∧ ctlOp (slots b).ctl = 0x28) ∧
    (let n : Nat := 3; let b : BitVec 128 := bun 0 0 0 0 720749199360;
      let s : State := coreWith (bun 0 0 0 0 720749199360) busyCore; issues n b s = true ∧ ctlOp (slots b).ctl = 0x29) ∧
    (let n : Nat := 3; let b : BitVec 128 := bun 0 0 0 0 755914244096;
      let s : State := flds [(DBG_STAT_ATTACHED, 1), (DBG_STAT_UNLOCKED, 1), (DBG_STAT_SCOPE, 1)] (coreWith (bun 0 0 0 0 755914244096) busyCore);
      issues n b s = true ∧ calm n s = true ∧ ctlOp (slots b).ctl = 0x2C) := by
  refine ⟨?_, ?_, ?_, ?_, ?_, ?_, ?_, ?_, ?_, ?_, ?_, ?_, ?_, ?_, ?_, ?_, ?_, ?_, ?_, ?_, ?_, ?_⟩ <;> decide +kernel

theorem test_witness_MartenControlFlow :
    (let n : Nat := 3; let b : BitVec 128 := bun 0 0 0 0 275951976448;
      let s : State := coreWith (bun 0 0 0 0 275951976448) busyCore; issues n b s = true ∧ (s.core n).rep = 0
      ∧ ctlOp (slots b).ctl = 0x10) ∧
    (let n : Nat := 3; let b : BitVec 128 := bun 0 0 0 0 294205194240;
      let s : State := coreWith (bun 0 0 0 0 294205194240) busyCore; issues n b s = true ∧ (s.core n).rep = 0
      ∧ ctlOp (slots b).ctl = 0x11) ∧
    (let n : Nat := 3; let b : BitVec 128 := bun 0 0 0 0 309237645312;
      let s : State := coreWith (bun 0 0 0 0 309237645312) { busyCore with rets := [(16383, 0x312)] };
      issues n b s = true ∧ (s.core n).rep = 0 ∧ ctlOp (slots b).ctl = 0x12) ∧
    (let n : Nat := 3; let b : BitVec 128 := bun 0 0 0 0 326417514496;
      let s : State := coreWith (bun 0 0 0 0 326417514496) { busyCore with rets := [(16383, 0x312)] };
      issues n b s = true ∧ (s.core n).rep = 0 ∧ ctlOp (slots b).ctl = 0x13) ∧
    (let n : Nat := 3; let b : BitVec 128 := bun 0 0 0 0 412317384711;
      let s : State := coreWith (bun 0 0 0 0 412317384711) busyCore; issues n b s = true ∧ (s.core n).rep = 0
      ∧ ctlOp (slots b).ctl = 0x18) ∧
    (let n : Nat := 3; let b : BitVec 128 := bun 0 0 0 0 430570471433;
      let s : State := coreWith (bun 0 0 0 0 430570471433) busyCore; issues n b s = true ∧ (s.core n).rep = 0
      ∧ ctlOp (slots b).ctl = 0x19) ∧
    (let n : Nat := 3; let b : BitVec 128 := bun 0 0 0 0 463856205824;
      let s : State := coreWith (bun 0 0 0 0 463856205824) busyCore; issues n b s = true ∧ (s.core n).rep = 0
      ∧ ctlOp (slots b).ctl = 0x1A) ∧
    (let n : Nat := 3; let b : BitVec 128 := bun 0 0 0 0 463860662272;
      let s : State := coreWith (bun 0 0 0 0 463860662272) busyCore; issues n b s = true ∧ (s.core n).rep = 0
      ∧ ctlOp (slots b).ctl = 0x1B) ∧
    (let n : Nat := 3; let b : BitVec 128 := bun 0 0 0 0 481036337152;
      let s : State := coreWith (bun 0 0 0 0 481036337152) { busyCore with loops := [(3, 0, 16383)] };
      issues n b s = true ∧ (s.core n).rep = 0 ∧ ctlOp (slots b).ctl = 0x1C) ∧
    (let n : Nat := 3; let b : BitVec 128 := bun 0 0 0 0 618475290624;
      let s : State := coreWith (bun 0 0 0 0 618475290624) busyCore; issues n b s = true ∧ calm n s = true
      ∧ ctlOp (slots b).ctl = 0x24) ∧
    (let n : Nat := 3; let b : BitVec 128 := bun 0 (macW 1) 0 0 0;
      let s : State := coreWith (bun 0 (macW 1) 0 0 0) { busyCore with loops := [(2, 0, 0)] }; issues n b s = true
      ∧ ctlFlow (ctlOp (slots b).ctl) = false ∧ ctlPutsCr (ctlOp (slots b).ctl) = false) := by
  refine ⟨?_, ?_, ?_, ?_, ?_, ?_, ?_, ?_, ?_, ?_, ?_⟩ <;> decide +kernel

theorem test_witness_MartenEngines :
    (let n : Nat := 3;
      let s : State := atTick 500 (flds [(MARTEN_TIMER_CTRL_EN 3, 1), (MARTEN_TIMER_LO_V 3, 500)] up); n < 4
      ∧ s.isSet (MARTEN_TIMER_CTRL_EN n) = true ∧ (s.core n).timed = false ∧ s.r64 (MARTEN_TIMER_LO n) ≤ s.now) ∧
    (let n : Nat := 3; let k : Nat := 21; let lv : Nat := 3; let s : State := coreIn 3 irqCore; n < 4
      ∧ (coreState s n = 2 ∨ coreState s n = 3) ∧ (s.core n).rep = 0 ∧ bitOf s.dbg.stepping n = false
      ∧ acceptable (s.core n) = some (k, lv) ∧ (s.core n).rets.length < 16) ∧
    (let n : Nat := 3; let k : Nat := 21; let lv : Nat := 3;
      let s : State := coreIn 2 { irqCore with rets := List.replicate 16 (1, 2) }; n < 4
      ∧ (coreState s n = 2 ∨ coreState s n = 3) ∧ (s.core n).rep = 0 ∧ bitOf s.dbg.stepping n = false
      ∧ acceptable (s.core n) = some (k, lv) ∧ 16 ≤ (s.core n).rets.length) ∧
    (let n : Nat := 3; let f : FarAcc := farAt false true 0x2000; let r : List FarAcc := [farAt true false 0x3000];
      let s : State := (coreIn 2 { busyCore with far := [farAt false true 0x2000, farAt true false 0x3000] }).setLe 0x2000 16 0x12345678_80000000_FFFFFFFF_00000100;
      n < 4 ∧ (s.core n).far = f :: r ∧ f.store = false ∧ farPlain n f s = true ∧ noneCloses s = true) ∧
    (let n : Nat := 3; let f : FarAcc := farAt true true 0x2000; let r : List FarAcc := [];
      let s : State := coreIn 2 { busyCore with far := [farAt true true 0x2000] }; n < 4 ∧ (s.core n).far = f :: r
      ∧ f.store = true ∧ f.data.length = (if f.vec then 4 else 1) ∧ farPlain n f s = true ∧ noneCloses s = true) ∧
    (let n : Nat := 3; let a : Nat := 0x30000000; let f : FarAcc := farAt true true 0x30000000;
      let r : List FarAcc := []; let s : State := coreIn 2 { busyCore with far := [farAt true true 0x30000000] };
      n < 4 ∧ (s.core n).far = f :: r ∧ (f.vec = true → kindOf s f.addr ≠ .regs)
      ∧ coreRange s n f.addr (farLen f) f.store = .bad a ∧ a < 2 ^ 40 ∧ coreState s n = 2 ∧ noneCloses s = true) ∧
    (let n : Nat := 3; let f : FarAcc := farAt false true 0x20000000; let r : List FarAcc := [];
      let s : State := coreIn 2 { busyCore with far := [farAt false true 0x20000000] }; n < 4
      ∧ (s.core n).far = f :: r ∧ f.vec = true ∧ kindOf s f.addr = .regs ∧ coreState s n = 2 ∧ noneCloses s = true) ∧
    (let n : Nat := 3; let c : Nat := 3;
      let s : State := flds [(MARTEN_DMA_LEN_BYTES 3 3, 65536), (MARTEN_DMA_SRC_LO_ADDR 3 3, 0x2000 / 4), (MARTEN_DMA_DST_LO_ADDR 3 3, 0x3000 / 4)] (coreIn 2 Core.reset);
      n < 4 ∧ c < 4 ∧ s.isSet (MARTEN_DMA_CTRL_BUSY n c) = false ∧ s.getF (MARTEN_DMA_LEN_BYTES n c) ≠ 0) ∧
    (let n : Nat := 3; let c : Nat := 3; let r : DmaRun := ⟨0x2000, 0x2004, 64, true⟩;
      let s : State := flds [(MARTEN_DMA_CTRL_BUSY 3 3, 1)] ((coreIn 2 { Core.reset with dma := [(3, ⟨0x2000, 0x2004, 64, true⟩)] }).setLe 0x2000 8 0x123456789ABCDEF);
      n < 4 ∧ c < 4 ∧ dmaOf s n c = some r ∧ dmaPlain n r s = true ∧ hostDone s (.dma n c) = true
      ∧ s.hostif.bad.contains (.dma n c) = false ∧ noneCloses s = true ∧ s.marked (MARTEN_DMA_CTRL_GO n c) 0 = false) ∧
    (let n : Nat := 3;
      let s : State := flds [(MARTEN_ENTRY_BUNDLE 3, 16383)] (coreIn 5 { busyCore with rets := [(1, 1)], loops := [(1, 1, 1)] });
      n < 4 ∧ (coreState s n = 1 ∨ coreState s n = 5) ∧ bpAt s n (s.getF (MARTEN_ENTRY_BUNDLE n)) = none) ∧
    (let n : Nat := 3; let s : State := coreIn 2 { busyCore with rep := 3 }; n < 4
      ∧ (coreState s n = 2 ∨ coreState s n = 3)) ∧
    (let n : Nat := 3; n < 4) := by
  refine ⟨?_, ?_, ?_, ?_, ?_, ?_, ?_, ?_, ?_, ?_, ?_, ?_⟩ <;> decide +kernel

theorem test_witness_MartenCommands :
    (let d : Desc := mopenCmd; let s : State := hold mopenCmd (up.setLe (coreX 3) 4 7); canStart d 0x0901 [1] s = true
      ∧ claimC s d (.core (d.arg [1] 0)) = 0 ∧ openOk d s = true) ∧
    (let d : Desc := mcodeCmd;
      let s : State := hold mcodeCmd ((coreIn 0 Core.reset).setLe poolAt 16 0x123456789ABCDEF0123456789ABCDEF0);
      canStart d 0x0902 [1, 1, 4, 4, 8] s = true ∧ coreC s d (d.arg [1, 1, 4, 4, 8] 0) = 0 ∧ loadOk d s = true) ∧
    (let d : Desc := mstartCmd; let s : State := hold mstartCmd (coreIn 1 Core.reset);
      canStart d 0x0903 [1, 2] s = true ∧ coreC s d (d.arg [1, 2] 0) = 0 ∧ d.arg [1, 2] 1 < 16384
      ∧ ((coreState s (d.arg [1, 2] 0) = 1 ∨ coreState s (d.arg [1, 2] 0) = 5))
      ∧ bpAt s (d.arg [1, 2] 0) (d.arg [1, 2] 1) = none) ∧
    (let d : Desc := mstopCmd; let s : State := hold mstopCmd (coreIn 2 { busyCore with rep := 2 });
      canStart d 0x0904 [1] s = true ∧ coreC s d (d.arg [1] 0) = 0
      ∧ ((coreState s (d.arg [1] 0) = 2 ∨ coreState s (d.arg [1] 0) = 3))) ∧
    (let d : Desc := msigCmd; let s : State := hold msigCmd (coreIn 2 Core.reset); canStart d 0x0905 [1, 4] s = true
      ∧ coreC s d (d.arg [1, 4] 0) = 0 ∧ d.arg [1, 4] 1 < 2 ^ 24) ∧
    (let d : Desc := mbindCmd; let s : State := hold mbindCmd ((coreIn 2 Core.reset).claim .clock 1);
      canStart d 0x0906 [1, 1, 2, 2, 2, 8] s = true ∧ coreC s d (d.arg [1, 1, 2, 2, 2, 8] 0) = 0
      ∧ bindOwn s d ((martenBinds d).map (·.2)) = 0 ∧ bindRoom s (martenBinds d) = true
      ∧ d.arg [1, 1, 2, 2, 2, 8] 1 < 16 ∧ bitsOf (d.arg [1, 1, 2, 2, 2, 8] 2) 12 3 = 0
      ∧ evKnown (d.arg [1, 1, 2, 2, 2, 8] 2 % 4096) = true
      ∧ evRight s d.session (d.arg [1, 1, 2, 2, 2, 8] 2 % 4096) = true) ∧
    (let d : Desc := mdmaCmd; let s : State := hold mdmaCmd (coreIn 2 Core.reset);
      canStart d 0x0907 [1, 1, 4, 8, 8] s = true ∧ coreC s d (d.arg [1, 1, 4, 8, 8] 0) = 0
      ∧ d.arg [1, 1, 4, 8, 8] 1 < 4 ∧ 0 < d.arg [1, 1, 4, 8, 8] 2 ∧ d.arg [1, 1, 4, 8, 8] 2 ≤ 262144
      ∧ d.arg [1, 1, 4, 8, 8] 2 % 4 = 0 ∧ d.arg [1, 1, 4, 8, 8] 3 % 4 = 0 ∧ d.arg [1, 1, 4, 8, 8] 4 % 4 = 0
      ∧ d.arg [1, 1, 4, 8, 8] 3 < 2 ^ 40 ∧ d.arg [1, 1, 4, 8, 8] 4 < 2 ^ 40
      ∧ s.isSet (MARTEN_DMA_CTRL_BUSY (d.arg [1, 1, 4, 8, 8] 0) (d.arg [1, 1, 4, 8, 8] 1)) = false) ∧
    (let d : Desc := mcloseCmd; let s : State := hold mcloseCmd (coreIn 5 Core.reset); canStart d 0x0909 [1] s = true
      ∧ coreC s d (d.arg [1] 0) = 0 ∧ (s.core (d.arg [1] 0)).rep = 0) := by
  refine ⟨?_, ?_, ?_, ?_, ?_, ?_, ?_, ?_⟩ <;> decide +kernel

theorem test_witness_LynxJobs :
    (let n : Nat := 7; let i : Nat := 5; let r : List Nat := [6];
      let s : State := onLynx (fun l => { l with jobs := [job7 5 2 1 9999999], infl := [(7, [5, 6])] }) lynxUp; n < 8
      ∧ engineRuns s n = true ∧ inflOf s n = i :: r) ∧
    (let n : Nat := 7; let j : LynxJob := job7 5 1 0 100;
      let s : State := onLynx (fun l => { l with jobs := [job7 4 0 0 200, job7 5 1 0 100] }) lynxUp; n < 8
      ∧ engineRuns s n = true ∧ (inflOf s n).length < 16 ∧ edfFirst s n (tileWaits s) = some j
      ∧ tileFetches s n j = true) ∧
    (let n : Nat := 7;
      let s : State := onLynx (fun l => { l with jobs := [job7 4 0 0 200], infl := [(7, List.replicate 16 4)] }) lynxUp;
      n < 8 ∧ engineRuns s n = true ∧ 16 ≤ (inflOf s n).length) ∧
    (let s : State := (onLynx (fun l => { l with jobs := [job7 4 0 0 200, job7 5 1 0 100] }) lynxUp);
      let n : Nat := 7; let p : LynxJob → Bool := (fun _ => true); let j : LynxJob := job7 5 1 0 100;
      edfFirst s n p = some j ∧ j ∈ jobsOf s n ∧ p j = true ∧ ∀ x ∈ jobsOf s n, p x = true) ∧
    (let k : Nat := 23; let h : Nat := 7; let s : State := atTick (49152 * 3 + 36864) lynxUp; releases s k = true
      ∧ streamRuns s k h = true) ∧
    (let k : Nat := 23; let h : Nat := 7; let cfg : Word := 0x33; let pol : Word := 0x00080101;
      let s : State := atTick (49152 * 3 + 36864) (lynxUp.setLstr 23 { LynxStr.reset with pend := some (some (7, 0x33, 0x00080101)) });
      releases s k = true ∧ (s.lstr k).pend = some (some (h, cfg, pol))) ∧
    (let k : Nat := 23;
      let s : State := atTick (49152 * 3 + 36864) (lynxUp.setLstr 23 { LynxStr.reset with prog := some 7, pend := some none });
      releases s k = true ∧ (s.lstr k).pend = some none) ∧
    (let n : Nat := 7; let j : LynxJob := job7 5 2 2 100;
      let s : State := atTick 100 (onLynx (fun l => { l with jobs := [job7 5 2 2 100] }) lynxUp); n < 8
      ∧ engineRuns s n = true ∧ standby s = false ∧ edfFirst s n (allTiles s) = some j ∧ j.slot < 24 ∧ s.now ≤ j.dl) ∧
    (let n : Nat := 7; let j : LynxJob := job7 5 2 2 100;
      let s : State := atTick 101 (onLynx (fun l => { l with jobs := [job7 5 2 2 100] }) lynxUp); n < 8
      ∧ engineRuns s n = true ∧ standby s = false ∧ edfFirst s n (allTiles s) = some j ∧ j.slot < 24 ∧ j.dl < s.now
      ∧ (s.strm j.slot).opened = true) ∧
    (let j : LynxJob := job7 5 1 0 100;
      let s : State := atTick 100 (onLynx (fun l => { l with jobs := [job7 5 1 0 100] }) lynxUp); j ∈ s.lynx.jobs
      ∧ j.slot < 24 ∧ j.dl ≤ s.now ∧ standby s = false ∧ (s.strm j.slot).opened = true) ∧
    (let n : Nat := 7;
      let s : State := flds [(HOSTIF_DIRECT_STAT_OPEN, 1), (LYNX_JOB_LO_BASE 7, 0x80)] ((lynxUp.setLe 0x2008 8 77).setLe 0x2038 8 7);
      n < 8 ∧ s.isSet HOSTIF_DIRECT_STAT_OPEN = true ∧ engineRuns s n = true ∧ (jobsOf s n).length < 32
      ∧ checkRange s ⟨clsLYNX, .fw, false⟩ none (pushAddr s n) 64 = .ok ∧ chanFull s false (pushAddr s n) 64 = false
      ∧ errWords s.ues (pushAddr s n) 64 = [] ∧ recField (s.bytes (pushAddr s n) 64) 0x38 8 % 8 = n
      ∧ progLive s (recField (s.bytes (pushAddr s n) 64) 0x38 8) = true) := by
  refine ⟨?_, ?_, ?_, ?_, ?_, ?_, ?_, ?_, ?_, ?_, ?_⟩ <;> decide +kernel

theorem test_witness_LynxCommands :
    (let d : Desc := lloadCmd; let n : Nat := 7; let s : State := hold lloadCmd lynxImage;
      canStart d 0x0801 [8, 8, 1, 1] s = true ∧ progLoads d n s = true) ∧
    (let d : Desc := lunCmd; let s : State := hold lunCmd lynxUp; canStart d 0x0802 [1] s = true
      ∧ progC s d (d.arg [1] 0) = 0) ∧
    (let d : Desc := lsbCmd; let p : LynxProg := prog7; let s : State := hold lsbCmd lynxUp;
      canStart d 0x0803 [1, 1, 4, 4] s = true ∧ slotC s d (d.arg [1, 1, 4, 4] 0) = 0
      ∧ progC s d (d.arg [1, 1, 4, 4] 1) = 0 ∧ lynxProg s (d.arg [1, 1, 4, 4] 1) = some p ∧ lynxBindOk d p s = true) ∧
    (let d : Desc := lsrCmd; let s : State := hold lsrCmd lynxUp; canStart d 0x0804 [1] s = true
      ∧ slotC s d (d.arg [1] 0) = 0) ∧
    (let d : Desc := lseCmd;
      let s : State := hold lseCmd (flds [(SYNC_OWN_VALID 5, 1), (SYNC_OWN_SESSION 5, 1)] lynxUp);
      canStart d 0x0805 [1, 2, 2, 2, 2] s = true ∧ slotC s d (d.arg [1, 2, 2, 2, 2] 0) = 0
      ∧ bindOwn s d ((List.range 4).map (fun i => d.arg [1, 2, 2, 2, 2] (1 + i))) = 0
      ∧ bindRoom s ((List.range 4).map (fun i => (0x180 + 0x20 * i + d.arg [1, 2, 2, 2, 2] 0, d.arg [1, 2, 2, 2, 2] (1 + i)))) = true) ∧
    (let d : Desc := lrunCmd; let p : LynxProg := { prog7 with kind := 2 };
      let s : State := hold lrunCmd ((onLynx (fun l => { l with progs := [(7, { prog7 with kind := 2 })] }) lynxUp).setLe 0x2000 24 0x0000000000003000_0000000000003400_0000000000003800);
      canStart d 0x0806 [1, 8, 8, 8] s = true ∧ progC s d (d.arg [1, 8, 8, 8] 0) = 0
      ∧ lynxProg s (d.arg [1, 8, 8, 8] 0) = some p ∧ lynxRunOk d p s = true) := by
  refine ⟨?_, ?_, ?_, ?_, ?_, ?_⟩ <;> decide +kernel

theorem test_witness_FogInstructions :
    (let p : Nat := 7; let o : FogOp := fop 1 (fins 1 0 0 0 0); let i : FogInstr := fins 1 0 0 0 0;
      let s : State := (((fogAt (fop 1 (fins 1 0 0 0 0))).setLe 0x2000 10 0x02_03_02_01_0001_54434746).setLe 0x2010 16 0x0000000000000063_4090000000000000).setLe 0x2040 16 0x00000000000000050000000000000007;
      fogNext s p 0x01 o i = true ∧ ctHere s o (opnd o i).1 (opnd o i).2.1 = true) ∧
    (let p : Nat := 7; let o : FogOp := fop 1 (fins 2 1 0 0 0); let i : FogInstr := fins 2 1 0 0 0;
      let c : FogCt := fct 2 1; let s : State := fogAt (fop 1 (fins 2 1 0 0 0)); fogNext s p 0x02 o i = true
      ∧ fogReg o i.a = some c ∧ c.words.length = c.comp * c.level * fogN o.keys
      ∧ ctBytes o.keys c.level c.comp ≤ (opnd o i).2.1
      ∧ fogAdm s o.sess (opnd o i).1 (ctBytes o.keys c.level c.comp) true = true) ∧
    (let p : Nat := 7; let o : FogOp := fop 1 (fins 3 0 0 20 0); let i : FogInstr := fins 3 0 0 20 0;
      let s : State := fogAt (fop 1 (fins 3 0 0 20 0)); fogNext s p 0x03 o i = true ∧ o.keys.pk ≠ 0 ∧ modsOk o = true
      ∧ fogAdm s o.sess (opnd o i).1 (opnd o i).2.1 false = true) ∧
    (let p : Nat := 7; let o : FogOp := fop 1 (fins 4 1 3 0 0); let i : FogInstr := fins 4 1 3 0 0;
      let x : FogCt := fct 2 1; let y : FogCt := fct 3 5; let s : State := fogAt (fop 1 (fins 4 1 3 0 0));
      fogNext s p 0x04 o i = true ∧ fogReg o i.a = some x ∧ fogReg o i.b = some y ∧ agree o x y = true) ∧
    (let p : Nat := 7; let o : FogOp := fop 1 (fins 5 1 3 0 0); let i : FogInstr := fins 5 1 3 0 0;
      let x : FogCt := fct 2 1; let y : FogCt := fct 3 5; let s : State := fogAt (fop 1 (fins 5 1 3 0 0));
      fogNext s p 0x05 o i = true ∧ fogReg o i.a = some x ∧ fogReg o i.b = some y ∧ agree o x y = true
      ∧ modsOk o = true) ∧
    (let p : Nat := 7; let o : FogOp := fop 1 (fins 9 1 4 0 0); let i : FogInstr := fins 9 1 4 0 0;
      let x : FogCt := fct 2 1;
      let y : FogCt := { fct 2 1 with level := 2, words := (List.range 16).map (fun k => k) };
      let s : State := fogAt (fop 1 (fins 9 1 4 0 0));
      (fogNext s p 0x04 o i || fogNext s p 0x05 o i || fogNext s p 0x09 o i) = true ∧ fogReg o i.a = some x
      ∧ fogReg o i.b = some y ∧ agree o x y = false) ∧
    (let p : Nat := 7; let o : FogOp := fop 1 (fins 6 1 0 (-3) 0); let i : FogInstr := fins 6 1 0 (-3) 0;
      let c : FogCt := fct 2 1; let s : State := fogAt (fop 1 (fins 6 1 0 (-3) 0)); fogNext s p 0x06 o i = true
      ∧ fogReg o i.a = some c
      ∧ (((fun s o i _ => modsOk o && fogAdm s o.sess (opnd o i).1 (opnd o i).2.1 false) : State → FogOp → FogInstr → FogCt → Bool) s o i c = true)) ∧
    (let p : Nat := 7; let o : FogOp := fop 1 (fins 7 1 0 1 0x4000000000000000);
      let i : FogInstr := fins 7 1 0 1 0x4000000000000000; let c : FogCt := fct 2 1;
      let s : State := fogAt (fop 1 (fins 7 1 0 1 0x4000000000000000)); fogNext s p 0x07 o i = true
      ∧ fogReg o i.a = some c ∧ (((fun _ _ _ _ => true) : State → FogOp → FogInstr → FogCt → Bool) s o i c = true)) ∧
    (let p : Nat := 7; let o : FogOp := fop 1 (fins 8 1 0 0 0xC000000000000000);
      let i : FogInstr := fins 8 1 0 0 0xC000000000000000; let c : FogCt := fct 2 1;
      let s : State := fogAt (fop 1 (fins 8 1 0 0 0xC000000000000000)); fogNext s p 0x08 o i = true
      ∧ fogReg o i.a = some c ∧ (((fun _ _ _ _ => true) : State → FogOp → FogInstr → FogCt → Bool) s o i c = true)) ∧
    (let p : Nat := 7; let o : FogOp := fop 1 (fins 9 1 2 0 0); let i : FogInstr := fins 9 1 2 0 0;
      let x : FogCt := fct 2 1; let y : FogCt := fct 2 30; let s : State := fogAt (fop 1 (fins 9 1 2 0 0));
      fogNext s p 0x09 o i = true ∧ fogReg o i.a = some x ∧ fogReg o i.b = some y ∧ agree o x y = true ∧ x.comp ≠ 3
      ∧ y.comp ≠ 3) ∧
    (let p : Nat := 7; let o : FogOp := fop 1 (fins 10 3 0 0 0); let i : FogInstr := fins 10 3 0 0 0;
      let c : FogCt := fct 3 5; let s : State := fogAt (fop 1 (fins 10 3 0 0 0)); fogNext s p 0x0A o i = true
      ∧ fogReg o i.a = some c
      ∧ (((fun s o _ c => modsOk o && keyHeld s o c.level 0) : State → FogOp → FogInstr → FogCt → Bool) s o i c = true)) ∧
    (let p : Nat := 7; let o : FogOp := fop 1 (fins 11 1 0 0 0); let i : FogInstr := fins 11 1 0 0 0;
      let c : FogCt := fct 2 1; let s : State := fogAt (fop 1 (fins 11 1 0 0 0)); fogNext s p 0x0B o i = true
      ∧ fogReg o i.a = some c
      ∧ (((fun _ o _ c => decide (1 < c.level) && o.keys.scheme == 1) : State → FogOp → FogInstr → FogCt → Bool) s o i c = true)) ∧
    (let p : Nat := 7; let o : FogOp := fop 2 (fins 12 1 0 0 0); let i : FogInstr := fins 12 1 0 0 0;
      let c : FogCt := fct 2 1; let s : State := fogAt (fop 2 (fins 12 1 0 0 0)); fogNext s p 0x0C o i = true
      ∧ fogReg o i.a = some c
      ∧ (((fun _ o _ c => modsOk o && decide (1 < c.level) && o.keys.scheme == 2) : State → FogOp → FogInstr → FogCt → Bool) s o i c = true)) ∧
    (let p : Nat := 7; let o : FogOp := fop 1 (fins 13 1 0 1 0); let i : FogInstr := fins 13 1 0 1 0;
      let c : FogCt := fct 2 1; let s : State := fogAt (fop 1 (fins 13 1 0 1 0)); fogNext s p 0x0D o i = true
      ∧ fogReg o i.a = some c
      ∧ (((fun s o i c => modsOk o && c.comp != 3 && keyHeld s o c.level (rotGalois o.keys i.imm)) : State → FogOp → FogInstr → FogCt → Bool) s o i c = true)) ∧
    (let p : Nat := 7; let o : FogOp := fop 1 (fins 14 1 0 0 0); let i : FogInstr := fins 14 1 0 0 0;
      let c : FogCt := fct 2 1; let s : State := fogAt (fop 1 (fins 14 1 0 0 0)); fogNext s p 0x0E o i = true
      ∧ fogReg o i.a = some c
      ∧ (((fun s o _ c => modsOk o && c.comp != 3 && keyHeld s o c.level (2 * fogN o.keys - 1)) : State → FogOp → FogInstr → FogCt → Bool) s o i c = true)) ∧
    (let p : Nat := 7; let o : FogOp := fop 1 (fins 15 3 0 1 0); let i : FogInstr := fins 15 3 0 1 0;
      let c : FogCt := fct 3 5; let s : State := fogAt (fop 1 (fins 15 3 0 1 0)); fogNext s p 0x0F o i = true
      ∧ fogReg o i.a = some c
      ∧ (((fun _ o i c => decide (1 ≤ i.imm) && decide (i.imm ≤ c.level) && c.words.length == c.comp * c.level * fogN o.keys) : State → FogOp → FogInstr → FogCt → Bool) s o i c = true)) ∧
    (let p : Nat := 7; let o : FogOp := fop 1 (fins 16 1 0 1 0); let i : FogInstr := fins 16 1 0 1 0;
      let c : FogCt := fct 2 1; let s : State := fogAt (fop 1 (fins 16 1 0 1 0)); fogNext s p 0x10 o i = true
      ∧ fogReg o i.a = some c
      ∧ (((fun s o i c => modsOk o && decide (1 ≤ i.imm) && decide (i.imm ≤ 63) && (i.imm == 1 || decide (c.comp ≤ 2)) && decide (Nat.log2 i.imm.toNat + 2 < c.level) && fogAdm s o.sess (opnd o i).1 (8 * (i.imm.toNat + 1)) false && (i.imm == 1 || (List.range c.level).all (fun l => keyHeld s o (l + 1) 0))) : State → FogOp → FogInstr → FogCt → Bool) s o i c = true)) ∧
    (let p : Nat := 7; let k : Nat := 1; let o : FogOp := fop 1 (fins 17 1 0 9 0); let i : FogInstr := fins 17 1 0 9 0;
      let c : FogCt := fct 2 1; let r : FogRing := ⟨0x3000, 0x4000, 2, 4096, 5⟩;
      let s : State := (fogAt (fop 1 (fins 17 1 0 9 0))).setFogRing 1 ⟨0x3000, 0x4000, 2, 4096, 5⟩;
      fogNext s p 0x11 o i = true ∧ fogReg o i.a = some c ∧ fogRing s o.sess = some r ∧ k < r.size
      ∧ r.count % r.size = k ∧ (slotsWaiting s o.sess).contains k = false ∧ ctBytes o.keys c.level c.comp ≤ r.slot
      ∧ c.words.length = c.comp * c.level * fogN o.keys
      ∧ fogAdm s o.sess (r.buf + k * r.slot) (ctBytes o.keys c.level c.comp) true = true
      ∧ fogAdm s o.sess (r.req + 64 * k) 64 true = true) := by
  refine ⟨?_, ?_, ?_, ?_, ?_, ?_, ?_, ?_, ?_, ?_, ?_, ?_, ?_, ?_, ?_, ?_, ?_, ?_⟩ <;> decide +kernel

theorem test_witness_FogCommands :
    (let d : Desc := fregCmd; let h : Nat := 3;
      let s : State := hold fregCmd (onFog (fun f => { f with keys := [(0, fkeys 1), (1, fkeys 1), (2, fkeys 1)] }) keyMem);
      canStart d 0x0A01 [8] s = true ∧ d.arg [8] 0 < 2 ^ 40 ∧ keysHere s d.session (d.arg [8] 0) = true
      ∧ freeHandle s = some h) ∧
    (let d : Desc := frelCmd; let s : State := hold frelCmd ((fogAt (fop 1 (fins 4 1 2 0 0))).claim (.keyset 3) 1);
      canStart d 0x0A02 [1] s = true ∧ keysC s d (d.arg [1] 0) = 0) ∧
    (let d : Desc := fringCmd; let s : State := hold fringCmd up; canStart d 0x0A03 [8, 8, 1, 4] s = true
      ∧ d.arg [8, 8, 1, 4] 0 < 2 ^ 40 ∧ d.arg [8, 8, 1, 4] 1 < 2 ^ 40 ∧ d.arg [8, 8, 1, 4] 0 % 64 = 0
      ∧ d.arg [8, 8, 1, 4] 1 % 64 = 0 ∧ 2 ≤ d.arg [8, 8, 1, 4] 2 ∧ d.arg [8, 8, 1, 4] 2 ≤ 64
      ∧ d.arg [8, 8, 1, 4] 3 < 2 ^ 24 ∧ slotsWaiting s d.session = [] ∧ d.session < 1023) ∧
    (let d : Desc := fevCmd; let p : Nat := 0; let ks : FogKeys := fkeys 1;
      let s : State := hold fevCmd (progMem.claim (.keyset 3) 1); canStart d 0x0A04 [8, 1] s = true
      ∧ keysC s d (d.arg [8, 1] 1) = 0 ∧ fogAccepts s = true ∧ d.arg [8, 1] 0 < 2 ^ 40
      ∧ fogKeys s (d.arg [8, 1] 1) = some ks ∧ progHere s d.session (d.arg [8, 1] 1) (d.arg [8, 1] 0) ks = true
      ∧ freePlace s = some p) ∧
    (let d : Desc := fretCmd; let p : Nat := 7; let o : FogOp := waiting; let i : FogInstr := fins 17 1 0 9 0;
      let c : FogCt := fct 2 1; let w : Nat × Nat × Nat := (6, 1000, 1);
      let s : State := hold fretCmd (retMem waiting); canStart d 0x0A05 [8, 8] s = true ∧ d.arg [8, 8] 1 < 2 ^ 40
      ∧ findWaiting s (fun o => o.sess == d.session) (d.arg [8, 8] 0) = some (p, o) ∧ fogOp s p = some o
      ∧ o.wait = some w ∧ o.instrs[o.pc]? = some i ∧ fogReg o i.a = some c
      ∧ returnFits s o c w.2.1 (d.arg [8, 8] 1) = true) ∧
    (let p : Nat := 0; let a : Nat := 0x2000; let h : Nat := 3; let ks : FogKeys := fkeys 1;
      let r : List (Nat × Nat) := [(5, 6)];
      let s : State := onFog (fun f => { f with queue := [(0x2000, 3), (5, 6)] }) progMem; s.fog.queue = (a, h) :: r
      ∧ fogAccepts s = true ∧ fogKeys s h = some ks ∧ progHere s 1023 h a ks = true ∧ freePlace s = some p) ∧
    (let p : Nat := 7; let st : Nat := 0; let a : Nat := 0; let seq : Nat := 0; let failing : Bool := false;
      let o : FogOp := { fop 1 (fins 4 1 2 0 0) with pc := 1, exch := 2 }; let src : Src := .mbox 0;
      let c : Cmd := ⟨.mbox 0, 0, (dsc 0x0A04 0).raw, .started, 0, 0, [], false, false, false, false, 5⟩;
      let s : State := opEnds; fogOp s p = some o ∧ fogOutcome o = some (st, failing, a)
      ∧ s.denrek.awaits = [(.fogOp p, src, seq)] ∧ findCmd s src seq = some c ∧ c.phase = .started
      ∧ (s.fog.keys.all (fun k => !k.2.leaving)) = true) ∧
    (let p : Nat := 7; let o : FogOp := waiting; let w : Nat × Nat × Nat := (6, 1000, 1);
      let s : State := atTick 1001 (fogAt waiting); fogOp s p = some o ∧ o.wait = some w ∧ w.2.1 < s.now) ∧
    (let s : State := flds [(HOSTIF_DIRECT_STAT_OPEN, 1), (FOG_OP_CTRL_KEYSET, 31)] (onFog (fun f => { f with queue := List.replicate 31 (1, 2) }) up);
      s.isSet HOSTIF_DIRECT_STAT_OPEN = true ∧ s.fog.queue.length < 32) ∧
    (let s : State := flds [(HOSTIF_DIRECT_STAT_OPEN, 1), (FOG_KS_CTRL_OP, 1), (FOG_KS_CTRL_SLOT, 31), (FOG_KS_LO_BASE, 0x80)] keyMem;
      s.isSet HOSTIF_DIRECT_STAT_OPEN = true ∧ s.getF FOG_KS_CTRL_OP = 1 ∧ fogKeys s (s.getF FOG_KS_CTRL_SLOT) = none
      ∧ keysHere s 1023 (fogKsAddr s) = true) ∧
    (let s : State := flds [(HOSTIF_DIRECT_STAT_OPEN, 1), (FOG_KS_CTRL_OP, 2), (FOG_KS_CTRL_SLOT, 3)] (onFog (fun f => { f with keys := [(3, fkeys 1)] }) up);
      s.isSet HOSTIF_DIRECT_STAT_OPEN = true ∧ s.getF FOG_KS_CTRL_OP = 2) ∧
    (let p : Nat := 7; let o : FogOp := { waiting with sess := 1023 }; let i : FogInstr := fins 17 1 0 9 0;
      let c : FogCt := fct 2 1; let w : Nat × Nat × Nat := (6, 1000, 1);
      let s : State := flds [(HOSTIF_DIRECT_STAT_OPEN, 1), (FOG_RET_ID_LO_V, 6), (FOG_RET_LO_BASE, 0x80)] (retMem { waiting with sess := 1023 });
      s.isSet HOSTIF_DIRECT_STAT_OPEN = true
      ∧ findWaiting s (fun o => o.sess == 1023) (s.r64 FOG_RET_ID_LO) = some (p, o) ∧ fogOp s p = some o
      ∧ o.wait = some w ∧ o.instrs[o.pc]? = some i ∧ fogReg o i.a = some c
      ∧ returnFits s o c w.2.1 (fogRetAddr s) = true) ∧
    (let s : State := flds [(HOSTIF_DIRECT_STAT_OPEN, 1), (FOG_RET_ID_LO_V, 6), (FOG_RET_LO_BASE, 0x80)] (retMem waiting);
      s.isSet HOSTIF_DIRECT_STAT_OPEN = true ∧ findWaiting s (fun o => o.sess == 1023) (s.r64 FOG_RET_ID_LO) = none) := by
  refine ⟨?_, ?_, ?_, ?_, ?_, ?_, ?_, ?_, ?_, ?_, ?_, ?_, ?_⟩ <;> decide +kernel

theorem test_witness_MemorySystem :
    (let w : Nat := 0x2003;
      let s : State := { (flds [(MEMC_SCRUB_EN, 1)] up) with ecc := ⟨[0x2000, 0x2004], [0x9000], []⟩ };
      s.isSet MEMC_SCRUB_EN = true ∧ scrubbed s (w / 8 * 8) = true ∧ errWords s.ues (w / 8 * 8) 8 = []) ∧
    (let w : Nat := 0x2003; let x : Nat := 0x2004; let l : List Nat := [];
      let s : State := { (flds [(MEMC_SCRUB_EN, 1)] up) with ecc := ⟨[0x2000], [0x2004], []⟩ };
      s.isSet MEMC_SCRUB_EN = true ∧ scrubbed s (w / 8 * 8) = true ∧ errWords s.ues (w / 8 * 8) 8 = x :: l) ∧
    (let s : State := up; s.isSet MEMC_STAT_TRAINED = false) ∧
    (let s : State := flds [(MEMC_CTRL_TRAIN, 1)] up; s.getF MEMC_CTRL_TRAIN ≠ 0) ∧
    (let d : Desc := mallocCmd; let a : Nat := 0x1000; let r : Nat := 17;
      let s : State := hold mallocCmd (pooled.setLe 0x1800 4 7); canStart d 0x0201 [8, 1, 1, 1] s = true
      ∧ pagesOk 0 (d.arg [8, 1, 1, 1] 0) = true ∧ (d.arg [8, 1, 1, 1] 1 = 1 ∨ (d.arg [8, 1, 1, 1] 1 = 2
      ∧ s.isSet MEMC_STAT_TRAINED = true)) ∧ d.arg [8, 1, 1, 1] 2 ≤ 3 ∧ allocRoom d s = some a ∧ freeRegion s = some r) ∧
    (let d : Desc := mdeclCmd; let r : Nat := 17; let s : State := hold mdeclCmd pooled;
      canStart d 0x0202 [8, 8, 1, 1] s = true ∧ pagesOk (d.arg [8, 8, 1, 1] 0) (d.arg [8, 8, 1, 1] 1) = true
      ∧ d.arg [8, 8, 1, 1] 2 ≤ 3 ∧ portOf s d.src < 8 ∧ hostBase (portOf s d.src) ≤ d.arg [8, 8, 1, 1] 0
      ∧ d.arg [8, 8, 1, 1] 0 + d.arg [8, 8, 1, 1] 1 ≤ hostBase (portOf s d.src) + 2 ^ 36 ∧ freeRegion s = some r) ∧
    (let d : Desc := mshareCmd; let r : Nat := 17; let s : State := hold mshareCmd pooled;
      canStart d 0x0203 [8, 8, 2, 1, 1] s = true ∧ pagesOk (d.arg [8, 8, 2, 1, 1] 0) (d.arg [8, 8, 2, 1, 1] 1) = true
      ∧ partC s d.session (d.arg [8, 8, 2, 1, 1] 0) (d.arg [8, 8, 2, 1, 1] 1) = 0 ∧ d.arg [8, 8, 2, 1, 1] 2 < 1024
      ∧ sessOpen s (d.arg [8, 8, 2, 1, 1] 2) = true ∧ d.arg [8, 8, 2, 1, 1] 3 ≤ 3 ∧ freeRegion s = some r) ∧
    (let d : Desc := munshCmd; let x : Range := ⟨2, 0, 4096, 1, 2, 255⟩; let s : State := hold munshCmd sharedM;
      canStart d 0x0204 [8, 8, 2] s = true ∧ x ∈ s.denrek.ranges ∧ shareNamed d x = true ∧ x.owner = d.session
      ∧ x.region < 256) ∧
    (let d : Desc := mfreeCmd; let x : Range := ⟨0, 0, 4096, 1, 1, 16⟩;
      let s : State := hold mfreeCmd (onDen (fun d => { d with awaits := [(.memCopy 0x800 0x20000 16, .mbox 8, 4)] }) sharedM);
      canStart d 0x0205 [8] s = true ∧ rangeAt s (d.arg [8] 0) = some x ∧ x.owner = d.session ∧ x.region < 256) ∧
    (let d : Desc := mcopyCmd; let s : State := hold mcopyCmd up; canStart d 0x0206 [8, 8, 4] s = true
      ∧ d.arg [8, 8, 4] 2 ≤ 2 ^ 24 ∧ d.arg [8, 8, 4] 0 < 2 ^ 40 ∧ d.arg [8, 8, 4] 1 < 2 ^ 40
      ∧ checkRange s (settAcq d.session false) none (d.arg [8, 8, 4] 0) (d.arg [8, 8, 4] 2) = .ok
      ∧ checkRange s (settAcq d.session true) none (d.arg [8, 8, 4] 1) (d.arg [8, 8, 4] 2) = .ok) ∧
    (let a : Nat := 0x2000; let b : Nat := 0x2003; let n : Nat := 8; let seq : Nat := 0; let src : Src := .mbox 0;
      let c : Cmd := ⟨.mbox 0, 0, mcopyCmd.raw, .started, 0, 0, [], false, false, false, false, 5⟩;
      let s : State := (onDen (fun d => { d with awaits := [(.memCopy 0x2000 0x2003 8, .mbox 0, 0)] }) (holdSt mcopyCmd up)).setLe 0x2000 8 0x0123456789ABCDEF;
      s.denrek.awaits = [(.memCopy a b n, src, seq)] ∧ findCmd s src seq = some c ∧ c.phase = .started
      ∧ hostDone s (.copy src seq) = true ∧ errWords s.ues a n = [] ∧ rmwErrs s b n = []) ∧
    (let ch : Nat := 1; ch < 2) ∧
    (let s : State := onDen (fun d => { d with awaits := List.replicate 112 (.memCopy 0x130000000 0x130000100 64, .mbox 0, 0) }) (flds [(MPU_REG_LIMIT_PAGE 0, 0xFFFFFFF), (MEMC_STAT_TRAINED, 1)] up);
      let q : Acq := ⟨clsLYNX, .fw, false⟩; let core : Option Nat := none; let a : Nat := 0x130000100;
      let n : Nat := 64; let ch : Nat := 1; checkRange s q core a n = .ok ∧ ch < 2 ∧ onChan s ch a n = true
      ∧ (128 ≤ outstanding s ch ∧ bwClass s q core = 0 ∨ 112 ≤ onChannel s ch false ∧ bwClass s q core ≠ 0)) ∧
    (let s : State := onDen (fun d => { d with awaits := List.replicate 112 (.memCopy 0x130000000 0x130000100 64, .mbox 0, 0) }) (flds [(MPU_REG_LIMIT_PAGE 0, 0xFFFFFFF), (MEMC_STAT_TRAINED, 1)] up);
      let q : Acq := ⟨clsLYNX, .fw, true⟩; let core : Option Nat := none; let a : Nat := 0x130000100;
      let bs : List Byte := [1, 2, 3, 4]; let ch : Nat := 1; checkRange s q core a bs.length = .ok ∧ ch < 2
      ∧ onChan s ch a bs.length = true ∧ (128 ≤ outstanding s ch ∧ bwClass s q core = 0 ∨ 112 ≤ onChannel s ch false
      ∧ bwClass s q core ≠ 0)) := by
  refine ⟨?_, ?_, ?_, ?_, ?_, ?_, ?_, ?_, ?_, ?_, ?_, ?_, ?_, ?_⟩ <;> decide +kernel

theorem test_witness_Streams :
    (let d : Desc := sopenCmd; let c : Nat := 0; let s : State := hold sopenCmd chanS;
      canStart d 0x0301 [1, 1, 1, 1, 4, 8, 8, 2, 1, 1, 2] s = true ∧ strOpenOk d s = true
      ∧ pickCore s (d.arg [1, 1, 1, 1, 4, 8, 8, 2, 1, 1, 2] 0) = some c
      ∧ bindOwn s d [d.arg [1, 1, 1, 1, 4, 8, 8, 2, 1, 1, 2] 10] = 0
      ∧ bindRoom s [(0x180 + d.arg [1, 1, 1, 1, 4, 8, 8, 2, 1, 1, 2] 0, d.arg [1, 1, 1, 1, 4, 8, 8, 2, 1, 1, 2] 10)] = true) ∧
    (let d : Desc := scloseCmd; let s : State := hold scloseCmd lynxUp; canStart d 0x0302 [1] s = true
      ∧ slotC s d (d.arg [1] 0) = 0) ∧
    (let d : Desc := srouteCmd; let s : State := hold srouteCmd lynxUp; canStart d 0x0303 [1, 1, 1] s = true
      ∧ slotC s d (d.arg [1, 1, 1] 0) = 0 ∧ (if d.arg [1, 1, 1] 0 < 16 then d.arg [1, 1, 1] 1 ≤ 1
      ∧ d.arg [1, 1, 1] 2 < 32 else d.arg [1, 1, 1] 1 = 2 ∧ d.arg [1, 1, 1] 2 = 0)) ∧
    (let d : Desc := gmuteCmd2; let s : State := hold gmuteCmd2 up; canStart d 0x0304 [1] s = true ∧ d.arg [1] 0 ≤ 1) := by decide +kernel

theorem test_witness_TwinCommands :
    (let d : Desc := tconfCmd; let s : State := hold tconfCmd up; canStart d 0x0C01 [1, 1, 2] s = true
      ∧ claimC s d .system = 0 ∧ d.arg [1, 1, 2] 0 ≤ 2 ∧ d.arg [1, 1, 2] 1 ≤ 1 ∧ 100 ≤ d.arg [1, 1, 2] 2
      ∧ d.arg [1, 1, 2] 2 ≤ 2000) ∧
    (let d : Desc := tattCmd; let s : State := hold tattCmd (twin 0 0); canStart d 0x0C02 [] s = true
      ∧ claimC s d .system = 0 ∧ attachConflict s = false ∧ journalIdle s = true) ∧
    (let d : Desc := tdetCmd; let s : State := hold tdetCmd (twin 3 2); canStart d 0x0C03 [] s = true
      ∧ claimC s d .system = 0 ∧ journalIdle s = true) ∧
    (let d : Desc := tswapCmd; let s : State := hold tswapCmd (twin 3 1); canStart d 0x0C04 [8] s = true
      ∧ claimC s d .system = 0 ∧ twinState s = 3 ∧ s.getF TWIN_SWAP_CTRL_PENDING = 0) ∧
    (let d : Desc := tbindCmd; let s : State := hold tbindCmd (synced.claim .system 1);
      canStart d 0x0C05 [2, 2] s = true ∧ claimC s d .system = 0 ∧ bindOwn s d [d.arg [2, 2] 0, d.arg [2, 2] 1] = 0
      ∧ bindOk [d.arg [2, 2] 0, d.arg [2, 2] 1] = 0
      ∧ bindRoom s [(0x220, d.arg [2, 2] 0), (0x221, d.arg [2, 2] 1)] = true) ∧
    (let s : State := twin 4 2; attachConflict s = false ∧ journalIdle s = true) ∧
    (let s : State := twin 3 2; journalIdle s = true ∧ twinState s = 3) ∧
    (let s : State := twin 3 1; twinState s = 3 ∧ s.getF TWIN_SWAP_CTRL_PENDING = 0) := by
  refine ⟨?_, ?_, ?_, ?_, ?_, ?_, ?_, ?_⟩ <;> decide +kernel

theorem test_witness_TwinLink :
    (let s : State := atTick 64 (twin 3 1); beatsOn s = true ∧ s.now % 128 = 64) ∧
    (let s : State := atTick 112 (twin 0 0); beatsOn s = true ∧ s.now % 128 = 112) ∧
    (let s : State := flds [(TWIN_CFG_PREF, 0)] (twin 0 0); beatsOn s = false) ∧
    (let s : State := onClk (fun c => { c with fast := false }) (twin 3 1); beatsOn s = false) ∧
    (let s : State := flds [(TWIN_CFG_AUTO, 1)] (twin 0 0); twinState s = 0 ∧ s.isSet TWIN_CFG_AUTO = true
      ∧ twinPref s ≠ 0) ∧
    (let s : State := twin 3 2; twinState s = 3 ∧ twinRole s = 2 ∧ journalIdle s = true) ∧
    (let x : Nat := 240; let s : State := heard (atTick 248 (twin 3 1)); beatsOn s = true ∧ s.now % 128 = 120
      ∧ aligned s = true ∧ beatStands s = true ∧ x ≠ 0 ∧ x ≤ s.now ∧ s.now ≤ x + 16) ∧
    (let s : State := missed (atTick 248 (flds [(TWIN_STAT_ELIGIBLE, 1)] (twin 3 2))); beatsOn s = true
      ∧ s.now % 128 = 120 ∧ s.twin.beat = none ∧ neverToggled s = true ∧ (s.twin.symMiss || s.twin.togMiss) = true
      ∧ twinState s = 3) ∧
    (let x : Nat := 240; let s : State := missed (atTick 248 (twin 3 2)); beatsOn s = true ∧ s.now % 128 = 120
      ∧ s.twin.beat = none ∧ s.twin.symMiss = true ∧ aligned s = true ∧ x ≠ 0 ∧ x ≤ s.now ∧ s.now ≤ x + 16
      ∧ s.isSet TWIN_CFG_AUTO = false) ∧
    (let s : State := missed (heard (atTick 248 (twin 3 2))); beatsOn s = true ∧ s.now % 128 = 120 ∧ aligned s = true
      ∧ beatStands s = true ∧ neverToggled s = true ∧ s.twin.togMiss = true ∧ s.isSet TWIN_CFG_AUTO = false) ∧
    (let k : Nat := 2; let s : State := up; k ≠ s.twin.fseq) ∧
    (let at' : Nat := 9; let s : State := atTick 9 (onTwin (fun w => { w with badAt := some 9 }) (twin 3 2));
      s.twin.badAt = some at' ∧ at' ≤ s.now ∧ s.isSet TWIN_CFG_AUTO = false) ∧
    (let s : State := onPwr (fun p => { p with phase := .parked }) (flds [(PWR_WAKE_EN_EN, 255)] up);
      s.twin.syncLow = none ∧ wakeBits 64 [] [] s ≠ 0) ∧
    (let at' : Nat := 5; let s : State := atTick 12005 (onTwin (fun w => { w with syncLow := some 5 }) up);
      s.twin.syncLow = some at' ∧ at' + 12000 ≤ s.now) := by
  refine ⟨?_, ?_, ?_, ?_, ?_, ?_, ?_, ?_, ?_, ?_, ?_, ?_, ?_, ?_⟩ <;> decide +kernel

theorem test_witness_TwinJournal :
    (let q : Nat := 1; let a : Nat := 128; let r : Nat := 63; let k : Nat := 5;
      let s : State := onTwin (fun w => { w with unapplied := [(.ring 63, 5)] }) (jrn 3 1); applies q a s = true
      ∧ twinRole s = 1 ∧ r < 64 ∧ s.twin.unapplied.find? (fun e => decide (e.1 = .ring r)) = some (.ring r, k)) ∧
    (let q : Nat := 1; let a : Nat := 128; let r : Nat := 63; let s : State := jrn 3 2; applies q a s = true
      ∧ twinRole s = 2 ∧ twinState s ≠ 0 ∧ r < 64 ∧ findCmd s (.ring r) ((s.ring r).fetched + 1) = none) ∧
    (let q : Nat := 1; let a : Nat := 256; let s : State := jrn 3 2; applies q a s = true) ∧
    (let q : Nat := 1; let a : Nat := 256; let p : Nat := 9; let s : State := jrn 3 2; applies q a s = true ∧ p < 10) ∧
    (let q : Nat := 1; let a : Nat := 256; let r : Nat := 63;
      let s : State := { ringed with twin := (jrn 3 2).twin, clk := (jrn 3 2).clk, regs := (flds [(TWIN_STAT_STATE, 3), (TWIN_STAT_ROLE, 2)] ringed).regs };
      applies q a s = true ∧ r < 64) ∧
    (let q : Nat := 1; let a : Nat := 256; let s : State := jrn 3 2; applies q a s = true) ∧
    (let q : Nat := 1; let a : Nat := 256; let s : State := jrn 3 2; applies q a s = true) ∧
    (let q : Nat := 1; let a : Nat := 256; let p : Nat := 9; let s : State := jrn 3 2; applies q a s = true ∧ p < 10
      ∧ openSessions s p = [] ∧ noneCloses s = true) ∧
    (let q : Nat := 1; let a : Nat := 256;
      let s : State := onFog (fun f => { f with ops := [(7, fop 1 (fins 4 1 2 0 0))] }) (jrn 3 2);
      applies q a s = true) ∧
    (let q : Nat := 1; let a : Nat := 256; let s : State := jrn 3 2; applies q a s = true ∧ twinState s = 3) ∧
    (let q : Nat := 1; let a : Nat := 256; let s : State := jrn 3 1; applies q a s = true ∧ journalIdle s = true
      ∧ twinState s = 3) ∧
    (let r : Nat := 63; let q : Nat := 5; let w : Nat := 4; let bs : List Byte := List.replicate 32 7;
      let s : State := jrn 3 2; twinRole s = 2 ∧ twinState s = 3 ∧ bs.length = 32 ∧ w < q ∧ ringNext s r = none) ∧
    (let r : Nat := 63;
      let c : Cmd := ⟨.ring 63, 1, (ringCmd 0x0E08 0).raw, .finished, 0, 7, [], false, false, false, false, 5⟩;
      let m : TwinMirror := ⟨.ring 63, 1, 0, List.replicate 32 7, false, 0⟩;
      let s : State := flds [(TWIN_STAT_STATE, 3), (TWIN_STAT_ROLE, 1)] (onTwin (fun w => { w with mirrors := [⟨.ring 63, 1, 0, List.replicate 32 7, false, 0⟩] }) (holdAs .finished (ringCmd 0x0E08 0) ringed));
      mirrorSends r c m s = true ∧ m.bytes.length = 32) ∧
    (let h : Nat := 4; let s : State := twin 3 1; twinState s = 3 ∧ s.twin.own.find? (·.1 == h) = none) ∧
    (let h : Nat := 4; let x : Nat := 6;
      let s : State := onTwin (fun w => { w with own := [(4, 5)] }) (flds [(TWIN_STAT_ELIGIBLE, 1)] (twin 3 1));
      twinState s = 3 ∧ s.getF TWIN_STAT_ELIGIBLE = 1
      ∧ (s.twin.own.find? (·.1 == h)).any (fun e => e.2 != x % 2 ^ 128) = true) ∧
    (let h : Nat := 4; let s : State := atTick 233472 (twin 3 2); twinState s = 3 ∧ h * 49152 + 36864 ≤ s.now
      ∧ s.twin.own = [] ∧ s.twin.theirs = []) ∧
    (let p : Nat := 8; let m : TwinMirror := ⟨.mbox 8, 5, 4, List.replicate 64 7, false, 0⟩;
      let s : State := atTick 196608 (flds [(TWIN_CFG_ACK_TO, 4)] (onTwin (fun w => { w with mirrors := [⟨.mbox 8, 5, 4, List.replicate 64 7, false, 0⟩] }) (twin 3 1)));
      mirrorsOn s = true ∧ s.twin.mirrors = [m] ∧ m.src = .mbox p ∧ m.finished = false
      ∧ m.sentAt + max 1 (s.getF TWIN_CFG_ACK_TO) * 49152 ≤ s.now ∧ s.isSet TWIN_CFG_AUTO = false) := by
  refine ⟨?_, ?_, ?_, ?_, ?_, ?_, ?_, ?_, ?_, ?_, ?_, ?_, ?_, ?_, ?_, ?_, ?_⟩ <;> decide +kernel

theorem test_witness_TwinPairing :
    (let x : Nat := 256;
      let s : State := atTick 256 (onTwin (fun w => { w with take := some 256, clk := (3, 1) }) (flds [(TWIN_STAT_ELIGIBLE, 1)] (twin 3 2)));
      s.twin.take = some x ∧ x ≤ s.now ∧ twinRole s = 2 ∧ twinState s = 3 ∧ s.twin.mirrors = [] ∧ s.denrek.cmds = []) ∧
    (let x : Nat := 256;
      let s : State := atTick 256 (onTwin (fun w => { w with swap := some 256, clk := (3, 1) }) (flds [(TWIN_STAT_ELIGIBLE, 1)] (twin 3 2)));
      s.twin.swap = some x ∧ x ≤ s.now ∧ twinState s = 3 ∧ s.twin.mirrors = []) ∧
    (let s : State := twin 1 0; twinState s = 1 ∧ s.twin.ctl = none ∧ s.marked TWIN_CTRL_ATTACH 0 = false) ∧
    (let v : List Nat := [1]; let pref : Nat := 2; let s : State := twin 1 0; twinState s = 1 ∧ s.twin.ctl = none
      ∧ pref ≠ twinPref s ∧ v ≠ ownVersions s ∧ s.marked TWIN_CTRL_ATTACH 0 = false) ∧
    (let v : List Nat := ownVersions suited; let pref : Nat := 1; let s : State := suited;
      controlSuits v pref s = true ∧ noneOpen s = true ∧ noneCloses s = true) ∧
    (let x : Nat := 2 ^ 64 - 128;
      let s : State := atTick 256 (onTwin (fun w => { w with ctl := some ([], 1) }) (twin 1 2)); twinState s = 1
      ∧ twinRole s = 2 ∧ s.twin.ctl.isSome = true ∧ s.twin.adopted = false ∧ s.now % 128 = 0 ∧ x % 128 = 0) ∧
    (let s : State := flds [(CLK_REF_QUAL_QUAL, 255)] (onTwin (fun w => { w with adopted := true }) (twin 1 2));
      twinState s = 1 ∧ twinRole s = 2 ∧ s.twin.adopted = true ∧ qualified s 8 = true ∧ journalIdle s = true) ∧
    (let b : Nat := 7; let s : State := onTwin (fun w => { w with beat := some (7, 2, 2) }) (twin 1 1);
      twinState s = 1 ∧ twinRole s = 1 ∧ s.twin.beat = some (b, 2, 2) ∧ journalIdle s = true) ∧
    (let s : State := atTick 49152 (flds [(TWIN_CATCHUP_PHASE, 1)] (twin 2 2)); twinState s = 2
      ∧ s.getF TWIN_CATCHUP_PHASE = 1 ∧ s.now % 49152 = 0 ∧ s.now < 2 ^ 63 ∧ (twinRole s = 2 ∨ replayGains s = true
      ∧ (findFree s ddrFwEnd (ddrEnd s) catchupBytes).isSome = true)) ∧
    (let s : State := atTick 49152 (flds [(TWIN_CATCHUP_PHASE, 1)] (onDen (fun d => { d with ranges := [⟨0, 0, 2 ^ 40, 1, 1, 16⟩] }) (twin 2 1)));
      twinState s = 2 ∧ s.getF TWIN_CATCHUP_PHASE = 1 ∧ s.now % 49152 = 0 ∧ twinRole s ≠ 2
      ∧ (replayGains s = false ∨ findFree s ddrFwEnd (ddrEnd s) catchupBytes = none)
      ∧ s.marked TWIN_CTRL_ATTACH 0 = false) ∧
    (let x : Nat := 0x2000; let s : State := flds [(TWIN_CATCHUP_PHASE, 2)] (twin 2 2); twinState s = 2
      ∧ twinRole s = 2 ∧ 2 ≤ s.getF TWIN_CATCHUP_PHASE ∧ s.getF TWIN_CATCHUP_PHASE ≤ 3 ∧ kindOf s x ≠ .regs) ∧
    (let s : State := flds [(TWIN_CATCHUP_PHASE, 3)] (twin 2 2); twinState s = 2 ∧ twinRole s = 2
      ∧ 2 ≤ s.getF TWIN_CATCHUP_PHASE ∧ s.getF TWIN_CATCHUP_PHASE ≤ 3) ∧
    (let s : State := atTick 98304 (flds [(TWIN_CATCHUP_PHASE, 4)] (twin 2 2)); twinState s = 2 ∧ twinRole s = 2
      ∧ s.getF TWIN_CATCHUP_PHASE = 4 ∧ s.now % 49152 = 0) ∧
    (let b : Nat := 9;
      let s : State := onTwin (fun w => { w with beat := some (9, 2, 3) }) (flds [(TWIN_CATCHUP_PHASE, 4)] (twin 2 1));
      twinState s = 2 ∧ twinRole s = 1 ∧ 2 ≤ s.getF TWIN_CATCHUP_PHASE ∧ s.twin.beat = some (b, 2, 3)) ∧
    (let s : State := atTick 9830400 (flds [(TWIN_CFG_CATCHUP_MS, 100)] (twin 2 2)); let full : Bool := false;
      twinState s = 2 ∧ s.marked TWIN_CTRL_ATTACH 0 = false ∧ ((full = true
      ∧ 2 ≤ s.getF TWIN_CATCHUP_PHASE) ∨ s.twin.pairFrom + clampN 100 2000 (s.getF TWIN_CFG_CATCHUP_MS) * 98304 ≤ s.now)) := by
  refine ⟨?_, ?_, ?_, ?_, ?_, ?_, ?_, ?_, ?_, ?_, ?_, ?_, ?_, ?_, ?_⟩ <;> decide +kernel

theorem test_witness_StatusRecords :
    (let d : Desc := statCmd1; let s : State := hold statCmd1 up; canStart d 0x0D03 [8] s = true) ∧
    (let d : Desc := statCmd2; let s : State := hold statCmd2 up; canStart d 0x0D08 [8] s = true) ∧
    (let d : Desc := statCmd3; let s : State := hold statCmd3 up; canStart d 0x0E01 [8] s = true) ∧
    (let d : Desc := statCmd4; let s : State := hold statCmd4 up; canStart d 0x050A [8] s = true) ∧
    (let d : Desc := statCmd5; let s : State := hold statCmd5 (capt.claim (.channel 31) 1);
      canStart d 0x0506 [1, 8] s = true ∧ d.arg [1, 8] 0 < 32 ∧ ownC s d (.channel (d.arg [1, 8] 0)) = 0) ∧
    (let d : Desc := statCmd6; let s : State := hold statCmd6 up; canStart d 0x0408 [1, 8] s = true
      ∧ d.arg [1, 8] 0 < 4) ∧
    (let d : Desc := statCmd7; let s : State := hold statCmd7 up; canStart d 0x0308 [1, 8] s = true
      ∧ d.arg [1, 8] 0 < 8) ∧
    (let d : Desc := statCmd8; let s : State := hold statCmd8 up; canStart d 0x040A [8] s = true) ∧
    (let d : Desc := statCmd9; let s : State := hold statCmd9 up; canStart d 0x0609 [8] s = true) ∧
    (let d : Desc := statCmd10; let s : State := hold statCmd10 up; canStart d 0x070F [8] s = true
      ∧ outForm d (d.arg [8] 0) 32768 s = true) ∧
    (let d : Desc := statCmd11; let s : State := hold statCmd11 up; canStart d 0x0710 [8] s = true) ∧
    (let d : Desc := statCmd12; let s : State := hold statCmd12 (up.claim (.core 3) 1);
      canStart d 0x0908 [1, 8] s = true ∧ coreC s d (d.arg [1, 8] 0) = 0) ∧
    (let d : Desc := statCmd13; let s : State := hold statCmd13 lynxUp; canStart d 0x0807 [8] s = true) ∧
    (let d : Desc := statCmd14; let s : State := hold statCmd14 up; canStart d 0x0A06 [8] s = true) ∧
    (let d : Desc := statCmd15; let s : State := hold statCmd15 up; canStart d 0x0207 [8] s = true) ∧
    (let d : Desc := statCmd16; let s : State := hold statCmd16 ringed; canStart d 0x0108 [2, 8] s = true
      ∧ d.arg [2, 8] 0 < 64 ∧ ringOf s (portOf s d.src) (d.arg [2, 8] 0) = true) ∧
    (let d : Desc := statCmd17; let s : State := hold statCmd17 lynxUp; canStart d 0x0305 [1, 8] s = true
      ∧ d.arg [1, 8] 0 < 24) ∧
    (let d : Desc := statCmd18; let s : State := hold statCmd18 (twin 3 2); canStart d 0x0C06 [8] s = true) := by
  refine ⟨?_, ?_, ?_, ?_, ?_, ?_, ?_, ?_, ?_, ?_, ?_, ?_, ?_, ?_, ?_, ?_, ?_, ?_⟩ <;> decide +kernel

/-- A next state is the state it answers. -/
theorem next_eq {o : Out} (h : (match o with | .next _ => true | _ => false) = true) : o = .next (next o) := by
  cases o <;> simp_all [next]

theorem test_witness_StepKeepsCanonical : base.canonical = true ∧ step base = .next (next (step base)) :=
  ⟨by decide +kernel, next_eq (by decide +kernel)⟩

theorem test_witness_DeviceTimeIsNeverWritten :
    (clearsTime .porAssert = true ∧ exec .porAssert up = .next (next (exec .porAssert up))) ∧
    (clearsTime .wakeOutRelease = false ∧ adoptsTime .wakeOutRelease = false
      ∧ exec .wakeOutRelease base = .next (next (exec .wakeOutRelease base))) ∧
    (exec (.twinTimeAdopt 256) adopts = .next (next (exec (.twinTimeAdopt 256) adopts))
      ∧ (next (exec (.twinTimeAdopt 256) adopts)).clk.time ≠ adopts.clk.time) ∧
    (up.pending = [] ∧ up.pins.porN = true ∧ step up = .next (next (step up))) :=
  ⟨⟨rfl, next_eq (by decide +kernel)⟩, ⟨rfl, rfl, next_eq (by decide +kernel)⟩, ⟨next_eq (by decide +kernel), by decide +kernel⟩,
    by decide +kernel, by decide +kernel, next_eq (by decide +kernel)⟩

theorem test_witness_Resets_core :
    Instr.coreRstWrite ∈ [Instr.coreRstWrite, .watchdogExpire, .deviceResetDelayEnd] ∧
    exec .coreRstWrite up = .next (next (exec .coreRstWrite up)) ∧ (next (exec .coreRstWrite up)).boot.inReset = true ∧
    up.boot.inReset = false ∧ specOf DEC_SYNC_CTRL = some ((specOf DEC_SYNC_CTRL).getD ⟨0, [], .core, 0, []⟩) ∧
    ((specOf DEC_SYNC_CTRL).getD ⟨0, [], .core, 0, []⟩).dom = .core ∧ DEC_SYNC_CTRL ≠ SYS_ROLLBACK ∧
    DEC_SYNC_CTRL ≠ SYS_LIFECYCLE ∧ DEC_SYNC_CTRL ≠ ERR_STAT_3 :=
  ⟨by simp, next_eq (by decide +kernel), by decide +kernel⟩

theorem test_witness_FrameMemory : storesNothing .wakeOutRelease = true
    ∧ exec .wakeOutRelease base = .next (next (exec .wakeOutRelease base)) := ⟨rfl, next_eq (by decide +kernel)⟩

theorem test_witness_FrameRegisters : Instr.wakeOutRelease.wf = true ∧ writesIn .wakeOutRelease = some [0x2002]
    ∧ exec .wakeOutRelease base = .next (next (exec .wakeOutRelease base)) := ⟨rfl, rfl, next_eq (by decide +kernel)⟩

theorem test_witness_FrameCommands :
    setupRow (.nop nopCmd) = some (nopCmd, 0x0E08, [8], []) ∧ canStart nopCmd 0x0E08 [8] (hold nopCmd up) = true
      ∧ namesInRange nopCmd = true
      ∧ exec (.nop nopCmd) (hold nopCmd up) = .next (next (exec (.nop nopCmd) (hold nopCmd up))) :=
  ⟨rfl, by decide +kernel, by decide +kernel, next_eq (by decide +kernel)⟩

theorem test_witness_AccessCodes_shape :
    (Initiator.marten 0 = .sett ∨ ∃ n, Initiator.marten 0 = .marten n) ∧ ((2 : Nat) ≠ 4 ∨ CLK_REF_TOL % 4 ≠ 0) :=
  ⟨.inr ⟨0, rfl⟩, .inl (by decide)⟩

/-- A paired twin at the digest of hop 4, no word sent. -/
def twinAtDigest : State := atTick 233472 (flds [(TWIN_STAT_ELIGIBLE, 1)] (twin 3 2))

theorem digestOf_theirs (l : List (Nat × Nat)) (h : Nat) (s : State) :
    digestOf (onTwin (fun w => { w with theirs := l }) s) h = digestOf s h := rfl

theorem test_witness_TwinJournal_differ :
    let s := onTwin (fun w => { w with theirs := [(4, (digestOf twinAtDigest 4 + 1) % 2 ^ 128)] }) twinAtDigest
    twinState s = 3 ∧ s.getF TWIN_STAT_ELIGIBLE = 1 ∧ 4 * 49152 + 36864 ≤ s.now ∧ s.twin.own = []
      ∧ (s.twin.theirs.find? (·.1 == 4)).any (fun e => e.2 != digestOf s 4) = true := by
  refine ⟨by decide +kernel, by decide +kernel, by decide +kernel, rfl, ?_⟩
  have h : digestOf twinAtDigest 4 < 2 ^ 128 := Nat.mod_lt _ (by decide)
  have n : (digestOf twinAtDigest 4 + 1) % 2 ^ 128 ≠ digestOf twinAtDigest 4 := by omega
  rw [digestOf_theirs]
  simpa [onTwin] using n

theorem test_witness_FrameMemory_rings :
    exec (.kwsFrame [] 0 []) base = .next (next (exec (.kwsFrame [] 0 []) base))
      ∧ (prerollBytes (base.reg DORMOUSE_CTRL).toNat = 0
        ∨ base.getF DORMOUSE_PREROLL_WR < prerollBytes (base.reg DORMOUSE_CTRL).toNat)
      ∧ exec (.asrcOutwardRead 0) base = .next (next (exec (.asrcOutwardRead 0) base)) ∧ converterFed base 0 = false :=
  ⟨next_eq (by decide +kernel), by decide +kernel, next_eq (by decide +kernel), by decide +kernel⟩

theorem test_witness_MartenEngines_accept : acceptable irqCore = some (21, 3) := by decide +kernel

end Sys2Proof.Tests
end

section
/-! PROOFS. What RESET_N and POR_N make of the CLK block (R62). -/

namespace Sys2Proof.Machine

variable {s t : State}

/-! ### What leaves the CLK block alone -/

/-- Every register of the CLK block, [0x2001_0000, 0x2002_0000), reads as before. -/
def KeepsClk (s t : State) : Prop := ∀ a, a / 65536 = 0x2001 → t.reg a = s.reg a

theorem KeepsClk.refl (s : State) : KeepsClk s s := fun _ _ => rfl

theorem KeepsClk.of_regs (h : KeepsClk s t) {u : State} (e : u.regs = t.regs) : KeepsClk s u := fun a ha => by
  rw [← h a ha, State.reg, e, State.reg]

theorem KeepsClk.setF (h : KeepsClk s t) {f : Fld} (hf : f.addr / 65536 ≠ 0x2001) (v : Nat) : KeepsClk s (t.setF f v) :=
  fun a ha => by rw [State.reg_setF_ne t f (by rintro rfl; exact hf ha), h a ha]

theorem KeepsClk.hitF (h : KeepsClk s t) {f : Fld} (hf : f.addr / 65536 ≠ 0x2001) (v : Nat) : KeepsClk s (t.hitF f v) :=
  fun a ha => by rw [State.reg_hitF, h.setF hf v a ha]

theorem KeepsClk.foldl {α : Type} {f : State → α → State} (l : List α) (h : KeepsClk s t)
    (k : ∀ u a, KeepsClk s u → KeepsClk s (f u a)) : KeepsClk s (l.foldl f t) := by
  induction l generalizing t with
  | nil => exact h
  | cons a r ih => exact ih (k t a h)

theorem KeepsClk.loseMem (h : KeepsClk s t) (lo hi : Nat) : KeepsClk s (loseMem lo hi t) :=
  .foldl _ (h.of_regs rfl) fun _ _ hu => hu.of_regs rfl

/-- No register of the CLK block belongs to a domain that RESET_N resets. -/
theorem dom_regsCLK : ∀ r ∈ regsCLK, r.dom ≠ .core ∧ r.dom ≠ .link := by decide

theorem dom_of_specOf_clk {a : Nat} {r : RegSpec} (ha : a / 65536 = 0x2001) (h : specOf a = some r) :
    r.dom ≠ .core ∧ r.dom ≠ .link := by
  rw [specOf, ha] at h
  exact dom_regsCLK r (List.mem_of_find?_eq_some h)

/-- A lookup does not see what a filter drops at other keys. -/
theorem tabGet_filter {α : Type} (d : α) {k : Nat} {p : Nat × α → Bool} (h : ∀ v, p (k, v) = true) (l : Tab α) :
    tabGet d k (l.filter p) = tabGet d k l := by
  induction l with
  | nil => rfl
  | cons e r ih =>
    obtain ⟨j, v⟩ := e
    by_cases hj : j = k
    · subst hj
      simp [h v, tabGet]
    · cases hp : p (j, v) <;> simp [hp, tabGet, hj, ih]

theorem KeepsClk.resetDomain (h : KeepsClk s t) {d : Domain} (hd : d = .core ∨ d = .link) :
    KeepsClk s (t.resetDomain d) := by
  refine .setF (fun a ha => ?_) (by decide) _
  rw [← h a ha]
  refine tabGet_filter _ (fun _ => ?_) _
  split
  · rename_i r e
    obtain ⟨hc, hl⟩ := dom_of_specOf_clk ha e
    rcases hd with rfl | rfl <;> simpa
  · rfl

theorem KeepsClk.showOtp (h : KeepsClk s t) : KeepsClk s (showOtp t) :=
  ((h.setF (by decide) _).setF (by decide) _).setF (by decide) _

theorem KeepsClk.dbgRunning (h : KeepsClk s t) (c : Nat) : KeepsClk s (dbgRunning c t) :=
  (h.setF (by simp only [DBG_CORE_CTRL_STATE, DBG_CORE_CTRL]; omega) 0).of_regs rfl

theorem KeepsClk.coreHidden (h : KeepsClk s t) : KeepsClk s (coreHidden t) := h.of_regs rfl

theorem KeepsClk.setLimit (h : KeepsClk s t) : KeepsClk s (setLimit t) := by
  unfold Machine.setLimit
  split
  · exact h
  · exact h.setF (by decide) _

theorem KeepsClk.coreReset (h : KeepsClk s t) {cause : Fld} (hc : cause.addr / 65536 ≠ 0x2001) :
    KeepsClk s (coreReset cause t) := by
  have hd := ((h.loseMem ddrBase (hostBase 0)).loseMem dormBase (dormBase + 0x8_0000)).resetDomain (.inl rfl)
  have ho := (hd.resetDomain (.inr rfl)).coreHidden.showOtp.setF (f := DBG_STAT_BUSY) (by decide) 0
  exact .hitF (.foldl _ ho fun _ c hu => hu.dbgRunning c) hc 1

theorem runs_resetNPulse_keepsClk (ns : Nat) (s : State) : Runs (.resetNPulse ns) s (KeepsClk s) := by
  change ∃ t, execResetNPulse ns s = .next t ∧ _
  have hr : KeepsClk s (Machine.coreReset SYS_RST_CAUSE_PIN s) := (KeepsClk.refl s).coreReset (by decide)
  unfold execResetNPulse
  split
  · exact ⟨s, rfl, .refl s⟩
  · split
    · exact ⟨_, rfl, hr⟩
    · refine ⟨_, rfl, ?_⟩
      have hf : KeepsClk s s.fresh.1 := (KeepsClk.refl s).of_regs rfl
      split
      · exact hf.coreReset (by decide)
      · exact hf

/-- POR_N starts from the Reset values; what it then shows of OTP, the MUTE_N ball and the grade is in other blocks. -/
theorem runs_porAssert_resetWord (s : State) :
    Runs .porAssert s fun t => ∀ a, a / 65536 = 0x2001 → t.reg a = resetWord a :=
  ⟨_, rfl, fun a ha => ((KeepsClk.refl _).showOtp.setF (f := GUST_MUTE_PIN) (by decide) _).setLimit a ha⟩

/-- Settles O7: no row of the CLK table is in the CORE or PCIE_LINK domain, and POR_N starts from the Reset values. -/
theorem clockBlockIsAlwaysOn : Obligations.ClockBlockIsAlwaysOn :=
  ⟨runs_resetNPulse_keepsClk, runs_porAssert_resetWord⟩

end Sys2Proof.Machine
end

section
/-! PROOFS. What a meaning of a command keeps: the queue, the canonical form, device time and the level of POR_N, as
`Keeps` says. `Answers` is the same of an answer. One lemma for each function of the model that gives a state, in the
model's order. -/

namespace Sys2Proof.Machine

variable {s t : State}

/-- The meaning answers a next state and keeps what `Keeps` says. -/
def Answers (s : State) (o : Out) : Prop := ∃ u, o = .next u ∧ Keeps s u

theorem Answers.next {u : State} (h : Keeps s u) : Answers s (.next u) := ⟨u, rfl, h⟩

theorem Answers.ite {c : Prop} [Decidable c] {a b : Out} (h : Answers s a) (k : Answers s b) :
    Answers s (if c then a else b) := by
  split <;> assumption

theorem Answers.runCmd {d : Desc} {o : Nat} {z : List Nat} {cls : State → Desc → Nat}
    {body : State → Desc → State × Rsp} (h : Keeps s t) (k : ∀ u d, Keeps u (body u d).1) :
    Answers s (runCmd d o z cls body t) := by
  obtain ⟨u, e, hu⟩ := keeps_runCmd (s := t) (d := d) (o := o) (z := z) (cls := cls) k
  exact ⟨u, e, h.trans hu⟩

/-- A record update that leaves the queue, registers, memory, device time and the level of POR_N alone. -/
theorem Keeps.record (h : Keeps s t) {pr pw pl cyc resp fast ho la sf sa lm rf pf prio ctrl al ls pz mf ch pwr boot mn si
    sy li lo ts ecc hostif denrek dbg cores dec tdm rate gust sense fox lynx fog twin fc} :
    Keeps s ⟨t.pending, t.regs, t.mem, pr, pw, pl, cyc, resp,
      ⟨t.clk.time, fast, ho, la, sf, sa, lm, rf, pf, prio, ctrl, al, ls, pz, mf, ch⟩, pwr, boot,
      ⟨t.pins.porN, mn, si, sy, li, lo, ts⟩, ecc, hostif, denrek, dbg, cores, dec, tdm, rate, gust, sense, fox, lynx,
      fog, twin, fc⟩ := h.hidden

theorem Keeps.getD {o : Option State} (h : Keeps s t) (k : ∀ u, o = some u → Keeps s u) : Keeps s (o.getD t) := by
  cases o with
  | none => exact h
  | some u => exact k u rfl

theorem Keeps.pair {α : Type} {a : α} (h : Keeps s t) : Keeps s (t, a).1 := h

/-- The state of a pair. -/
theorem Keeps.of_eq {α : Type} {r : State × α} {u : State} {a : α} (h : Keeps s r.1) (e : r = (u, a)) : Keeps s u := by
  rw [e] at h; exact h

theorem Keeps.fst_ite {α : Type} {c : Prop} [Decidable c] {a b : State × α} (h : Keeps s a.1) (k : Keeps s b.1) :
    Keeps s (if c then a else b).1 := by
  split <;> assumption

/-- A fold that carries a state beside another value. -/
theorem Keeps.foldl_fst {α β : Type} {f : State × β → α → State × β} (l : List α) {p : State × β} (h : Keeps s p.1)
    (k : ∀ q a, Keeps q.1 (f q a).1) : Keeps s (l.foldl f p).1 := by
  induction l generalizing p with
  | nil => exact h
  | cons a r ih => exact ih (h.trans (k p a))

theorem Keeps.foldr {α : Type} {f : α → State → State} (l : List α) (h : Keeps s t) (k : ∀ a u, Keeps u (f a u)) :
    Keeps s (l.foldr f t) := by
  induction l with
  | nil => exact h
  | cons a r ih => exact ih.trans (k a _)

/-- The state an answer carries is kept, whatever the match on it leaves in the other cases. -/
theorem Answers.keeps_of_eq {u : State} {o : Out} (h : Answers s o) (e : o = .next u) : Keeps s u := by
  obtain ⟨v, rfl, hv⟩ := h
  cases e
  exact hv

/-! ### The functions of Machine/Ops -/

theorem Keeps.dropLatches {p} (h : Keeps s t) : Keeps s (Machine.dropLatches p t) := h.record

theorem Keeps.wdogFrom {old} (h : Keeps s t) : Keeps s (Machine.wdogFrom old t) := .ite h.record h

/-! ### The functions of Machine/Operands -/

theorem Keeps.bindAdd {n f e o u} (h : Keeps s t) (b : bindAdd n f e o t = .ok u) : Keeps s u :=
  h.trans (keeps_bindAdd b)

theorem Keeps.readMem {d a n} (h : Keeps s t) : Keeps s (Machine.readMem d a n t).1 := h.readChecked _ _ _ _

/-! ### The functions of Machine/Decimation -/

theorem Keeps.setCh {n c} (h : Keeps s t) : Keeps s (t.setCh n c) := h.record

theorem Keeps.decStart (h : Keeps s t) : Keeps s (Machine.decStart t) :=
  .record (.forN h (fun _ u => (Keeps.refl u).setCh))

theorem Keeps.settlePdm (h : Keeps s t) : Keeps s (Machine.settlePdm t) := by
  unfold Machine.settlePdm
  extract_lets +onlyGivenNames _ _ s₁ _ _
  have h₁ : Keeps s s₁ := .ite (.ite h.decStart h) (.ite h.record h)
  exact .ite h₁.record (.forN h₁.record (fun _ u => .ite (.refl _) (Keeps.refl u).setCh))

theorem Keeps.decSnap {ch} (h : Keeps s t) : Keeps s (Machine.decSnap ch t) := h.setCh

theorem Keeps.threshold {ch j det code} (h : Keeps s t) : Keeps s (Machine.threshold ch j det code t) :=
  .ite h (.ite (((h.setB _ _).hitB _ _).event _) (.ite (h.clrB _ _) h))

theorem Keeps.thresholds {ch det code} (h : Keeps s t) : Keeps s (Machine.thresholds ch det code t) :=
  h.threshold.threshold

theorem Keeps.detect {ch y} (h : Keeps s t) : Keeps s (Machine.detect ch y t) := by
  unfold Machine.detect
  extract_lets +onlyGivenNames _ _ _ _ _ _ _ _ _ _ _ s₁
  have h₁ : Keeps s s₁ := ((h.maxF _ _).thresholds.setCh.setF _ _).thresholds
  exact .ite (h₁.setF _ _).thresholds h₁

theorem Keeps.blockSample {ch p x y clip gap stuck buf base} (h : Keeps s t) :
    Keeps s (Machine.blockSample ch p x y clip gap stuck buf base t) := .ite h.setCh h.setCh

theorem Keeps.shortBlock {ch} (h : Keeps s t) : Keeps s (Machine.shortBlock ch t) := by
  unfold Machine.shortBlock
  extract_lets +onlyGivenNames _
  split
  · exact h.setCh
  · exact h.setCh

theorem Keeps.stuckGoesOn {ch bits} (h : Keeps s t) : Keeps s (Machine.stuckGoesOn ch bits t) := by
  unfold Machine.stuckGoesOn
  extract_lets +onlyGivenNames _
  split
  · exact .ite h.setCh h
  · exact h

theorem Keeps.takeSec {ch p x cfg} (h : Keeps s t) : Keeps s (Machine.takeSec ch p x cfg t) := .ite h h.setCh

theorem Answers.execDecOutputStrobe {ch preset bits} (h : Keeps s t) :
    Answers s (Machine.execDecOutputStrobe ch preset bits t) := by
  unfold Machine.execDecOutputStrobe
  extract_lets +onlyGivenNames _ _ _ _ _
  split
  · exact .next h
  · extract_lets +onlyGivenNames _ _ _ _ _ _ _ _ _ _ s₁ _ _
    have h₁ : Keeps s s₁ :=
      .when
        (.when (.when h.takeSec.stuckGoesOn.setCh (((Keeps.refl _).hitF _ _).hitF _ _))
          (((Keeps.refl _).hitF _ _).hitF _ _)) (Keeps.refl _).setCh
    exact .next (.when (.when h₁ (Keeps.refl _).detect) (Keeps.refl _).blockSample)

theorem Answers.execDecStuckDetect {ch level} (h : Keeps s t) :
    Answers s (Machine.execDecStuckDetect ch level t) := .ite (.next h) (.next ((h.setCh.hitF _ _).hitF _ _))

theorem Answers.execDecBlockComplete {ch} (h : Keeps s t) : Answers s (Machine.execDecBlockComplete ch t) := by
  unfold Machine.execDecBlockComplete
  extract_lets +onlyGivenNames _
  split
  · exact .next h
  · extract_lets +onlyGivenNames _
    split
    · exact .next h
    · rename_i e
      exact .next (.event (.setF (.setF (.setCh (.of_eq (h.writeChecked _ _ _ _) e)) _ _) _ _) _)
    · rename_i e
      exact .next (.setCh (.of_eq (h.writeChecked _ _ _ _) e))
    · rename_i e
      exact .next (.decSnap (.hitF (.setF (.setCh (.of_eq (h.writeChecked _ _ _ _) e)) _ _) _ _))

theorem Keeps.countMerged {pin} (h : Keeps s t) : Keeps s (Machine.countMerged pin t) := (h.incF _ _).setF _ _

theorem Keeps.syncEventAddSched {S pin} (h : Keeps s t) : Keeps s (Machine.syncEvent.addSched S pin t) := h.record

theorem Keeps.syncEvent {S pin} (h : Keeps s t) : Keeps s (Machine.syncEvent S pin t) := by
  unfold Machine.syncEvent
  split
  · exact .ite h.countMerged h.syncEventAddSched
  · exact h.syncEventAddSched

theorem Answers.execSyncInEdge {rising} (h : Keeps s t) : Answers s (Machine.execSyncInEdge rising t) := by
  unfold Machine.execSyncInEdge
  extract_lets +onlyGivenNames _ s₁
  have h₁ : Keeps s s₁ := h.record
  exact .ite (.next h₁.syncEvent) (.next h₁)

theorem Keeps.goSync (h : Keeps s t) : Keeps s (Machine.goSync t) := by
  unfold Machine.goSync
  exact .when (h.setF _ _).syncEvent ((Keeps.refl _).record.setF _ _)

theorem Answers.execDecSyncGo (h : Keeps s t) : Answers s (Machine.execDecSyncGo t) := .next h.goSync

theorem Answers.execDecSyncReset (h : Keeps s t) : Answers s (Machine.execDecSyncReset t) := by
  unfold Machine.execDecSyncReset
  split
  · exact .next h
  · split
    · exact .next h
    · extract_lets +onlyGivenNames _ _ _ _ _ s₁ _ s₂ _ s₃ _
      have h₁ : Keeps s s₁ :=
        .addF (.set64 (.forN h.record (fun _ u => .when (Keeps.refl u).setCh (Keeps.refl _).shortBlock)) _ _) _ _
      have h₂ : Keeps s s₂ :=
        .foldl _ ((h₁.setF _ _).setF _ _)
          (fun u _ =>
            .forN (.forN (.refl _) (fun _ u => (Keeps.refl u).countMerged))
              (fun _ u => (Keeps.refl u).countMerged))
      have h₃ : Keeps s s₃ := by
        unfold s₃
        split
        · exact .ite (h₂.record.setF _ _) h₂
        · exact h₂
      exact .next (((h₃.hitF _ _).event _).finishAwaits _ _ _)

theorem Keeps.queueSwap {p cmd} (h : Keeps s t) : Keeps s (Machine.queueSwap p cmd t) := h.record.setF _ _

theorem Answers.execDecSwapRequest {p} (h : Keeps s t) : Answers s (Machine.execDecSwapRequest p t) :=
  .ite (.next (h.hitB _ _)) (.next h.queueSwap)

theorem Keeps.releaseHeld {p} (h : Keeps s t) : Keeps s (Machine.releaseHeld p t) := by
  unfold Machine.releaseHeld
  split
  · exact h.record.queueSwap
  · exact h

theorem Answers.execDecBankSwap {p} (h : Keeps s t) : Answers s (Machine.execDecBankSwap p t) := by
  unfold Machine.execDecBankSwap
  split
  · exact .next h
  · extract_lets +onlyGivenNames _
    split
    · exact .next h
    · extract_lets +onlyGivenNames _ _ _ _ _ s₁
      have h₁ : Keeps s s₁ := (((((h.record.setF _ _).setF _ _).setF _ _).hitB _ _).event _).releaseHeld
      split
      · exact .next (h₁.record.finishCmd _ _ _ _ _)
      · exact .next h₁

theorem Answers.execDecSetClocks {d} (h : Keeps s t) : Answers s (Machine.execDecSetClocks d t) :=
  .runCmd h
    (fun u _ =>
      .checked (.refl _)
        (.settlePdm
          (.setF
            (.foldl _ (.foldl _ ((Keeps.refl u).take _ _) (fun u _ => (Keeps.refl u).setReg _ _))
              (fun u _ => (Keeps.refl u).setReg _ _)) _ _)))

theorem Answers.execDecOpenChannel {d} (h : Keeps s t) : Answers s (Machine.execDecOpenChannel d t) :=
  .runCmd h (fun u _ => .checked (.refl _) ((((Keeps.refl u).take _ _).setImg _ _ _ _).setImg _ _ _ _).decSnap)

theorem Keeps.closeChannel {ch} (h : Keeps s t) : Keeps s (Machine.closeChannel ch t) := by
  unfold Machine.closeChannel
  exact ((h.setReg _ _).setF _ _).setCh.decSnap.unbindEvents _

theorem Answers.execDecCloseChannel {d} (h : Keeps s t) : Answers s (Machine.execDecCloseChannel d t) :=
  .runCmd h (fun u _ => (Keeps.refl u).closeChannel.giveUp _ _)

theorem Keeps.releaseChannel {ch} (h : Keeps s t) : Keeps s (Machine.releaseChannel ch t) :=
  (h.closeChannel.clearRegs _ _).decSnap.release _

theorem Keeps.releaseCapture (h : Keeps s t) : Keeps s (Machine.releaseCapture t) := by
  unfold Machine.releaseCapture
  exact
    ((((((h.clearRegs _ _).clearRegs _ _).clearRegs _ _).clearRegs _ _).clearRegs _ _).release _).settlePdm.unbindEvents
    _

theorem Answers.execDecSetBuffer {d} (h : Keeps s t) : Answers s (Machine.execDecSetBuffer d t) :=
  .runCmd h
    (fun _ _ =>
      .checked (.refl _)
        (.withBinds (.refl _)
          (fun u => .decSnap (.when (((Keeps.refl u).set64 _ _).setImg _ _ _ _) (Keeps.refl _).setCh))))

theorem Answers.execDecSetDetector {d} (h : Keeps s t) : Answers s (Machine.execDecSetDetector d t) :=
  .runCmd h
    (fun _ _ =>
      .checked (.refl _)
        (.withBinds (.refl _)
          (fun u =>
            ((((((Keeps.refl u).setImg _ _ _ _).setImg _ _ _ _).setImg _ _ _ _).setImg _ _ _ _).setF _ _).decSnap)))

theorem Answers.execDecReadDetectors {d} (h : Keeps s t) : Answers s (Machine.execDecReadDetectors d t) := by
  unfold Machine.execDecReadDetectors
  exact .runCmd h (fun u _ => by
      extract_lets +onlyGivenNames _
      split
      · rename_i e
        exact .pair (.clrB (.clrB (.of_eq (Keeps.refl u).outStatus e) _ _) _ _)
      · exact (Keeps.refl u).outStatus)

theorem Answers.execDecLoadCoef {d} (h : Keeps s t) : Answers s (Machine.execDecLoadCoef d t) := by
  unfold Machine.execDecLoadCoef
  exact .runCmd h fun u _ => .checked (.refl u) (.withMem (Keeps.refl u).readMem fun _ => by
    exact .pair (.setF (.forN (.refl _) fun _ v => (Keeps.refl v).setF _ _) _ _))

theorem Answers.execDecSwapBank {d} (h : Keeps s t) : Answers s (Machine.execDecSwapBank d t) :=
  .runCmd h (fun u _ => .fst_ite (Keeps.refl u).record (Keeps.refl u).queueSwap)

theorem Answers.execDecSync {d} (h : Keeps s t) : Answers s (Machine.execDecSync d t) := by
  unfold Machine.execDecSync
  exact .runCmd h
    (fun u _ =>
      .checked (.refl _)
        (by
          extract_lets +onlyGivenNames _ _ _ _ s₁
          have h₁ : Keeps u s₁ := .goSync (.when ((Keeps.refl u).setF _ _) ((Keeps.refl _).set64 _ _))
          exact .fst_ite h₁ h₁))

theorem Answers.execDecStatus {d} (h : Keeps s t) : Answers s (Machine.execDecStatus d t) :=
  .runCmd h (fun u _ => (Keeps.refl u).outStatus)

theorem Keeps.decPark (h : Keeps s t) : Keeps s (Machine.decPark t) := by
  unfold Machine.decPark
  exact .forN h fun ch u => .forN (.refl u) fun _ v => by
    split
    · rename_i e
      exact (Answers.execDecBlockComplete (.refl v)).keeps_of_eq e
    · exact .refl v

theorem Keeps.decWake (h : Keeps s t) : Keeps s (Machine.decWake t) := h.record.settlePdm

/-! ### The functions of Machine/HostReads -/

theorem Keeps.putTags (h : Keeps s t) : Keeps s (Machine.putTags t) := (h.setF _ _).maxF _ _

theorem Keeps.issueOne {u} (h : Keeps s t) (e : issueOne t = some u) : Keeps s u := by
  unfold Machine.issueOne at e
  extract_lets at e
  split at e
  · cases e
  · split at e
    · injection e with e
      subst e
      exact h.record.putTags
    · cases e

theorem Keeps.issueReads {k} (h : Keeps s t) : Keeps s (Machine.issueReads k t) := by
  induction k generalizing t with
  | zero => exact h
  | succ k ih =>
    unfold Machine.issueReads
    split
    · rename_i e
      exact ih (h.issueOne e)
    · exact h

theorem Keeps.readHost {o a n} (h : Keeps s t) : Keeps s (Machine.readHost o a n t) := .ite h h.record.issueReads

theorem Keeps.dropReads {o} (h : Keeps s t) : Keeps s (Machine.dropReads o t) := h.record

theorem Keeps.readServed {a n} (h : Keeps s t) : Keeps s (Machine.readServed a n t) := h.record

/-! ### The functions of Machine/Voice -/

theorem Keeps.setStrm {k' x} (h : Keeps s t) : Keeps s (t.setStrm k' x) := h.record

theorem Keeps.setLstr {k' x} (h : Keeps s t) : Keeps s (t.setLstr k' x) := h.record

/-! ### The functions of Machine/Tdm -/

theorem Keeps.setTdir {n d x} (h : Keeps s t) : Keeps s (t.setTdir n d x) := h.record

theorem Keeps.setTline {n d l x} (h : Keeps s t) : Keeps s (t.setTline n d l x) := h.record

theorem Keeps.setTslot {n l k' x} (h : Keeps s t) : Keeps s (t.setTslot n l k' x) := h.record

theorem Keeps.tdmEvt {k' n} (h : Keeps s t) : Keeps s (Machine.tdmEvt k' n t) := (h.setB _ _).event _

theorem Keeps.withMark {n d l f} (k : Keeps s (f t)) : Keeps s (Machine.withMark n d l f t) := by
  unfold Machine.withMark
  exact .when k ((Keeps.refl _).event _)

theorem Keeps.countMiss {n d l k'} (h : Keeps s t) : Keeps s (Machine.countMiss n d l k' t) :=
  (h.setTline.incF _ _).setF _ _

theorem Keeps.sourceStep {n l k'} (h : Keeps s t) : Keeps s (Machine.sourceStep n l k' t) := .ite h.setTslot h

theorem Keeps.touchSlot {n l k'} (h : Keeps s t) : Keeps s (Machine.touchSlot n l k' t) := by
  unfold Machine.touchSlot
  split
  · exact h
  · extract_lets +onlyGivenNames s₁ _
    have h₁ : Keeps s s₁ := h.sourceStep
    exact .ite (h₁.setTslot.setF _ _) (.ite (h₁.setTslot.setF _ _) (h₁.setTslot.setF _ _))

theorem Keeps.touchPort {n} (h : Keeps s t) : Keeps s (Machine.touchPort n t) :=
  .forN h (fun _ _ => .forN (.refl _) (fun _ u => (Keeps.refl u).touchSlot))

theorem Keeps.touchAll (h : Keeps s t) : Keeps s (Machine.touchAll t) := .forN h (fun _ u => (Keeps.refl u).touchPort)

theorem Keeps.settleSlots (h : Keeps s t) : Keeps s (Machine.settleSlots t) := h.finishAwaits _ _ _

theorem Keeps.settleStop {n} (h : Keeps s t) : Keeps s (Machine.settleStop n t) := .ite (h.setTdir.setF _ _) h

theorem Keeps.applyChange {n l k'} (h : Keeps s t) : Keeps s (Machine.applyChange n l k' t) :=
  .settleStop (.settleSlots (.ite h.setTslot.touchSlot h.setTslot.touchSlot))

theorem Answers.execTdmSilentChange {n l k'} (h : Keeps s t) : Answers s (Machine.execTdmSilentChange n l k' t) := by
  unfold Machine.execTdmSilentChange
  split
  · exact .next h
  · exact .next (.when h (Keeps.refl _).applyChange)

theorem Answers.execTdmZcTimeout {n l k'} (h : Keeps s t) : Answers s (Machine.execTdmZcTimeout n l k' t) := by
  unfold Machine.execTdmZcTimeout
  split
  · exact .next h
  · exact .ite (.next h) (.next (h.hitB _ _).applyChange)

theorem Keeps.forDirs {f} (h : Keeps s t) (k : ∀ a b u, Keeps u (f a b u)) : Keeps s (Machine.forDirs f t) :=
  .forN h (fun _ _ => k _ _ _)

theorem Keeps.goLive {n d} (h : Keeps s t) : Keeps s (Machine.goLive n d t) := by
  unfold Machine.goLive
  extract_lets +onlyGivenNames _ _ s₁
  have h₁ : Keeps s s₁ := h.setTdir.setF _ _
  exact .ite h₁ (.forN h₁.touchPort (fun _ u => .forN (.refl _) (fun _ u => .ite (Keeps.refl u).applyChange
    (.refl _))))

theorem Keeps.resumeDir {n d} (h : Keeps s t) : Keeps s (Machine.resumeDir n d t) :=
  .ite (h.setF _ _).settleStop h.goLive

theorem Keeps.dirFrame {g fs n d} (h : Keeps s t) : Keeps s (Machine.dirFrame g fs n d t) := by
  unfold Machine.dirFrame
  split
  · exact h
  · extract_lets +onlyGivenNames _ _
    split
    · split
      · extract_lets +onlyGivenNames s₁
        have h₁ : Keeps s s₁ := h.setTdir
        exact .ite h₁.goLive (h₁.setF _ _)
      · exact h
    · extract_lets +onlyGivenNames _ s₂
      have h₂ : Keeps s s₂ := h.setTdir
      exact .ite h₂.resumeDir h₂

theorem Keeps.groupFrame {g fs} (h : Keeps s t) : Keeps s (Machine.groupFrame g fs t) :=
  .forDirs (((h.set64 _ _).addF _ _).record.setF _ _) (fun _ _ u => (Keeps.refl u).dirFrame)

theorem Keeps.tdmTick (h : Keeps s t) : Keeps s (Machine.tdmTick t) :=
  .forN h (fun _ u => .ite (.ite (Keeps.refl u).groupFrame ((Keeps.refl u).setF _ _)) (.refl _))

theorem Keeps.skipTx {n l i k'} (h : Keeps s t) : Keeps s (Machine.skipTx n l i k' t) := by
  unfold Machine.skipTx
  extract_lets +onlyGivenNames _ _ _ s₁
  have h₁ : Keeps s s₁ := h.setTslot
  split
  · exact h₁.countMiss
  · split
    · split
      · exact .countMiss (.when h₁ (Keeps.refl _).setTline)
      · exact h₁
    · exact .countMiss (.when h₁ (Keeps.refl _).setTline)

theorem Keeps.cutLine {n d l i pos} (h : Keeps s t) : Keeps s (Machine.cutLine n d l i pos t) := by
  unfold Machine.cutLine
  extract_lets +onlyGivenNames cut fifo
  clear_value cut fifo
  split
  · exact .when h (Keeps.refl _).countMiss
  · extract_lets +onlyGivenNames s₁
    have h₁ : Keeps s s₁ := .foldl _ h fun u _ => .ite (.refl u) (Keeps.refl u).setTslot
    clear_value s₁
    exact .ite (.foldr _ h₁ fun _ u => (Keeps.refl u).skipTx) (.foldl _ h₁ fun u _ => (Keeps.refl u).setTslot)

theorem Keeps.skipSlots {g pos} (h : Keeps s t) : Keeps s (Machine.skipSlots g pos t) :=
  .forDirs h
    (fun _ _ _ => .ite (.refl _) (.forN (.refl _) (fun _ _ => .cutLine (.when (.refl _) (Keeps.refl _).cutLine))))

theorem Keeps.frameErr {g} (h : Keeps s t) : Keeps s (Machine.frameErr g t) :=
  .forN h (fun _ _ => .when (.refl _) (Keeps.refl _).tdmEvt)

theorem Answers.execTdmSlaveFsEdge {g pos period} (h : Keeps s t) :
    Answers s (Machine.execTdmSlaveFsEdge g pos period t) :=
  .ite (.next h)
    (.next
      (.groupFrame
        (.setF
          (.setF (.when (.when (.ite h.skipSlots.frameErr h) ((Keeps.refl _).setF _ _)) ((Keeps.refl _).setF _ _)) _
            _) _ _)))

theorem Keeps.fsMissing {g} (h : Keeps s t) : Keeps s (Machine.fsMissing g t) :=
  .ite h (.forDirs (h.frameErr.record.addF _ _) (fun _ _ u => .ite (.refl _) (Keeps.refl u).dirFrame))

theorem Keeps.dirIdle {n d} (h : Keeps s t) : Keeps s (Machine.dirIdle n d t) := by
  unfold Machine.dirIdle
  extract_lets +onlyGivenNames _ _ _ _ _ _ s₁ s₂
  have h₁ : Keeps s s₁ :=
    .when
      (.when ((h.setF _ _).setF _ _).setTdir
        (.forN (.refl _) (fun _ u => .forN (.refl _) (fun _ u => (Keeps.refl u).setTslot))))
      (Keeps.refl _).touchPort.settleSlots
  have h₂ : Keeps s s₂ :=
    .when h₁ (.forN (.refl _) (fun _ u => .ite (.refl _) (Keeps.refl u).setTline.dropReads))
  exact h₂.finishAwaits _ _ _

theorem Keeps.waitDir {n d} (h : Keeps s t) : Keeps s (Machine.waitDir n d t) :=
  .ite h.dirIdle
    (.when (h.setTdir.setF _ _)
      (.forN (.refl _) (fun _ _ => .forN (.refl _) (fun _ u => (Keeps.refl u).setTslot))))

theorem Keeps.clkLost {g pos} (h : Keeps s t) : Keeps s (Machine.clkLost g pos t) :=
  .ite h
    (.forDirs (.forN ((h.skipSlots.setF _ _).setF _ _) (fun _ _ => .when (.refl _) (Keeps.refl _).tdmEvt))
      (fun _ _ u => .ite (.refl _) (Keeps.refl u).waitDir))

theorem Keeps.logWord {n l k' first w} (h : Keeps s t) : Keeps s (Machine.logWord n l k' first w t) := .ite h h.record

theorem Keeps.ringFault {n d} (h : Keeps s t) : Keeps s (Machine.ringFault n d t) := (h.hitB _ _).dirIdle

theorem Keeps.refill {n l k} (h : Keeps s t) : Keeps s (Machine.refill n l k t) := by
  induction k generalizing t with
  | zero =>
    unfold Machine.refill
    exact h
  | succ k ih =>
    unfold Machine.refill
    extract_lets
    have hr {q c a m} := h.readChecked q c a m
    split
    · exact h
    · rename_i e
      exact (hr.of_eq e).ringFault
    all_goals
      rename_i e
      unfold Machine.refill.put
      exact ih ((hr.of_eq e).setTline.setF _ _)

theorem Keeps.askLine {n l k} (h : Keeps s t) : Keeps s (Machine.askLine n l k t) := by
  induction k generalizing t with
  | zero => exact h
  | succ k ih =>
    unfold Machine.askLine
    extract_lets
    split
    · exact h
    · split
      · exact ih h.setTline.readHost
      · split
        · rename_i e
          exact ((h.readChecked _ _ _ _).of_eq e).ringFault
        · exact h

theorem Keeps.landLine {n l k} (h : Keeps s t) : Keeps s (Machine.landLine n l k t) := by
  induction k generalizing t with
  | zero => exact h
  | succ k ih =>
    unfold Machine.landLine
    exact .ite h (ih (h.setTline.setF _ _))

theorem Keeps.landLines (h : Keeps s t) : Keeps s (Machine.landLines t) :=
  .forN h (fun _ _ => .forN (.refl _) (fun _ u => .ite (.refl _) (Keeps.refl u).landLine.withMark))

theorem Keeps.refillLine {n l} (h : Keeps s t) : Keeps s (Machine.refillLine n l t) := by
  unfold Machine.refillLine
  exact .ite h (.ite h.askLine (.withMark h.refill))

theorem Keeps.feedFetch {n l} (h : Keeps s t) : Keeps s (Machine.feedFetch n l t) := .ite h.refillLine h

theorem Keeps.takeWord {n l k' img live} (h : Keeps s t) : Keeps s (Machine.takeWord n l k' img live t).1 := by
  unfold Machine.takeWord
  split
  · split
    · exact h
    · split
      · exact h
      · extract_lets +onlyGivenNames _
        split
        · exact h.setTline
        · exact h.setTline.countMiss.tdmEvt
  · exact h

theorem Keeps.fetchSlot {n l k' i fs} (h : Keeps s t) : Keeps s (Machine.fetchSlot n l k' i fs t) := by
  unfold Machine.fetchSlot
  extract_lets +onlyGivenNames _ _ _ r₁ _
  have h₁ : Keeps s r₁.1 := .takeWord (.when (.when h (Keeps.refl _).feedFetch) (Keeps.refl _).applyChange)
  clear_value r₁
  exact .ite h₁ h₁.setTslot.logWord

theorem Answers.execTxSlotFetch {n l k'} (h : Keeps s t) : Answers s (Machine.execTxSlotFetch n l k' t) := by
  unfold Machine.execTxSlotFetch
  split
  · exact .next h
  · split
    · exact .next h
    · exact .next h.fetchSlot

theorem Keeps.reformSlots (h : Keeps s t) : Keeps s (Machine.reformSlots t) := by
  unfold Machine.reformSlots
  exact .forN h
    (fun _ u =>
      .forN (.refl _)
        (fun _ u =>
          .forN (.refl _) (fun _ u => by
              extract_lets +onlyGivenNames _
              split
              · exact .ite (Keeps.refl u).setTslot.logWord (.refl _)
              · exact .refl _)))

theorem Answers.execTdmFifoRefill {n l} (h : Keeps s t) : Answers s (Machine.execTdmFifoRefill n l t) :=
  .ite (.next h) (.next h.refillLine)

theorem Keeps.drain {n l k} (h : Keeps s t) : Keeps s (Machine.drain n l k t) := by
  induction k generalizing t with
  | zero => exact h
  | succ k ih =>
    unfold Machine.drain
    split
    · exact h
    · extract_lets +onlyGivenNames _
      have hw {q c a bs} := h.writeChecked q c a bs
      split
      · exact h
      · rename_i e
        exact (hw.of_eq e).ringFault
      · rename_i e
        extract_lets +onlyGivenNames _ s₁
        have h₁ : Keeps s s₁ := (hw.of_eq e).setTline.setF _ _
        split
        · exact ih ((h₁.set64 _ _).setF _ _)
        · exact ih h₁

theorem Answers.execTdmFifoDrain {n l} (h : Keeps s t) : Answers s (Machine.execTdmFifoDrain n l t) := by
  unfold Machine.execTdmFifoDrain
  exact .ite (.next h) (.next (.withMark h.drain))

theorem Keeps.rxIntoFifo {n l stamp ws got} (h : Keeps s t) : Keeps s (Machine.rxIntoFifo n l stamp ws got t) :=
  .ite h (.ite h.setTline (.ite h.setTline.countMiss.tdmEvt h.countMiss.tdmEvt))

theorem Keeps.armDir {x n d} (h : Keeps s t) : Keeps s (Machine.armDir x n d t) :=
  .setTdir (.setReg (.forN (h.setF _ _) (fun _ u => ((Keeps.refl u).setTline.setF _ _).setF _ _)) _ _)

theorem Keeps.restartDirs {m} (h : Keeps s t) : Keeps s (Machine.restartDirs m t) :=
  .forDirs h (fun _ _ _ => .when (.refl _) (Keeps.refl _).armDir)

theorem Keeps.trigGo (h : Keeps s t) : Keeps s (Machine.trigGo t) :=
  .record (.forDirs ((h.setF _ _).setF _ _) (fun _ _ _ => .when (.refl _) (Keeps.refl _).armDir))

theorem Answers.execTdmTrigGo (h : Keeps s t) : Answers s (Machine.execTdmTrigGo t) := .next (.ite h h.trigGo)

theorem Answers.execStartInEdge {rising} (h : Keeps s t) : Answers s (Machine.execStartInEdge rising t) := by
  unfold Machine.execStartInEdge
  extract_lets +onlyGivenNames _ s₁
  have h₁ : Keeps s s₁ := h.record
  exact .ite (.next h₁.record) (.next h₁)

theorem Answers.execTdmTrigger (h : Keeps s t) : Answers s (Machine.execTdmTrigger t) := by
  unfold Machine.execTdmTrigger
  split
  · exact .next h
  · split
    · exact .next h
    · extract_lets +onlyGivenNames _ s₁ _ _ s₂ _
      have h₁ : Keeps s s₁ :=
        .set64 (.setF (.setF (.forDirs h (fun _ _ u => .when (.refl _) (Keeps.refl _).setTdir)) _ _) _ _) _ _
      have h₂ : Keeps s s₂ :=
        .forN h₁.record
          (fun _ u =>
            .ite (.when (.refl _) (.foldl _ (.refl _) (fun u _ => (Keeps.refl u).dirFrame)))
              (.when (.refl _) ((Keeps.refl _).setF _ _).groupFrame))
      exact .next (((h₂.hitF _ _).event _).finishAwaits _ _ _)

theorem Answers.execTdmGoLive {n d} (h : Keeps s t) : Answers s (Machine.execTdmGoLive n d t) :=
  .ite (.next h.goLive) (.next h)

theorem Keeps.stopDir {n d} (h : Keeps s t) : Keeps s (Machine.stopDir n d t) := by
  unfold Machine.stopDir
  extract_lets +onlyGivenNames _
  split
  · exact h
  · split
    · exact h.dirIdle
    · split
      · exact h
      · extract_lets +onlyGivenNames _ s₁
        have h₁ : Keeps s s₁ := (h.setF _ _).setTdir
        exact .ite (h₁.setF _ _).touchPort.settleStop (h₁.setF _ _)

theorem Keeps.dropTrigger (h : Keeps s t) : Keeps s (Machine.dropTrigger t) := by
  unfold Machine.dropTrigger
  exact ((h.record.setF _ _).setF _ _).finishAwaits _ _ _

theorem Keeps.settleTrigger {before} (h : Keeps s t) : Keeps s (Machine.settleTrigger before t) :=
  .ite h.dropTrigger h

theorem Keeps.stopMask {mask} (h : Keeps s t) : Keeps s (Machine.stopMask mask t) :=
  .settleTrigger (.forDirs h.record (fun _ _ _ => .when (.refl _) (Keeps.refl _).stopDir))

theorem Answers.execTdmCtrlStop {n d} (h : Keeps s t) : Answers s (Machine.execTdmCtrlStop n d t) :=
  .ite (.next h) (.next h.stopMask)

theorem Answers.execTdmTailEnd {n d} (h : Keeps s t) : Answers s (Machine.execTdmTailEnd n d t) :=
  .ite (.next h.dirIdle) (.next h)

theorem Answers.execMuteNChange {high} (h : Keeps s t) : Answers s (Machine.execMuteNChange high t) :=
  .ite (.next h) (.next ((h.record.setF _ _).notice _ _).touchAll)

theorem Answers.execTdmConfigClock {d} (h : Keeps s t) : Answers s (Machine.execTdmConfigClock d t) :=
  .runCmd h (fun u _ => .checked (.refl _) ((((Keeps.refl u).take _ _).setImg _ _ _ _).setReg _ _))

theorem Answers.execTdmConfigDir {d} (h : Keeps s t) : Answers s (Machine.execTdmConfigDir d t) :=
  .runCmd h
    (fun u _ =>
      .checked (.refl _) (.pair (.when ((Keeps.refl u).setImg _ _ _ _) ((Keeps.refl _).setImg _ _ _ _).touchPort)))

theorem Answers.execTdmSetSlots {d} (h : Keeps s t) : Answers s (Machine.execTdmSetSlots d t) := by
  unfold Machine.execTdmSetSlots
  exact .runCmd h
    (fun u _ =>
      .checked (.refl _)
        (.withMem (Keeps.refl u).readMem
          (fun _ =>
            .checked (.refl _)
              (by
                extract_lets +onlyGivenNames s₁
                have h₁ : Keeps _ s₁ := .foldl _ (.refl _) (fun u _ => (Keeps.refl u).setImg _ _ _ _)
                split
                · exact h₁
                · extract_lets +onlyGivenNames s₂
                  have h₂ : Keeps _ s₂ := .foldl _ h₁ (fun u _ => (Keeps.refl u).touchSlot)
                  exact .fst_ite h₂ h₂))))

theorem Answers.execTdmSetRing {d} (h : Keeps s t) : Answers s (Machine.execTdmSetRing d t) :=
  .runCmd h
    (fun _ _ =>
      .checked (.refl _) (.withBinds (.refl _) (fun u => (((Keeps.refl u).setReg _ _).setReg _ _).setImg _ _ _ _)))

theorem Answers.execTdmStart {d} (h : Keeps s t) : Answers s (Machine.execTdmStart d t) :=
  .runCmd h (fun u _ => .checked (.refl _) (((((Keeps.refl u).setF _ _).setF _ _).setF _ _).set64 _ _).trigGo)

theorem Answers.execTdmStop {d} (h : Keeps s t) : Answers s (Machine.execTdmStop d t) := by
  unfold Machine.execTdmStop
  exact .runCmd h
    (fun u _ =>
      .checked (.refl _)
        (by
          extract_lets +onlyGivenNames s₁
          have h₁ : Keeps u s₁ := (Keeps.refl u).stopMask
          exact .fst_ite h₁ h₁))

theorem Keeps.putTxMute {n} (h : Keeps s t) : Keeps s (Machine.putTxMute n t) := (h.setF _ _).touchPort

theorem Answers.execTdmSetMute {d} (h : Keeps s t) : Answers s (Machine.execTdmSetMute d t) :=
  .runCmd h (fun u _ => .checked (.refl _) ((Keeps.refl u).setVote _ _ _).putTxMute)

theorem Answers.execTdmStatus {d} (h : Keeps s t) : Answers s (Machine.execTdmStatus d t) :=
  .runCmd h (fun u _ => (Keeps.refl u).outStatus)

theorem Keeps.stopPort {n} (h : Keeps s t) : Keeps s (Machine.stopPort n t) := h.stopMask

theorem Keeps.releasePort {n} (h : Keeps s t) : Keeps s (Machine.releasePort n t) := by
  unfold Machine.releasePort
  exact .unbindEvents
    (.release
      (.forN (.forN ((h.clearRegs _ _).setReg _ _) (fun _ u => (Keeps.refl u).setTslot))
        (fun _ u => .forN (Keeps.refl u).setTdir (fun _ u => (Keeps.refl u).setTline))) _) _

/-! ### The functions of Machine/Gust -/

theorem Keeps.gustMute (h : Keeps s t) : Keeps s (Machine.gustMute t) := .ite h h.record

theorem Keeps.gustTick (h : Keeps s t) : Keeps s (Machine.gustTick t) := by
  unfold Machine.gustTick
  extract_lets +onlyGivenNames s₁
  have h₁ : Keeps s s₁ := h.gustMute
  split
  · exact h₁.record
  · exact h₁

theorem Keeps.gustOutput {ramp sums clips o} (h : Keeps s t) : Keeps s (Machine.gustOutput ramp sums clips o t) :=
  .record (.when h (((Keeps.refl _).hitB _ _).hitF _ _))

theorem Answers.execGustWordReady (h : Keeps s t) : Answers s (Machine.execGustWordReady t) := by
  unfold Machine.execGustWordReady
  split
  · exact .next h
  · split
    · exact .next h
    · extract_lets +onlyGivenNames _ _ _ _ _ _ _ s₁
      have h₁ : Keeps s s₁ :=
        .reformSlots
          (.forN (.record (.foldl _ h (fun u _ => (Keeps.refl u).setF _ _))) (fun _ u => (Keeps.refl u).gustOutput))
      exact .next (.when h₁ ((Keeps.refl _).finishAwaits _ _ _))

theorem Answers.execGustMonitorWindow {o} (h : Keeps s t) : Answers s (Machine.execGustMonitorWindow o t) := by
  unfold Machine.execGustMonitorWindow
  extract_lets +onlyGivenNames _ _
  split
  · exact .next h
  · extract_lets +onlyGivenNames _ _ s₁
    have h₁ : Keeps s s₁ := h.record.setF _ _
    exact .ite (.next (((h₁.hitB _ _).hitF _ _).event _)) (.next h₁)

theorem Keeps.tripClear {mask} (h : Keeps s t) : Keeps s (Machine.tripClear mask t) := (h.setF _ _).record

theorem Answers.execGustTripClear {mask} (h : Keeps s t) : Answers s (Machine.execGustTripClear mask t) :=
  .next h.tripClear

theorem Keeps.gustQueue {cmd} (h : Keeps s t) : Keeps s (Machine.gustQueue cmd t) := h.record.addF _ _

theorem Answers.execGustSwapRequest (h : Keeps s t) : Answers s (Machine.execGustSwapRequest t) :=
  .ite (.next (h.hitF _ _)) (.next h.gustQueue)

theorem Keeps.finishCopy (h : Keeps s t) : Keeps s (Machine.finishCopy t) := by
  unfold Machine.finishCopy
  split
  · exact h
  · exact ((h.record.setF _ _).hitF _ _).event _

theorem Keeps.bankSwap (h : Keeps s t) : Keeps s (Machine.bankSwap t) := by
  unfold Machine.bankSwap
  split
  · extract_lets +onlyGivenNames _
    split
    · exact h
    · extract_lets +onlyGivenNames _ _ _ _ _ s₁ s₂
      have h₁ : Keeps s s₁ := (((h.finishCopy.record.setF _ _).setF _ _).setF _ _).set64 _ _
      have h₂ : Keeps s s₂ := (h₁.hitF _ _).event _
      split
      · exact h₂.record.finishCmd _ _ _ _ _
      · exact h₂
  · exact h

theorem Answers.execGustBankSwap (h : Keeps s t) : Answers s (Machine.execGustBankSwap t) := .next h.bankSwap

theorem Answers.execGustCopyDone (h : Keeps s t) : Answers s (Machine.execGustCopyDone t) := .next h.finishCopy

theorem Keeps.putCoef {p w v} (h : Keeps s t) : Keeps s (Machine.putCoef p w v t) := h.record

theorem Keeps.coefAdvance (h : Keeps s t) : Keeps s (Machine.coefAdvance t) :=
  .ite ((h.setF _ _).addF _ _) (h.setF _ _)

theorem Keeps.answer {i c data} (h : Keeps s t) : Keeps s (t.answer i c data) := h.record

theorem Answers.execGustCoefWrite {i v} (h : Keeps s t) : Answers s (Machine.execGustCoefWrite i v t) :=
  .ite (.next h.answer) (.next (.answer (.coefAdvance (.when h.bankSwap (Keeps.refl _).putCoef))))

theorem Keeps.putPath {p v} (h : Keeps s t) : Keeps s (Machine.putPath p v t) := (h.setReg _ _).record

theorem Answers.execGustPathWrite {i p v} (h : Keeps s t) : Answers s (Machine.execGustPathWrite i p v t) :=
  .ite (.next h.answer) (.next h.putPath.answer)

theorem Keeps.loadGo (h : Keeps s t) : Keeps s (Machine.loadGo t) := (h.record.setF _ _).setF _ _

theorem Answers.execGustLoadGo {i} (h : Keeps s t) : Answers s (Machine.execGustLoadGo i t) :=
  .ite (.next h.answer) (.ite (.next h.answer) (.next h.loadGo.answer))

theorem Keeps.putImage {p bs} (h : Keeps s t) : Keeps s (Machine.putImage p bs t) :=
  .forN h (fun _ u => (Keeps.refl u).putCoef)

theorem Keeps.loadEnd {st} (h : Keeps s t) : Keeps s (Machine.loadEnd st t) := by
  unfold Machine.loadEnd
  extract_lets +onlyGivenNames _ _ _ s₁ s₂
  have h₁ : Keeps s s₁ := (h.record.setF _ _).setF _ _
  have h₂ : Keeps s s₂ := .ite ((h₁.hitF _ _).event _) (h₁.hitF _ _)
  exact .when (h₂.finishAwaits _ _ _) (Keeps.refl _).loadGo

theorem Answers.execGustLoadDone (h : Keeps s t) : Answers s (Machine.execGustLoadDone t) := by
  unfold Machine.execGustLoadDone
  split
  · exact .next h
  · extract_lets +onlyGivenNames s₁ _
    have h₁ : Keeps s s₁ := h.bankSwap
    split
    · exact .next h₁
    · rename_i e
      exact .next (.loadEnd (.of_eq (h₁.readChecked _ _ _ _) e))
    · rename_i e
      exact .next (.loadEnd (.of_eq (h₁.readChecked _ _ _ _) e))
    · rename_i e
      exact .next (.loadEnd (.forN (.of_eq (h₁.readChecked _ _ _ _) e) (fun _ u => (Keeps.refl u).putImage)))

theorem Answers.execGustConfig {d} (h : Keeps s t) : Answers s (Machine.execGustConfig d t) :=
  .runCmd h
    (fun u _ =>
      .checked (.refl _)
        (.setF (.setImg (.forN ((Keeps.refl u).take _ _) (fun _ u => ((Keeps.refl u).setF _ _).setF _ _)) _ _ _ _)
          _ _))

theorem Answers.execGustSetPaths {d} (h : Keeps s t) : Answers s (Machine.execGustSetPaths d t) :=
  .runCmd h
    (fun u _ =>
      .checked (.refl _)
        (.withMem (Keeps.refl u).readMem
          (fun _ => .checked (.refl _) (.pair (.forN (.refl _) (fun _ u => (Keeps.refl u).putPath))))))

theorem Answers.execGustLoadCoef {d} (h : Keeps s t) : Answers s (Machine.execGustLoadCoef d t) :=
  .runCmd h
    (fun u _ =>
      .checked (.refl _) (.fst_ite (.refl _) (((((Keeps.refl u).setReg _ _).setReg _ _).setF _ _).setF _ _).loadGo))

theorem Answers.execGustSwap {d} (h : Keeps s t) : Answers s (Machine.execGustSwap d t) :=
  .runCmd h (fun u _ => .fst_ite (.refl _) (Keeps.refl u).gustQueue)

theorem Answers.execGustBindMarten {d} (h : Keeps s t) : Answers s (Machine.execGustBindMarten d t) :=
  .runCmd h (fun _ _ => .checked (.refl _) (.withBinds (.refl _) (fun u => (Keeps.refl u).setF _ _)))

theorem Answers.execGustSetMonitor {d} (h : Keeps s t) : Answers s (Machine.execGustSetMonitor d t) :=
  .runCmd h
    (fun u _ =>
      .checked (.refl _)
        (.withMem (Keeps.refl u).readMem
          (fun _ => .checked (.refl _) (.pair (.forN (.refl _) (fun _ u => (Keeps.refl u).setImg _ _ _ _))))))

theorem Answers.execGustClearTrip {d} (h : Keeps s t) : Answers s (Machine.execGustClearTrip d t) :=
  .runCmd h (fun u _ => (Keeps.refl u).tripClear)

theorem Keeps.putOutMute (h : Keeps s t) : Keeps s (Machine.putOutMute t) := h.setF _ _

theorem Answers.execGustSetMute {d} (h : Keeps s t) : Answers s (Machine.execGustSetMute d t) :=
  .runCmd h (fun u _ => ((Keeps.refl u).setVote _ _ _).putOutMute)

theorem Answers.execGustStatus {d} (h : Keeps s t) : Answers s (Machine.execGustStatus d t) :=
  .runCmd h (fun u _ => (Keeps.refl u).outStatus)

theorem Keeps.releaseGust (h : Keeps s t) : Keeps s (Machine.releaseGust t) := by
  unfold Machine.releaseGust
  exact ((((h.clearRegs _ _).setReg _ _).setReg _ _).record.release _).unbindEvents _

theorem Keeps.gustPark (h : Keeps s t) : Keeps s (Machine.gustPark t) := (h.record.setReg _ _).setReg _ _

/-! ### The functions of Machine/Rate -/

theorem Keeps.setAsrc {n x} (h : Keeps s t) : Keeps s (t.setAsrc n x) := h.record

theorem Keeps.setGuard {g x} (h : Keeps s t) : Keeps s (t.setGuard g x) := h.record

theorem Keeps.asrcFault {n} (h : Keeps s t) : Keeps s (Machine.asrcFault n t) :=
  (((h.hitB _ _).setF _ _).setF _ _).setAsrc

theorem Keeps.asrcWrite {n b u} (h : Keeps s t) (e : asrcWrite n b t = some u) : Keeps s u := by
  unfold Machine.asrcWrite at e
  extract_lets at e
  have hw {q c a bs} := h.writeChecked q c a bs
  split at e
  · cases e
  all_goals rename_i e'; injection e with e; subst e
  · exact (hw.of_eq e').asrcFault
  · exact hw.of_eq e'
  · exact (hw.of_eq e').event _

theorem Keeps.asrcShort {n} (h : Keeps s t) : Keeps s (Machine.asrcShort n t) := by
  unfold Machine.asrcShort
  extract_lets
  split
  · exact .getD h.setAsrc fun _ e => h.setAsrc.asrcWrite e
  · exact h.setAsrc

theorem Keeps.asrcUnlock {n} (h : Keeps s t) : Keeps s (Machine.asrcUnlock n t) :=
  .ite h (.when ((((h.setF _ _).setReg _ _).hitB _ _).event _).setAsrc (Keeps.refl _).asrcShort)

theorem Keeps.asrcLock {n r} (h : Keeps s t) : Keeps s (Machine.asrcLock n r t) := by
  unfold Machine.asrcLock
  extract_lets +onlyGivenNames _ _ _ _ _ _ _ _ _ s₁ _ _
  have h₁ : Keeps s s₁ := .setF (.setF (.setAsrc (.when h (Keeps.refl _).asrcShort)) _ _) _ _
  exact .event (.hitB (.when ((h₁.setReg _ _).set64 _ _) ((Keeps.refl _).setF _ _)) _ _) _

theorem Answers.execAsrcTrackUpdate {n r stamp} (h : Keeps s t) :
    Answers s (Machine.execAsrcTrackUpdate n r stamp t) := by
  unfold Machine.execAsrcTrackUpdate
  split
  · exact .next h
  · extract_lets +onlyGivenNames _ _ s₁ _
    have h₁ : Keeps s s₁ := (h.setReg _ _).setF _ _
    split
    · exact .next (.when h₁ (Keeps.refl _).asrcUnlock)
    · exact .next (h₁.setF _ _).setAsrc
    · exact .ite (.next h₁) (.next (.when h₁.setAsrc (Keeps.refl _).asrcLock))

theorem Keeps.unlockStopped (h : Keeps s t) : Keeps s (Machine.unlockStopped t) :=
  .forN h (fun _ _ => .when (.refl _) (Keeps.refl _).asrcUnlock)

theorem Answers.execTdmFsMissing {g} (h : Keeps s t) : Answers s (Machine.execTdmFsMissing g t) :=
  .next h.fsMissing.unlockStopped

theorem Answers.execTdmClkLost {g pos} (h : Keeps s t) : Answers s (Machine.execTdmClkLost g pos t) :=
  .next h.clkLost.unlockStopped

theorem Keeps.asrcSample {n ys k clip gap u} (h : Keeps s t) (e : asrcSample n ys k clip gap t = some u) :
    Keeps s u := by
  unfold Machine.asrcSample at e
  extract_lets at e
  split at e
  · exact h.setAsrc.asrcWrite e
  · injection e with e
    subst e
    exact h.setAsrc

theorem Keeps.putTxFrame {n p l ys u} (h : Keeps s t) (e : putTxFrame n p l ys t = some u) : Keeps s u := by
  induction ys generalizing t with
  | nil =>
    injection e with e
    exact e ▸ h
  | cons v r ih =>
    unfold Machine.putTxFrame at e
    extract_lets at e
    have hw {q c a bs} := h.writeChecked q c a bs
    split at e
    · rename_i e'
      exact ih ((hw.of_eq e').setF _ _) e
    · rename_i e'
      injection e with e
      exact e ▸ (hw.of_eq e').asrcFault
    · cases e

theorem Answers.execAsrcOutputSample {n} (h : Keeps s t) : Answers s (Machine.execAsrcOutputSample n t) := by
  unfold Machine.execAsrcOutputSample
  extract_lets +onlyGivenNames _ _ _
  split
  · exact .next h
  · split
    · exact .ite (.next h) (.next (.getD h fun _ e => (h.when ((Keeps.refl _).hitF _ _)).asrcSample e))
    · extract_lets +onlyGivenNames _ _ _ _ _
      split
      · exact .next h
      · extract_lets +onlyGivenNames _ _
        split
        · exact .next h
        · rename_i e
          exact .ite (.next (h.putTxFrame e)) (.next (.setAsrc (.when (h.putTxFrame e) ((Keeps.refl _).hitF _ _))))

theorem Keeps.asrcHold {n stamp ys} (h : Keeps s t) : Keeps s (Machine.asrcHold n stamp ys t) := h.setAsrc

theorem Keeps.feedRing {n k cs u} (h : Keeps s t) (e : feedRing n k cs t = some u) : Keeps s u := by
  induction cs generalizing t with
  | nil =>
    injection e with e
    exact e ▸ h
  | cons c r ih =>
    unfold Machine.feedRing at e
    extract_lets at e
    have hw {q c a bs} := h.writeChecked q c a bs
    split at e
    · rename_i e'
      exact ih ((hw.of_eq e').setF _ _) e
    · rename_i e'
      injection e with e
      exact e ▸ (hw.of_eq e').asrcFault
    · cases e

theorem Keeps.readInstant {n} (h : Keeps s t) : Keeps s (Machine.readInstant n t) := by
  unfold Machine.readInstant
  extract_lets +onlyGivenNames _ _ _ _
  split
  · exact ((h.setF _ _).asrcHold.setAsrc.hitB _ _).event _
  · extract_lets +onlyGivenNames r
    have hr : Keeps s r.1 := .foldl_fst _ h fun q _ => by
      have hq {a c b m} := (Keeps.refl q.1).readChecked a c b m
      split
      · exact .refl q.1
      · split
        all_goals
          rename_i e
          exact hq.of_eq e
    clear_value r
    exact .ite h (.ite hr.asrcFault (hr.setF _ _).asrcHold.setAsrc)

theorem Answers.execAsrcOutwardRead {n} (h : Keeps s t) : Answers s (Machine.execAsrcOutwardRead n t) := by
  unfold Machine.execAsrcOutwardRead
  extract_lets +onlyGivenNames _
  split
  · exact .next h
  · split
    · split
      · exact .next h
      · rename_i e
        exact .ite (.next (h.feedRing e)) (.next (.readInstant (h.feedRing e)))
    · exact .next h.readInstant

theorem Keeps.guardKeep {g old} (h : Keeps s t) : Keeps s (Machine.guardKeep g old t) := h.setGuard

theorem Keeps.guardFrame {g stamp} (h : Keeps s t) : Keeps s (Machine.guardFrame g stamp t) := h.setGuard

theorem Keeps.guardDetect {g td pairs cause} (h : Keeps s t) : Keeps s (Machine.guardDetect g td pairs cause t) := by
  unfold Machine.guardDetect
  exact .when (((h.setGuard.setF _ _).setF _ _).set64 _ _) (((Keeps.refl _).hitB _ _).event _)

theorem Keeps.guardTick (h : Keeps s t) : Keeps s (Machine.guardTick t) :=
  .foldl _ h (fun u _ => .ite (.refl _) (.foldl _ (Keeps.refl u).setGuard (fun u _ => (Keeps.refl u).guardDetect)))

theorem Keeps.guardIn {g stamp words got heard} (h : Keeps s t) :
    Keeps s (Machine.guardIn g stamp words got heard t) := by
  unfold Machine.guardIn
  extract_lets +onlyGivenNames s₁ _ s₂ _ _ _
  have h₁ : Keeps s s₁ := h.guardFrame
  have h₂ : Keeps s s₂ := by
    unfold s₂
    split
    · exact h₁.setF _ _
    · exact h₁
  exact h₂.setGuard.guardTick

theorem Keeps.rateTick (h : Keeps s t) : Keeps s (Machine.rateTick t) := h.unlockStopped.guardTick

theorem Keeps.feedConverters {ext l stamp words} (h : Keeps s t) :
    Keeps s (Machine.feedConverters ext l stamp words t) :=
  .forN h (fun _ u => .ite (Keeps.refl u).asrcHold (.refl _))

theorem Keeps.spdifRing {words} (h : Keeps s t) : Keeps s (Machine.spdifRing words t) := by
  unfold Machine.spdifRing
  split
  · exact h
  · extract_lets +onlyGivenNames _ _ _
    split
    · exact h
    · exact .foldl _ h (fun u _ => by
          extract_lets +onlyGivenNames _
          split
          · rename_i e
            exact .setF (.of_eq ((Keeps.refl u).writeChecked _ _ _ _) e) _ _
          · rename_i e
            exact .of_eq ((Keeps.refl u).writeChecked _ _ _ _) e)

theorem Answers.execGuardFrameRelease {g} (h : Keeps s t) : Answers s (Machine.execGuardFrameRelease g t) := by
  unfold Machine.execGuardFrameRelease
  extract_lets +onlyGivenNames _
  split
  · exact .next h
  · split
    · exact .next h
    · extract_lets +onlyGivenNames _ s₁
      have h₁ : Keeps s s₁ := h.setGuard
      exact .ite (.next h₁.spdifRing.feedConverters) (.next h₁.feedConverters.rxIntoFifo)

theorem Answers.execGuardRelease {g} (h : Keeps s t) : Answers s (Machine.execGuardRelease g t) :=
  .ite (.next h) (.next (((h.setGuard.setF _ _).setF _ _).hitB _ _))

theorem Answers.execRxFrameReceive {n l stamp words} (h : Keeps s t) :
    Answers s (Machine.execRxFrameReceive n l stamp words t) := .ite (.next h) (.next h.guardIn)

theorem Keeps.confirmBlock {a b} (h : Keeps s t) : Keeps s (Machine.confirmBlock a b t) := by
  unfold Machine.confirmBlock
  extract_lets +onlyGivenNames _ _ _ _ _ _ _ s₁ _
  have h₁ : Keeps s s₁ :=
    .record (.when (.setF (.forN h (fun _ u => (Keeps.refl u).setReg _ _)) _ _) ((Keeps.refl _).hitF _ _))
  exact .ite h₁.setGuard h₁

theorem Answers.execSpdifFrameReceive {a b stamp period blockStart err} (h : Keeps s t) :
    Answers s (Machine.execSpdifFrameReceive a b stamp period blockStart err t) := by
  unfold Machine.execSpdifFrameReceive
  split
  · exact .next h
  · extract_lets +onlyGivenNames _ put _
    have hp {x u} (hu : Keeps s u) : Keeps s (put x u) := hu.record
    clear_value put
    split
    · exact .next (hp (h.incF _ _))
    · extract_lets +onlyGivenNames _ _ s₁
      have h₁ : Keeps s s₁ := .when h ((((Keeps.refl _).setF _ _).hitF _ _).event _)
      clear_value s₁
      split
      · exact .next (hp h₁)
      · extract_lets +onlyGivenNames s₂ s₃ _ _ s₄ _ _ _ _ _ s₅ s₆
        have h₂ : Keeps s s₂ := (h₁.set64 _ _).setF _ _
        have h₃ : Keeps s s₃ := .when h₂ ((Keeps.refl _).setF _ _)
        have h₄ : Keeps s s₄ := .when h₃ (((Keeps.refl _).incF _ _).hitF _ _)
        have h₅ : Keeps s s₅ := hp h₄
        have h₆ : Keeps s s₆ := .when h₅.guardFrame (Keeps.refl _).confirmBlock
        clear_value s₆
        exact .next h₆.guardIn

theorem Answers.execSpdifLockLoss (h : Keeps s t) : Answers s (Machine.execSpdifLockLoss t) :=
  .ite (.next h)
    (.next
      (.forN ((((h.setF _ _).setF _ _).record.hitF _ _).event _)
        (fun _ _ => .when (.refl _) (Keeps.refl _).asrcUnlock)))

theorem Answers.execAsrcOpen {d} (h : Keeps s t) : Answers s (Machine.execAsrcOpen d t) := by
  unfold Machine.execAsrcOpen
  exact .runCmd h
    (fun u _ =>
      .checked (.refl _)
        (by
          split
          · exact .refl _
          · exact .withBinds (.refl _) (fun u => by
                extract_lets +onlyGivenNames _ _ s₁ _
                have h₁ : Keeps u s₁ :=
                  (((((((Keeps.refl u).take _ _).setImg _ _ _ _).setF _ _).setImg _ _ _ _).setImg _ _ _ _).setReg _
                    _).setReg _ _
                exact ((h₁.setImg _ _ _ _).setReg _ _).setAsrc.setF _ _)))

theorem Keeps.closeConverter {n} (h : Keeps s t) : Keeps s (Machine.closeConverter n t) := by
  unfold Machine.closeConverter
  exact (h.clearRegs _ _).setAsrc.unbindEvents _

theorem Answers.execAsrcClose {d} (h : Keeps s t) : Answers s (Machine.execAsrcClose d t) :=
  .runCmd h (fun u _ => (Keeps.refl u).closeConverter.giveUp _ _)

theorem Answers.execAsrcStatus {d} (h : Keeps s t) : Answers s (Machine.execAsrcStatus d t) :=
  .runCmd h (fun u _ => (Keeps.refl u).outStatus)

theorem Answers.execSpdifConfig {d} (h : Keeps s t) : Answers s (Machine.execSpdifConfig d t) :=
  .runCmd h
    (fun _ _ =>
      .checked (.refl _)
        (.withBinds (.refl _)
          (fun u => (((((Keeps.refl u).take _ _).setImg _ _ _ _).setReg _ _).setReg _ _).setImg _ _ _ _)))

theorem Answers.execSpdifStatus {d} (h : Keeps s t) : Answers s (Machine.execSpdifStatus d t) :=
  .runCmd h (fun u _ => (Keeps.refl u).outStatus)

theorem Answers.execGuardConfig {d} (h : Keeps s t) : Answers s (Machine.execGuardConfig d t) :=
  .runCmd h
    (fun _ _ =>
      .checked (.refl _) (.withBinds (.refl _) (fun u => ((Keeps.refl u).guardKeep.setImg _ _ _ _).setImg _ _ _ _)))

theorem Keeps.releaseGuard {g} (h : Keeps s t) : Keeps s (Machine.releaseGuard g t) := by
  unfold Machine.releaseGuard
  exact ((h.guardKeep.setReg _ _).setReg _ _).unbindEvents _

theorem Keeps.releaseConverter {n} (h : Keeps s t) : Keeps s (Machine.releaseConverter n t) :=
  h.closeConverter.release _

theorem Keeps.releaseSpdif (h : Keeps s t) : Keeps s (Machine.releaseSpdif t) := by
  unfold Machine.releaseSpdif
  exact ((h.clearRegs _ _).record.releaseGuard.release _).unbindEvents _

theorem Keeps.releaseTdm {n} (h : Keeps s t) : Keeps s (Machine.releaseTdm n t) :=
  h.releaseGuard.releaseGuard.releasePort

/-! ### The functions of Machine/Sense -/

theorem Keeps.bump {a n} (h : Keeps s t) : Keeps s (Machine.bump a n t) := h.setLe _ _ _

theorem Keeps.statItem {i stamp n} (h : Keeps s t) : Keeps s (Machine.statItem i stamp n t) := (h.setLe _ _ _).bump

theorem Keeps.trkStat {off n} (h : Keeps s t) : Keeps s (Machine.trkStat off n t) := h.bump

theorem Keeps.senseEnable {n} (h : Keeps s t) : Keeps s (Machine.senseEnable n t) := h.record

theorem Keeps.senseRetime {n} (h : Keeps s t) : Keeps s (Machine.senseRetime n t) := h.record

theorem Answers.execSenseSyncPulse {n} (h : Keeps s t) : Answers s (Machine.execSenseSyncPulse n t) := by
  unfold Machine.execSenseSyncPulse
  extract_lets +onlyGivenNames _ _
  split
  · exact .next h
  · extract_lets +onlyGivenNames _ _ _ s₁ _
    have h₁ : Keeps s s₁ := (((h.record.setReg _ _).set64 _ _).hitB _ _).event _
    exact .ite (.next h₁.record) (.next h₁)

theorem Keeps.sportStart {n} (h : Keeps s t) : Keeps s (Machine.sportStart n t) := h.record

theorem Keeps.sportFollow {n old} (h : Keeps s t) : Keeps s (Machine.sportFollow n old t) :=
  .ite h.sportStart (.ite h.record h)

theorem Answers.execSportBlockComplete {n frames} (h : Keeps s t) :
    Answers s (Machine.execSportBlockComplete n frames t) := by
  unfold Machine.execSportBlockComplete
  extract_lets +onlyGivenNames _
  split
  · exact .next h
  · split
    · exact .next h
    · extract_lets +onlyGivenNames _ _ _ _ _ _ _ _ _ s₁ _
      have h₁ : Keeps s s₁ := h.statItem
      split
      · exact .next h₁
      · rename_i e
        exact .next (.record (.hitB (.setF (.of_eq (h₁.writeChecked _ _ _ _) e) _ _) _ _))
      · rename_i e
        exact .next (.event (.hitB (.setF (.record (.of_eq (h₁.writeChecked _ _ _ _) e)) _ _) _ _) _)

theorem Keeps.imuTrigger {instant} (h : Keeps s t) : Keeps s (Machine.imuTrigger instant t) :=
  .ite (h.hitF _ _).bump h.record

theorem Answers.execSpiImuIntEdge {rising} (h : Keeps s t) : Answers s (Machine.execSpiImuIntEdge rising t) := by
  unfold Machine.execSpiImuIntEdge
  extract_lets +onlyGivenNames _ s₁
  have h₁ : Keeps s s₁ := h.record
  exact .ite (.next h₁.imuTrigger) (.next h₁)

theorem Answers.execImuReadStart (h : Keeps s t) : Answers s (Machine.execImuReadStart t) := by
  unfold Machine.execImuReadStart
  split
  · exact .next h
  · exact .ite (.next h) (.next (.when h.record (Keeps.refl _).imuTrigger))

theorem Answers.execImuReadDone {bytes} (h : Keeps s t) : Answers s (Machine.execImuReadDone bytes t) := by
  unfold Machine.execImuReadDone
  split
  · exact .next h
  · split
    · exact .next h
    · extract_lets +onlyGivenNames _ _ _ _ _ s₁
      have h₁ : Keeps s s₁ :=
        .event (.statItem (.hitF (.set64 (.forN h.record (fun _ u => (Keeps.refl u).setReg _ _)) _ _) _ _)) _
      split
      · exact .next h₁
      · split
        · exact .next h₁.trkStat
        · exact .next h₁.record

theorem Keeps.wheelAccept {w} (h : Keeps s t) : Keeps s (Machine.wheelAccept w t) := by
  unfold Machine.wheelAccept
  split
  · exact h
  · split
    · exact h
    · extract_lets +onlyGivenNames _ _ _ s₁ _
      have h₁ : Keeps s s₁ := ((h.record.addF _ _).set64 _ _).statItem
      exact .ite h₁ (.ite (h₁.hitB _ _).bump h₁.record)

theorem Answers.execWheelTickEdge {w rising} (h : Keeps s t) : Answers s (Machine.execWheelTickEdge w rising t) :=
  .ite (.next h) (.next (.record (.when h.wheelAccept (Keeps.refl _).bump)))

theorem Answers.execWheelEdgeAccept {w} (h : Keeps s t) : Answers s (Machine.execWheelEdgeAccept w t) :=
  .next h.wheelAccept

theorem Keeps.noteInnov {k' v} (h : Keeps s t) : Keeps s (Machine.noteInnov k' v t) := h.record.setLe _ _ _

theorem Keeps.egoRecord {x} (h : Keeps s t) : Keeps s (Machine.egoRecord x t) := by
  unfold Machine.egoRecord
  split
  · exact h
  · extract_lets +onlyGivenNames _ _ _
    split
    · rename_i e
      exact .event (.hitF (.record (.of_eq (h.writeChecked _ _ _ _) e)) _ _) _
    · rename_i e
      exact .of_eq (h.writeChecked _ _ _ _) e

theorem Answers.execEgoFilterStep (h : Keeps s t) : Answers s (Machine.execEgoFilterStep t) := by
  unfold Machine.execEgoFilterStep
  extract_lets +onlyGivenNames _
  split
  · exact .next h
  · extract_lets +onlyGivenNames s₁ _ s₂ _ _ _ _ _ _ _ _ r₁ _ _ _ _ r₂ _ s₃ _ s₄ _ _ s₅ s₆ s₇
    have h₁ : Keeps s s₁ := .forN h fun _ u => (Keeps.refl u).wheelAccept
    clear_value s₁
    have h₂ : Keeps s s₂ := .forN h₁ fun _ u => (Keeps.refl u).record
    clear_value s₂
    have k₁ : Keeps s r₁.2 := by
      unfold r₁
      split
      · exact h₂
      · exact h₂.noteInnov
    clear_value r₁
    have k₂ : Keeps s r₂.2 := by
      unfold r₂
      split
      · exact k₁
      · exact k₁.noteInnov.noteInnov
    clear_value r₂
    have h₄ : Keeps s s₄ := Keeps.record (t := s₃) k₂
    clear_value s₄
    have h₅ : Keeps s s₅ := .forN h₄ fun _ u => (Keeps.refl u).setReg _ _
    clear_value s₅
    have h₇ : Keeps s s₇ := (h₅.set64 _ _).setF _ _
    clear_value s₇
    exact .next (.egoRecord (.ite h₇ (((h₇.setF _ _).hitF _ _).event _)))

theorem Answers.execSenseSetSync {d} (h : Keeps s t) : Answers s (Machine.execSenseSetSync d t) := by
  unfold Machine.execSenseSetSync
  exact .runCmd h
    (fun u _ =>
      .checked (.refl _)
        (.withBinds (.refl _) (fun u => by
            extract_lets +onlyGivenNames _ s₁
            have h₁ : Keeps u s₁ := (((Keeps.refl u).setReg _ _).set64 _ _).setImg _ _ _ _
            exact .fst_ite h₁.senseEnable h₁)))

theorem Answers.execSenseSetSport {d} (h : Keeps s t) : Answers s (Machine.execSenseSetSport d t) :=
  .runCmd h
    (fun _ _ =>
      .checked (.refl _)
        (.withBinds (.refl _)
          (fun u =>
            ((((((Keeps.refl u).setImg _ _ _ _).setImg _ _ _ _).setReg _ _).setReg _ _).setImg _ _ _ _).sportFollow)))

theorem Answers.execSenseSetImu {d} (h : Keeps s t) : Answers s (Machine.execSenseSetImu d t) :=
  .runCmd h
    (fun _ _ =>
      .checked (.refl _)
        (.withBinds (.refl _)
          (fun u =>
            ((((((Keeps.refl u).setImg _ _ _ _).setReg _ _).setImg _ _ _ _).setImg _ _ _ _).setReg _ _).setReg _ _)))

theorem Answers.execSenseSetWheel {d} (h : Keeps s t) : Answers s (Machine.execSenseSetWheel d t) :=
  .runCmd h (fun u _ => .checked (.refl _) ((Keeps.refl u).setImg _ _ _ _))

/-! ### The functions of Machine/Fox -/

theorem Keeps.doaReceived {i} (h : Keeps s t) : Keeps s (Machine.doaReceived i t) :=
  .when h.record (Keeps.refl _).statItem

theorem Keeps.doaSkipped {i} (h : Keeps s t) : Keeps s (Machine.doaSkipped i t) := .when h (Keeps.refl _).bump

theorem Keeps.doaRetire (h : Keeps s t) : Keeps s (Machine.doaRetire t) := h.record.setF _ _

theorem Keeps.doaPush {sw} (h : Keeps s t) : Keeps s (Machine.doaPush sw t) := by
  unfold Machine.doaPush
  extract_lets +onlyGivenNames _ _ _ _ _ _ _ s₁
  have h₁ : Keeps s s₁ :=
    .foldl _
      (.forN (.setF (.foldl _ h (fun u _ => (Keeps.refl u).doaSkipped)) _ _)
        (fun _ u => (Keeps.refl u).doaReceived)) (fun u _ => (Keeps.refl u).doaSkipped)
  exact .ite h₁ ((h₁.record.setF _ _).hitF _ _).doaRetire

theorem Answers.execDoaPush {core sw} (h : Keeps s t) : Answers s (Machine.execDoaPush core sw t) :=
  .ite (.next h) (.next h.doaPush)

theorem Keeps.takeDoa {i} (h : Keeps s t) : Keeps s (Machine.takeDoa t i).1 := by
  unfold Machine.takeDoa
  extract_lets +onlyGivenNames _ _
  split
  · exact h
  · split
    · exact h.trkStat
    · exact h

theorem Keeps.takeObs {q} (h : Keeps s t) : Keeps s (Machine.takeObs t q).1 := by
  unfold Machine.takeObs
  extract_lets +onlyGivenNames _ _ _
  split
  · exact h
  · split
    · exact h.trkStat
    · exact h

theorem Keeps.takeAll {α β : Type} {f : State → α → State × Option β} {l} (h : Keeps s t)
    (k : ∀ u a, Keeps u (f u a).1) :
    Keeps s (Machine.takeAll f l t).1 := by
  induction l generalizing t with
  | nil => exact h
  | cons a r ih => exact ih (h.trans (k t a))

theorem Keeps.foxCollect {b} (h : Keeps s t) : Keeps s (Machine.foxCollect b t).1 := by
  unfold Machine.foxCollect
  extract_lets +onlyGivenNames _
  split
  · rename_i e
    extract_lets +onlyGivenNames _ s₁ _ _ _
    have h₁ : Keeps s s₁ := .doaRetire (.record (.of_eq (.takeAll h (fun u _ => (Keeps.refl u).takeDoa)) e))
    split
    · rename_i e
      exact .foldl _ (.of_eq (.takeAll h₁.record (fun u _ => (Keeps.refl u).takeObs)) e)
        (fun u _ => (Keeps.refl u).bump.bump)

theorem Keeps.setTrack {k' x} (h : Keeps s t) : Keeps s (t.setTrack k' x) := h.record

theorem Keeps.trkFail {hop k'} (h : Keeps s t) : Keeps s (Machine.trkFail hop k' t) :=
  .ite h (h.setTrack.trkStat.hitF _ _)

theorem Keeps.gateMiss {m} (h : Keeps s t) : Keeps s (Machine.gateMiss m t) :=
  .foldl _ h (fun u _ => (Keeps.refl u).bump)

theorem Keeps.noteNis {m d2} (h : Keeps s t) : Keeps s (Machine.noteNis m d2 t) :=
  .foldl _ h (fun u _ => ((Keeps.refl u).setLe _ _ _).bump)

theorem Keeps.trkBirth {hop m} (h : Keeps s t) : Keeps s (Machine.trkBirth hop m t) := by
  unfold Machine.trkBirth
  split
  · exact h
  · split
    · exact h.trkStat.hitF _ _
    · exact (h.setTrack.hitF _ _).event _

theorem Keeps.foxProcess {hop m} (h : Keeps s t) : Keeps s (Machine.foxProcess hop m t) := by
  unfold Machine.foxProcess
  split
  rename_i u best e
  have hu : Keeps s u := Keeps.of_eq (.foldl_fst _ h fun q _ => by
    extract_lets +onlyGivenNames xp
    split
    · exact (Keeps.refl q.1).trkFail
    · exact .fst_ite (.refl q.1) (.refl q.1)) e
  split
  · exact hu.gateMiss.trkBirth
  · extract_lets +onlyGivenNames _
    split
    · exact hu.trkFail.gateMiss.trkBirth
    · exact (Keeps.when hu (Keeps.refl _).trkStat).noteNis.setTrack

theorem Keeps.trkDelete {k'} (h : Keeps s t) : Keeps s (Machine.trkDelete k' t) := (h.setTrack.hitF _ _).event _

theorem Keeps.trkLife {hop k'} (h : Keeps s t) : Keeps s (Machine.trkLife hop k' t) := .ite h.trkDelete h.setTrack

theorem Keeps.trkSeat {b k'} (h : Keeps s t) : Keeps s (Machine.trkSeat b k' t) := .ite h h.setTrack

theorem Keeps.pubTo {bytes seq k'} (h : Keeps s t) : Keeps s (Machine.pubTo bytes seq k' t) := by
  unfold Machine.pubTo
  split
  · exact h
  · extract_lets +onlyGivenNames _ _
    split
    · rename_i e
      exact .hitF (.setF (.of_eq (h.writeChecked _ _ _ _) e) _ _) _ _
    · rename_i e
      exact .of_eq (h.writeChecked _ _ _ _) e

theorem Keeps.publishNow (h : Keeps s t) : Keeps s (Machine.publishNow t) := by
  unfold Machine.publishNow
  split
  · exact h
  · extract_lets +onlyGivenNames _ _ _ _ _ _ s₁ _
    have h₁ : Keeps s s₁ :=
      .when (.record (.forN (((h.setBytes _ _).setF _ _).set64 _ _) (fun _ u => (Keeps.refl u).pubTo)))
        (Keeps.refl _).record
    exact .when ((h₁.hitF _ _).event _) (((Keeps.refl _).hitF _ _).event _)

theorem Keeps.mirrorTracks (h : Keeps s t) : Keeps s (Machine.mirrorTracks t) :=
  .foldl _ h (fun u _ => (Keeps.refl u).setBytes _ _)

theorem Keeps.foxApply {b} (h : Keeps s t) : Keeps s (Machine.foxApply b t) := by
  unfold Machine.foxApply
  exact .finishAwaits
    (.record
      (.foldl _ (.foldl _ h (fun u _ => (Keeps.refl u).setBytes _ _)) (fun u _ => (Keeps.refl u).setReg _ _))) _ _
    _

theorem Keeps.foxBoundary {b} (h : Keeps s t) : Keeps s (Machine.foxBoundary b t) := by
  unfold Machine.foxBoundary
  extract_lets +onlyGivenNames s₁
  have h₁ : Keeps s s₁ := h.publishNow.foxApply
  split
  · exact h₁
  · extract_lets +onlyGivenNames _
    split
    · rename_i e
      extract_lets +onlyGivenNames _ _ _ _ _ _ s₂ _ _ _
      have h₂ : Keeps s s₂ :=
        .foldl _ (.trkStat (.record (.trkStat (.of_eq h₁.foxCollect e)))) (fun u _ => (Keeps.refl u).foxProcess)
      exact .mirrorTracks
        (.record (.foldl _ (.foldl _ h₂ (fun u _ => (Keeps.refl u).trkLife)) (fun u _ => (Keeps.refl u).trkSeat)))

theorem Keeps.releaseFox (h : Keeps s t) : Keeps s (Machine.releaseFox t) :=
  ((((h.clearRegs _ _).clearRegs _ _).clearRegs _ _).zeroMem _ _).record

theorem Keeps.releaseSubscriber {k'} (h : Keeps s t) : Keeps s (Machine.releaseSubscriber k' t) :=
  ((h.unbindWhere _).clearRegs _ _).release _

theorem Keeps.foxPark (h : Keeps s t) : Keeps s (Machine.foxPark t) :=
  .mirrorTracks (.record (.foldl _ h (fun u _ => (Keeps.refl u).setTrack)))

theorem Keeps.foxWake (h : Keeps s t) : Keeps s (Machine.foxWake t) :=
  .forN h (fun _ _ => .when (.when (.refl _) (Keeps.refl _).senseEnable) (Keeps.refl _).sportStart)

theorem Answers.execFoxConfig {d} (h : Keeps s t) : Answers s (Machine.execFoxConfig d t) :=
  .runCmd h (fun u _ => .checked (.refl _) (((((Keeps.refl u).take _ _).setImg _ _ _ _).setImg _ _ _ _).setReg _ _))

theorem Answers.execFoxSetEgo {d} (h : Keeps s t) : Answers s (Machine.execFoxSetEgo d t) :=
  .runCmd h
    (fun u _ =>
      .checked (.refl _)
        (.withMem (Keeps.refl u).readMem
          (fun _ =>
            .checked (.refl _)
              (.withBinds (.refl _) (fun _ => .pair (.foldl _ (.refl _) (fun u _ => (Keeps.refl u).setReg _ _)))))))

theorem Keeps.foxQueueWrite {a bs} (h : Keeps s t) : Keeps s (Machine.foxQueueWrite a bs t) := h.record

theorem Answers.execFoxSetXform {d} (h : Keeps s t) : Answers s (Machine.execFoxSetXform d t) :=
  .runCmd h
    (fun u _ =>
      .checked (.refl _) (.withMem (Keeps.refl u).readMem (fun _ => .checked (.refl _) (Keeps.refl _).foxQueueWrite)))

theorem Answers.execFoxSetFrames {d} (h : Keeps s t) : Answers s (Machine.execFoxSetFrames d t) :=
  .runCmd h
    (fun u _ =>
      .checked (.refl _) (.withMem (Keeps.refl u).readMem (fun _ => .checked (.refl _) (Keeps.refl _).foxQueueWrite)))

theorem Answers.execFoxSetTracker {d} (h : Keeps s t) : Answers s (Machine.execFoxSetTracker d t) :=
  .runCmd h
    (fun u _ =>
      .checked (.refl _) (.withMem (Keeps.refl u).readMem (fun _ => .checked (.refl _) (Keeps.refl _).record)))

theorem Answers.execFoxSensorEn {d} (h : Keeps s t) : Answers s (Machine.execFoxSensorEn d t) :=
  .runCmd h (fun u _ => .checked (.refl _) ((Keeps.refl u).setImg _ _ _ _))

theorem Answers.execFoxGrant {d} (h : Keeps s t) : Answers s (Machine.execFoxGrant d t) :=
  .runCmd h (fun u _ => .checked (.refl _) (Keeps.refl u).record)

theorem Keeps.foxEnqueue {kind stamp src bs} (h : Keeps s t) : Keeps s (Machine.foxEnqueue kind stamp src bs t) :=
  (h.setBytes _ _).record.statItem

theorem Answers.execFoxObserve {d} (h : Keeps s t) : Answers s (Machine.execFoxObserve d t) :=
  .runCmd h
    (fun u _ =>
      .checked (.refl _)
        (.withMem (Keeps.refl u).readMem
          (fun _ =>
            .checked (.refl _)
              (.fst_ite (.refl _) (.pair (.foldl _ (.refl _) (fun u _ => (Keeps.refl u).foxEnqueue)))))))

theorem Answers.execFoxMeasure {d} (h : Keeps s t) : Answers s (Machine.execFoxMeasure d t) :=
  .runCmd h
    (fun u _ =>
      .checked (.refl _)
        (.withMem (Keeps.refl u).readMem
          (fun _ =>
            .checked (.refl _)
              (.fst_ite (.refl _) (.pair (.foldl _ (.refl _) (fun u _ => (Keeps.refl u).foxEnqueue)))))))

theorem Answers.execFoxSubscribe {d} (h : Keeps s t) : Answers s (Machine.execFoxSubscribe d t) := by
  unfold Machine.execFoxSubscribe
  exact .runCmd h (fun u _ => by
      split
      · exact .pair (.forN (.refl _) (fun _ u => .when (.refl _) (Keeps.refl _).releaseSubscriber))
      · exact .checked (.refl _)
          (by
            split
            · exact .refl _
            · exact .withBinds (.refl _)
                (fun u => ((((((Keeps.refl u).claim _ _).set64 _ _).setReg _ _).setF _ _).setF _ _).setF _ _)))

theorem Answers.execFoxReadTracks {d} (h : Keeps s t) : Answers s (Machine.execFoxReadTracks d t) :=
  .runCmd h (fun u _ => (Keeps.refl u).outRecord)

theorem Answers.execFoxStatus {d} (h : Keeps s t) : Answers s (Machine.execFoxStatus d t) :=
  .runCmd h (fun u _ => (Keeps.refl u).outStatus)

/-! ### The functions of Machine/MartenCore -/

theorem Keeps.dbgRunning {c} (h : Keeps s t) : Keeps s (Machine.dbgRunning c t) := (h.setF _ _).record

theorem Keeps.coreFault {n cause imprecise faddr} (h : Keeps s t) :
    Keeps s (Machine.coreFault n cause imprecise faddr t) := by
  unfold Machine.coreFault
  extract_lets +onlyGivenNames _ _ _ s₁ _ s₂ _ _
  have h₁ : Keeps s s₁ := (((((h.setCore _ _).setF _ _).setF _ _).setF _ _).setF _ _).setF _ _
  have h₂ : Keeps s s₂ := .event (.dbgRunning (.hitB (.when h₁ ((Keeps.refl _).set64 _ _)) _ _)) _
  exact .finishAwaits (.errLog (.withFaultPin h₂ ((Keeps.refl _).hitB _ _)) _ _ _ _ _ _ _) _ _ _

theorem Keeps.stopNow {n} (h : Keeps s t) : Keeps s (Machine.stopNow n t) := by
  unfold Machine.stopNow
  exact (((h.setCore _ _).setF _ _).setF _ _).dbgRunning.finishAwaits _ _ _

theorem Keeps.haltNow {n cause hit} (h : Keeps s t) : Keeps s (Machine.haltNow n cause hit t) := by
  unfold Machine.haltNow
  extract_lets +onlyGivenNames _ _ _ s₁
  have h₁ : Keeps s s₁ := ((((h.setCore _ _).setF _ _).setF _ _).dbgRunning.setF _ _).setF _ _
  exact .ite ((h₁.setF _ _).hitB _ _) (h₁.setF _ _).record

theorem Keeps.coreBoundary {n} (h : Keeps s t) : Keeps s (Machine.coreBoundary n t) := by
  unfold Machine.coreBoundary
  extract_lets +onlyGivenNames _
  split
  · exact h
  · split
    · exact h.stopNow
    · split
      · exact h.haltNow.set64 _ _
      · split
        · exact h.haltNow
        · exact .ite h.haltNow (.ite h.haltNow (.ite h.haltNow h))

theorem Keeps.repBreak {n} (h : Keeps s t) : Keeps s (Machine.repBreak n t) := by
  unfold Machine.repBreak
  split
  · exact h.haltNow
  · exact h

theorem Keeps.chargeCycles {n k'} (h : Keeps s t) : Keeps s (Machine.chargeCycles n k' t) := (h.setCore _ _).addF _ _

theorem Keeps.noteInflight {n} (h : Keeps s t) : Keeps s (Machine.noteInflight n t) := (h.setF _ _).maxF _ _

theorem Keeps.bundleRun {n c b} (h : Keeps s t) : Keeps s (Machine.bundleRun t n c b) := by
  unfold Machine.bundleRun
  extract_lets +onlyGivenNames _ _ _ _ _ _ _ s₁ _ _ _ _ s₂
  have h₁ : Keeps s s₁ :=
    .record
      (.foldl _ (.foldl _ (h.fixCe _ _) (fun u _ => .ite (.refl _) ((Keeps.refl u).fixCe _ _)))
        (fun u _ => (Keeps.refl u).setLe _ _ _))
  have h₂ : Keeps s s₂ := .when (h₁.setCore _ _).chargeCycles.noteInflight (((Keeps.refl _).setF _ _).setF _ _)
  exact .ite h₂.repBreak h₂.coreBoundary

theorem Keeps.issueBundle {n w} (h : Keeps s t) : Keeps s (Machine.issueBundle n w t) := by
  unfold Machine.issueBundle
  extract_lets +onlyGivenNames _
  split
  · exact h
  · extract_lets +onlyGivenNames _
    split
    · exact .when h ((Keeps.refl _).incF _ _)
    · split
      · exact h.coreFault
      · exact (h.logUe _ _ _ _).coreFault
      · exact h.bundleRun

theorem Answers.issueMac {op n b} (h : Keeps s t) : Answers s (Machine.issueMac op n b t) :=
  .ite (.next h.issueBundle) (.next h)

theorem Answers.issueMove {op n b} (h : Keeps s t) : Answers s (Machine.issueMove op n b t) :=
  .ite (.next h.issueBundle) (.next h)

theorem Answers.issueCtl {op n b} (h : Keeps s t) : Answers s (Machine.issueCtl op n b t) :=
  .ite (.next h.issueBundle) (.next h)

theorem Answers.execMartenInterruptAccept {n} (h : Keeps s t) :
    Answers s (Machine.execMartenInterruptAccept n t) := by
  unfold Machine.execMartenInterruptAccept
  extract_lets +onlyGivenNames _ _
  split
  · exact .next h
  · split
    · exact .next h
    · exact .ite (.next h.coreFault) (.next ((h.setCore _ _).setF _ _).repBreak)

theorem Answers.execMartenTimer {n} (h : Keeps s t) : Answers s (Machine.execMartenTimer n t) :=
  .ite (.next h) (.next ((h.setCore _ _).raiseSource _ _))

theorem Keeps.signalWrite {n v} (h : Keeps s t) : Keeps s (Machine.signalWrite n v t) := by
  unfold Machine.signalWrite
  exact .when (h.setF _ _) (((Keeps.refl _).setCore _ _).raiseSource _ _)

theorem Answers.execMartenSignalRaise {n v} (h : Keeps s t) : Answers s (Machine.execMartenSignalRaise n v t) :=
  .ite (.next h) (.next h.signalWrite)

theorem Answers.execMartenXcoreRaise {mask} (h : Keeps s t) : Answers s (Machine.execMartenXcoreRaise mask t) :=
  .next (.forN h (fun _ _ => .when (.refl _) ((Keeps.refl _).raiseSource _ _)))

theorem Keeps.coreHop {n} (h : Keeps s t) : Keeps s (Machine.coreHop n t) := by
  unfold Machine.coreHop
  extract_lets +onlyGivenNames _ s₁ s₂ _ _ s₃
  have h₁ : Keeps s s₁ := h.raiseSource _ _
  have h₂ : Keeps s s₂ := .when h₁ ((Keeps.refl _).event _)
  have h₃ : Keeps s s₃ := h₂.setCore _ _
  exact (h₃.setF _ _).maxF _ _

theorem Keeps.coreStart {n} (h : Keeps s t) : Keeps s (Machine.coreStart n t) :=
  ((((h.setCore _ _).setF _ _).setF _ _).clrB _ _).repBreak

theorem Keeps.coreStop {n} (h : Keeps s t) : Keeps s (Machine.coreStop n t) :=
  .ite (h.record.stopNow.hitB _ _) (.ite (.ite h.stopNow (h.setCore _ _)) h)

theorem Answers.execMartenCtrlRun {n} (h : Keeps s t) : Answers s (Machine.execMartenCtrlRun n t) :=
  .ite (.next h.coreStart) (.next h)

theorem Answers.execMartenCtrlStop {n} (h : Keeps s t) : Answers s (Machine.execMartenCtrlStop n t) :=
  .ite (.next h) (.next h.coreStop)

theorem Keeps.copyMem {src dst n} (h : Keeps s t) : Keeps s (t.copyMem src dst n) :=
  .foldl _ (h.zeroMem _ _) (fun u _ => (Keeps.refl u).setByte _ _)

theorem Keeps.noteSum {n} (h : Keeps s t) : Keeps s (Machine.noteSum n t) := h.record

theorem Keeps.restartRuntime {n} (h : Keeps s t) : Keeps s (Machine.restartRuntime n t) := by
  unfold Machine.restartRuntime
  extract_lets +onlyGivenNames _ _ _ s₁
  have h₁ : Keeps s s₁ := ((((h.clearRegs _ _).clrB _ _).setCore _ _).zeroMem _ _).zeroMem _ _
  exact .ite h₁.copyMem.copyMem.noteSum.coreStart h₁

theorem Keeps.releaseCore {n} (h : Keeps s t) : Keeps s (Machine.releaseCore n t) :=
  (h.unbindEvents _).restartRuntime.release _

/-! ### The functions of Machine/MartenIsa -/

theorem Answers.execMMpy {n b} (h : Keeps s t) : Answers s (Machine.execMMpy n b t) := .issueMac h

theorem Answers.execMMac {n b} (h : Keeps s t) : Answers s (Machine.execMMac n b t) := .issueMac h

theorem Answers.execMMsu {n b} (h : Keeps s t) : Answers s (Machine.execMMsu n b t) := .issueMac h

theorem Answers.execMMpyi {n b} (h : Keeps s t) : Answers s (Machine.execMMpyi n b t) := .issueMac h

theorem Answers.execMMaci {n b} (h : Keeps s t) : Answers s (Machine.execMMaci n b t) := .issueMac h

theorem Answers.execMMsui {n b} (h : Keeps s t) : Answers s (Machine.execMMsui n b t) := .issueMac h

theorem Answers.execMAdda {n b} (h : Keeps s t) : Answers s (Machine.execMAdda n b t) := .issueMac h

theorem Answers.execMSuba {n b} (h : Keeps s t) : Answers s (Machine.execMSuba n b t) := .issueMac h

theorem Answers.execMClra {n b} (h : Keeps s t) : Answers s (Machine.execMClra n b t) := .issueMac h

theorem Answers.execMMova {n b} (h : Keeps s t) : Answers s (Machine.execMMova n b t) := .issueMac h

theorem Answers.execMAsra {n b} (h : Keeps s t) : Answers s (Machine.execMAsra n b t) := .issueMac h

theorem Answers.execMAsla {n b} (h : Keeps s t) : Answers s (Machine.execMAsla n b t) := .issueMac h

theorem Answers.execMNega {n b} (h : Keeps s t) : Answers s (Machine.execMNega n b t) := .issueMac h

theorem Answers.execMAbsa {n b} (h : Keeps s t) : Answers s (Machine.execMAbsa n b t) := .issueMac h

theorem Answers.execMMovr {n b} (h : Keeps s t) : Answers s (Machine.execMMovr n b t) := .issueMac h

theorem Answers.execMVadd {n b} (h : Keeps s t) : Answers s (Machine.execMVadd n b t) := .issueMac h

theorem Answers.execMVsub {n b} (h : Keeps s t) : Answers s (Machine.execMVsub n b t) := .issueMac h

theorem Answers.execMVmax {n b} (h : Keeps s t) : Answers s (Machine.execMVmax n b t) := .issueMac h

theorem Answers.execMVmin {n b} (h : Keeps s t) : Answers s (Machine.execMVmin n b t) := .issueMac h

theorem Answers.execMVabs {n b} (h : Keeps s t) : Answers s (Machine.execMVabs n b t) := .issueMac h

theorem Answers.execMVneg {n b} (h : Keeps s t) : Answers s (Machine.execMVneg n b t) := .issueMac h

theorem Answers.execMVmov {n b} (h : Keeps s t) : Answers s (Machine.execMVmov n b t) := .issueMac h

theorem Answers.execMVand {n b} (h : Keeps s t) : Answers s (Machine.execMVand n b t) := .issueMac h

theorem Answers.execMVor {n b} (h : Keeps s t) : Answers s (Machine.execMVor n b t) := .issueMac h

theorem Answers.execMVxor {n b} (h : Keeps s t) : Answers s (Machine.execMVxor n b t) := .issueMac h

theorem Answers.execMVmaxi {n b} (h : Keeps s t) : Answers s (Machine.execMVmaxi n b t) := .issueMac h

theorem Answers.execMVmini {n b} (h : Keeps s t) : Answers s (Machine.execMVmini n b t) := .issueMac h

theorem Answers.execMLd {n b} (h : Keeps s t) : Answers s (Machine.execMLd n b t) := .issueMove h

theorem Answers.execMLdb {n b} (h : Keeps s t) : Answers s (Machine.execMLdb n b t) := .issueMove h

theorem Answers.execMSt {n b} (h : Keeps s t) : Answers s (Machine.execMSt n b t) := .issueMove h

theorem Answers.execMSta {n b} (h : Keeps s t) : Answers s (Machine.execMSta n b t) := .issueMove h

theorem Answers.execMUpd {n b} (h : Keeps s t) : Answers s (Machine.execMUpd n b t) := .issueMove h

theorem Answers.execMLda {n b} (h : Keeps s t) : Answers s (Machine.execMLda n b t) := .issueMove h

theorem Answers.execMMovi {n b} (h : Keeps s t) : Answers s (Machine.execMMovi n b t) := .issueCtl h

theorem Answers.execMAddi {n b} (h : Keeps s t) : Answers s (Machine.execMAddi n b t) := .issueCtl h

theorem Answers.execMCmpi {n b} (h : Keeps s t) : Answers s (Machine.execMCmpi n b t) := .issueCtl h

theorem Answers.execMFahi {n b} (h : Keeps s t) : Answers s (Machine.execMFahi n b t) := .issueCtl h

theorem Answers.execMMovc {n b} (h : Keeps s t) : Answers s (Machine.execMMovc n b t) := .issueCtl h

theorem Answers.execMAdd {n b} (h : Keeps s t) : Answers s (Machine.execMAdd n b t) := .issueCtl h

theorem Answers.execMSub {n b} (h : Keeps s t) : Answers s (Machine.execMSub n b t) := .issueCtl h

theorem Answers.execMCmp {n b} (h : Keeps s t) : Answers s (Machine.execMCmp n b t) := .issueCtl h

theorem Answers.execMAnd {n b} (h : Keeps s t) : Answers s (Machine.execMAnd n b t) := .issueCtl h

theorem Answers.execMOr {n b} (h : Keeps s t) : Answers s (Machine.execMOr n b t) := .issueCtl h

theorem Answers.execMXor {n b} (h : Keeps s t) : Answers s (Machine.execMXor n b t) := .issueCtl h

theorem Answers.execMMvvc {n b} (h : Keeps s t) : Answers s (Machine.execMMvvc n b t) := .issueCtl h

theorem Answers.execMMvcv {n b} (h : Keeps s t) : Answers s (Machine.execMMvcv n b t) := .issueCtl h

theorem Answers.execMCmpv {n b} (h : Keeps s t) : Answers s (Machine.execMCmpv n b t) := .issueCtl h

theorem Answers.execMCmpvi {n b} (h : Keeps s t) : Answers s (Machine.execMCmpvi n b t) := .issueCtl h

theorem Answers.execMBra {n b} (h : Keeps s t) : Answers s (Machine.execMBra n b t) := .issueCtl h

theorem Answers.execMJsr {n b} (h : Keeps s t) : Answers s (Machine.execMJsr n b t) := .issueCtl h

theorem Answers.execMRts {n b} (h : Keeps s t) : Answers s (Machine.execMRts n b t) := .issueCtl h

theorem Answers.execMRti {n b} (h : Keeps s t) : Answers s (Machine.execMRti n b t) := .issueCtl h

theorem Answers.execMDo {n b} (h : Keeps s t) : Answers s (Machine.execMDo n b t) := .issueCtl h

theorem Answers.execMDov {n b} (h : Keeps s t) : Answers s (Machine.execMDov n b t) := .issueCtl h

theorem Answers.execMRep {n b} (h : Keeps s t) : Answers s (Machine.execMRep n b t) := .issueCtl h

theorem Answers.execMRepc {n b} (h : Keeps s t) : Answers s (Machine.execMRepc n b t) := .issueCtl h

theorem Answers.execMLeave {n b} (h : Keeps s t) : Answers s (Machine.execMLeave n b t) := .issueCtl h

theorem Answers.execMLdf {n b} (h : Keeps s t) : Answers s (Machine.execMLdf n b t) := .issueCtl h

theorem Answers.execMStf {n b} (h : Keeps s t) : Answers s (Machine.execMStf n b t) := .issueCtl h

theorem Answers.execMWait {n b} (h : Keeps s t) : Answers s (Machine.execMWait n b t) := .issueCtl h

theorem Answers.execMIclr {n b} (h : Keeps s t) : Answers s (Machine.execMIclr n b t) := .issueCtl h

theorem Answers.execMSetipl {n b} (h : Keeps s t) : Answers s (Machine.execMSetipl n b t) := .issueCtl h

theorem Answers.execMSinit {n b} (h : Keeps s t) : Answers s (Machine.execMSinit n b t) := .issueCtl h

theorem Answers.execMSred {n b} (h : Keeps s t) : Answers s (Machine.execMSred n b t) := .issueCtl h

theorem Answers.execMBkpt {n b} (h : Keeps s t) : Answers s (Machine.execMBkpt n b t) := .issueCtl h

/-! ### The functions of Machine/Marten -/

theorem Answers.execMartenOpen {d} (h : Keeps s t) : Answers s (Machine.execMartenOpen d t) :=
  .runCmd h
    (fun u _ => .checked (.refl _) (((((Keeps.refl u).take _ _).record.stopNow.setReg _ _).zeroMem _ _).setF _ _))

theorem Answers.execMartenLoadCode {d} (h : Keeps s t) : Answers s (Machine.execMartenLoadCode d t) := by
  unfold Machine.execMartenLoadCode
  exact .runCmd h
    (fun u _ =>
      .checked (.refl _)
        (.withMem (Keeps.refl u).readMem (fun _ => by
            extract_lets +onlyGivenNames _ s₁
            have h₁ : Keeps _ s₁ := (Keeps.refl _).overwrite _ _
            exact .fst_ite (.pair (.when ((h₁.setCore _ _).setBytes _ _).noteSum ((Keeps.refl _).setF _ _))) h₁)))

theorem Answers.execMartenStart {d} (h : Keeps s t) : Answers s (Machine.execMartenStart d t) :=
  .runCmd h (fun u _ => .checked (.refl _) ((Keeps.refl u).setF _ _).coreStart)

theorem Answers.execMartenStop {d} (h : Keeps s t) : Answers s (Machine.execMartenStop d t) := by
  unfold Machine.execMartenStop
  exact .runCmd h (fun u _ => by
      extract_lets +onlyGivenNames _ s₁
      have h₁ : Keeps u s₁ := (Keeps.refl u).coreStop
      exact .fst_ite h₁ h₁)

theorem Answers.execMartenSignal {d} (h : Keeps s t) : Answers s (Machine.execMartenSignal d t) :=
  .runCmd h (fun u _ => .checked (.refl _) (Keeps.refl u).signalWrite)

theorem Answers.execMartenBindEvent {d} (h : Keeps s t) : Answers s (Machine.execMartenBindEvent d t) :=
  .runCmd h
    (fun _ _ =>
      .checked (.refl _) (.withBinds (.refl _) (fun _ => .pair (.when (.refl _) ((Keeps.refl _).setReg _ _)))))

theorem Answers.execMartenStatus {d} (h : Keeps s t) : Answers s (Machine.execMartenStatus d t) :=
  .runCmd h (fun u _ => (Keeps.refl u).outStatus)

theorem Answers.execMartenClose {d} (h : Keeps s t) : Answers s (Machine.execMartenClose d t) := by
  unfold Machine.execMartenClose
  exact .runCmd h (fun u _ => by
      extract_lets +onlyGivenNames _ s₁
      have h₁ : Keeps u s₁ := (Keeps.refl u).coreStop
      exact .fst_ite (h₁.releaseCore.giveUp _ _) h₁)

theorem Keeps.settleCores (h : Keeps s t) : Keeps s (Machine.settleCores t) :=
  .forN h (fun _ u => .ite ((Keeps.refl u).releaseCore.finishAwaits _ _ _) (.refl _))

/-! ### The functions of Machine/MemorySys -/

theorem Answers.execMemcScrub {word} (h : Keeps s t) : Answers s (Machine.execMemcScrub word t) := by
  unfold Machine.execMemcScrub
  extract_lets +onlyGivenNames _
  split
  · exact .next h
  · split
    · exact .next (h.logUe _ _ _ _)
    · exact .next (h.fixCe _ _)

theorem Answers.execMemcTrain (h : Keeps s t) : Answers s (Machine.execMemcTrain t) :=
  .ite (.next h) (.next ((h.setF _ _).setF _ _))

theorem Answers.execMemcTrainDone {ok} (h : Keeps s t) : Answers s (Machine.execMemcTrainDone ok t) := by
  unfold Machine.execMemcTrainDone
  split
  · exact .next h
  · extract_lets +onlyGivenNames s₁
    have h₁ : Keeps s s₁ := h.setF _ _
    exact .ite (.next ((h₁.setF _ _).setF _ _)) (.next ((h₁.setF _ _).hitF _ _))

theorem Keeps.regionNow {r} (h : Keeps s t) : Keeps s (Machine.regionNow r t) := h.record

theorem Keeps.setRegion {r a n acc init sess} (h : Keeps s t) :
    Keeps s (Machine.setRegion r a n acc init sess t) := ((h.regionNow.setF _ _).setF _ _).setReg _ _

theorem Keeps.clearRegion {r} (h : Keeps s t) : Keeps s (Machine.clearRegion r t) :=
  ((h.regionNow.setReg _ _).setReg _ _).setReg _ _

theorem Keeps.addRange {r} (h : Keeps s t) : Keeps s (t.addRange r) := h.record

theorem Keeps.dropRanges {p} (h : Keeps s t) : Keeps s (Machine.dropRanges p t) :=
  .foldl _ h.record (fun u _ => (Keeps.refl u).clearRegion)

theorem Keeps.zeroPages {a n} (h : Keeps s t) : Keeps s (Machine.zeroPages a n t) := h.record.zeroMem _ _

theorem Keeps.settleFrees (h : Keeps s t) : Keeps s (Machine.settleFrees t) := h.finishAwaits _ _ _

theorem Answers.execMemAlloc {d} (h : Keeps s t) : Answers s (Machine.execMemAlloc d t) := by
  unfold Machine.execMemAlloc
  exact .runCmd h
    (fun u _ =>
      .checked (.refl _)
        (by
          split
          · exact .refl _
          · extract_lets +onlyGivenNames _
            split
            · exact (Keeps.refl u).zeroPages.setRegion.addRange
            · exact .refl _))

theorem Answers.execMemHostDeclare {d} (h : Keeps s t) : Answers s (Machine.execMemHostDeclare d t) := by
  unfold Machine.execMemHostDeclare
  exact .runCmd h
    (fun u _ =>
      .checked (.refl _)
        (by
          split
          · exact .refl _
          · exact (Keeps.refl u).setRegion.addRange))

theorem Answers.execMemShare {d} (h : Keeps s t) : Answers s (Machine.execMemShare d t) := by
  unfold Machine.execMemShare
  exact .runCmd h
    (fun u _ =>
      .checked (.refl _)
        (by
          split
          · exact .refl _
          · exact (Keeps.refl u).setRegion.addRange))

theorem Keeps.afterTransfers {lo hi} (h : Keeps s t) : Keeps s (Machine.afterTransfers lo hi t).1 := .fst_ite h h

theorem Answers.execMemUnshare {d} (h : Keeps s t) : Answers s (Machine.execMemUnshare d t) :=
  .runCmd h (fun u _ => (Keeps.refl u).dropRanges.afterTransfers)

theorem Keeps.freeRange {r} (h : Keeps s t) : Keeps s (Machine.freeRange r t) := h.dropRanges

theorem Answers.execMemFree {d} (h : Keeps s t) : Answers s (Machine.execMemFree d t) := by
  unfold Machine.execMemFree
  exact .runCmd h (fun u _ => by
      split
      · exact .refl _
      · exact (Keeps.refl u).freeRange.afterTransfers)

theorem Answers.execMemCopy {d} (h : Keeps s t) : Answers s (Machine.execMemCopy d t) := by
  unfold Machine.execMemCopy
  exact .runCmd h
    (fun u _ =>
      .checked (.refl _)
        (by
          split
          · exact (Keeps.refl u).rejectAccess _ _ _
          · exact (Keeps.refl u).rejectAccess _ _ _
          · exact .refl _
          · exact .refl _
          · exact .pair (.ite (Keeps.refl u).readHost (.refl _))))

theorem Keeps.storeMoved {q core b bs} (h : Keeps s t) : Keeps s (Machine.storeMoved q core b bs t).1 := by
  unfold Machine.storeMoved
  split
  · exact h.logUe _ _ _ _
  · exact ((h.overwrite _ _).noteOutst _ _ _).countBw _ _ _ _

theorem Keeps.moveBytes {q core a b n} (h : Keeps s t) : Keeps s (Machine.moveBytes q core a b n t).1 := by
  unfold Machine.moveBytes
  split
  · exact h.logUe _ _ _ _
  · exact (((h.fixCe _ _).noteOutst _ _ _).countBw _ _ _ _).storeMoved

theorem Answers.execMemCopyEnd {src seq} (h : Keeps s t) : Answers s (Machine.execMemCopyEnd src seq t) := by
  unfold Machine.execMemCopyEnd
  split
  · split
    · exact .next h
    · extract_lets +onlyGivenNames _ r₁ _ _ _ _
      have h₁ : Keeps s r₁.1 := h.moveBytes
      clear_value r₁
      exact .next (h₁.record.finishCmd _ _ _ _ _).settleFrees
  · exact .next h

theorem Answers.execMemStatus {d} (h : Keeps s t) : Answers s (Machine.execMemStatus d t) :=
  .runCmd h (fun u _ => (Keeps.refl u).outStatus)

theorem Keeps.releaseRanges {sess} (h : Keeps s t) : Keeps s (Machine.releaseRanges sess t) :=
  .foldl _ h.dropRanges (fun u _ => (Keeps.refl u).freeRange)

/-! ### The functions of Machine/Clock -/

theorem Keeps.withClkNotice {f} (h : Keeps s t) (k : ∀ u, Keeps u (f u)) : Keeps s (Machine.withClkNotice f t) := by
  unfold Machine.withClkNotice
  extract_lets +onlyGivenNames s₁ _ _ _
  have h₁ : Keeps s s₁ := .trans h (k _)
  exact .ite h₁ (h₁.notice _ _)

theorem Keeps.takePhase {goal} (h : Keeps s t) : Keeps s (Machine.takePhase goal t) := h.record

theorem Keeps.startSwitch {src goal freq} (h : Keeps s t) : Keeps s (Machine.startSwitch src goal freq t) :=
  ((((h.setReg _ _).takePhase.setF _ _).setF _ _).setF _ _).record.hitF _ _

theorem Keeps.enterHoldover {freq} (h : Keeps s t) : Keeps s (Machine.enterHoldover freq t) :=
  (((((h.setF _ _).setF _ _).setF _ _).setReg _ _).setReg _ _).hitF _ _

theorem Keeps.chooseTarget {avg} (h : Keeps s t) : Keeps s (Machine.chooseTarget avg t) := by
  unfold Machine.chooseTarget
  extract_lets +onlyGivenNames _ s₁ _
  have h₁ : Keeps s s₁ := h.record
  split
  · split
    · exact .ite h₁ h₁.startSwitch
    · exact h₁.enterHoldover
  · split
    · exact h₁
    · split
      · exact h₁.startSwitch
      · exact h₁.enterHoldover
  · split
    · exact h₁.startSwitch
    · exact h₁
  · exact h₁

theorem Keeps.chooseOr {more avg} (h : Keeps s t) : Keeps s (Machine.chooseOr more avg t) :=
  .ite h.record h.chooseTarget

theorem Keeps.rebaseSlew (h : Keeps s t) : Keeps s (Machine.rebaseSlew t) := .ite (h.record.setReg _ _) h

theorem Keeps.unqualify {src} (h : Keeps s t) : Keeps s (Machine.unqualify src t) := by
  unfold Machine.unqualify
  exact .when (.setReg (.clrB (.when h (Keeps.refl _).rebaseSlew) _ _) _ _) ((Keeps.refl _).setF _ _)

theorem Keeps.xtalGone (h : Keeps s t) : Keeps s (Machine.xtalGone t) := (h.record.setF _ _).hitF _ _

theorem Keeps.declareLost {src} (h : Keeps s t) : Keeps s (Machine.declareLost src t) :=
  .when (h.unqualify.hitB _ _).record (Keeps.refl _).xtalGone

theorem Answers.execRefLost {src edge band freq more} (h : Keeps s t) :
    Answers s (Machine.execRefLost src edge band freq more t) :=
  .ite (.next h) (.next (.withClkNotice h (fun u => (Keeps.refl u).declareLost.chooseOr)))

theorem Keeps.becomeQualified {src ofs freq more} (h : Keeps s t) :
    Keeps s (Machine.becomeQualified src ofs freq more t) :=
  .withClkNotice h
    (fun u =>
      .chooseOr (.when (((((Keeps.refl u).setB _ _).clrB _ _).setReg _ _).hitB _ _) ((Keeps.refl _).record.setF _ _)))

theorem Answers.execRefInitialQualify {src edges ofs freq more} (h : Keeps s t) :
    Answers s (Machine.execRefInitialQualify src edges ofs freq more t) := .ite (.next h) (.next h.becomeQualified)

theorem Answers.execRefRequalify {src edges ofs freq more} (h : Keeps s t) :
    Answers s (Machine.execRefRequalify src edges ofs freq more t) := .ite (.next h) (.next h.becomeQualified)

theorem Answers.execRequalificationRestart {src edge ofs} (h : Keeps s t) :
    Answers s (Machine.execRequalificationRestart src edge ofs t) := by
  unfold Machine.execRequalificationRestart
  split
  · exact .next h
  · extract_lets +onlyGivenNames _ s₁
    have h₁ : Keeps s s₁ := h.record
    exact .next (.ite ((h₁.setB _ _).setReg _ _) h₁)

theorem Keeps.unqualifyAll {keep} (h : Keeps s t) : Keeps s (Machine.unqualifyAll keep t) :=
  .record (.forN h (fun _ u => .ite (.refl _) ((Keeps.refl u).unqualify.clrB _ _)))

theorem Answers.execRefSwitchDone (h : Keeps s t) : Answers s (Machine.execRefSwitchDone t) :=
  .ite (.next h)
    (.next (.withClkNotice h (fun u => ((((Keeps.refl u).setReg _ _).setF _ _).setF _ _).record.hitF _ _)))

theorem Answers.execXtalLost (h : Keeps s t) : Answers s (Machine.execXtalLost t) :=
  .ite (.next h)
    (.next (.withClkNotice h (fun u => .ite (Keeps.refl u).declareLost.chooseOr (Keeps.refl u).xtalGone)))

theorem Answers.execAudioPllLock (h : Keeps s t) : Answers s (Machine.execAudioPllLock t) := by
  unfold Machine.execAudioPllLock
  extract_lets +onlyGivenNames _
  split
  · exact .ite (.next (h.record.setReg _ _).takePhase) (.next h)
  · exact .next h

theorem Keeps.wakeFast (h : Keeps s t) : Keeps s (Machine.wakeFast t) := by
  unfold Machine.wakeFast
  extract_lets +onlyGivenNames s₁ _
  have h₁ : Keeps s s₁ := (h.setF _ _).setF _ _
  exact .ite h₁.record h₁

theorem Keeps.settleMclk (h : Keeps s t) : Keeps s (Machine.settleMclk t) := .ite h h.record

theorem Answers.execFastCountHandover (h : Keeps s t) : Answers s (Machine.execFastCountHandover t) :=
  .ite (.next h) (.next (.settleMclk (.when (((h.record.setF _ _).setF _ _).setF _ _) (Keeps.refl _).wakeFast)))

theorem Answers.execClkAlarm (h : Keeps s t) : Answers s (Machine.execClkAlarm t) := by
  unfold Machine.execClkAlarm
  split
  · exact .ite (.next ((h.record.hitF _ _).event _)) (.next h)
  · exact .next h

theorem Keeps.armAlarm (h : Keeps s t) : Keeps s (Machine.armAlarm t) := h.record

theorem Keeps.clkEndTick (h : Keeps s t) : Keeps s (Machine.clkEndTick t) := by
  unfold Machine.clkEndTick
  split
  · exact h
  · extract_lets +onlyGivenNames r₁
    have h₁ : Keeps s r₁.1 := h.fresh
    clear_value r₁
    exact .withClkNotice h₁ (fun u => (Keeps.refl u).chooseTarget)

theorem Keeps.takeControls (h : Keeps s t) : Keeps s (Machine.takeControls t) := .ite h h.rebaseSlew.record

theorem Keeps.dropUnusable (h : Keeps s t) : Keeps s (Machine.dropUnusable t) :=
  .forN h (fun _ u => .ite (Keeps.refl u).unqualify.record (.refl _))

theorem Keeps.slowCount (h : Keeps s t) : Keeps s (Machine.slowCount t) := by
  unfold Machine.slowCount
  split
  · exact h
  · split
    · exact h.setF _ _
    · extract_lets +onlyGivenNames r₁
      have h₁ : Keeps s r₁.1 := h.fresh
      clear_value r₁
      exact h₁.setF _ _

theorem Keeps.clkTick (h : Keeps s t) : Keeps s (Machine.clkTick t) := h.takeControls.dropUnusable.slowCount

theorem Keeps.standbyClk {u} (h : Keeps s u) : Keeps s (Machine.standbyClk u t) := by
  unfold Machine.standbyClk
  exact .ite h ((h.record.setReg _ _).setReg _ _)

theorem Answers.execClockSetRefs {d} (h : Keeps s t) : Answers s (Machine.execClockSetRefs d t) :=
  .runCmd h
    (fun u _ =>
      .checked (.refl _)
        ((((((Keeps.refl u).take _ _).setReg _ _).setImg _ _ _ _).standbyClk.setImg _ _ _ _).setImg _ _ _ _))

theorem Answers.execClockForceRef {d} (h : Keeps s t) : Answers s (Machine.execClockForceRef d t) :=
  .runCmd h (fun u _ => .checked (.refl _) (((Keeps.refl u).setF _ _).setF _ _).standbyClk)

theorem Answers.execClockStatus {d} (h : Keeps s t) : Answers s (Machine.execClockStatus d t) :=
  .runCmd h (fun u _ => (Keeps.refl u).outStatus)

theorem Answers.execClockSetMclk {d} (h : Keeps s t) : Answers s (Machine.execClockSetMclk d t) :=
  .runCmd h (fun u _ => .checked (.refl _) ((Keeps.refl u).setImg _ _ _ _).settleMclk)

theorem Answers.execClockSetAlarm {d} (h : Keeps s t) : Answers s (Machine.execClockSetAlarm d t) :=
  .runCmd h
    (fun _ _ => .checked (.refl _) (.withBinds (.refl _) (fun u => (((Keeps.refl u).set64 _ _).setF _ _).armAlarm)))

theorem Keeps.releaseClock (h : Keeps s t) : Keeps s (Machine.releaseClock t) := by
  unfold Machine.releaseClock
  exact .unbindEvents (.settleMclk (.armAlarm (.release (.foldl _ h (fun u _ => (Keeps.refl u).setReg _ _)) _))) _

/-! ### The functions of Machine/Lynx -/

theorem Keeps.setJobs {l} (h : Keeps s t) : Keeps s (t.setJobs l) := h.record

theorem Keeps.setProgs {x} (h : Keeps s t) : Keeps s (t.setProgs x) := h.record

theorem Keeps.setInfl {n l} (h : Keeps s t) : Keeps s (t.setInfl n l) := h.record

theorem Keeps.lynxShow {n} (h : Keeps s t) : Keeps s (Machine.lynxShow n t) :=
  ((((h.setF _ _).setF _ _).setF _ _).maxF _ _).setF _ _

theorem Keeps.progPrune (h : Keeps s t) : Keeps s (Machine.progPrune t) :=
  .forN h.setProgs (fun _ u => (Keeps.refl u).lynxShow)

theorem Keeps.degrade {k' cause} (h : Keeps s t) : Keeps s (Machine.degrade k' cause t) :=
  (((h.setLstr.setF _ _).setF _ _).hitF _ _).event _

theorem Keeps.judge {k' hop ok} (h : Keeps s t) : Keeps s (Machine.judge k' hop ok t) := by
  unfold Machine.judge
  extract_lets +onlyGivenNames _ _ _ _ _ s₁
  have h₁ : Keeps s s₁ := .setF (.when h.setLstr (Keeps.refl _).record) _ _
  split
  · exact .ite ((((h₁.setF _ _).setF _ _).hitF _ _).event _) h₁
  · extract_lets +onlyGivenNames s₂
    have h₂ : Keeps s s₂ := ((h₁.incF _ _).hitF _ _).event _
    exact .ite h₂.degrade h₂

theorem Keeps.decideMask {k' hop ok mix} (h : Keeps s t) : Keeps s (Machine.decideMask k' hop ok mix t) :=
  h.setLstr.record

theorem Keeps.dropJob {j fin} (h : Keeps s t) : Keeps s (Machine.dropJob j fin t) :=
  ((h.setJobs.setF _ _).hitB _ _).event _

theorem Keeps.hopRecord {j bs} (h : Keeps s t) : Keeps s (Machine.hopRecord j bs t) := by
  unfold Machine.hopRecord
  extract_lets +onlyGivenNames _ _
  split
  · exact h.event _
  · extract_lets +onlyGivenNames s₁
    have h₁ : Keeps s s₁ := h.setLstr
    split
    · rename_i e
      exact .event (.of_eq (h₁.writeChecked _ _ _ _) e) _
    · rename_i e
      exact .of_eq (h₁.writeChecked _ _ _ _) e

theorem Keeps.endJob {j status fin addr} (h : Keeps s t) : Keeps s (Machine.endJob j status fin addr t) := by
  unfold Machine.endJob
  extract_lets +onlyGivenNames s₁
  have h₁ : Keeps s s₁ := h.dropJob
  split
  · exact .progPrune (.hopRecord (.record (.when h₁ (Keeps.refl _).judge)))
  · extract_lets +onlyGivenNames _ s₂ r₃ _
    have h₂ : Keeps s s₂ := h₁.record
    have h₃ : Keeps s r₃.1 := .fst_ite h₂ (h₂.writeChecked _ _ _ _)
    clear_value r₃
    exact .progPrune
      (by
        split
        · exact h₃.finishAwaits _ _ _
        · exact h₃.finishAwaits _ _ _)

theorem Keeps.lynxFaulted {n cause status addr} (h : Keeps s t) :
    Keeps s (Machine.lynxFaulted n cause status addr t) := by
  unfold Machine.lynxFaulted
  extract_lets +onlyGivenNames _ _ _ s₁ _ _
  have h₁ : Keeps s s₁ :=
    .errLog (.withFaultPin ((((h.setF _ _).setF _ _).set64 _ _).hitB _ _) ((Keeps.refl _).hitB _ _)) _ _ _ _ _ _ _
  exact .lynxShow
    (.setInfl
      (.foldl _ (.foldl _ h₁ (fun u _ => (Keeps.refl u).endJob))
        (fun u _ => .when (.refl _) (Keeps.refl _).degrade)))

theorem Keeps.lynxFault {n cause status addr} (h : Keeps s t) :
    Keeps s (Machine.lynxFault n cause status addr t) := h.lynxFaulted.notice _ _

theorem Keeps.lynxUnfault {n} (h : Keeps s t) : Keeps s (Machine.lynxUnfault n t) :=
  .ite (((h.setF _ _).setF _ _).clrB _ _).lynxShow h

theorem Keeps.lynxIssue {n cyc stalls} (h : Keeps s t) : Keeps s (Machine.lynxIssue n cyc stalls t) := by
  unfold Machine.lynxIssue
  split
  · exact h
  · extract_lets +onlyGivenNames _
    split
    · exact h
    · split
      · exact h
      · split
        · exact (h.logUe _ _ _ _).endJob.lynxFault
        · split
          · exact h
          · exact (((h.rejectAccess _ _ _).setF _ _).set64 _ _).endJob
          · exact .forN (h.setJobs.setInfl.incF _ _) (fun _ u => (Keeps.refl u).incF _ _)

theorem Keeps.lynxRetire {n elems} (h : Keeps s t) : Keeps s (Machine.lynxRetire n elems t) := by
  unfold Machine.lynxRetire
  split
  · exact h
  · exact h.record.setInfl.setJobs

theorem Answers.execLynxTileBoundary {n ends elems cyc stalls} (h : Keeps s t) :
    Answers s (Machine.execLynxTileBoundary n ends elems cyc stalls t) :=
  .ite (.next h) (.next (.lynxShow (.lynxIssue (.when h (Keeps.refl _).lynxRetire))))

theorem Keeps.putOutputs {j l} (h : Keeps s t) : Keeps s (Machine.putOutputs j l t).1 := by
  induction l generalizing t with
  | nil => exact h
  | cons o r ih =>
    unfold Machine.putOutputs
    split
    · rename_i e
      exact ih ((h.writeChecked _ _ _ _).of_eq e)
    · exact h.writeChecked _ _ _ _

theorem Answers.execLynxJobComplete {n outputs newState} (h : Keeps s t) :
    Answers s (Machine.execLynxJobComplete n outputs newState t) := by
  unfold Machine.execLynxJobComplete
  split
  · exact .next h
  · split
    · exact .next h
    · split
      · exact .ite (.next h) (.ite (.next h.setLstr.endJob) (.next h.endJob))
      · extract_lets +onlyGivenNames _
        split
        · exact .next h
        · rename_i e
          exact .next (.endJob (.set64 (.setF (.of_eq h.putOutputs e) _ _) _ _))
        · rename_i e
          exact .next (.endJob (.of_eq h.putOutputs e))
        · rename_i e
          exact .next (.endJob (.of_eq h.putOutputs e))

theorem Answers.execLynxJobDeadline {mix} (h : Keeps s t) : Answers s (Machine.execLynxJobDeadline mix t) :=
  .next
    (.forN
      (.forN (.foldl _ h (fun u _ => (Keeps.refl u).endJob))
        (fun _ _ => .foldl _ (.refl _) (fun u _ => (Keeps.refl u).decideMask)))
      (fun _ u => (Keeps.refl u).lynxShow))

theorem Keeps.strApply {k'} (h : Keeps s t) : Keeps s (Machine.strApply k' t) := by
  unfold Machine.strApply
  extract_lets +onlyGivenNames _ s₁ _
  have h₁ : Keeps s s₁ := by
    unfold s₁
    split
    · exact ((h.setReg _ _).setReg _ _).setLstr
    · exact h.setLstr
    · exact h
  exact .ite h₁.setLstr h₁

theorem Keeps.releaseHop {hop k'} (h : Keeps s t) : Keeps s (Machine.releaseHop hop k' t) := by
  unfold Machine.releaseHop
  extract_lets +onlyGivenNames _ _ s₁ _
  have h₁ : Keeps s s₁ := h.strApply.setLstr
  split
  · exact .setLstr (.ite h₁ h₁.degrade)
  · exact .ite (.setLstr (.ite h₁ h₁.degrade))
      (.ite (.setLstr (.ite h₁ h₁.degrade)) (.lynxShow (.setLstr (.record (.when h₁ ((Keeps.refl _).setF _ _))))))

theorem Answers.execLynxJobRelease (h : Keeps s t) : Answers s (Machine.execLynxJobRelease t) :=
  .ite (.next h) (.next (.progPrune (.forN h (fun _ u => .ite (Keeps.refl u).releaseHop (.refl _)))))

theorem Keeps.queueJob {x dl io rcd cmd sess} (h : Keeps s t) :
    Keeps s (Machine.queueJob x dl io rcd cmd sess t) := h.record.lynxShow

theorem Answers.execLynxJobPush {n} (h : Keeps s t) : Answers s (Machine.execLynxJobPush n t) := by
  unfold Machine.execLynxJobPush
  extract_lets +onlyGivenNames _
  split
  · exact .next h
  · split
    · exact .next h
    · rename_i e
      exact .ite (.next (.queueJob (.of_eq (h.readChecked _ _ _ _) e)))
        (.next (.hitB (.setF (.of_eq (h.readChecked _ _ _ _) e) _ _) _ _))
    · rename_i e
      exact .next (.hitB (.set64 (.setF (.of_eq (h.readChecked _ _ _ _) e) _ _) _ _) _ _)
    · rename_i e
      exact .next (.hitB (.set64 (.setF (.of_eq (h.readChecked _ _ _ _) e) _ _) _ _) _ _)

theorem Keeps.putSpills {d l} (h : Keeps s t) : Keeps s (Machine.putSpills d l t).1 := by
  induction l generalizing t with
  | nil => exact h
  | cons o r ih =>
    unfold Machine.putSpills
    split
    · rename_i e
      exact ih ((h.writeChecked _ _ _ _).of_eq e).record
    · exact h.writeChecked _ _ _ _

theorem Keeps.enterProg {x p} (h : Keeps s t) : Keeps s (Machine.enterProg x p t) :=
  ((h.setProgs.lynxUnfault.setB _ _).setF _ _).lynxShow

theorem Answers.execLynxLoadProgram {d} (h : Keeps s t) : Answers s (Machine.execLynxLoadProgram d t) := by
  unfold Machine.execLynxLoadProgram
  exact .runCmd h (fun u _ => by
      extract_lets +onlyGivenNames _ _ _ _
      split
      · exact .refl _
      · exact .checked (.refl _)
          (.withMem (Keeps.refl u).readMem
            (fun _ =>
              .checked (.refl _)
                (.withMem (Keeps.refl _).readMem
                  (fun _ =>
                    .checked (.refl _)
                      (.withMem (Keeps.refl _).readMem (fun _ => by
                          extract_lets +onlyGivenNames _
                          split
                          · exact .refl _
                          · exact .fst_ite (.refl _)
                              (.fst_ite (.refl _)
                                (.withMem (Keeps.refl _).putSpills
                                  (fun _ =>
                                    .withMem ((Keeps.refl _).writeChecked _ _ _ _)
                                      (fun _ => ((Keeps.refl _).claim _ _).enterProg)))))))))))

theorem Keeps.unloadProg {x} (h : Keeps s t) : Keeps s (Machine.unloadProg x t) :=
  .progPrune (.release (.forN h.setProgs (fun _ _ => .when (.refl _) (Keeps.refl _).setLstr)) _)

theorem Answers.execLynxUnload {d} (h : Keeps s t) : Answers s (Machine.execLynxUnload d t) :=
  .runCmd h (fun u _ => (Keeps.refl u).unloadProg)

theorem Answers.execLynxStreamBind {d} (h : Keeps s t) : Answers s (Machine.execLynxStreamBind d t) := by
  unfold Machine.execLynxStreamBind
  exact .runCmd h (fun u _ => by
      extract_lets +onlyGivenNames _ _ _ _ _ _
      split
      · exact .refl _
      · exact .checked (.refl _) (Keeps.refl u).setLstr)

theorem Answers.execLynxStreamReset {d} (h : Keeps s t) : Answers s (Machine.execLynxStreamReset d t) :=
  .runCmd h (fun u _ => (Keeps.refl u).setLstr)

theorem Answers.execLynxStreamBindEvents {d} (h : Keeps s t) : Answers s (Machine.execLynxStreamBindEvents d t) :=
  .runCmd h (fun _ _ => .checked (.refl _) (.withBinds (.refl _) (fun _ => .refl _)))

theorem Answers.execLynxRun {d} (h : Keeps s t) : Answers s (Machine.execLynxRun d t) := by
  unfold Machine.execLynxRun
  exact .runCmd h (fun u _ => by
      extract_lets +onlyGivenNames _
      split
      · exact .refl _
      · split
        · exact .refl _
        · exact .checked (.refl _)
            (.withMem (Keeps.refl u).readMem (fun _ => by
                extract_lets +onlyGivenNames _ _
                split
                · exact (Keeps.refl _).rejectAccess _ _ _
                · exact .fst_ite (.refl _) (.fst_ite (.refl _) (Keeps.refl _).queueJob))))

theorem Answers.execLynxStatus {d} (h : Keeps s t) : Answers s (Machine.execLynxStatus d t) :=
  .runCmd h (fun u _ => (Keeps.refl u).outStatus)

theorem Keeps.lynxAbort (h : Keeps s t) : Keeps s (Machine.lynxAbort t) :=
  .forN (.foldl _ h.record (fun u _ => (Keeps.refl u).endJob)) (fun _ u => (Keeps.refl u).lynxShow)

theorem Keeps.lynxLose (h : Keeps s t) : Keeps s (Machine.lynxLose t) :=
  .forN
    (.setProgs
      (.record
        (.forN (.foldl _ (.foldl _ h (fun u _ => (Keeps.refl u).endJob)) (fun u _ => (Keeps.refl u).release _))
          (fun _ u => (Keeps.refl u).setLstr)))) (fun _ u => (Keeps.refl u).lynxShow)

/-! ### The functions of Machine/Fog -/

theorem Keeps.setFogKeys {l} (h : Keeps s t) : Keeps s (t.setFogKeys l) := h.record

theorem Keeps.setFogOps {l} (h : Keeps s t) : Keeps s (t.setFogOps l) := h.record

theorem Keeps.putOp {p o} (h : Keeps s t) : Keeps s (t.putOp p o) := h.setFogOps

theorem Keeps.fogShow (h : Keeps s t) : Keeps s (Machine.fogShow t) := by
  unfold Machine.fogShow
  extract_lets +onlyGivenNames _ _ _ s₁
  have h₁ : Keeps s s₁ := .setF (.setF (.setF (.setF (.when h ((Keeps.refl _).clrB _ _)) _ _) _ _) _ _) _ _
  exact h₁.setF _ _

theorem Keeps.fogBytes {a n} (h : Keeps s t) : Keeps s (Machine.fogBytes a n t) := .ite h (h.record.incF _ _)

theorem Keeps.readKeys {sess a k'} (h : Keeps s t) (k : ∀ u a, Keeps u (k' u a).1) :
    Keeps s (Machine.readKeys sess a t k').1 :=
  .withMem (h.readChecked _ _ _ _)
    (fun _ =>
      .checked (.refl _)
        (.withMem ((Keeps.refl _).readChecked _ _ _ _)
          (fun _ =>
            .checked (.refl _) (.fst_ite (k _ _) (.withMem ((Keeps.refl _).readChecked _ _ _ _) (fun _ => k _ _))))))

theorem Answers.execFogKeysetRegister {d} (h : Keeps s t) : Answers s (Machine.execFogKeysetRegister d t) := by
  unfold Machine.execFogKeysetRegister
  exact .runCmd h
    (fun u _ =>
      .checked (.refl _)
        (.readKeys (.refl _) (fun u _ => by
            split
            · exact .refl _
            · exact ((Keeps.refl u).setFogKeys.claim _ _).setF _ _)))

theorem Keeps.keysSettle (h : Keeps s t) : Keeps s (Machine.keysSettle t) :=
  .foldl _ h (fun u _ => .ite (((Keeps.refl u).setFogKeys.release _).finishAwaits _ _ _) (.refl _))

theorem Keeps.keysLeave {x} (h : Keeps s t) : Keeps s (Machine.keysLeave x t) := h.setFogKeys

theorem Answers.execFogKeysetRelease {d} (h : Keeps s t) : Answers s (Machine.execFogKeysetRelease d t) :=
  .runCmd h (fun u _ => .fst_ite (Keeps.refl u).keysLeave (Keeps.refl u).keysLeave.keysSettle)

theorem Answers.execFogKsRegisterGo (h : Keeps s t) : Answers s (Machine.execFogKsRegisterGo t) := by
  unfold Machine.execFogKsRegisterGo
  extract_lets +onlyGivenNames _ _
  split
  · exact .next h
  · split
    · exact .next ((h.setF _ _).setF _ _)
    · split
      · exact .next (h.setF _ _)
      · rename_i e
        exact .next (.setF (.setF (.of_eq (.readKeys h (fun u _ => (Keeps.refl u).setFogKeys)) e) _ _) _ _)
      · rename_i e
        exact .next (.setF (.setF (.of_eq (.readKeys h (fun u _ => (Keeps.refl u).setFogKeys)) e) _ _) _ _)

theorem Answers.execFogKsReleaseGo (h : Keeps s t) : Answers s (Machine.execFogKsReleaseGo t) :=
  .ite (.next h) (.next (.setF (.setF (.when h (Keeps.refl _).keysLeave.keysSettle) _ _) _ _))

theorem Keeps.fogCause {cause a} (h : Keeps s t) : Keeps s (Machine.fogCause cause a t) := (h.setF _ _).set64 _ _

theorem Keeps.fogEnd {p o status failing addr} (h : Keeps s t) :
    Keeps s (Machine.fogEnd p o status failing addr t) := h.putOp

theorem Keeps.fogFaulted {cause a sess} (h : Keeps s t) : Keeps s (Machine.fogFaulted cause a sess t) := by
  unfold Machine.fogFaulted
  extract_lets +onlyGivenNames _ _ _ s₁
  have h₁ : Keeps s s₁ :=
    .errLog
      (.withFaultPin (.when ((h.fogCause.setF _ _).hitF _ _) ((Keeps.refl _).hitF _ _)) ((Keeps.refl _).hitF _ _)) _
      _ _ _ _ _ _
  exact .foldl _ h₁ (fun u _ => .ite (Keeps.refl u).fogEnd (.refl _))

theorem Keeps.fogFault {cause a sess} (h : Keeps s t) : Keeps s (Machine.fogFault cause a sess t) :=
  h.fogFaulted.notice _ _

theorem Keeps.withFog {n} {r : State × Acc2} {f : State → List Byte → State × Rsp} (h : Keeps s r.1)
    (k : ∀ u bs, Keeps u (f u bs).1) : Keeps s (Machine.withFog n r f).1 := by
  unfold Machine.withFog
  split
  · exact h.trans (k _ _)
  · exact h.fogCause
  · exact h.fogFault.fogShow
  · exact h

theorem Keeps.fogAdmit {cmd sess x a} (h : Keeps s t) : Keeps s (Machine.fogAdmit cmd sess x a t).1 := by
  unfold Machine.fogAdmit
  split
  · exact h
  · exact .withFog (h.readChecked _ _ _ _)
      (fun u _ =>
        .checked (.refl _)
          (.withFog ((Keeps.refl u).readChecked _ _ _ _)
            (fun u _ =>
              .checked (.refl _)
                (by
                  split
                  · exact .refl _
                  · extract_lets +onlyGivenNames r₁ _
                    have h₁ : Keeps u r₁.1 := (Keeps.refl u).fresh
                    clear_value r₁
                    exact h₁.setFogOps.fogShow))))

theorem Answers.execFogEval {d} (h : Keeps s t) : Answers s (Machine.execFogEval d t) := by
  unfold Machine.execFogEval
  exact .runCmd h (fun u _ => by
      split
      · exact .refl _
      · exact .checked (.refl _)
          (by
            split
            · rename_i e
              exact .pair (.of_eq (Keeps.refl u).fogAdmit e)
            · exact (Keeps.refl u).fogAdmit))

theorem Answers.execFogOpPush (h : Keeps s t) : Answers s (Machine.execFogOpPush t) :=
  .ite (.next h) (.next h.record.fogShow)

theorem Answers.execFogOpAdmit (h : Keeps s t) : Answers s (Machine.execFogOpAdmit t) := by
  unfold Machine.execFogOpAdmit
  split
  · exact .next h
  · split
    · exact .next h
    · extract_lets +onlyGivenNames _ s₁
      have h₁ : Keeps s s₁ := h.record
      split
      · exact .next h
      · rename_i e
        exact .next (.fogShow (.of_eq h₁.fogAdmit e))
      · rename_i e
        exact .next (.fogShow (.hitF (.of_eq h₁.fogAdmit e) _ _))
      · rename_i e
        exact .next (.fogShow (.of_eq h₁.fogAdmit e))

theorem Answers.fogRun {p code cyc f} (h : Keeps s t) (k : ∀ u a b, Keeps u (f u a b).1) :
    Answers s (Machine.fogRun p code cyc f t) := by
  unfold Machine.fogRun
  split
  · exact .next h
  · split
    · exact .next h
    · split
      · exact .next h
      · split
        · rename_i e
          extract_lets +onlyGivenNames _ r₁ s₂
          have h₁ : Keeps s r₁.1 := .fresh (.of_eq (.trans h (k _ _ _)) e)
          clear_value r₁
          have h₂ : Keeps s s₂ := (h₁.incF _ _).incF _ _
          exact .next h₂.putOp.fogShow
        · rename_i e
          exact .next (.fogEnd (.of_eq (.trans h (k _ _ _)) e))
        · exact .next h
        · rename_i e
          exact .next (.fogEnd (.fogCause (.of_eq (.trans h (k _ _ _)) e)))
        · rename_i e
          exact .next (.fogShow (.fogFault (.fogEnd (.of_eq (.trans h (k _ _ _)) e))))
        · rename_i e
          exact .next (.of_eq (.trans h (k _ _ _)) e)

theorem Keeps.with1 {o n} {f : FogCt → State × FogRes} (h : Keeps s t) (k : ∀ c, Keeps s (f c).1) :
    Keeps s (Machine.with1 t o n f).1 := by
  unfold Machine.with1
  split
  · exact k _
  · exact h

theorem Keeps.with2 {o i} {f : FogCt → FogCt → State × FogRes} (h : Keeps s t) (k : ∀ x y, Keeps s (f x y).1) :
    Keeps s (Machine.with2 t o i f).1 := by
  unfold Machine.with2
  exact .with1 h fun _ => .with1 h fun _ => .fst_ite h (k _ _)

theorem Keeps.fogRead {o a n k'} (h : Keeps s t) (k : ∀ u a, Keeps u (k' u a).1) :
    Keeps s (Machine.fogRead o a n t k').1 := by
  unfold Machine.fogRead
  split
  · rename_i e
    exact .trans (.fogBytes (.of_eq (h.readChecked _ _ _ _) e)) (k _ _)
  · rename_i e
    exact .pair (.of_eq (h.readChecked _ _ _ _) e)

theorem Keeps.readCt {o a lim k'} (h : Keeps s t) (k : ∀ u a, Keeps u (k' u a).1) :
    Keeps s (Machine.readCt o a lim t k').1 := by
  unfold Machine.readCt
  exact .fogRead h (fun u _ => by
      extract_lets +onlyGivenNames _
      split
      · exact .refl _
      · split
        · rename_i e
          split
          · exact .trans (.fogBytes (.of_eq ((Keeps.refl u).readChecked _ _ _ _) e)) (k _ _)
          · exact .pair (.of_eq ((Keeps.refl u).readChecked _ _ _ _) e)
        · rename_i e
          exact .pair (.of_eq ((Keeps.refl u).readChecked _ _ _ _) e))

theorem Keeps.fogWrite {o a bs} (h : Keeps s t) : Keeps s (Machine.fogWrite o a bs t).1 := by
  unfold Machine.fogWrite
  split
  · rename_i e
    exact .pair (.fogBytes (.of_eq (h.writeChecked _ _ _ _) e))
  · exact h.writeChecked _ _ _ _

theorem Answers.execFLoad {op} (h : Keeps s t) : Answers s (Machine.execFLoad op t) :=
  .fogRun h (fun _ _ _ => .readCt (.refl _) (fun _ _ => .refl _))

theorem Answers.execFStore {op} (h : Keeps s t) : Answers s (Machine.execFStore op t) := by
  unfold Machine.execFStore
  exact .fogRun h
    (fun u _ _ =>
      .with1 (.refl _) (fun _ => by
          split
          · exact .refl _
          · split
            · rename_i e
              exact .pair (.of_eq (Keeps.refl u).fogWrite e)
            · rename_i e
              exact .pair (.of_eq (Keeps.refl u).fogWrite e)))

theorem Answers.execFEncenc {op} (h : Keeps s t) : Answers s (Machine.execFEncenc op t) :=
  .fogRun h (fun _ _ _ => .fst_ite (.refl _) (.fogRead (.refl _) (fun _ _ => .refl _)))

theorem Answers.fogAddSub {op code g} (h : Keeps s t) : Answers s (Machine.fogAddSub op code g t) :=
  .fogRun h (fun _ _ _ => .with2 (.refl _) (fun _ _ => .refl _))

theorem Answers.execFAdd {op} (h : Keeps s t) : Answers s (Machine.execFAdd op t) := .fogAddSub h

theorem Answers.execFSub {op} (h : Keeps s t) : Answers s (Machine.execFSub op t) := .fogAddSub h

theorem Answers.execFMulp {op} (h : Keeps s t) : Answers s (Machine.execFMulp op t) :=
  .fogRun h (fun _ _ _ => .with1 (.refl _) (fun _ => .fogRead (.refl _) (fun _ _ => .refl _)))

theorem Answers.execFMulc {op} (h : Keeps s t) : Answers s (Machine.execFMulc op t) :=
  .fogRun h (fun _ _ _ => .with1 (.refl _) (fun _ => .refl _))

theorem Answers.execFAddc {op} (h : Keeps s t) : Answers s (Machine.execFAddc op t) :=
  .fogRun h (fun _ _ _ => .with1 (.refl _) (fun _ => .refl _))

theorem Answers.execFMul {op} (h : Keeps s t) : Answers s (Machine.execFMul op t) :=
  .fogRun h (fun _ _ _ => .with2 (.refl _) (fun _ _ => .fst_ite (.refl _) (.refl _)))

theorem Keeps.streamKey {o l} {f : State → List Byte → State × FogRes} (h : Keeps s t)
    (k : ∀ u a, Keeps u (f u a).1) :
    Keeps s (Machine.streamKey o l t f).1 := by
  induction l generalizing t s f with
  | nil => exact h.trans (k _ _)
  | cons r rs ih => exact .fogRead h fun u b => ih (.refl u) fun u bs => k u (b ++ bs)

theorem Keeps.keySwitch {o l p g k'} (h : Keeps s t) (k : ∀ u a, Keeps u (k' u a).1) :
    Keeps s (Machine.keySwitch o l p g t k').1 := by
  unfold Machine.keySwitch
  split
  · exact h
  · exact .streamKey h (fun _ _ => k _ _)

theorem Keeps.relinCt {o c k'} (h : Keeps s t) (k : ∀ u a, Keeps u (k' u a).1) :
    Keeps s (Machine.relinCt o c t k').1 := .keySwitch h (fun _ _ => k _ _)

theorem Answers.execFRelin {op} (h : Keeps s t) : Answers s (Machine.execFRelin op t) :=
  .fogRun h (fun _ _ _ => .with1 (.refl _) (fun _ => .relinCt (.refl _) (fun _ _ => .refl _)))

theorem Answers.execFRescale {op} (h : Keeps s t) : Answers s (Machine.execFRescale op t) :=
  .fogRun h (fun _ _ _ => .with1 (.refl _) (fun _ => .fst_ite (.refl _) (.refl _)))

theorem Answers.execFModsw {op} (h : Keeps s t) : Answers s (Machine.execFModsw op t) :=
  .fogRun h (fun _ _ _ => .with1 (.refl _) (fun _ => .fst_ite (.refl _) (.refl _)))

theorem Answers.fogRotate {op code g} (h : Keeps s t) : Answers s (Machine.fogRotate op code g t) :=
  .fogRun h (fun _ _ _ => .with1 (.refl _) (fun _ => .fst_ite (.refl _) (.keySwitch (.refl _) (fun _ _ => .refl _))))

theorem Answers.execFRot {op} (h : Keeps s t) : Answers s (Machine.execFRot op t) := .fogRotate h

theorem Answers.execFConj {op} (h : Keeps s t) : Answers s (Machine.execFConj op t) := .fogRotate h

theorem Answers.execFLevel {op} (h : Keeps s t) : Answers s (Machine.execFLevel op t) :=
  .fogRun h (fun _ _ _ => .with1 (.refl _) (fun _ => .fst_ite (.refl _) (.refl _)))

theorem Keeps.polyPowers {o n ps} {f : State → List FogCt → State × FogRes} (h : Keeps s t)
    (k : ∀ u a, Keeps u (f u a).1) :
    Keeps s (Machine.polyPowers o n ps t f).1 := by
  induction n generalizing t s ps with
  | zero => exact h.trans (k _ _)
  | succ n ih =>
    unfold Machine.polyPowers
    extract_lets
    split
    · exact .relinCt h fun u _ => ih (.refl u)
    · exact h

theorem Answers.execFPoly {op} (h : Keeps s t) : Answers s (Machine.execFPoly op t) :=
  .fogRun h
    (fun _ _ _ =>
      .with1 (.refl _)
        (fun _ => .fst_ite (.refl _) (.fogRead (.refl _) (fun _ _ => .polyPowers (.refl _) (fun _ _ => .refl _)))))

theorem Keeps.setFogRing {sess r} (h : Keeps s t) : Keeps s (t.setFogRing sess r) := h.record

theorem Answers.execFExchange {op} (h : Keeps s t) : Answers s (Machine.execFExchange op t) := by
  unfold Machine.execFExchange
  split
  · exact .next h
  · split
    · exact .next h
    · split
      · exact .next h
      · split
        · extract_lets +onlyGivenNames _ _
          split
          · exact .next h
          · split
            · exact .next h.fogEnd
            · extract_lets +onlyGivenNames _ fin
              have hfin {x k} (hx : Keeps s x.1) (hk : ∀ u, Keeps s u → Keeps s (k u)) : Keeps s (fin x k) := by
                unfold fin
                split
                · exact hk _ hx
                · exact h
                · exact .fogEnd (.fogCause hx)
                · exact .fogShow (.fogFault (.fogEnd hx))
              clear_value fin
              exact .next (hfin h.fogWrite fun u hu => hfin hu.fogWrite fun v hv =>
                (hv.setFogRing.hitF _ _).putOp.fogShow.event _)
        · exact .next h.fogEnd

theorem Keeps.fogReturn {p o a} (h : Keeps s t) : Keeps s (Machine.fogReturn p o a t).1 := by
  unfold Machine.fogReturn
  split
  · split
    · exact h
    · split
      · exact h
      · split
        · rename_i e
          exact .pair (.fogShow (.putOp (.of_eq (.readCt h (fun _ _ => .fst_ite (.refl _) (.refl _))) e)))
        · rename_i e
          exact .pair (.of_eq (.readCt h (fun _ _ => .fst_ite (.refl _) (.refl _))) e)
        · rename_i e
          exact .pair (.of_eq (.readCt h (fun _ _ => .fst_ite (.refl _) (.refl _))) e)
  · exact h

theorem Answers.execFogExchangeReturn {d} (h : Keeps s t) : Answers s (Machine.execFogExchangeReturn d t) := by
  unfold Machine.execFogExchangeReturn
  exact .runCmd h
    (fun u _ =>
      .checked (.refl _)
        (by
          split
          · exact .refl _
          · split
            · rename_i e
              exact .pair (.of_eq (Keeps.refl u).fogReturn e)
            · exact .refl _
            · rename_i e
              exact .pair (.of_eq (Keeps.refl u).fogReturn e)
            · rename_i e
              exact .pair (.of_eq (Keeps.refl u).fogReturn e)
            · rename_i e
              exact .pair (.of_eq (Keeps.refl u).fogReturn e)))

theorem Answers.execFogRetGo (h : Keeps s t) : Answers s (Machine.execFogRetGo t) := by
  unfold Machine.execFogRetGo
  extract_lets +onlyGivenNames _ _
  split
  · exact .next h
  · split
    · exact .next (h.setF _ _)
    · split
      · exact .next h
      · rename_i e
        exact .next (.setF (.of_eq h.fogReturn e) _ _)
      · rename_i e
        exact .next (.of_eq h.fogReturn e)

theorem Answers.execFogExchangeTimeout {op} (h : Keeps s t) : Answers s (Machine.execFogExchangeTimeout op t) := by
  unfold Machine.execFogExchangeTimeout
  split
  · exact .next h
  · split
    · exact .next h
    · exact .ite (.next h) (.next ((h.fogEnd.fogShow.hitF _ _).event _))

theorem Answers.execFogExchangeRing {d} (h : Keeps s t) : Answers s (Machine.execFogExchangeRing d t) :=
  .runCmd h (fun u _ => .checked (.refl _) (((((Keeps.refl u).setFogRing.set64 _ _).set64 _ _).setF _ _).setF _ _))

theorem Keeps.fogLeave {p} (h : Keeps s t) : Keeps s (Machine.fogLeave p t) := by
  unfold Machine.fogLeave
  split
  · exact h
  · split
    · exact h
    · exact (((h.setFogOps.finishAwaits _ _ _).hitF _ _).event _).fogShow.keysSettle

theorem Answers.execFogOpEnd {op} (h : Keeps s t) : Answers s (Machine.execFogOpEnd op t) := .next h.fogLeave

theorem Answers.execFogStatus {d} (h : Keeps s t) : Answers s (Machine.execFogStatus d t) :=
  .runCmd h (fun u _ => (Keeps.refl u).outStatus)

theorem Keeps.fogAbort (h : Keeps s t) : Keeps s (Machine.fogAbort t) := by
  unfold Machine.fogAbort
  exact .foldl _ h
    (fun u _ =>
      .fogLeave
        (by
          split
          · exact (Keeps.refl u).fogEnd
          · exact .refl _))

theorem Keeps.fogLose (h : Keeps s t) : Keeps s (Machine.fogLose t) :=
  .fogShow (.record (.foldl _ h.fogAbort (fun u _ => (Keeps.refl u).release _)))

theorem Keeps.releaseKeys {x} (h : Keeps s t) : Keeps s (Machine.releaseKeys x t) := h.keysLeave.keysSettle

/-! ### The functions of Machine/Streams -/

theorem Keeps.strBlock {k n short u} (h : Keeps s t) (e : strBlock k n short t = some u) : Keeps s u := by
  unfold Machine.strBlock at e
  extract_lets at e
  split at e
  · cases e
  · rename_i e'
    injection e with e
    subst e
    exact (Keeps.of_eq (h.writeChecked _ _ _ _) e').setStrm

theorem Keeps.strBlocks {b k i} (h : Keeps s t) : Keeps s (Machine.strBlocks b k i t) := by
  induction i generalizing t with
  | zero => exact h
  | succ i ih =>
    unfold Machine.strBlocks
    extract_lets
    split
    · split
      · rename_i e
        exact ih (h.strBlock e)
      · exact h
    · exact h

theorem Keeps.strTail {b k} (h : Keeps s t) : Keeps s (Machine.strTail b k t) := by
  unfold Machine.strTail
  exact .ite h (.getD h fun _ e => h.strBlock e)

theorem Keeps.stopStream {k'} (h : Keeps s t) : Keeps s (Machine.stopStream k' t) := by
  unfold Machine.stopStream
  extract_lets +onlyGivenNames _ _ _ _ _ s₁
  have h₁ : Keeps s s₁ := (h.setJobs.setLstr.setStrm.record.clearRegs _ _).unbindEvents _
  exact (h₁.release _).progPrune

theorem Keeps.streamBoundary {b} (h : Keeps s t) : Keeps s (Machine.streamBoundary b t) := by
  unfold Machine.streamBoundary
  extract_lets +onlyGivenNames s₁
  have h₁ : Keeps s s₁ :=
    .forN h (fun _ u => by
        extract_lets +onlyGivenNames _
        split
        · exact .refl _
        · extract_lets +onlyGivenNames s₂
          have h₂ : Keeps u s₂ := .when (.refl _) (Keeps.refl _).strBlocks
          exact .ite (.finishAwaits (.stopStream (.when h₂ (Keeps.refl _).strTail)) _ _ _) h₂)
  exact .ite h₁ (.finishAwaits (.foldl _ h₁ (fun u _ => .when (.refl _) (Keeps.refl _).setStrm)) _ _ _)

theorem Answers.execHopBoundary (h : Keeps s t) : Answers s (Machine.execHopBoundary t) :=
  .ite (.next h) (.next (.streamBoundary (.foxBoundary (.forN (h.event _) (fun _ u => (Keeps.refl u).coreHop)))))

theorem Answers.execFoxPublish (h : Keeps s t) : Answers s (Machine.execFoxPublish t) := .next h.publishNow

theorem Keeps.streamsPark (h : Keeps s t) : Keeps s (Machine.streamsPark t) :=
  .forN h (fun _ _ => .when (.refl _) (Keeps.refl _).setStrm)

theorem Keeps.streamsWake (h : Keeps s t) : Keeps s (Machine.streamsWake t) :=
  .forN h (fun _ _ => .when (.refl _) (Keeps.refl _).setStrm)

theorem Answers.execStreamOpen {d} (h : Keeps s t) : Answers s (Machine.execStreamOpen d t) := by
  unfold Machine.execStreamOpen
  exact .runCmd h
    (fun u _ =>
      .checked (.refl _)
        (by
          split
          · exact .refl _
          · exact .withBinds (.refl _) (fun u => ((Keeps.refl u).take _ _).record.setLstr.setStrm.record)))

theorem Answers.execStreamClose {d} (h : Keeps s t) : Answers s (Machine.execStreamClose d t) :=
  .runCmd h (fun u _ => (Keeps.refl u).setStrm)

theorem Answers.execStreamRoute {d} (h : Keeps s t) : Answers s (Machine.execStreamRoute d t) :=
  .runCmd h (fun _ _ => .checked (.refl _) (.refl _))

theorem Keeps.putGlobalMute (h : Keeps s t) : Keeps s (Machine.putGlobalMute t) := (h.setF _ _).touchAll

theorem Answers.execRouteGlobalMute {d} (h : Keeps s t) : Answers s (Machine.execRouteGlobalMute d t) :=
  .runCmd h (fun u _ => .checked (.refl _) ((Keeps.refl u).setVote _ _ _).putGlobalMute)

theorem Answers.execStreamStatus {d} (h : Keeps s t) : Answers s (Machine.execStreamStatus d t) :=
  .runCmd h (fun u _ => (Keeps.refl u).outStatus)

/-! ### The functions of Machine/Power -/

theorem Keeps.startHold (h : Keeps s t) : Keeps s (Machine.startHold t) := h.record

theorem Keeps.setLynxEn {b} (h : Keeps s t) : Keeps s (Machine.setLynxEn b t) := .ite h h.record

theorem Keeps.setDrain {b} (h : Keeps s t) : Keeps s (Machine.setDrain b t) := h.record

theorem Keeps.setPhase {p} (h : Keeps s t) : Keeps s (Machine.setPhase p t) := h.record

theorem Keeps.startPark {from'} (h : Keeps s t) : Keeps s (Machine.startPark from' t) :=
  .setDrain (.forDirs (h.record.setF _ _).putGlobalMute (fun _ _ u => (Keeps.refl u).stopDir))

theorem Keeps.startRaise (h : Keeps s t) : Keeps s (Machine.startRaise t) := .ite (h.setF _ _) h.setLynxEn.setPhase

theorem Keeps.steadyTo {want} (h : Keeps s t) : Keeps s (Machine.steadyTo want t) :=
  .ite h (.ite h.startPark (.ite (h.record.setF _ _).setDrain (.ite h.startRaise h)))

theorem Keeps.steadyGo (h : Keeps s t) : Keeps s (Machine.steadyGo t) := h.steadyTo

theorem Keeps.undoPark (h : Keeps s t) : Keeps s (Machine.undoPark t) :=
  ((h.setPhase.setDrain.setF _ _).hitF _ _).restartDirs.putGlobalMute

theorem Keeps.putReq (h : Keeps s t) : Keeps s (Machine.putReq t) := .ite h (h.setF _ _)

theorem Keeps.settleRail (h : Keeps s t) : Keeps s (Machine.settleRail t) := .ite h.setLynxEn h

theorem Keeps.powerMove (h : Keeps s t) : Keeps s (Machine.powerMove t) := by
  unfold Machine.powerMove
  extract_lets +onlyGivenNames s₁ _
  have h₁ : Keeps s s₁ := h.putReq
  split
  · exact h₁.steadyGo
  · exact .ite h₁ h₁.setPhase.steadyGo
  · exact .ite (h₁.setPhase.setDrain.setF _ _) (.ite h₁.startPark h₁)
  · exact .ite h₁ h₁.undoPark.steadyGo
  · exact .ite h₁ h₁.undoPark.steadyGo
  · exact h₁
  · exact h₁

theorem Keeps.powerEval (h : Keeps s t) : Keeps s (Machine.powerEval t) := h.powerMove.settleRail

theorem Keeps.undoWake (h : Keeps s t) : Keeps s (Machine.undoWake t) :=
  h.undoPark.startHold.putReq.steadyTo.settleRail

theorem Answers.execWakeHoldEnd (h : Keeps s t) : Answers s (Machine.execWakeHoldEnd t) := by
  unfold Machine.execWakeHoldEnd
  split
  · exact .ite (.next h.record.powerEval) (.next h)
  · exact .next h

theorem Keeps.loseMem {lo hi} (h : Keeps s t) : Keeps s (Machine.loseMem lo hi t) :=
  .foldl _ h.record (fun u _ => (Keeps.refl u).setByte _ _)

theorem Keeps.showEngines (h : Keeps s t) : Keeps s (Machine.showEngines t) :=
  .fogShow (.forN h (fun _ u => (Keeps.refl u).lynxShow))

theorem Keeps.gateEngines (h : Keeps s t) : Keeps s (Machine.gateEngines t) :=
  ((h.setDrain.setF _ _).setF _ _).showEngines

theorem Keeps.loseEngines (h : Keeps s t) : Keeps s (Machine.loseEngines t) := h.lynxLose.fogLose.loseMem.loseMem

theorem Keeps.drainEnds (h : Keeps s t) : Keeps s (Machine.drainEnds t) := by
  unfold Machine.drainEnds
  split
  · exact (h.loseEngines.gateEngines.setPhase.setF _ _).powerEval
  · exact h.loseEngines.gateEngines.setPhase
  · exact h.gateEngines

theorem Answers.execDrainDone (h : Keeps s t) : Answers s (Machine.execDrainDone t) :=
  .ite (.next h.drainEnds) (.next h)

theorem Answers.execDrainTimeout (h : Keeps s t) : Answers s (Machine.execDrainTimeout t) :=
  .ite (.next (h.lynxAbort.fogAbort.hitF _ _).drainEnds) (.next h)

theorem Keeps.ungateEngines (h : Keeps s t) : Keeps s (Machine.ungateEngines t) :=
  .showEngines (.forN ((h.setF _ _).setF _ _).record (fun _ u => (Keeps.refl u).lynxUnfault))

theorem Answers.execLynxUngate {railMv} (h : Keeps s t) : Answers s (Machine.execLynxUngate railMv t) := by
  unfold Machine.execLynxUngate
  split
  · exact .next h
  · extract_lets +onlyGivenNames s₁
    have h₁ : Keeps s s₁ := h.ungateEngines
    exact .ite (.next (h₁.setPhase.setF _ _).powerEval) (.next h₁)

theorem Answers.execVddLynxCheck {railMv} (h : Keeps s t) : Answers s (Machine.execVddLynxCheck railMv t) := by
  unfold Machine.execVddLynxCheck
  split
  · exact .next h
  · extract_lets +onlyGivenNames _ _ s₁
    have h₁ : Keeps s s₁ := .notice (.fogFaulted (.forN h.record (fun _ u => (Keeps.refl u).lynxFaulted))) _ _
    exact .ite (.next (h₁.setPhase.setF _ _).powerEval) (.next h₁)

theorem Keeps.trackIdle (h : Keeps s t) : Keeps s (Machine.trackIdle t) := .ite h h.record

theorem Answers.execLynxIdleGate {n} (h : Keeps s t) : Answers s (Machine.execLynxIdleGate n t) := by
  unfold Machine.execLynxIdleGate
  split
  · exact .ite (.next (h.clrB _ _).lynxShow) (.next h)
  · exact .next h

theorem Keeps.stepTo {k tj} (h : Keeps s t) : Keeps s (Machine.stepTo k tj t) := by
  unfold Machine.stepTo
  extract_lets +onlyGivenNames _ s₁ s₂ _ s₃
  have h₁ : Keeps s s₁ := .withFaultPin h (.when
    (.when ((((Keeps.refl _).setF _ _).hitF _ _).setF _ _) ((Keeps.refl _).hitF _ _))
    (((Keeps.refl _).hitF _ _).hitF _ _))
  clear_value s₁
  have h₂ : Keeps s s₂ := h₁.notice _ _
  clear_value s₂
  have h₃ : Keeps s s₃ := .ite h₂.record.setDrain (.ite h₂.setDrain h₂)
  clear_value s₃
  exact .ite h₃.record.putGlobalMute.powerEval h₃

theorem Keeps.startWake {at_} (h : Keeps s t) : Keeps s (Machine.startWake at_ t) := by
  unfold Machine.startWake
  exact (h.record.setF _ _).unqualifyAll

theorem Keeps.leaveCrit (h : Keeps s t) : Keeps s (Machine.leaveCrit t) := by
  unfold Machine.leaveCrit
  extract_lets +onlyGivenNames _ s₁
  have h₁ : Keeps s s₁ := h.record.putGlobalMute
  split
  · exact h₁.startWake
  · exact h₁.undoWake
  · exact h₁.undoWake
  · exact h₁.powerEval

theorem Answers.execThermalSample {sensors} (h : Keeps s t) : Answers s (Machine.execThermalSample sensors t) := by
  unfold Machine.execThermalSample
  extract_lets +onlyGivenNames six
  clear_value six
  split
  · exact .next h
  · extract_lets +onlyGivenNames _ s₁ _ _ s₂
    have h₁ : Keeps s s₁ := h.setF _ _
    have h₂ : Keeps s s₂ := .ite h₁ h₁.stepTo
    exact .next (.ite h₂.leaveCrit h₂)

theorem Keeps.latchWake {bits} (h : Keeps s t) : Keeps s (Machine.latchWake bits t) := by
  unfold Machine.latchWake
  exact .when (((h.note _).mark _ _).setF _ _) ((Keeps.refl _).hitF _ _)

theorem Answers.execWakeDetect {pins wakeIn wheel} (h : Keeps s t) :
    Answers s (Machine.execWakeDetect pins wakeIn wheel t) := by
  unfold Machine.execWakeDetect
  extract_lets +onlyGivenNames _ _
  split
  · exact .next h
  · extract_lets +onlyGivenNames s₁
    have h₁ : Keeps s s₁ := h.latchWake
    split
    · exact .next h₁
    · split
      · exact .ite (.next h₁.record) (.next h₁.startWake)
      · exact .next h₁.record.undoWake
      · exact .next h₁.record.undoWake
      · exact .next h₁

theorem Keeps.pwrTick (h : Keeps s t) : Keeps s (Machine.pwrTick t) := by
  unfold Machine.pwrTick
  extract_lets +onlyGivenNames s₁
  have h₁ : Keeps s s₁ := h.trackIdle
  split
  · exact .ite h₁.startWake h₁
  · exact h₁

theorem Answers.execWakeOutRelease (h : Keeps s t) : Answers s (Machine.execWakeOutRelease t) := .next (h.wipeF _)

theorem Keeps.prerollPut {audio} (h : Keeps s t) : Keeps s (Machine.prerollPut audio t) :=
  .foldl _ h (fun u _ => ((Keeps.refl u).setByte _ _).setF _ _)

theorem Answers.execKwsFrame {scores lastSample audio} (h : Keeps s t) :
    Answers s (Machine.execKwsFrame scores lastSample audio t) := by
  unfold Machine.execKwsFrame
  split
  · exact .next h
  · extract_lets +onlyGivenNames s₁
    have h₁ : Keeps s s₁ := .when h (Keeps.refl _).prerollPut
    split
    · exact .next h₁
    · exact .ite (.next h₁) (.next ((((h₁.setF _ _).setF _ _).hitF _ _).set64 _ _).record)

theorem Keeps.rearm (h : Keeps s t) : Keeps s (Machine.rearm t) := (h.wipeF _).record

theorem Answers.execDormouseHitValidWrite (h : Keeps s t) : Answers s (Machine.execDormouseHitValidWrite t) :=
  .next h.rearm

theorem Answers.execPowerSetState {d} (h : Keeps s t) : Answers s (Machine.execPowerSetState d t) :=
  .runCmd h (fun u _ => .checked (.refl _) ((Keeps.refl u).setVote _ _ _).powerEval)

theorem Keeps.putClocks (h : Keeps s t) : Keeps s (Machine.putClocks t) := by
  unfold Machine.putClocks
  extract_lets +onlyGivenNames _ s₁
  have h₁ : Keeps s s₁ := h.setF _ _
  exact .ite (h₁.setF _ _).showEngines h₁

theorem Answers.execPowerSetClocks {d} (h : Keeps s t) : Answers s (Machine.execPowerSetClocks d t) :=
  .runCmd h (fun u _ => .checked (.refl _) ((Keeps.refl u).setVote _ _ _).putClocks)

theorem Answers.execPowerStatus {d} (h : Keeps s t) : Answers s (Machine.execPowerStatus d t) :=
  .runCmd h (fun u _ => (Keeps.refl u).outStatus)

theorem Answers.execPowerSetWake {d} (h : Keeps s t) : Answers s (Machine.execPowerSetWake d t) :=
  .runCmd h
    (fun u _ =>
      .checked (.refl _)
        (.pair (.powerEval (.forN ((Keeps.refl u).take _ _) (fun _ u => (Keeps.refl u).setImg _ _ _ _)))))

theorem Answers.execDormouseLoadModel {d} (h : Keeps s t) : Answers s (Machine.execDormouseLoadModel d t) :=
  .runCmd h
    (fun u _ =>
      .checked (.refl _)
        (.withMem (Keeps.refl u).readMem
          (fun _ => ((((Keeps.refl _).take _ _).setBytes _ _).setImg _ _ _ _).setF _ _)))

theorem Answers.execDormouseSetVocab {d} (h : Keeps s t) : Answers s (Machine.execDormouseSetVocab d t) :=
  .runCmd h
    (fun u _ =>
      .checked (.refl _)
        (.withMem (Keeps.refl u).readMem
          (fun _ =>
            .checked (.refl _) (.pair (.forN ((Keeps.refl _).take _ _) (fun _ u => (Keeps.refl u).setImg _ _ _ _))))))

theorem Answers.execDormouseConfig {d} (h : Keeps s t) : Answers s (Machine.execDormouseConfig d t) :=
  .runCmd h (fun u _ => .checked (.refl _) ((((Keeps.refl u).take _ _).setImg _ _ _ _).setF _ _))

theorem Answers.execDormouseRead {d} (h : Keeps s t) : Answers s (Machine.execDormouseRead d t) := by
  unfold Machine.execDormouseRead
  exact .runCmd h
    (fun u _ =>
      .checked (.refl _)
        (by
          extract_lets +onlyGivenNames _ _ _ _
          split
          · rename_i e
            exact .pair (.rearm (.of_eq ((Keeps.refl u).take _ _).outRecord e))
          · exact ((Keeps.refl u).take _ _).outRecord))

theorem Keeps.releaseWake (h : Keeps s t) : Keeps s (Machine.releaseWake t) :=
  .powerEval (.release (.setReg (.foldl _ h (fun u _ => (Keeps.refl u).setImg _ _ _ _)) _ _) _)

theorem Keeps.releaseDormouse (h : Keeps s t) : Keeps s (Machine.releaseDormouse t) :=
  .release (.setF (.forN ((h.setReg _ _).setReg _ _) (fun _ u => (Keeps.refl u).setReg _ _)) _ _) _

/-! ### The functions of Machine/Denrek -/

theorem Keeps.protoErr {p} (h : Keeps s t) : Keeps s (Machine.protoErr p t) :=
  .withFaultPin (h.hitF _ _) ((Keeps.refl _).hitF _ _)

theorem Keeps.dbErr {r} (h : Keeps s t) : Keeps s (Machine.dbErr r t) :=
  .withFaultPin (h.hitF _ _) ((Keeps.refl _).hitF _ _)

theorem Keeps.putInTail {p v} (h : Keeps s t) : Keeps s (Machine.putInTail p v t) := .ite (h.setF _ _) h.protoErr

theorem Keeps.putOutHead {p v} (h : Keeps s t) : Keeps s (Machine.putOutHead p v t) := .ite (h.setF _ _) h.protoErr

theorem Keeps.putSqTail {r v} (h : Keeps s t) : Keeps s (Machine.putSqTail r v t) :=
  .ite ((h.defer _ _).setF _ _) h.dbErr

theorem Keeps.putCqHead {r v} (h : Keeps s t) : Keeps s (Machine.putCqHead r v t) :=
  .ite ((h.defer _ _).setF _ _) h.dbErr

theorem Keeps.putIndex {a v} (h : Keeps s t) : Keeps s (Machine.putIndex a v t) :=
  .ite h.putInTail (.ite h.putOutHead (.ite h.putSqTail (.ite h.putCqHead h)))

theorem Answers.indexWrite {p mine f} (h : Keeps s t) (k : ∀ u, Keeps u (f u)) :
    Answers s (Machine.indexWrite p mine f t) := .ite (.next h) (.next (.trans h (k _)))

theorem Answers.execMboxInTailWrite {p v} (h : Keeps s t) : Answers s (Machine.execMboxInTailWrite p v t) :=
  .indexWrite h (fun u => (Keeps.refl u).putInTail)

theorem Answers.execMboxOutHeadWrite {p v} (h : Keeps s t) : Answers s (Machine.execMboxOutHeadWrite p v t) :=
  .indexWrite h (fun u => (Keeps.refl u).putOutHead)

theorem Answers.execRingSqTailWrite {p r v} (h : Keeps s t) : Answers s (Machine.execRingSqTailWrite p r v t) :=
  .indexWrite h (fun u => (Keeps.refl u).putSqTail)

theorem Answers.execRingCqHeadWrite {p r v} (h : Keeps s t) : Answers s (Machine.execRingCqHeadWrite p r v t) :=
  .indexWrite h (fun u => (Keeps.refl u).putCqHead)

theorem Keeps.dropCmd {src seq} (h : Keeps s t) : Keeps s (Machine.dropCmd src seq t) := h.record.countTable _

theorem Keeps.putMirrors {l} (h : Keeps s t) : Keeps s (Machine.putMirrors l t) := h.record.setF _ _

theorem Keeps.sendMirror {src seq bs} (h : Keeps s t) : Keeps s (Machine.sendMirror src seq bs t) := h.putMirrors

theorem Keeps.clearUe (h : Keeps s t) : Keeps s (Machine.clearUe t) := .ite h ((h.setF _ _).setF _ _)

theorem Keeps.outMessage {p bs} (h : Keeps s t) : Keeps s (Machine.outMessage p bs t) := by
  unfold Machine.outMessage
  extract_lets +onlyGivenNames _ _ _ s₁ _ s₂
  have h₁ : Keeps s s₁ :=
    .when (.set64 (.addF (.forN h (fun _ u => (Keeps.refl u).setReg _ _)) _ _) _ _) ((Keeps.refl _).incF _ _)
  have h₂ : Keeps s s₂ := .pendMbox (.ite h₁ h₁.dropCmd) _
  exact .ite h₂.clearUe h₂

theorem Keeps.coalCheck {r} (h : Keeps s t) : Keeps s (Machine.coalCheck r t) := .ite ((h.setRing _ _).pendRing _) h

theorem Keeps.ringWritten {r c status} (h : Keeps s t) : Keeps s (Machine.ringWritten r c status t) := by
  unfold Machine.ringWritten
  extract_lets +onlyGivenNames _ _ s₁ _ _ s₂
  have h₁ : Keeps s s₁ := .when ((h.dropCmd.addF _ _).set64 _ _) ((Keeps.refl _).incF _ _)
  have h₂ : Keeps s s₂ := .ite (h₁.setRing _ _).coalCheck h₁
  exact h₂.finishAwaits _ _ _

theorem Keeps.ringFails {r code a seq} (h : Keeps s t) : Keeps s (Machine.ringFails r code a seq t) :=
  .errLog (.withFaultPin ((h.setF _ _).setF _ _) ((Keeps.refl _).hitF _ _)) _ _ _ _ _ _ _

theorem Keeps.writeRing {r c bs} (h : Keeps s t) : Keeps s (Machine.writeRing r c bs t) := by
  unfold Machine.writeRing
  extract_lets +onlyGivenNames _ _
  split
  · exact h.ringWritten
  · split
    · rename_i e
      exact .ringWritten (.of_eq (h.writeChecked _ _ _ _) e)
    · exact h
    · rename_i e
      exact .ringFails (.of_eq (h.writeChecked _ _ _ _) e)

theorem Keeps.dropMirror {src seq} (h : Keeps s t) : Keeps s (Machine.dropMirror src seq t) := h.putMirrors

theorem Keeps.sendFinish {src seq} (h : Keeps s t) : Keeps s (Machine.sendFinish src seq t) := h.putMirrors

theorem Keeps.ringComplete {r} (h : Keeps s t) : Keeps s (Machine.ringComplete r t) := by
  unfold Machine.ringComplete
  extract_lets +onlyGivenNames _
  split
  · exact h
  · split
    · split
      · split
        · exact h.writeRing.sendFinish
        · exact h
      · exact h
    · split
      · exact h
      · split
        · extract_lets +onlyGivenNames _
          split
          · split
            · split
              · exact h.dropMirror.writeRing
              · split
                · exact .ite h.sendMirror h
                · exact h
            · exact h.sendMirror
          · exact h
        · split
          · split
            · exact h.dropMirror.writeRing
            · exact h.writeRing
          · exact h

theorem Keeps.flushMbox {k p} (h : Keeps s t) : Keeps s (Machine.flushMbox k p t) := by
  induction k generalizing t with
  | zero => exact h
  | succ k ih =>
    unfold Machine.flushMbox
    split
    · exact .ite (ih h.dropMirror.outMessage) h
    · exact h

theorem Keeps.postMessage {p f} (h : Keeps s t) : Keeps s (Machine.postMessage p f t) :=
  .ite h.sendMirror h.outMessage

theorem Keeps.standbyMessage {p} (h : Keeps s t) : Keeps s (Machine.standbyMessage p t) := by
  unfold Machine.standbyMessage
  split
  · exact .ite h h.outMessage.sendFinish
  · exact h

theorem Keeps.mboxComplete {p} (h : Keeps s t) : Keeps s (Machine.mboxComplete p t) := by
  unfold Machine.mboxComplete
  split
  · exact h.standbyMessage
  · extract_lets +onlyGivenNames s₁
    have h₁ : Keeps s s₁ := h.flushMbox
    split
    · exact h₁
    · split
      · exact h₁.postMessage
      · exact h₁

theorem Answers.execNoticeWrite {p} (h : Keeps s t) : Answers s (Machine.execNoticeWrite p t) := by
  unfold Machine.execNoticeWrite
  split
  · exact .next h
  · split
    · exact .next (h.setPort _ _).postMessage
    · exact .next h

theorem Keeps.clearRing {r} (h : Keeps s t) : Keeps s (Machine.clearRing r t) := (h.record.clearRegs _ _).setRing _ _

theorem Keeps.closeRing {r} (h : Keeps s t) : Keeps s (Machine.closeRing r t) :=
  .foldl _ (h.setF _ _).dropReads (fun u _ => (Keeps.refl u).finishCmd _ _ _ _ _)

theorem Keeps.ringSettle {r} (h : Keeps s t) : Keeps s (Machine.ringSettle r t) := by
  unfold Machine.ringSettle
  extract_lets +onlyGivenNames s₁
  have h₁ : Keeps s s₁ := .ite h (.foldl _ h (fun u _ => (Keeps.refl u).dropCmd))
  exact .ite h₁ ((h₁.finishAwaits _ _ _).clearRing.finishAwaits _ _ _)

theorem Keeps.freeObj {i} (h : Keeps s t) : Keeps s (Machine.freeObj i t) := by
  unfold Machine.freeObj
  extract_lets +onlyGivenNames _ _ s₁
  have h₁ : Keeps s s₁ :=
    .setReg (.set64 (.unbindObj (.foldl _ h (fun u _ => (Keeps.refl u).finishCmd _ _ _ _ _)) _) _ _) _ _
  exact h₁.record

theorem Keeps.closeBegin {n} (h : Keeps s t) : Keeps s (Machine.closeBegin n t) :=
  .foldl _ (.foldl _ ((h.setSession _ _).setF _ _) (fun u _ => (Keeps.refl u).closeRing))
    (fun u _ => (Keeps.refl u).finishCmd _ _ _ _ _)

theorem Keeps.dropVotes {n} (h : Keeps s t) : Keeps s (Machine.dropVotes n t) :=
  .ite h (.forN h.record.powerEval.putClocks.putGlobalMute.putOutMute (fun _ u => (Keeps.refl u).putTxMute))

theorem Keeps.releaseSystem (h : Keeps s t) : Keeps s (Machine.releaseSystem t) := by
  unfold Machine.releaseSystem
  extract_lets +onlyGivenNames s₁ _
  have h₁ : Keeps s s₁ := h.setReg _ _
  exact .unbindEvents (.release (.ite (h₁.setReg _ _) h₁) _) _

theorem Keeps.releaseRes {r} (h : Keeps s t) : Keeps s (Machine.releaseRes r t) := by
  unfold Machine.releaseRes
  split
  · exact h.releaseClock
  · exact h.releaseWake
  · exact h.releaseDormouse
  · exact h.releaseSystem
  · exact h.releaseCapture
  · exact h.releaseChannel
  · extract_lets +onlyGivenNames s₁
    have h₁ : Keeps s s₁ := h.stopPort
    exact .ite h₁.releaseTdm h₁
  · exact h.releaseSpdif
  · exact h.releaseConverter
  · exact h.releaseGust
  · exact h.releaseFox.release _
  · exact h.releaseSubscriber
  · extract_lets +onlyGivenNames s₂
    have h₂ : Keeps s s₂ := h.coreStop
    exact .ite h₂.releaseCore h₂
  · exact h.unloadProg
  · exact h.stopStream
  · exact h.releaseKeys

theorem Keeps.releaseAll {k n} (h : Keeps s t) : Keeps s (Machine.releaseAll k n t) := by
  induction k generalizing t with
  | zero => exact h
  | succ k ih =>
    unfold Machine.releaseAll
    split
    · exact h
    · exact .ite h.releaseRes (ih h.releaseRes)

theorem Keeps.freeSession {n} (h : Keeps s t) : Keeps s (Machine.freeSession n t) := by
  unfold Machine.freeSession
  exact ((h.unbindWhere _).record.record.setSession _ _).finishAwaits _ _ _

theorem Keeps.settleSession {n} (h : Keeps s t) : Keeps s (Machine.settleSession n t) := by
  unfold Machine.settleSession
  split
  · exact h
  · extract_lets +onlyGivenNames _ _ _ _ _ _ s₁
    have h₁ : Keeps s s₁ :=
      .releaseAll (.record (.releaseRanges (.foldl _ h.dropVotes (fun u _ => (Keeps.refl u).freeObj))))
    exact .ite h₁ h₁.freeSession

theorem Keeps.settleAll (h : Keeps s t) : Keeps s (Machine.settleAll t) :=
  .foldl _ (.foldl _ h (fun u _ => (Keeps.refl u).ringSettle)) (fun u _ => (Keeps.refl u).settleSession)

theorem Answers.execMboxDescriptorTake {p} (h : Keeps s t) : Answers s (Machine.execMboxDescriptorTake p t) :=
  .ite (.next h) (.next (h.takeIn _))

theorem Keeps.enterAll {r bs k} (h : Keeps s t) : Keeps s (Machine.enterAll r bs k t) := by
  induction k generalizing t bs with
  | zero => exact h
  | succ k ih =>
    unfold Machine.enterAll
    exact ih (h.takeIn _)

theorem Keeps.fetchDone {r a n} (h : Keeps s t) : Keeps s (Machine.fetchDone r a n t) := .ite h.enterAll h

theorem Keeps.fetchRefused {r a} (h : Keeps s t) : Keeps s (Machine.fetchRefused r a t) := .ite h.ringFails h

theorem Answers.execRingFetch {r} (h : Keeps s t) : Answers s (Machine.execRingFetch r t) := by
  unfold Machine.execRingFetch
  split
  · exact .next h
  · extract_lets +onlyGivenNames _ s₁ _ _ _
    have h₁ : Keeps s s₁ := h.record
    split
    · exact .next h₁.readHost
    · split
      · rename_i e
        exact .next (.enterAll (.of_eq (h₁.readChecked _ _ _ _) e))
      · rename_i e
        exact .next (.fetchRefused (.of_eq (h₁.readChecked _ _ _ _) e))
      · rename_i e
        exact .next (.fetchRefused (.of_eq (h₁.readChecked _ _ _ _) e))
      · exact .next h₁

theorem Keeps.finishPlain {src} (h : Keeps s t) : Keeps s (Machine.finishPlain src t) :=
  .foldl _ h
    (fun u _ =>
      .ite (.refl _) (.ite ((Keeps.refl u).finishCmd _ _ _ _ _) (.ite ((Keeps.refl u).finishCmd _ _ _ _ _) (.refl _))))

theorem Answers.execCompletionWrite {src} (h : Keeps s t) : Answers s (Machine.execCompletionWrite src t) := by
  unfold Machine.execCompletionWrite
  extract_lets +onlyGivenNames s₁
  have h₁ : Keeps s s₁ := h.finishPlain
  split
  · exact .ite (.next h₁.ringComplete.settleAll) (.next h₁)
  · exact .ite (.next h₁.mboxComplete.settleAll) (.next h₁)

theorem Answers.execRingCoalTimeout {r} (h : Keeps s t) : Answers s (Machine.execRingCoalTimeout r t) :=
  .ite (.next h.coalCheck) (.next h)

theorem Answers.execRingIrqPendClear {p r} (h : Keeps s t) : Answers s (Machine.execRingIrqPendClear p r t) :=
  .ite (.next (h.wipeF _).coalCheck) (.next h)

theorem Answers.execMboxWaitTimeout {p} (h : Keeps s t) : Answers s (Machine.execMboxWaitTimeout p t) := by
  unfold Machine.execMboxWaitTimeout
  split
  · exact .ite (.next (h.finishCmd _ _ _ _ _)) (.next h)
  · exact .next h

theorem Keeps.lowerPorts (h : Keeps s t) : Keeps s (Machine.lowerPorts t) :=
  .forN h (fun _ _ => .when (.refl _) ((Keeps.refl _).setF _ _))

theorem Keeps.resetPortNow {p} (h : Keeps s t) : Keeps s (Machine.resetPortNow p t) := by
  unfold Machine.resetPortNow
  extract_lets +onlyGivenNames _ _ s₁ _ s₂ s₃ _ _ _
  have h₁ : Keeps s s₁ :=
    .errLog (.withFaultPin ((h.setF _ _).setPort _ _).dropLatches ((Keeps.refl _).hitF _ _)) _ _ _ _ _ _ _
  have h₂ : Keeps s s₂ := .ite (h₁.record.addF _ _) h₁
  have h₃ : Keeps s s₃ := by
    unfold s₃
    split
    · exact .ite (h₂.dropWaiter _).dropCmd h₂
    · exact h₂
  exact .settleAll
    (.forN (.foldl _ h₃.putMirrors (fun u _ => (Keeps.refl u).closeBegin))
      (fun _ u => .when (.refl _) ((Keeps.refl _).setRing _ _)))

theorem Keeps.portReset {p} (h : Keeps s t) : Keeps s (Machine.portReset p t) := .ite h h.resetPortNow

theorem Keeps.failAccess {o a} (h : Keeps s t) : Keeps s (Machine.failAccess o a t) := by
  unfold Machine.failAccess
  extract_lets +onlyGivenNames s₁
  have h₁ : Keeps s s₁ := h.dropReads.putTags
  split
  · exact h₁.fetchRefused
  · exact (h₁.record.finishCmd _ _ _ _ _).settleFrees
  · exact h₁
  · exact h₁.ringFault
  · exact .ite h₁ h₁.record

theorem Keeps.failReads {f} (h : Keeps s t) : Keeps s (Machine.failReads f t) :=
  .foldl _ h.record.putTags (fun u _ => (Keeps.refl u).failAccess)

theorem Answers.execPortReady {p} (h : Keeps s t) : Answers s (Machine.execPortReady p t) :=
  .ite (.next (.setF (.ite ((h.clearRegs _ _).dropCmd.setPort _ _) (h.setPort _ _)) _ _)) (.next h)

theorem Answers.execSessionOpen {d} (h : Keeps s t) : Answers s (Machine.execSessionOpen d t) := by
  unfold Machine.execSessionOpen
  exact .runCmd h (fun u _ => by
      split
      · exact .refl _
      · exact ((Keeps.refl u).setSession _ _).addF _ _)

theorem Answers.execSessionClose {d} (h : Keeps s t) : Answers s (Machine.execSessionClose d t) := by
  unfold Machine.execSessionClose
  exact .runCmd h
    (fun u _ =>
      .checked (.refl _)
        (by
          extract_lets +onlyGivenNames s₁
          have h₁ : Keeps u s₁ := (Keeps.refl u).closeBegin.settleAll
          exact .fst_ite h₁ h₁))

theorem Answers.execSessionInfo {d} (h : Keeps s t) : Answers s (Machine.execSessionInfo d t) :=
  .runCmd h (fun _ _ => .refl _)

theorem Keeps.startRing {r sq cq cfg limit irq vec p n} (h : Keeps s t) :
    Keeps s (Machine.startRing r sq cq cfg limit irq vec p n t) := by
  unfold Machine.startRing
  extract_lets +onlyGivenNames _ _ _ s₁ _
  have h₁ : Keeps s s₁ :=
    (((((h.clearRing.set64 _ _).set64 _ _).setImg _ _ _ _).setImg _ _ _ _).setImg _ _ _ _).setImg _ _ _ _
  exact (((h₁.setF _ _).setF _ _).setF _ _).setF _ _

theorem Answers.execRingCreate {d} (h : Keeps s t) : Answers s (Machine.execRingCreate d t) := by
  unfold Machine.execRingCreate
  exact .runCmd h
    (fun u _ =>
      .checked (.refl _)
        (by
          split
          · exact .refl _
          · extract_lets +onlyGivenNames _ _
            split
            · exact (Keeps.refl u).rejectAccess _ _ _
            · exact (Keeps.refl u).rejectAccess _ _ _
            · exact .refl _
            · exact .refl _
            · exact (Keeps.refl u).zeroPages.startRing))

theorem Answers.execRingDestroy {d} (h : Keeps s t) : Answers s (Machine.execRingDestroy d t) := by
  unfold Machine.execRingDestroy
  exact .runCmd h (fun u _ => by
      extract_lets +onlyGivenNames _ s₁
      have h₁ : Keeps u s₁ := (Keeps.refl u).closeRing.ringSettle
      exact .fst_ite h₁ h₁)

theorem Answers.execRingConfig {d} (h : Keeps s t) : Answers s (Machine.execRingConfig d t) :=
  .runCmd h
    (fun u _ => .checked (.refl _) (((((Keeps.refl u).setImg _ _ _ _).setImg _ _ _ _).setImg _ _ _ _).setImg _ _ _ _))

theorem Answers.execRingResume {d} (h : Keeps s t) : Answers s (Machine.execRingResume d t) := by
  unfold Machine.execRingResume
  exact .runCmd h
    (fun u _ =>
      .checked (.refl _)
        (by
          extract_lets +onlyGivenNames _ s₁ _
          have h₁ : Keeps u s₁ :=
            .foldl _ ((Keeps.refl u).setF _ _) (fun u _ => (Keeps.refl u).finishCmd _ _ _ _ _)
          exact .fst_ite h₁ h₁))

theorem Answers.execRingStatus {d} (h : Keeps s t) : Answers s (Machine.execRingStatus d t) :=
  .runCmd h (fun u _ => (Keeps.refl u).outStatus)

theorem Answers.execNoticeMask {d} (h : Keeps s t) : Answers s (Machine.execNoticeMask d t) :=
  .runCmd h (fun u _ => (Keeps.refl u).setPort _ _)

theorem Answers.execNop {d} (h : Keeps s t) : Answers s (Machine.execNop d t) := .runCmd h (fun _ _ => .refl _)

theorem Answers.execSyncAlloc {d} (h : Keeps s t) : Answers s (Machine.execSyncAlloc d t) := by
  unfold Machine.execSyncAlloc
  exact .runCmd h
    (fun u _ =>
      .checked (.refl _)
        (by
          split
          · exact .refl _
          · exact .pair (.forN (.refl _) (fun _ u => ((Keeps.refl u).set64 _ _).setReg _ _))))

theorem Answers.execSyncFree {d} (h : Keeps s t) : Answers s (Machine.execSyncFree d t) :=
  .runCmd h (fun _ _ => .checked (.refl _) (.pair (.foldl _ (.refl _) (fun u _ => (Keeps.refl u).freeObj))))

theorem Answers.execSyncSignal {d} (h : Keeps s t) : Answers s (Machine.execSyncSignal d t) :=
  .runCmd h (fun u _ => (Keeps.refl u).syncSignalNow _ _)

theorem Answers.execSyncAdd {d} (h : Keeps s t) : Answers s (Machine.execSyncAdd d t) :=
  .runCmd h (fun u _ => (Keeps.refl u).syncInc _ _ _)

theorem Answers.execSyncRead {d} (h : Keeps s t) : Answers s (Machine.execSyncRead d t) :=
  .runCmd h (fun _ _ => .refl _)

theorem Answers.execSyncBindEvent {d} (h : Keeps s t) : Answers s (Machine.execSyncBindEvent d t) := by
  unfold Machine.execSyncBindEvent
  exact .runCmd h fun u _ => by
    split
    · rename_i e
      exact (Keeps.refl u).bindAdd e
    · exact .refl u

theorem Answers.execSyncUnbindEvent {d} (h : Keeps s t) : Answers s (Machine.execSyncUnbindEvent d t) :=
  .runCmd h (fun u _ => .checked (.refl _) ((Keeps.refl u).unbindWhere _))

theorem Answers.execSyncShare {d} (h : Keeps s t) : Answers s (Machine.execSyncShare d t) :=
  .runCmd h
    (fun u _ =>
      .checked (.refl _)
        (.pair (.foldl _ (Keeps.refl u).record (fun u _ => .ite ((Keeps.refl u).finishCmd _ _ _ _ _) (.refl _)))))

theorem Answers.execSyncOverflowApply (h : Keeps s t) : Answers s (Machine.execSyncOverflowApply t) :=
  .next h.syncCycle

theorem Answers.execSyncObjSignalWrite {i v} (h : Keeps s t) : Answers s (Machine.execSyncObjSignalWrite i v t) :=
  .ite (.next (h.syncSignalNow _ _)) (.next h)

theorem Answers.execSyncAddDeltaWrite {delta} (h : Keeps s t) :
    Answers s (Machine.execSyncAddDeltaWrite delta t) := .ite (.next (h.syncInc _ _ _)) (.next h)

theorem Answers.execSyncOwnFreeWrite {i} (h : Keeps s t) : Answers s (Machine.execSyncOwnFreeWrite i t) :=
  .ite (.next h.freeObj) (.next h)

/-! ### The functions of Machine/Twin -/

theorem Keeps.setTwin {st role} (h : Keeps s t) : Keeps s (Machine.setTwin st role t) := by
  unfold Machine.setTwin
  split
  · exact h
  · extract_lets +onlyGivenNames _ _ _ s₁
    have h₁ : Keeps s s₁ :=
      .when (((((h.setF _ _).setF _ _).hitF _ _).event _).notice _ _) ((Keeps.refl _).setF _ _)
    exact h₁.lowerPorts

theorem Keeps.ineligible {cause} (h : Keeps s t) : Keeps s (Machine.ineligible cause t) := (h.setF _ _).setF _ _

theorem Keeps.attachEnds {status result} (h : Keeps s t) : Keeps s (Machine.attachEnds status result t) :=
  (h.setF _ _).finishAwaits _ _ _

theorem Keeps.dropSwap (h : Keeps s t) : Keeps s (Machine.dropSwap t) := by
  unfold Machine.dropSwap
  exact ((h.record.setF _ _).setF _ _).finishAwaits _ _ _

theorem Keeps.flushMirrors (h : Keeps s t) : Keeps s (Machine.flushMirrors t) := by
  unfold Machine.flushMirrors
  exact .foldl _ h.putMirrors (fun u _ => by
      split
      · exact (Keeps.refl u).ringComplete
      · exact (Keeps.refl u).flushMbox)

theorem Keeps.passHeads {acked} (h : Keeps s t) : Keeps s (Machine.passHeads acked t) :=
  .foldl _ h.record (fun u _ => (Keeps.refl u).setF _ _)

theorem Keeps.journalEnds (h : Keeps s t) : Keeps s (Machine.journalEnds t) := by
  unfold Machine.journalEnds
  extract_lets +onlyGivenNames s₁ _
  have h₁ : Keeps s s₁ :=
    .foldl _ h (fun u _ => by
        split
        · exact (Keeps.refl u).setF _ _
        · exact .refl _)
  exact h₁.passHeads.record.flushMirrors

theorem Keeps.catchupOver (h : Keeps s t) : Keeps s (Machine.catchupOver t) := h.record.setF _ _

theorem Keeps.closeAll (h : Keeps s t) : Keeps s (Machine.closeAll t) :=
  .settleAll (.foldl _ h (fun _ _ => .foldl _ (.refl _) (fun u _ => (Keeps.refl u).closeBegin)))

theorem Keeps.leavePairing {status} (h : Keeps s t) : Keeps s (Machine.leavePairing status t) := by
  unfold Machine.leavePairing
  exact .when h.catchupOver.attachEnds.record.setTwin ((Keeps.refl _).setF _ _).closeAll

theorem Keeps.enterCatchup (h : Keeps s t) : Keeps s (Machine.enterCatchup t) :=
  ((h.record.dropSwap.journalEnds.setF _ _).setF _ _).setTwin

theorem Keeps.pullSync (h : Keeps s t) : Keeps s (Machine.pullSync t) := h.record

theorem Keeps.enterPairing (h : Keeps s t) : Keeps s (Machine.enterPairing t) := (h.record.setF _ _).pullSync.setTwin

theorem Keeps.pairFault {cause} (h : Keeps s t) : Keeps s (Machine.pairFault cause t) := by
  unfold Machine.pairFault
  split
  · exact h
  · extract_lets +onlyGivenNames s₁
    have h₁ : Keeps s s₁ := .ite h.ineligible h
    exact .ite h₁.enterCatchup h₁

theorem Answers.execTwinConfig {d} (h : Keeps s t) : Answers s (Machine.execTwinConfig d t) :=
  .runCmd h (fun u _ => .checked (.refl _) (((((Keeps.refl u).take _ _).setF _ _).setF _ _).setF _ _))

theorem Keeps.attachGo (h : Keeps s t) : Keeps s (Machine.attachGo t) :=
  .ite (.ite h h.enterPairing) (.ite (h.setF _ _).enterCatchup h)

theorem Keeps.abandon {status} (h : Keeps s t) : Keeps s (Machine.abandon status t) :=
  .when h.leavePairing (Keeps.refl _).attachGo

theorem Keeps.catchupFails {status} (h : Keeps s t) : Keeps s (Machine.catchupFails status t) := (h.hitF _ _).abandon

theorem Answers.execTwinAttach {d} (h : Keeps s t) : Answers s (Machine.execTwinAttach d t) :=
  .runCmd h (fun u _ => .checked (.refl _) ((Keeps.refl u).take _ _).attachGo)

theorem Keeps.detachGo (h : Keeps s t) : Keeps s (Machine.detachGo t) :=
  .ite h.abandon (.ite h.ineligible.dropSwap.journalEnds.setTwin h)

theorem Answers.execTwinDetach {d} (h : Keeps s t) : Answers s (Machine.execTwinDetach d t) :=
  .runCmd h (fun u _ => ((Keeps.refl u).take _ _).detachGo)

theorem Keeps.swapGo {at'} (h : Keeps s t) : Keeps s (Machine.swapGo at' t) := (h.set64 _ _).setF _ _

theorem Answers.execTwinRoleSwap {d} (h : Keeps s t) : Answers s (Machine.execTwinRoleSwap d t) :=
  .runCmd h (fun u _ => .checked (.refl _) ((Keeps.refl u).take _ _).swapGo)

theorem Answers.execTwinBindEvents {d} (h : Keeps s t) : Answers s (Machine.execTwinBindEvents d t) :=
  .runCmd h (fun _ _ => .checked (.refl _) (.withBinds (.refl _) (fun u => (Keeps.refl u).take _ _)))

theorem Answers.execTwinStatus {d} (h : Keeps s t) : Answers s (Machine.execTwinStatus d t) :=
  .runCmd h (fun u _ => (Keeps.refl u).outStatus)

theorem Answers.execTwinCtrlAttach (h : Keeps s t) : Answers s (Machine.execTwinCtrlAttach t) :=
  .ite (.next h) (.next h.attachGo)

theorem Answers.execTwinCtrlDetach (h : Keeps s t) : Answers s (Machine.execTwinCtrlDetach t) := .next h.detachGo

theorem Answers.execTwinSwapGo (h : Keeps s t) : Answers s (Machine.execTwinSwapGo t) :=
  .ite (.next (h.swapGo.setF _ _)) (.next h)

theorem Answers.execTwinBeatSend (h : Keeps s t) : Answers s (Machine.execTwinBeatSend t) :=
  .ite (.next h.record) (.next h)

theorem Answers.execTwinLiveToggle (h : Keeps s t) : Answers s (Machine.execTwinLiveToggle t) :=
  .ite (.next h.record) (.next h)

theorem Keeps.followPrimary {st} (h : Keeps s t) : Keeps s (Machine.followPrimary st t) :=
  .ite (.enterCatchup (.ite h.ineligible h)) (.ite h.detachGo (.ite h.abandon h))

theorem Keeps.followEligible {st flags} (h : Keeps s t) : Keeps s (Machine.followEligible st flags t) := by
  unfold Machine.followEligible
  split
  · extract_lets +onlyGivenNames r₁
    have h₁ : Keeps s r₁.1 := h.fresh
    clear_value r₁
    exact h₁.ineligible
  · exact h

theorem Answers.execTwinBeatReceive {boundary role state ack flags} (h : Keeps s t) :
    Answers s (Machine.execTwinBeatReceive boundary role state ack flags t) := by
  unfold Machine.execTwinBeatReceive
  extract_lets +onlyGivenNames _ s₁
  have h₁ : Keeps s s₁ := h.record.passHeads
  split
  · exact .next h₁.enterPairing
  · split
    · exact .next h₁.followEligible.followPrimary
    · split
      · extract_lets +onlyGivenNames s₂
        have h₂ : Keeps s s₂ := h₁.followEligible
        exact .next (.ite h₂.pairFault h₂)
      · exact .next h₁

theorem Keeps.partnerDead (h : Keeps s t) : Keeps s (Machine.partnerDead t) := by
  unfold Machine.partnerDead
  extract_lets +onlyGivenNames _ s₁
  have h₁ : Keeps s s₁ := h.record.hitF _ _
  exact .ite h₁ (.ite h₁.abandon (.ite (.ite h₁.record h₁) (h₁.setF _ _).dropSwap.setTwin.journalEnds))

theorem Keeps.declareFault {f c} (h : Keeps s t) : Keeps s (Machine.declareFault f c t) := (h.hitF _ _).pairFault

theorem Keeps.judgeBeat {symbol toggle} (h : Keeps s t) : Keeps s (Machine.judgeBeat symbol toggle t) := by
  unfold Machine.judgeBeat
  extract_lets +onlyGivenNames _ _ _ _ _ _ s₁ _ s₂
  have h₁ : Keeps s s₁ :=
    .when (.when (.when ((h.setF _ _).setF _ _) ((Keeps.refl _).incF _ _)) ((Keeps.refl _).incF _ _))
      (by
        split
        · exact (Keeps.refl _).set64 _ _
        · exact .refl _)
  have h₂ : Keeps s s₂ := h₁.record
  exact .ite h₂.partnerDead (.ite h₂.declareFault (.ite h₂.declareFault h₂))

theorem Answers.execTwinBeatJudge {liveAt} (h : Keeps s t) : Answers s (Machine.execTwinBeatJudge liveAt t) := by
  unfold Machine.execTwinBeatJudge
  extract_lets +onlyGivenNames _ _ _ s₁
  have h₁ : Keeps s s₁ := h.record.setF _ _
  exact .ite (.next h₁) (.next h₁.judgeBeat)

theorem Answers.execTwinFrameReceive {fseq crcOk} (h : Keeps s t) :
    Answers s (Machine.execTwinFrameReceive fseq crcOk t) := by
  unfold Machine.execTwinFrameReceive
  extract_lets +onlyGivenNames _ _
  split
  · exact .next (h.record.incF _ _)
  · split
    · exact .next h
    · extract_lets +onlyGivenNames _ _ s₁
      have h₁ : Keeps s s₁ := h.record
      exact .next (.ite h₁.record (h₁.record.incF _ _))

theorem Answers.execLinkFault (h : Keeps s t) : Answers s (Machine.execLinkFault t) := by
  unfold Machine.execLinkFault
  split
  · exact .ite (.next h.record.declareFault) (.next h)
  · exact .next h

theorem Keeps.completeNext {src} (h : Keeps s t) : Keeps s (Machine.completeNext src t) := by
  unfold Machine.completeNext
  split
  · exact h.ringComplete
  · exact h.mboxComplete

theorem Answers.execMirror {src seq written record} (h : Keeps s t) :
    Answers s (Machine.execMirror src seq written record t) := .ite (.next h) (.next h.putMirrors.completeNext)

theorem Answers.execFinish {src seq} (h : Keeps s t) : Answers s (Machine.execFinish src seq t) :=
  .ite (.next h) (.next h.sendFinish.completeNext)

theorem Keeps.diverge {x} (h : Keeps s t) : Keeps s (Machine.diverge x t) := by
  unfold Machine.diverge
  split
  · exact h
  · extract_lets +onlyGivenNames s₁
    have h₁ : Keeps s s₁ := (h.ineligible.set64 _ _).hitF _ _
    exact .ite h₁ (.notice (.errLog (.withFaultPin (h₁.event _) ((Keeps.refl _).hitF _ _)) _ _ _ _ _ _ _) _ _)

theorem Keeps.compareDigests {x} (h : Keeps s t) : Keeps s (Machine.compareDigests x t) := by
  unfold Machine.compareDigests
  split
  · exact .ite h h.diverge
  · exact h

theorem Keeps.takeVerdicts {x v} (h : Keeps s t) : Keeps s (Machine.takeVerdicts x v t) := h.record

theorem Answers.execDigest {hop partner verdicts} (h : Keeps s t) :
    Answers s (Machine.execDigest hop partner verdicts t) := by
  unfold Machine.execDigest
  split
  · exact .next h
  · extract_lets +onlyGivenNames _ s₁ _
    have h₁ : Keeps s s₁ := h.record
    exact .next (.compareDigests (.ite h₁.takeVerdicts h₁))

theorem Answers.execTwinDigestSend {hop} (h : Keeps s t) : Answers s (Machine.execTwinDigestSend hop t) :=
  .ite (.next h) (.next (.compareDigests (.when h.record (Keeps.refl _).diverge)))

theorem Keeps.noMirrors (h : Keeps s t) : Keeps s (Machine.noMirrors t) := h.ineligible

theorem Answers.execAckTimeout (h : Keeps s t) : Answers s (Machine.execAckTimeout t) :=
  .ite (.next (h.hitF _ _).noMirrors.flushMirrors.pairFault) (.next h)

theorem Answers.journal {jseq apply f} (h : Keeps s t) (k : ∀ u, Keeps u (f u)) :
    Answers s (Machine.journal jseq apply f t) := by
  unfold Machine.journal
  split
  · exact .next h
  · split
    · rename_i e
      extract_lets +onlyGivenNames _ s₁
      have h₁ : Keeps s s₁ := .setF (.record (.of_eq h.fresh e)) _ _
      exact .next (.ite (.trans h₁ (k _)) h₁)

theorem Keeps.applyDesc {f src raw} (h : Keeps s t) : Keeps s (Machine.applyDesc f src raw t) := by
  unfold Machine.applyDesc
  extract_lets +onlyGivenNames pass
  have hp {k u} (hu : Keeps s u) : Keeps s (pass k u) := by
    unfold pass
    dsimp only
    split
    · exact .ite hu.record (hu.setF _ _)
    · exact hu
  clear_value pass
  split
  · split
    · exact hp h.record
    · exact h
  · exact .ite h (hp (h.takeIn _).record)

theorem Answers.execJournalCommand {jseq apply src descs fseq} (h : Keeps s t) :
    Answers s (Machine.execJournalCommand jseq apply src descs fseq t) :=
  .journal h (fun _ => .foldl _ (.refl _) (fun u _ => (Keeps.refl u).applyDesc))

theorem Answers.execJournalStart {jseq apply src seq} (h : Keeps s t) :
    Answers s (Machine.execJournalStart jseq apply src seq t) := .journal h (fun u => (Keeps.refl u).record)

theorem Answers.execJournalIndex {jseq apply addr v} (h : Keeps s t) :
    Answers s (Machine.execJournalIndex jseq apply addr v t) := .journal h (fun u => (Keeps.refl u).putIndex)

theorem Keeps.journaledBytes {addr data} (h : Keeps s t) : Keeps s (Machine.journaledBytes addr data t) :=
  h.overwrite _ _

theorem Answers.execJournalHostWrite {jseq apply addr data} (h : Keeps s t) :
    Answers s (Machine.execJournalHostWrite jseq apply addr data t) :=
  .journal h (fun u => (Keeps.refl u).journaledBytes)

theorem Answers.execJournalHostRead {jseq apply addr data} (h : Keeps s t) :
    Answers s (Machine.execJournalHostRead jseq apply addr data t) :=
  .journal h (fun u => (Keeps.refl u).journaledBytes.readServed.landLines)

theorem Answers.execJournalPortEvent {jseq apply p} (h : Keeps s t) :
    Answers s (Machine.execJournalPortEvent jseq apply p t) := .journal h (fun u => (Keeps.refl u).resetPortNow)

theorem Answers.execJournalRandom {jseq apply op data} (h : Keeps s t) :
    Answers s (Machine.execJournalRandom jseq apply op data t) := .journal h (fun u => (Keeps.refl u).record)

theorem Answers.execJournalSwap {jseq apply x} (h : Keeps s t) :
    Answers s (Machine.execJournalSwap jseq apply x t) :=
  .journal h (fun u => .ite ((Keeps.refl u).record.setF _ _) (.refl _))

theorem Keeps.parkDetach (h : Keeps s t) : Keeps s (Machine.parkDetach t) :=
  .ite h h.ineligible.dropSwap.catchupOver.attachEnds.setTwin.journalEnds

theorem Answers.execDetachRecordApply {jseq apply} (h : Keeps s t) :
    Answers s (Machine.execDetachRecordApply jseq apply t) :=
  .journal h
    (fun u => .ite (Keeps.refl u).catchupOver.ineligible.dropSwap.journalEnds.setTwin (Keeps.refl u).parkDetach)

theorem Keeps.rewriteMirror {m} (h : Keeps s t) : Keeps s (Machine.rewriteMirror m t) := by
  unfold Machine.rewriteMirror
  split
  · exact .ite h h.outMessage
  · split
    · exact h.writeChecked _ _ _ _
    · extract_lets +onlyGivenNames s₁
      have h₁ : Keeps s s₁ := h.finishCmd _ _ _ _ _
      split
      · exact .ite h₁.writeRing h₁
      · exact h₁

theorem Keeps.rewriteMirrors (h : Keeps s t) : Keeps s (Machine.rewriteMirrors t) :=
  .foldl _ h.putMirrors (fun u _ => .ite (Keeps.refl u).rewriteMirror (.refl _))

theorem Keeps.cancelWait {src seq w} (h : Keeps s t) : Keeps s (Machine.cancelWait src seq w t) := by
  unfold Machine.cancelWait
  extract_lets +onlyGivenNames _
  split
  · exact h.setFogOps.fogShow.keysSettle
  · exact .progPrune (.forN h.setJobs (fun _ u => (Keeps.refl u).setInfl))
  · exact h.dropReads.putTags
  · exact ((h.setCore _ _).dropReads.putTags.setF _ _).setF _ _
  · exact (h.record.setF _ _).setF _ _
  · exact h.record.setF _ _
  · exact h.record.setF _ _
  · exact h

theorem Keeps.cancelRun {c} (h : Keeps s t) : Keeps s (Machine.cancelRun c t) :=
  .foldl _ h.record (fun u _ => (Keeps.refl u).cancelWait)

theorem Keeps.settleCmd {c} (h : Keeps s t) : Keeps s (Machine.settleCmd c t) :=
  .ite (h.cancelRun.putCmd _) (.ite (h.putCmd _) (.ite (h.cancelRun.finishCmd _ _ _ _ _) (h.putCmd _)))

theorem Keeps.settleCommands (h : Keeps s t) : Keeps s (Machine.settleCommands t) :=
  .foldl _ h.rewriteMirrors (fun u _ => (Keeps.refl u).settleCmd)

theorem Keeps.noticeAll {code detail} (h : Keeps s t) : Keeps s (Machine.noticeAll code detail t) :=
  .forN h (fun _ u => .ite (.refl _) ((Keeps.refl u).setPort _ _))

theorem Keeps.gapFrom {x} (h : Keeps s t) : Keeps s (Machine.gapFrom x t) := h.record

theorem Answers.execTakeover (h : Keeps s t) : Answers s (Machine.execTakeover t) := by
  unfold Machine.execTakeover
  split
  · exact .next h
  · split
    · exact .next h
    · extract_lets +onlyGivenNames _ _ s₁ _ _ _ _
      have h₁ : Keeps s s₁ :=
        .setReg (.setReg (.withFaultPin ((h.gapFrom.set64 _ _).hitF _ _) ((Keeps.refl _).hitF _ _)) _ _) _ _
      exact .next (h₁.dropSwap.settleCommands.record.setTwin.setF _ _).noticeAll

theorem Keeps.holdTwinRef (h : Keeps s t) : Keeps s (Machine.holdTwinRef t) := (h.record.setReg _ _).setF _ _

theorem Answers.execRoleSwapExecute (h : Keeps s t) : Answers s (Machine.execRoleSwapExecute t) := by
  unfold Machine.execRoleSwapExecute
  split
  · exact .next h
  · split
    · exact .next h
    · extract_lets +onlyGivenNames _ _ _ _ _ s₁ s₂
      have h₁ : Keeps s s₁ := (((h.set64 _ _).setF _ _).setF _ _).record.finishAwaits _ _ _
      have h₂ : Keeps s s₂ := .ite h₁ h₁.ineligible
      exact .ite (.next (.when h₂.flushMirrors.setTwin.holdTwinRef ((Keeps.refl _).swapGo.setF _ _)))
        (.next (.when ((h₂.setReg _ _).setReg _ _).rewriteMirrors.setTwin ((Keeps.refl _).swapGo.setF _ _)))

theorem Answers.execTwinSyncRelease (h : Keeps s t) : Answers s (Machine.execTwinSyncRelease t) := by
  unfold Machine.execTwinSyncRelease
  split
  · exact .ite (.next h.record) (.next h)
  · exact .next h

theorem Answers.execTwinSyncEdge (h : Keeps s t) : Answers s (Machine.execTwinSyncEdge t) :=
  .ite (.next h) (.execWakeDetect h)

theorem Answers.execControl {versions pref} (h : Keeps s t) : Answers s (Machine.execControl versions pref t) := by
  unfold Machine.execControl
  split
  · exact .next h
  · split
    · exact .next (h.hitF _ _).abandon
    · split
      · exact .next (h.hitF _ _).abandon
      · extract_lets +onlyGivenNames _ s₁
        have h₁ : Keeps s s₁ := h.record
        exact .ite (.next h₁.closeAll.setTwin.holdTwinRef) (.next h₁.setTwin)

theorem Answers.execPairingDone (h : Keeps s t) : Answers s (Machine.execPairingDone t) :=
  .ite (.next h)
    (.ite (.ite (.next ((((h.setF _ _).setF _ _).setF _ _).record.setReg _ _).enterCatchup) (.next h))
      (.ite (.next h.enterCatchup) (.next h)))

theorem Answers.execCatchupSnapshot (h : Keeps s t) : Answers s (Machine.execCatchupSnapshot t) := by
  unfold Machine.execCatchupSnapshot
  split
  · exact .next h
  · extract_lets +onlyGivenNames _
    split
    · exact .next ((h.record.setF _ _).set64 _ _)
    · split
      · exact .next h.catchupFails
      · split
        · exact .next ((h.record.record.setF _ _).set64 _ _)
        · exact .next h.catchupFails

theorem Keeps.snapRegs {a ws} (h : Keeps s t) : Keeps s (Machine.snapRegs a ws t) := by
  induction ws generalizing t a with
  | nil => exact h
  | cons w r ih => exact ih (.ite h.record (.ite h.record (.ite h (h.setReg _ _))))

theorem Keeps.installReplay {x} (h : Keeps s t) : Keeps s (Machine.installReplay x t) := by
  unfold Machine.installReplay
  split
  · exact h
  · exact .foldl _ (.foldl _ h.record (fun u _ => (Keeps.refl u).setByte _ _)) (fun u _ => (Keeps.refl u).snapRegs)

theorem Answers.execSnapshot {addr data last} (h : Keeps s t) :
    Answers s (Machine.execSnapshot addr data last t) :=
  .ite (.next h)
    (.next (.lowerPorts (.setF (.set64 (.ite h.record.installReplay (.ite h.snapRegs h.journaledBytes)) _ _) _ _)))

theorem Answers.execCatchupJoin (h : Keeps s t) : Answers s (Machine.execCatchupJoin t) := by
  unfold Machine.execCatchupJoin
  extract_lets +onlyGivenNames _
  split
  · exact .next h
  · extract_lets +onlyGivenNames _ s₁ _
    have h₁ : Keeps s s₁ := .setF (.setF (.catchupOver (.when h (Keeps.refl _).installReplay)) _ _) _ _
    exact .next (h₁.hitF _ _).setTwin.attachEnds

theorem Answers.execCatchupTimeout {full} (h : Keeps s t) : Answers s (Machine.execCatchupTimeout full t) :=
  .ite (.next h.catchupFails) (.ite (.next h.catchupFails) (.next h))

theorem Keeps.twinTick (h : Keeps s t) : Keeps s (Machine.twinTick t) := by
  unfold Machine.twinTick
  extract_lets +onlyGivenNames s₁
  have h₁ : Keeps s s₁ := .ite (h.setF _ _) h
  exact .ite (h₁.setF _ _) h₁

/-! ### The functions of Machine/Boot -/

theorem Keeps.showOtp (h : Keeps s t) : Keeps s (Machine.showOtp t) := ((h.setF _ _).setF _ _).setF _ _

theorem Keeps.coreHidden (h : Keeps s t) : Keeps s (Machine.coreHidden t) := h.dropLatches.record

theorem Keeps.coreReset {cause} (h : Keeps s t) : Keeps s (Machine.coreReset cause t) := by
  unfold Machine.coreReset
  extract_lets +onlyGivenNames _ s₁ _
  have h₁ : Keeps s s₁ := ((h.loseMem.loseMem.resetDomain _).resetDomain _).coreHidden.showOtp
  exact .hitF (.forN (h₁.setF _ _) (fun _ u => (Keeps.refl u).dbgRunning)) _ _

theorem Answers.execResetNPulse {lowNs} (h : Keeps s t) : Answers s (Machine.execResetNPulse lowNs t) := by
  unfold Machine.execResetNPulse
  split
  · exact .next h
  · split
    · exact .next h.coreReset
    · split
      · rename_i e
        exact .next (.ite (.coreReset (.of_eq h.fresh e)) (.of_eq h.fresh e))

theorem Answers.execCoreRstWrite (h : Keeps s t) : Answers s (Machine.execCoreRstWrite t) :=
  .ite (.next h.coreReset) (.next h)

theorem Keeps.zeroSram (h : Keeps s t) : Keeps s (Machine.zeroSram t) :=
  ((h.record.zeroMem _ _).zeroMem _ _).zeroMem _ _

theorem Keeps.romWaits (h : Keeps s t) : Keeps s (Machine.romWaits t) := by
  unfold Machine.romWaits
  split
  · exact .ite (h.setF _ _) h
  · exact h

theorem Keeps.freeGprs {c} (h : Keeps s t) : Keeps s (Machine.freeGprs c t) := by
  unfold Machine.freeGprs
  exact .forN h (fun _ u => by
      extract_lets +onlyGivenNames r₁ _
      have h₁ : Keeps u r₁.1 := (Keeps.refl u).fresh
      clear_value r₁
      exact h₁.record)

theorem Keeps.unitHalted {c cause} (h : Keeps s t) : Keeps s (Machine.unitHalted c cause t) :=
  (((h.dbgRunning.freeGprs.setF _ _).setF _ _).setF _ _).hitB _ _

theorem Answers.execSystemPllLock (h : Keeps s t) : Answers s (Machine.execSystemPllLock t) := by
  unfold Machine.execSystemPllLock
  split
  · exact .next h
  · extract_lets +onlyGivenNames _ _ _ s₁
    have h₁ : Keeps s s₁ := (((((h.record.setF _ _).setF _ _).setF _ _).setF _ _).setF _ _).setF _ _
    exact .next (.ite h₁.record.unitHalted h₁)

theorem Answers.execSramFillDone (h : Keeps s t) : Answers s (Machine.execSramFillDone t) :=
  .ite (.next h) (.next h.record.zeroSram.romWaits)

theorem Keeps.loadImage {bs x} (h : Keeps s t) : Keeps s (Machine.loadImage bs x t) :=
  .foldl _ h (fun u _ => (Keeps.refl u).journaledBytes)

theorem Keeps.runImage {x slot} (h : Keeps s t) : Keeps s (Machine.runImage x slot t) := by
  unfold Machine.runImage
  extract_lets +onlyGivenNames _ _ s₁
  have h₁ : Keeps s s₁ := h.record
  exact .ite h₁.record h₁

theorem Keeps.boardConfig (h : Keeps s t) : Keeps s (Machine.boardConfig t) := by
  unfold Machine.boardConfig
  exact .foldl _ h (fun u _ => by
      split
      · exact (Keeps.refl u).setReg _ _
      · exact .refl _)

theorem Keeps.bootAccept {src bs} (h : Keeps s t) : Keeps s (Machine.bootAccept src bs t) := by
  unfold Machine.bootAccept
  extract_lets +onlyGivenNames _ _ _ _ _ _ s₁
  have h₁ : Keeps s s₁ :=
    .setF (.setF (.record (.foldl _ h (fun u _ => (Keeps.refl u).loadImage.runImage))) _ _) _ _
  exact (h₁.boardConfig.setF _ _).setF _ _

/-- The next boot source is tried, or none is left. -/
theorem Keeps.trySource (h : Keeps s t) :
    Keeps s (match bootSource t with | some _ => Machine.romWaits t | none => t.setF SYS_BOOT_STATUS_CODE 0xFF) := by
  split
  · exact h.romWaits
  · exact h.setF _ _

theorem Keeps.bootReject {src bs why} (h : Keeps s t) : Keeps s (Machine.bootReject src bs why t) := by
  have hz (b : List Byte) : Keeps s (if why.1 = 0x85 then
      (bundleHdrs b).foldl (fun u d => (hdrPlaces d).foldl (fun v a => Machine.zeroPages a (hdrSize d) v) u) t else t) :=
    .ite (.foldl _ h fun u _ => .foldl _ (.refl u) fun v _ => (Keeps.refl v).zeroPages) h
  have hs {b} :=
    (((hz b).setF SYS_BOOT_STATUS_LAST_ERR why.1).setF SYS_BOOT_STATUS_IMAGE why.2).setF SYS_DL_GO 0
  exact .ite (hs.setF _ _) (.trySource (.record hs))

theorem Keeps.bootTry {src bs otpFail eccFail} (h : Keeps s t) :
    Keeps s (Machine.bootTry src bs otpFail eccFail t) := by
  unfold Machine.bootTry
  extract_lets +onlyGivenNames s₁
  have h₁ : Keeps s s₁ := h.setB _ _
  split
  · exact h₁.bootAccept
  · exact h₁.bootReject

theorem Answers.execBootSourceVerify {bundle otpFail eccFail} (h : Keeps s t) :
    Answers s (Machine.execBootSourceVerify bundle otpFail eccFail t) := by
  unfold Machine.execBootSourceVerify
  split
  · exact .ite (.next h.bootTry) (.next h)
  · exact .next h

theorem Answers.execSysDlGo {port} (h : Keeps s t) : Answers s (Machine.execSysDlGo port t) :=
  .ite (.next h.bootTry) (.next h)

theorem Keeps.placeDigest {x} (h : Keeps s t) : Keeps s (Machine.placeDigest x t) := by
  unfold Machine.placeDigest
  exact .when h ((Keeps.refl _).setBytes _ _)

theorem Keeps.placeLynx {src n} (h : Keeps s t) : Keeps s (Machine.placeLynx src n t) :=
  .ite h
    ((((((((h.copyMem.copyMem.record.setF _ _).setF _ _).setF _ _).setF _ _).setF _ _).setF _ _).setF _ _).setF _ _)

theorem Keeps.placeImages (h : Keeps s t) : Keeps s (Machine.placeImages t) := by
  unfold Machine.placeImages
  extract_lets +onlyGivenNames _ _ _ s₁
  have h₁ : Keeps s s₁ := .forN h.placeDigest.placeDigest (fun _ u => .when (.refl _) (Keeps.refl _).copyMem)
  exact .ite (h₁.placeLynx.zeroMem _ _) h₁

theorem Keeps.raisePorts (h : Keeps s t) : Keeps s (Machine.raisePorts t) :=
  .forN h (fun _ _ => .when (.refl _) (((Keeps.refl _).setPort _ _).setF _ _))

theorem Keeps.enterDoze (h : Keeps s t) : Keeps s (Machine.enterDoze t) :=
  (h.setPhase.setF _ _).startHold.powerEval.raisePorts

theorem Keeps.fwClock (h : Keeps s t) : Keeps s (Machine.fwClock t) := .ite ((h.setReg _ _).setReg _ _) h

theorem Answers.execBootReady (h : Keeps s t) : Answers s (Machine.execBootReady t) :=
  .ite (.next h)
    (.next
      (.enterDoze
        (.showEngines
          (.when (.setF (.forN h.fwClock.placeImages (fun _ u => (Keeps.refl u).restartRuntime)) _ _)
            ((Keeps.refl _).setF _ _)))))

theorem Answers.execWatchdogKick {key} (h : Keeps s t) : Answers s (Machine.execWatchdogKick key t) :=
  .ite (.next h.record) (.next h)

theorem Answers.execWatchdogExpire (h : Keeps s t) : Answers s (Machine.execWatchdogExpire t) :=
  .ite (.next (h.coreReset.hitF _ _)) (.next h)

theorem Keeps.pciePortsReset (h : Keeps s t) : Keeps s (Machine.pciePortsReset t) :=
  .forN (.lowerPorts (.forN ((h.resetDomain _).setF _ _) (fun _ u => (Keeps.refl u).setReg _ _)))
    (fun _ u => (Keeps.refl u).portReset.failReads)

theorem Answers.execPerstNAssert (h : Keeps s t) : Answers s (Machine.execPerstNAssert t) :=
  .ite (.next h) (.next (h.hitF _ _).pciePortsReset)

theorem Answers.execDeviceInfo {d} (h : Keeps s t) : Answers s (Machine.execDeviceInfo d t) :=
  .runCmd h (fun u _ => (Keeps.refl u).outStatus)

theorem Answers.execDeviceReset {d} (h : Keeps s t) : Answers s (Machine.execDeviceReset d t) :=
  .runCmd h (fun u _ => ((Keeps.refl u).take _ _).record)

theorem Answers.execDeviceResetDelayEnd (h : Keeps s t) : Answers s (Machine.execDeviceResetDelayEnd t) := by
  unfold Machine.execDeviceResetDelayEnd
  split
  · exact .ite (.next h.coreReset) (.next h)
  · exact .next h

theorem Answers.execRollbackAdvance {d} (h : Keeps s t) : Answers s (Machine.execRollbackAdvance d t) :=
  .runCmd h (fun u _ => .checked (.refl _) ((Keeps.refl u).take _ _).record.showOtp)

theorem Answers.execKeyRevoke {d} (h : Keeps s t) : Answers s (Machine.execKeyRevoke d t) :=
  .runCmd h (fun u _ => .checked (.refl _) ((Keeps.refl u).take _ _).record.showOtp)

theorem Keeps.replaceImage {bs x} (h : Keeps s t) : Keeps s (Machine.replaceImage bs x t) := by
  unfold Machine.replaceImage
  extract_lets +onlyGivenNames s₁
  have h₁ : Keeps s s₁ := h.runImage
  split
  · exact .forN h₁ (fun _ u => by
        split
        · exact .refl _
        · extract_lets +onlyGivenNames s₂
          have h₂ : Keeps u s₂ := (Keeps.refl u).zeroPages.journaledBytes
          exact .ite h₂.restartRuntime h₂)
  · exact h₁.journaledBytes
  · exact h₁.zeroPages.journaledBytes.placeLynx

theorem Answers.execImageLoad {d} (h : Keeps s t) : Answers s (Machine.execImageLoad d t) := by
  unfold Machine.execImageLoad
  exact .runCmd h
    (fun u _ =>
      .checked (.refl _)
        (.withMem (Keeps.refl u).readMem (fun _ => by
            extract_lets +onlyGivenNames _ _
            split
            · exact .refl _
            · exact .fst_ite (.refl _) (.fst_ite (.refl _) ((Keeps.refl _).take _ _).replaceImage))))

theorem Answers.execWatchdogSet {d} (h : Keeps s t) : Answers s (Machine.execWatchdogSet d t) :=
  .runCmd h (fun u _ => .checked (.refl _) (((Keeps.refl u).take _ _).setImg _ _ _ _).wdogFrom)

theorem Keeps.parkRegs (h : Keeps s t) : Keeps s (Machine.parkRegs t) :=
  .showMuteN (.foldl _ h (fun u _ => (Keeps.refl u).setReg _ _))

theorem Keeps.releaseHalted (h : Keeps s t) : Keeps s (Machine.releaseHalted t) :=
  .forN h (fun _ _ => .when (.refl _) ((Keeps.refl _).dbgRunning.hitB _ _))

theorem Keeps.parkMem (h : Keeps s t) : Keeps s (Machine.parkMem t) := h.loseMem.loseMem.loseMem.loseMem

theorem Answers.execParkCommit (h : Keeps s t) : Answers s (Machine.execParkCommit t) := by
  unfold Machine.execParkCommit
  split
  · exact .next h
  · extract_lets +onlyGivenNames _ s₁ s₂ s₃ s₄ s₅ _ s₆ s₇ _ _ s₈ s₉ _ s₁₀ _ s₁₁ s₁₂ s₁₃ s₁₄ s₁₅
    have h₁ : Keeps s s₁ := h.record
    clear_value s₁
    have h₂ : Keeps s s₂ := (Keeps.when h₁ (Keeps.refl _).dropTrigger).releaseHalted.parkDetach
    clear_value s₂
    have h₃ : Keeps s s₃ := h₂.foxPark.decPark.gustPark.streamsPark
    clear_value s₃
    have h₅ : Keeps s s₅ := h₃.parkMem.parkRegs
    clear_value s₅
    have h₇ : Keeps s s₇ := .forN h₅.record fun _ u => (Keeps.refl u).setF _ _
    clear_value s₇
    have h₉ : Keeps s s₉ := (((h₇.record.setF _ _).setF _ _).setF _ _).setF _ _
    clear_value s₉
    have h₁₀ : Keeps s s₁₀ := (h₉.setF _ _).unqualifyAll.settleMclk
    clear_value s₁₀
    have h₁₁ : Keeps s s₁₁ := h₁₀.record
    clear_value s₁₁
    have h₁₃ : Keeps s s₁₃ := .when (.when h₁₁ ((Keeps.refl _).setF _ _)) (((Keeps.refl _).setF _ _).setF _ _)
    clear_value s₁₃
    have h₁₅ : Keeps s s₁₅ := ((Keeps.when h₁₃ (Keeps.refl _).setLynxEn).setPhase.setF _ _).hitF _ _
    clear_value s₁₅
    exact .next h₁₅.lowerPorts

theorem Keeps.wakeCore {n} (h : Keeps s t) : Keeps s (Machine.wakeCore n t) := by
  unfold Machine.wakeCore
  extract_lets +onlyGivenNames s₁
  have h₁ : Keeps s s₁ := h.copyMem
  exact .ite (h₁.coreStart.hitB _ _) (.ite (h₁.setF _ _) h₁)

theorem Keeps.resume (h : Keeps s t) : Keeps s (Machine.resume t) := by
  unfold Machine.resume
  extract_lets +onlyGivenNames _ s₁ _ _ s₂ _ _ _ _ s₃ _ _ _ _
  have h₁ : Keeps s s₁ := .forN h.record (fun _ u => (Keeps.refl u).wakeCore)
  have h₂ : Keeps s s₂ := .streamsWake (.decWake (.foxWake (.boardConfig (.ite h₁.copyMem h₁))))
  have h₃ : Keeps s s₃ :=
    .when (.when ((((h₂.setF _ _).setF _ _).setReg _ _).hitF _ _) ((Keeps.refl _).setF _ _)) (Keeps.refl _).pullSync
  exact ((h₃.setF _ _).setPhase.showEngines.raisePorts.notice _ _).putGlobalMute.startHold.powerEval

theorem Answers.execWakeComplete {digestsOk} (h : Keeps s t) : Answers s (Machine.execWakeComplete digestsOk t) :=
  .ite (.next h) (.ite (.next h.resume) (.next h.coreReset))

/-! ### The functions of Machine/Debug -/

theorem Keeps.dbgFail {cause} (h : Keeps s t) : Keeps s (Machine.dbgFail cause t) := (h.setF _ _).hitF _ _

theorem Keeps.resumeUnit {c} (h : Keeps s t) : Keeps s (Machine.resumeUnit c t) := by
  unfold Machine.resumeUnit
  extract_lets +onlyGivenNames s₁
  have h₁ : Keeps s s₁ := h.dbgRunning
  exact .ite (h₁.setF _ _) (.ite h₁.record.powerEval h₁)

theorem Keeps.releaseUnits (h : Keeps s t) : Keeps s (Machine.releaseUnits t) :=
  .forN
    (.forN h
      (fun _ _ =>
        .forN (.forN (.refl _) (fun _ u => (Keeps.refl u).setF _ _)) (fun _ u => (Keeps.refl u).setF _ _)))
    (fun _ _ => .when (.refl _) ((Keeps.refl _).resumeUnit.hitB _ _))

theorem Answers.execDbgHalt {c} (h : Keeps s t) : Answers s (Machine.execDbgHalt c t) :=
  .ite (.next h)
    (.ite (.next h.dbgFail)
      (.ite (.next h)
        (.ite (.ite (.next (.ite h.haltNow (h.setCore _ _))) (.next h))
          (.next (.record (.setF (.setF (.when h (Keeps.refl _).record) _ _) _ _))))))

theorem Answers.execDbgHaltComplete {c} (h : Keeps s t) : Answers s (Machine.execDbgHaltComplete c t) :=
  .ite (.next h) (.ite (.ite (.next ((h.dbgRunning.setF _ _).hitB _ _)) (.next h)) (.next h.unitHalted))

theorem Answers.execDbgResume {c} (h : Keeps s t) : Answers s (Machine.execDbgResume c t) :=
  .ite (.next h) (.ite (.next h.dbgFail) (.ite (.next h.resumeUnit) (.next h)))

theorem Answers.execDbgStep {c} (h : Keeps s t) : Answers s (Machine.execDbgStep c t) :=
  .ite (.next h) (.ite (.next h.dbgFail) (.ite (.next h) (.ite (.next h.resumeUnit.record) (.next h.unitHalted))))

theorem Keeps.regdataRead {c} (h : Keeps s t) : Keeps s (Machine.regdataRead c t).1 := by
  unfold Machine.regdataRead
  split
  · exact h.dbgFail
  · split
    · exact h.dbgFail
    · split
      · exact h.setReg _ _
      · exact h.dbgFail

theorem Keeps.regdataWrite {c v} (h : Keeps s t) : Keeps s (Machine.regdataWrite c v t) := by
  unfold Machine.regdataWrite
  extract_lets +onlyGivenNames _
  split
  · exact h.dbgFail
  · split
    · exact h.dbgFail
    · extract_lets +onlyGivenNames s₁
      have h₁ : Keeps s s₁ := h.setReg _ _
      exact .ite (h₁.setCore _ _) h₁.record

theorem Answers.execDbgRegdataAccess {c w} (h : Keeps s t) : Answers s (Machine.execDbgRegdataAccess c w t) := by
  unfold Machine.execDbgRegdataAccess
  split
  · exact .next h
  · split
    · exact .next h.regdataWrite
    · split
      · rename_i e
        exact .next (.answer (.of_eq h.regdataRead e))
      · rename_i e
        exact .next (.answer (.of_eq h.regdataRead e))

theorem Answers.execDbgChallengeNew (h : Keeps s t) : Answers s (Machine.execDbgChallengeNew t) := by
  unfold Machine.execDbgChallengeNew
  extract_lets +onlyGivenNames s₁ _
  have h₁ : Keeps s s₁ :=
    .forN h (fun _ u => by
        extract_lets +onlyGivenNames r₂
        have h₂ : Keeps u r₂.1 := (Keeps.refl u).fresh
        clear_value r₂
        exact h₂.setReg _ _)
  exact .next (((((h₁.setReg _ _).setReg _ _).setReg _ _).setReg _ _).setF _ _)

theorem Keeps.unlockFails (h : Keeps s t) : Keeps s (Machine.unlockFails t) := (h.setF _ _).incF _ _

theorem Answers.execDbgUnlockGo (h : Keeps s t) : Answers s (Machine.execDbgUnlockGo t) :=
  .ite (.next h) (.ite (.next (h.setF _ _)) (.ite (.next h.unlockFails) (.next ((h.setF _ _).setF _ _).record)))

theorem Keeps.verifyOver {scope} (h : Keeps s t) : Keeps s (Machine.verifyOver scope t) := by
  unfold Machine.verifyOver
  extract_lets +onlyGivenNames _ s₁
  have h₁ : Keeps s s₁ := h.record.setF _ _
  exact .ite ((((h₁.setF _ _).setF _ _).setF _ _).setF _ _) h₁.unlockFails

theorem Answers.execDbgTokenVerifyDone (h : Keeps s t) : Answers s (Machine.execDbgTokenVerifyDone t) := by
  unfold Machine.execDbgTokenVerifyDone
  split
  · exact .next h
  · extract_lets +onlyGivenNames s₁
    have h₁ : Keeps s s₁ := h.verifyOver
    exact .ite (.execDbgUnlockGo h₁) (.next h₁)

theorem Answers.execDbgRelock (h : Keeps s t) : Answers s (Machine.execDbgRelock t) :=
  .next ((h.releaseUnits.setF _ _).setF _ _)

theorem Answers.execLineReset {periods select} (h : Keeps s t) :
    Answers s (Machine.execLineReset periods select t) := by
  unfold Machine.execLineReset
  split
  · exact .next h
  · extract_lets +onlyGivenNames _ s₁
    have h₁ : Keeps s s₁ := h.record
    exact .ite (.next (h₁.setF _ _)) (.ite (.next (h₁.setF _ _).releaseUnits) (.next h₁))

theorem Answers.tapSelect {ir dr} (h : Keeps s t) : Answers s (Machine.tapSelect ir dr t) :=
  .ite (.next h.record) (.next h)

theorem Answers.tapBoundary {ir captured shifted} (h : Keeps s t) :
    Answers s (Machine.tapBoundary ir captured shifted t) := .ite (.next h.record) (.next h)

theorem Answers.execTapExtest {captured shifted} (h : Keeps s t) :
    Answers s (Machine.execTapExtest captured shifted t) := .tapBoundary h

theorem Answers.execTapSamplePreload {captured shifted} (h : Keeps s t) :
    Answers s (Machine.execTapSamplePreload captured shifted t) := .tapBoundary h

theorem Answers.execTapIdcode (h : Keeps s t) : Answers s (Machine.execTapIdcode t) := .tapSelect h

theorem Answers.execTapClamp (h : Keeps s t) : Answers s (Machine.execTapClamp t) := .tapSelect h

theorem Answers.execTapHighz (h : Keeps s t) : Answers s (Machine.execTapHighz t) := .tapSelect h

theorem Answers.execTapBypass (h : Keeps s t) : Answers s (Machine.execTapBypass t) := .tapSelect h

theorem Answers.execTapMbist (h : Keeps s t) : Answers s (Machine.execTapMbist t) := by
  unfold Machine.execTapMbist
  split
  · extract_lets +onlyGivenNames r₁
    have h₁ : Keeps s r₁.1 := h.fresh
    clear_value r₁
    exact .tapSelect h₁
  · exact .tapSelect h

theorem Answers.execTrstNAssert (h : Keeps s t) : Answers s (Machine.execTrstNAssert t) := .next h.record

/-! ### The functions of Machine/MartenDma -/

theorem Keeps.dmaStart {n c src dst len} (h : Keeps s t) : Keeps s (Machine.dmaStart n c src dst len t) := by
  unfold Machine.dmaStart
  extract_lets +onlyGivenNames _ _ _ _ s₁
  have h₁ : Keeps s s₁ := ((h.setCore _ _).setF _ _).setF _ _
  exact .ite h₁.readHost h₁

theorem Answers.execMartenDmaGo {n c} (h : Keeps s t) : Answers s (Machine.execMartenDmaGo n c t) :=
  .ite (.next h) (.next h.dmaStart)

theorem Answers.execMartenDma {d} (h : Keeps s t) : Answers s (Machine.execMartenDma d t) :=
  .runCmd h (fun u _ => .checked (.refl _) ((((Keeps.refl u).set64 _ _).set64 _ _).setF _ _).dmaStart)

/-! ### The functions of Machine/Hosts -/

theorem Keeps.linkUp (h : Keeps s t) : Keeps s (Machine.linkUp t) := by
  unfold Machine.linkUp
  split
  · exact h
  · extract_lets +onlyGivenNames r₁ r₂
    have h₁ : Keeps s r₁.1 := h.fresh
    clear_value r₁
    have h₂ : Keeps s r₂.1 := h₁.fresh
    clear_value r₂
    exact ((h₂.setF _ _).setF _ _).setF _ _

theorem Answers.execXlatWrite {f hi v} (h : Keeps s t) : Answers s (Machine.execXlatWrite f hi v t) := by
  unfold Machine.execXlatWrite
  split
  · exact .next h
  · extract_lets +onlyGivenNames s₁ _ _ _ _ _
    have h₁ : Keeps s s₁ := h.linkUp
    exact .next
      (.foldl _ (.when (.ite (h₁.setF _ _) ((h₁.setF _ _).setF _ _)) (Keeps.refl _).loseMem)
        (fun u _ => (Keeps.refl u).failAccess))

theorem Answers.execPciePowerStateChange {f dstate bme mse} (h : Keeps s t) :
    Answers s (Machine.execPciePowerStateChange f dstate bme mse t) :=
  .ite (.next h) (.next (((h.linkUp.setF _ _).setF _ _).setF _ _).lowerPorts.issueReads)

theorem Keeps.sendPending {f} (h : Keeps s t) : Keeps s (Machine.sendPending f t) :=
  .ite (.forN h (fun _ u => .ite (Keeps.refl u).record (.refl _))) h

theorem Answers.execMsixUnmask {f vec} (h : Keeps s t) : Answers s (Machine.execMsixUnmask f vec t) := by
  unfold Machine.execMsixUnmask
  split
  · exact .next h
  · split
    · exact .ite (.next h) (.next h.record.sendPending)
    · exact .next ((h.linkUp.setF _ _).setF _ _).sendPending

theorem Keeps.freeTag {x} (h : Keeps s t) : Keeps s (Machine.freeTag x t) := h.record.putTags

theorem Keeps.readArrives {e data} (h : Keeps s t) : Keeps s (Machine.readArrives e data t) := by
  unfold Machine.readArrives
  extract_lets +onlyGivenNames s₁
  have h₁ : Keeps s s₁ := h.freeTag
  split
  · exact h₁
  · exact (h₁.setBytes _ _).fetchDone
  · exact .ite h₁.record (h₁.setBytes _ _).landLines

theorem Answers.execHostReadCompletion {tag ok data} (h : Keeps s t) :
    Answers s (Machine.execHostReadCompletion tag ok data t) := by
  unfold Machine.execHostReadCompletion
  split
  · exact .next h
  · exact .ite (.next h) (.ite (.next h.readArrives.issueReads.settleAll)
      (.next h.freeTag.failAccess.issueReads.settleAll))

theorem Answers.execCompletionTimeout {tag} (h : Keeps s t) : Answers s (Machine.execCompletionTimeout tag t) := by
  unfold Machine.execCompletionTimeout
  split
  · exact .next h
  · exact .next (h.hitF _ _).freeTag.failAccess.issueReads.settleAll

theorem Answers.execFunctionLevelReset {f} (h : Keeps s t) : Answers s (Machine.execFunctionLevelReset f t) :=
  .ite (.next h)
    (.next ((((h.hitB _ _).setReg _ _).setReg _ _).setReg _ _).loseMem.lowerPorts.portReset.failReads.issueReads)

theorem Answers.execLinkDown (h : Keeps s t) : Answers s (Machine.execLinkDown t) :=
  .ite (.next (h.hitF _ _).pciePortsReset) (.next h)

theorem Answers.execHotReset (h : Keeps s t) : Answers s (Machine.execHotReset t) :=
  .ite (.next (h.hitF _ _).pciePortsReset) (.next h)

theorem Keeps.csDone {x} (h : Keeps s t) : Keeps s (Machine.csDone x t) := .ite h.record h

theorem Keeps.disarm {x} (h : Keeps s t) : Keeps s (Machine.disarm x t) := h.record

theorem Answers.execResetEn {x} (h : Keeps s t) : Answers s (Machine.execResetEn x t) :=
  .ite (.next h) (.ite (.next h.csDone) (.next h.record))

theorem Answers.execReset {x} (h : Keeps s t) : Answers s (Machine.execReset x t) :=
  .ite (.next h) (.ite (.next h) (.next (h.disarm.hitB _ _).portReset))

theorem Keeps.directOpen (h : Keeps s t) : Keeps s (Machine.directOpen t) :=
  .ite h (.forN (h.setF _ _) (fun _ u => (Keeps.refl u).portReset))

theorem Answers.execDirectModeOpen {i} (h : Keeps s t) : Answers s (Machine.execDirectModeOpen i t) :=
  .ite (.next h.directOpen) (.ite (.next h.dbgFail) (.next h))

theorem Answers.execDirectModeClose {i key} (h : Keeps s t) : Answers s (Machine.execDirectModeClose i key t) := by
  unfold Machine.execDirectModeClose
  split
  · exact .ite (.next (h.setF _ _)) (.next h)
  · exact .ite (.next (h.setF _ _)) (.next h)
  · exact .next h

/-! ### The functions of Machine/Registers -/

/-- The state an answer gives, or the one at hand. -/
theorem Keeps.outSt {o : Out} (k : Answers s o) : Keeps s (Machine.outSt o t) := by
  obtain ⟨u, rfl, hu⟩ := k
  exact hu

theorem Keeps.regRead {i a} (h : Keeps s t) : Keeps s (Machine.regRead i a t).1 := by
  unfold Machine.regRead
  split
  · split
    · rename_i e
      exact .pair (.of_eq h.regdataRead e)
    · rename_i e
      exact .pair (.of_eq h.regdataRead e)
  · exact .fst_ite h (.clearRC (.when (.ite h.record h) (Keeps.refl _).coefAdvance) _)

theorem Keeps.genWrite {a v} (h : Keeps s t) : Keeps s (Machine.genWrite a v t) := (h.setReg _ _).record.mark _ _

theorem Keeps.actSys {port a v old} (h : Keeps s t) : Keeps s (Machine.actSys port a v old t) :=
  .ite (.ite (.outSt (.execCoreRstWrite h)) h)
    (.ite h.wdogFrom
      (.ite (.outSt (.execWatchdogKick h))
        (.ite (.ite (.outSt (.execSysDlGo h)) h)
          (.ite (.settleMclk (.ite h (h.setF _ _)))
            (.ite h.armAlarm
              (.ite h.settleRail (.ite (.powerEval (.ite (h.setF _ _).showEngines h)) (.ite (.ite h.rearm h) h))))))))

theorem Keeps.actRings {a v old} (h : Keeps s t) (h0 : Keeps s old) : Keeps s (Machine.actRings a v old t) :=
  .ite (.ite (.ite h h0) (.ite h0.putIndex h)) (.ite h0.putIndex (.ite (.ite h.coalCheck h) h))

theorem Keeps.actSync {a v old} (h : Keeps s t) (h0 : Keeps s old) : Keeps s (Machine.actSync a v old t) :=
  .ite (.outSt (.execSyncObjSignalWrite h0))
    (.ite (.ite (.outSt (.execSyncOwnFreeWrite h0)) h)
      (.ite (.ite h.record h0) (.ite (.outSt (.execSyncAddDeltaWrite h)) h)))

theorem Keeps.actDec {a v old} (h : Keeps s t) (h0 : Keeps s old) : Keeps s (Machine.actDec a v old t) := by
  unfold Machine.actDec
  extract_lets +onlyGivenNames _
  split
  · exact .ite h.goSync h
  · split
    · exact .ite (.outSt (.execDecSwapRequest h)) h
    · split
      · exact h.settlePdm
      · split
        · exact .settlePdm (.ite (h.setF _ _) h)
        · split
          · exact .ite (h.setF _ _) (h.setF _ _)
          · split
            · exact .ite (h0.hitB _ _) h
            · split
              · extract_lets +onlyGivenNames _ _ s₁
                have h₁ : Keeps s s₁ := .ite h.setCh h
                exact .ite h₁.decSnap h₁
              · exact h

theorem Keeps.actTdm {a v old} (h : Keeps s t) (h0 : Keeps s old) : Keeps s (Machine.actTdm a v old t) :=
  .ite (.ite (.outSt (.execTdmTrigGo h)) h)
    (.ite h
      (.ite (.ite (h.setReg _ _) h0)
        (.ite h.touchPort
          (.ite (.touchSlot (.ite (h.setF _ _) h))
            (.ite
              (.ite (.ite (.when h (Keeps.refl _).touchPort) h0)
                (.ite (.ite (.outSt (.execTdmCtrlStop h)) h) (.ite h.withMark h))) h)))))

theorem Keeps.actAsrc {a old} (h : Keeps s t) : Keeps s (Machine.actAsrc a old t) :=
  .ite ((h.setReg _ _).setAsrc.setF _ _) h

theorem Keeps.actGust {i a v old} (h : Keeps s t) (h0 : Keeps s old) : Keeps s (Machine.actGust i a v old t) :=
  .ite (.ite (.outSt (.execGustSwapRequest h)) h)
    (.ite h.touchAll
      (.ite (.ite (.outSt (.execGustLoadGo h)) h)
        (.ite (.outSt (.execGustCoefWrite h0))
          (.ite (.outSt (.execGustTripClear h0)) (.ite (.outSt (.execGustPathWrite h0)) h)))))

theorem Keeps.actLynx {a v} (h : Keeps s t) : Keeps s (Machine.actLynx a v t) :=
  .ite (.ite (.outSt (.execLynxJobPush h)) h) (.ite (.ite h.setLstr (.ite h.setLstr h)) h)

theorem Keeps.actFog {a v} (h : Keeps s t) : Keeps s (Machine.actFog a v t) :=
  .ite (.ite (.outSt (.execFogOpPush h)) h)
    (.ite (.ite (.ite (.outSt (.execFogKsRegisterGo h)) (.outSt (.execFogKsReleaseGo h))) h)
      (.ite (.ite (.outSt (.execFogRetGo h)) h) h))

theorem Keeps.actMarten {a v old} (h : Keeps s t) (h0 : Keeps s old) : Keeps s (Machine.actMarten a v old t) := by
  unfold Machine.actMarten
  extract_lets +onlyGivenNames _
  split
  · exact .outSt (.execMartenXcoreRaise h)
  · split
    · exact h
    · split
      · extract_lets +onlyGivenNames s₁
        have h₁ : Keeps s s₁ := .ite (.outSt (.execMartenCtrlRun h)) h
        exact .ite (.outSt (.execMartenCtrlStop h₁)) h₁
      · exact .ite (.outSt (.execMartenSignalRaise h))
          (.ite (h.setCore _ _) (.ite (.ite h h0) (.ite (.outSt (.execMartenDmaGo h)) h)))

theorem Keeps.actDbg {i a v old} (h : Keeps s t) (h0 : Keeps s old) : Keeps s (Machine.actDbg i a v old t) := by
  unfold Machine.actDbg
  extract_lets +onlyGivenNames _ _ _
  split
  · exact .ite (.outSt (.execDbgChallengeNew h)) h
  · split
    · split
      · exact h0
      · extract_lets +onlyGivenNames s₁
        have h₁ : Keeps s s₁ := .ite (.outSt (.execDbgUnlockGo h)) h
        exact .ite (.outSt (.execDbgRelock h₁)) h₁
    · split
      · exact .ite h h0
      · split
        · split
          · extract_lets +onlyGivenNames s₂ s₃ s₄
            have h₂ : Keeps s s₂ := .ite h h0.dbgFail
            have h₃ : Keeps s s₃ := .ite (.outSt (.execDbgHalt h₂)) h₂
            have h₄ : Keeps s s₄ := .ite (.outSt (.execDbgResume h₃)) h₃
            exact .ite (.outSt (.execDbgStep h₄)) h₄
          · exact .ite h0.regdataWrite (.ite h h0.dbgFail)
        · exact h

theorem Keeps.regAct {i a v old} (h : Keeps s t) (h0 : Keeps s old) : Keeps s (Machine.regAct i a v old t) := by
  unfold Machine.regAct
  split
  · exact h.actSys
  · exact h.actSys
  · exact h.actSys
  · exact h.actSys
  · exact .actRings h h0
  · exact .actRings h h0
  · exact .actSync h h0
  · exact .actDec h h0
  · exact .actTdm h h0
  · exact .ite h.guardKeep h
  · exact h.actAsrc
  · exact .actGust h h0
  · exact .ite h0.doaPush h
  · exact h.actLynx
  · exact h.actFog
  · exact .actMarten h h0
  · exact .ite (.ite (.outSt (.execMemcTrain h)) h) (.ite h0 h)
  · exact .ite (h.defer _ _) h
  · split
    · extract_lets +onlyGivenNames s₁
      have h₁ : Keeps s s₁ := .ite (.outSt (.execTwinCtrlAttach h)) h
      exact .ite (.outSt (.execTwinCtrlDetach h₁)) h₁
    · exact .ite (.ite (.outSt (.execTwinSwapGo h)) h) h
  · exact .ite (.outSt (.ite (.execDirectModeOpen h) (.execDirectModeClose h))) (.ite h.issueReads h)
  · exact .actDbg h h0
  · exact .ite (.ite h.senseEnable h) (.ite h.senseRetime (.ite (.ite h.sportFollow h0) (.ite h.sportFollow h)))
  · exact h

theorem Keeps.regPut {i a v lo} (h : Keeps s t) : Keeps s (Machine.regPut i a v lo t) := by
  unfold Machine.regPut
  exact .withFaultPin h
    (by
      extract_lets +onlyGivenNames s₁
      have h₁ : Keeps t s₁ := by
        unfold s₁
        split
        · exact (Keeps.refl _).genWrite
        · exact .refl _
      exact .regAct h₁.genWrite (.refl _))

theorem Keeps.pairCommit {i a v} (h : Keeps s t) : Keeps s (Machine.pairCommit i a v t) := by
  unfold Machine.pairCommit
  extract_lets +onlyGivenNames _ _ _ s₁
  have h₁ : Keeps s s₁ := h.record
  exact .ite h₁ h₁.record.regPut

theorem Keeps.fullWrite {i a v} (h : Keeps s t) : Keeps s (Machine.fullWrite i a v t) := by
  unfold Machine.fullWrite
  split
  · exact h.record
  · split
    · exact h.pairCommit
    · split
      · exact .ite (.ite (.outSt (.execGustSwapRequest h)) h) h.regPut
      · exact h.regPut

theorem Keeps.pageWrite {i a v} (h : Keeps s t) : Keeps s (Machine.pageWrite i a v t) := .ite h h.regPut

theorem Keeps.regWrite {i a v} (h : Keeps s t) : Keeps s (Machine.regWrite i a v t) := by
  unfold Machine.regWrite
  split
  · exact .ite h.fullWrite (.ite h.fullWrite (.ite h.pageWrite h))
  · exact h.fullWrite

theorem Keeps.refuseReg {i a write code} (h : Keeps s t) : Keeps s (Machine.refuseReg i a write code t) := by
  unfold Machine.refuseReg
  extract_lets +onlyGivenNames s₁
  have h₁ : Keeps s s₁ := by
    unfold s₁
    split
    · exact .ite (.when h ((Keeps.refl _).incF _ _)) (.ite (h.incF _ _) h)
    · exact h.dbgFail
    · exact h
  exact h₁.answer

theorem Answers.readReg {i a size} (h : Keeps s t) : Answers s (Machine.readReg i a size t) := by
  unfold Machine.readReg
  split
  · extract_lets +onlyGivenNames _
    split
    · extract_lets +onlyGivenNames r₁
      have h₁ : Keeps s r₁.1 := h.regRead
      clear_value r₁
      exact .next h₁.answer
    · exact .next h.answer
  · exact .next h.refuseReg

theorem Answers.writeReg {i a size v} (h : Keeps s t) : Answers s (Machine.writeReg i a size v t) := by
  unfold Machine.writeReg
  split
  · exact .next h.regWrite.answer
  · exact .next h.refuseReg

theorem Answers.execRegisterWrite {i addr size v} (h : Keeps s t) :
    Answers s (Machine.execRegisterWrite i addr size v t) := .writeReg h

theorem Answers.execRegisterReadClear {i addr size} (h : Keeps s t) :
    Answers s (Machine.execRegisterReadClear i addr size t) := .readReg h

theorem Answers.execPairLoRead {i addr} (h : Keeps s t) : Answers s (Machine.execPairLoRead i addr t) :=
  .ite (.readReg h) (.next h)

theorem Answers.execPairLoWrite {i addr v} (h : Keeps s t) : Answers s (Machine.execPairLoWrite i addr v t) :=
  .ite (.writeReg h) (.next h)

theorem Answers.execPairHiWrite {i addr v} (h : Keeps s t) : Answers s (Machine.execPairHiWrite i addr v t) :=
  .ite (.writeReg h) (.next h)

/-! ### The functions of Machine/Access -/

theorem Keeps.hostWrite {p a bs} (h : Keeps s t) : Keeps s (Machine.hostWrite p a bs t).1 := by
  unfold Machine.hostWrite
  split
  · split
    · exact h
    · exact h.rejectAccess _ _ _
    · exact h
  · exact h.writeChecked _ _ _ _

theorem Keeps.putBytes {a bs} (h : Keeps s t) : Keeps s (Machine.putBytes a bs t) := h.journaledBytes

theorem Answers.execBar2Access {f offset len wr data} (h : Keeps s t) :
    Answers s (Machine.execBar2Access f offset len wr data t) := by
  unfold Machine.execBar2Access
  extract_lets +onlyGivenNames _ _ refuse
  have hf {u} (hu : Keeps s u) : Keeps s (refuse u) := (hu.incF _ _).answer
  clear_value refuse
  split
  · exact .next h
  · split
    · exact .ite (.next h.putBytes.answer) (.next (hf h))
    · split
      · exact .next (hf h)
      · extract_lets +onlyGivenNames r
        have hr : Keeps s r.1 := .fst_ite h.hostWrite (h.readChecked _ _ _ _)
        clear_value r
        split
        · exact .next (.answer hr)
        · exact .next (hf hr)
        · exact .next (.answer hr)
        · exact .next hr

theorem Keeps.spiEnd {x write c data} (h : Keeps s t) : Keeps s (Machine.spiEnd x write c data t) :=
  .csDone
    (.answer
      (.when (.when (.when h ((Keeps.refl _).incF _ _)) ((Keeps.refl _).incF _ _))
        (((Keeps.refl _).setF _ _).setF _ _)))

theorem Answers.execRegRead {x addr waits early} (h : Keeps s t) :
    Answers s (Machine.execRegRead x addr waits early t) := by
  unfold Machine.execRegRead
  extract_lets +onlyGivenNames _
  split
  · exact .next h
  · extract_lets +onlyGivenNames s₁
    have h₁ : Keeps s s₁ := h.disarm
    split
    · exact .next h₁.spiEnd
    · split
      · split
        · exact .next h₁.spiEnd
        · split
          · extract_lets +onlyGivenNames r₂
            have h₂ : Keeps s r₂.1 := h₁.regRead
            clear_value r₂
            exact .next h₂.spiEnd
          · exact .next h₁.spiEnd
      · exact .next h₁.spiEnd

theorem Answers.execRegWrite {x addr data} (h : Keeps s t) : Answers s (Machine.execRegWrite x addr data t) := by
  unfold Machine.execRegWrite
  extract_lets +onlyGivenNames _
  split
  · exact .next h
  · extract_lets +onlyGivenNames s₁
    have h₁ : Keeps s s₁ := h.disarm
    split
    · exact .next h₁.spiEnd
    · split
      · exact .next h₁.regWrite.spiEnd
      · exact .next h₁.spiEnd

theorem Answers.execMemRead {x addr len waits early} (h : Keeps s t) :
    Answers s (Machine.execMemRead x addr len waits early t) := by
  unfold Machine.execMemRead
  split
  · exact .next h
  · extract_lets +onlyGivenNames s₁
    have h₁ : Keeps s s₁ := h.disarm
    split
    · exact .next h₁.spiEnd
    · split
      · exact .next h₁.spiEnd
      · split
        · exact .next h₁.spiEnd
        · split
          · exact .next h₁.spiEnd
          · split
            · rename_i e
              exact .next (.spiEnd (.of_eq (h₁.readChecked _ _ _ _) e))
            · rename_i e
              exact .next (.spiEnd (.of_eq (h₁.readChecked _ _ _ _) e))
            · rename_i e
              exact .next (.spiEnd (.of_eq (h₁.readChecked _ _ _ _) e))

theorem Answers.execMemWrite {x addr len data} (h : Keeps s t) :
    Answers s (Machine.execMemWrite x addr len data t) := by
  unfold Machine.execMemWrite
  split
  · exact .next h
  · extract_lets +onlyGivenNames s₁
    have h₁ : Keeps s s₁ := h.disarm
    split
    · exact .next h₁.spiEnd
    · split
      · exact .next h₁.putBytes.spiEnd
      · split
        · exact .next h₁.spiEnd
        · split
          · exact .next h₁.spiEnd
          · split
            · rename_i e
              exact .next (.spiEnd (.of_eq h₁.hostWrite e))
            · rename_i e
              exact .next (.setF (.of_eq h₁.hostWrite e) _ _)
            · rename_i e
              exact .next (.spiEnd (.of_eq h₁.hostWrite e))

theorem Answers.execStatus {x} (h : Keeps s t) : Answers s (Machine.execStatus x t) := by
  unfold Machine.execStatus
  split
  · exact .next h
  · extract_lets +onlyGivenNames s₁
    have h₁ : Keeps s s₁ := h.disarm
    exact .ite (.next h₁.spiEnd) (.next h₁.answer)

theorem Keeps.dbgDeaf (h : Keeps s t) : Keeps s (Machine.dbgDeaf t) := (h.record.hitF _ _).answer

theorem Keeps.dbgAccept {a write n ws} (h : Keeps s t) : Keeps s (Machine.dbgAccept a write n ws t) :=
  .ite h.answer (.ite h.answer (.ite h.dbgFail.answer (.ite h.dbgFail.answer (h.record.setF _ _).answer)))

theorem Keeps.dbgAddrParity (h : Keeps s t) : Keeps s (Machine.dbgAddrParity t) := (h.dbgFail.hitF _ _).answer

theorem Answers.execRead {hdr addr parity} (h : Keeps s t) : Answers s (Machine.execRead hdr addr parity t) :=
  .ite (.next h) (.ite (.next h.dbgDeaf) (.ite (.next h.dbgAddrParity) (.next h.dbgAccept)))

theorem Answers.execWrite {hdr addr parity words parities} (h : Keeps s t) :
    Answers s (Machine.execWrite hdr addr parity words parities t) := by
  unfold Machine.execWrite
  split
  · exact .next h
  · split
    · exact .next h.dbgDeaf
    · split
      · exact .next h.dbgAddrParity
      · extract_lets +onlyGivenNames _ s₁
        have h₁ : Keeps s s₁ := h.dbgAccept
        exact .ite (.next (h₁.dbgFail.hitF _ _)) (.next h₁)

theorem Answers.execRdbuf {hdr} (h : Keeps s t) : Answers s (Machine.execRdbuf hdr t) :=
  .ite (.next h) (.ite (.next h.dbgDeaf) (.ite (.next h.answer) (.ite (.next h.answer) (.next h.answer))))

theorem Answers.execDebugStatus {hdr} (h : Keeps s t) : Answers s (Machine.execDebugStatus hdr t) :=
  .ite (.next h) (.ite (.next h.dbgDeaf) (.next h.answer))

theorem Keeps.dbgPut {a ws} (h : Keeps s t) : Keeps s (Machine.dbgPut a ws t) := by
  induction ws generalizing t a with
  | nil => exact h
  | cons w r ih =>
    cases w with
    | none => exact ih h
    | some w => exact ih (.ite h.regWrite h.putBytes)

theorem Keeps.dbgGet {n a} (h : Keeps s t) : Keeps s (Machine.dbgGet n a t).1 := by
  induction n generalizing t a with
  | zero => exact h
  | succ n ih => exact ih (.fst_ite h.regRead h)

theorem Keeps.dbgOver (h : Keeps s t) : Keeps s (Machine.dbgOver t) := (h.setF _ _).record

theorem Answers.execAbort {hdr} (h : Keeps s t) : Answers s (Machine.execAbort hdr t) := by
  unfold Machine.execAbort
  split
  · exact .next h
  · split
    · exact .next h.dbgDeaf
    · split
      · exact .next h.answer
      · extract_lets +onlyGivenNames r₁ _ s₂ _
        have h₁ : Keeps s r₁.1 := h.fresh
        clear_value r₁
        have h₂ : Keeps s s₂ := h₁.dbgOver
        exact .next (.answer (.setF (.ite h₂.dbgPut h₂) _ _))

theorem Answers.execDbgAccessDone (h : Keeps s t) : Answers s (Machine.execDbgAccessDone t) := by
  unfold Machine.execDbgAccessDone
  split
  · exact .next h
  · extract_lets +onlyGivenNames _
    split
    · exact .next h
    · exact .next (h.dbgOver.dbgFail.set64 _ _)
    · extract_lets +onlyGivenNames mem ue
      clear_value ue
      split
      · exact .next ((h.logUe _ _ _ _).dbgOver.dbgFail.set64 _ _)
      · split
        · exact .next h.dbgOver.dbgPut
        · extract_lets +onlyGivenNames r
          have hr : Keeps s r.1 := .dbgGet (.ite (h.fixCe _ _) h)
          clear_value r
          exact .next hr.record.dbgOver

theorem Keeps.farPop {n} (h : Keeps s t) : Keeps s (Machine.farPop n t) := (h.setCore _ _).record.noteInflight

theorem Keeps.farFault {n cause a} (h : Keeps s t) : Keeps s (Machine.farFault n cause a t) := by
  unfold Machine.farFault
  extract_lets +onlyGivenNames _ s₁
  have h₁ : Keeps s s₁ := .ite (h.setCore _ _) h
  exact .ite h₁.coreFault h₁

theorem Keeps.farLoad {n f ws} (h : Keeps s t) : Keeps s (Machine.farLoad n f ws t) := h.setCore _ _

theorem Keeps.coreRegs {n k a} (h : Keeps s t) : Keeps s (Machine.coreRegs n k a t).1 := by
  induction k generalizing t a with
  | zero => exact h
  | succ k ih => exact ih h.regRead

theorem Keeps.coreRegsPut {n a ws} (h : Keeps s t) : Keeps s (Machine.coreRegsPut n a ws t) := by
  induction ws generalizing t a with
  | nil => exact h
  | cons w r ih => exact ih h.regWrite

theorem Keeps.farMake {n f} (h : Keeps s t) : Keeps s (Machine.farMake n f t) := by
  unfold Machine.farMake
  extract_lets +onlyGivenNames _ _
  split
  · split
    · exact h.farPop.coreRegsPut
    · exact h.farPop.coreRegs.farLoad
  · extract_lets +onlyGivenNames r
    have hr : Keeps s r.1 := .fst_ite (h.writeChecked _ _ _ _) (h.readChecked _ _ _ _)
    clear_value r
    split
    · exact .ite (.farPop hr) (.farLoad (.farPop hr))
    · exact .farFault (.farPop hr)
    · exact .farFault (.farPop hr)
    · exact hr

theorem Answers.execFarAccessReturn {n} (h : Keeps s t) : Answers s (Machine.execFarAccessReturn n t) := by
  unfold Machine.execFarAccessReturn
  split
  · exact .next h
  · extract_lets +onlyGivenNames _
    split
    · exact .next h
    · split
      · exact .next (h.rejectAccess _ _ _).farPop.farFault.settleAll
      · split
        · exact .next h
        · exact .next (h.rejectAccess _ _ _).farPop.farFault.settleAll
        · exact .ite (.next h.farMake.settleAll)
            (.ite (.next h.farPop.farFault.settleAll)
              (.ite (.next h.record.readHost) (.ite (.next h.farMake.settleAll) (.next h))))

theorem Keeps.dmaOver {n c status result} (h : Keeps s t) : Keeps s (Machine.dmaOver n c status result t) := by
  unfold Machine.dmaOver
  extract_lets +onlyGivenNames _ _ _ _ _ _ _ s₁
  have h₁ : Keeps s s₁ :=
    ((((h.setCore _ _).record.setF _ _).setF _ _).finishAwaits _ _ _).settleFrees.settleAll
  exact .when h₁ (.outSt (.execMartenDmaGo (.refl _)))

theorem Keeps.dmaFails {n c status a} (h : Keeps s t) : Keeps s (Machine.dmaFails n c status a t) :=
  ((h.hitF _ _).hitB _ _).dmaOver

theorem Keeps.dmaMove {n x} (h : Keeps s t) : Keeps s (Machine.dmaMove n x t).1 := by
  unfold Machine.dmaMove
  extract_lets +onlyGivenNames _ _
  split
  · exact h.moveBytes
  · extract_lets +onlyGivenNames _ r
    have hr : Keeps s r.1 := by
      unfold r
      split
      · exact h.coreRegs
      · split
        · exact h.logUe _ _ _ _
        · exact h.fixCe _ _
    clear_value r
    split
    · exact hr
    · exact .fst_ite (.pair (.coreRegsPut hr)) (.storeMoved hr)

theorem Keeps.dmaFinish {n c x} (h : Keeps s t) : Keeps s (Machine.dmaFinish n c x t) := by
  unfold Machine.dmaFinish
  extract_lets +onlyGivenNames _
  split
  · exact h.dmaFails
  · split
    · exact h
    · split
      · rename_i e
        exact .dmaOver (.event (.raiseSource (.of_eq h.dmaMove e) _ _) _)
      · rename_i e
        exact .dmaFails (.of_eq h.dmaMove e)

theorem Answers.execMartenDmaEnd {n c} (h : Keeps s t) : Answers s (Machine.execMartenDmaEnd n c t) := by
  unfold Machine.execMartenDmaEnd
  split
  · exact .next h
  · split
    · exact .next h
    · split
      · exact .next h.dmaFinish
      · split
        · exact .next h
        · exact .next (h.rejectAccess _ _ _).dmaFails
        · extract_lets +onlyGivenNames _ s₁
          have h₁ : Keeps s s₁ := h.setCore _ _
          exact .ite (.next h₁.readHost) (.next h₁.dmaFinish)

/-! ### The functions of Machine/Tick -/

theorem Keeps.freshCycle (h : Keeps s t) : Keeps s (Machine.freshCycle t) := h.syncCycle.record

theorem Keeps.tagWait (h : Keeps s t) : Keeps s (Machine.tagWait t) := by
  unfold Machine.tagWait
  split
  · exact h
  · extract_lets +onlyGivenNames r₁
    have h₁ : Keeps s r₁.1 := h.fresh
    clear_value r₁
    exact h₁.incF _ _

theorem Keeps.decTick (h : Keeps s t) : Keeps s (Machine.decTick t) := .ite h h.settlePdm

end Sys2Proof.Machine
end

section
/-! PROOFS. Device time (R42, R43): POR_N clears it, a standby's adoption writes it, a tick raises it,
nothing else changes it. -/

namespace Sys2Proof.Machine

open Sys2Proof.Claims
variable {s t : State}

/-- A command's meaning keeps device time and does not bring POR_N low. -/
def KeepsTime (s : State) (o : Out) : Prop :=
  ∃ u, o = .next u ∧ u.clk.time = s.clk.time ∧ (s.pins.porN = true → u.pins.porN = true)

theorem Answers.keepsTime {o : Out} (h : Answers s o) : KeepsTime s o := by
  obtain ⟨u, e, hu⟩ := h
  exact ⟨u, e, hu.time, fun p => hu.porN.trans p⟩

theorem keepsTime_execPorRelease (straps : Nat) (vio33 : Bool) (s : State) :
    KeepsTime s (execPorRelease straps vio33 s) := by
  unfold execPorRelease
  split
  · exact ⟨s, rfl, rfl, id⟩
  · exact ⟨_, rfl, by simp only [State.setF_clk], fun _ => by simp only [State.setF_pins]⟩

/-- Every command but POR_N, the brownout and the adoption keeps device time (R42, R43). -/
theorem keepsTime_exec {c : Instr} (hc : clearsTime c = false) (ha : adoptsTime c = false) (s : State) :
    KeepsTime s (exec c s) := by
  cases c with
  | porAssert => cases hc
  | aonBrownout => cases hc
  | twinTimeAdopt x => cases ha
  | porRelease straps vio33 => exact keepsTime_execPorRelease straps vio33 s
  | pairLoRead => exact (Answers.execPairLoRead (.refl s)).keepsTime
  | pairLoWrite => exact (Answers.execPairLoWrite (.refl s)).keepsTime
  | pairHiWrite => exact (Answers.execPairHiWrite (.refl s)).keepsTime
  | registerWrite => exact (Answers.execRegisterWrite (.refl s)).keepsTime
  | registerReadClear => exact (Answers.execRegisterReadClear (.refl s)).keepsTime
  | hopBoundary => exact (Answers.execHopBoundary (.refl s)).keepsTime
  | syncOverflowApply => exact (Answers.execSyncOverflowApply (.refl s)).keepsTime
  | refLost => exact (Answers.execRefLost (.refl s)).keepsTime
  | refInitialQualify => exact (Answers.execRefInitialQualify (.refl s)).keepsTime
  | refRequalify => exact (Answers.execRefRequalify (.refl s)).keepsTime
  | refSwitchDone => exact (Answers.execRefSwitchDone (.refl s)).keepsTime
  | xtalLost => exact (Answers.execXtalLost (.refl s)).keepsTime
  | audioPllLock => exact (Answers.execAudioPllLock (.refl s)).keepsTime
  | fastCountHandover => exact (Answers.execFastCountHandover (.refl s)).keepsTime
  | clkAlarm => exact (Answers.execClkAlarm (.refl s)).keepsTime
  | senseSyncPulse => exact (Answers.execSenseSyncPulse (.refl s)).keepsTime
  | wakeHoldEnd => exact (Answers.execWakeHoldEnd (.refl s)).keepsTime
  | lynxIdleGate => exact (Answers.execLynxIdleGate (.refl s)).keepsTime
  | drainDone => exact (Answers.execDrainDone (.refl s)).keepsTime
  | drainTimeout => exact (Answers.execDrainTimeout (.refl s)).keepsTime
  | lynxUngate => exact (Answers.execLynxUngate (.refl s)).keepsTime
  | parkCommit => exact (Answers.execParkCommit (.refl s)).keepsTime
  | wakeDetect => exact (Answers.execWakeDetect (.refl s)).keepsTime
  | wakeComplete => exact (Answers.execWakeComplete (.refl s)).keepsTime
  | thermalSample => exact (Answers.execThermalSample (.refl s)).keepsTime
  | kwsFrame => exact (Answers.execKwsFrame (.refl s)).keepsTime
  | dormouseHitValidWrite => exact (Answers.execDormouseHitValidWrite (.refl s)).keepsTime
  | wakeOutRelease => exact (Answers.execWakeOutRelease (.refl s)).keepsTime
  | resetNPulse => exact (Answers.execResetNPulse (.refl s)).keepsTime
  | coreRstWrite => exact (Answers.execCoreRstWrite (.refl s)).keepsTime
  | sramFillDone => exact (Answers.execSramFillDone (.refl s)).keepsTime
  | bootSourceVerify => exact (Answers.execBootSourceVerify (.refl s)).keepsTime
  | sysDlGo => exact (Answers.execSysDlGo (.refl s)).keepsTime
  | bootReady => exact (Answers.execBootReady (.refl s)).keepsTime
  | watchdogKick => exact (Answers.execWatchdogKick (.refl s)).keepsTime
  | watchdogExpire => exact (Answers.execWatchdogExpire (.refl s)).keepsTime
  | perstNAssert => exact (Answers.execPerstNAssert (.refl s)).keepsTime
  | decOutputStrobe => exact (Answers.execDecOutputStrobe (.refl s)).keepsTime
  | decStuckDetect => exact (Answers.execDecStuckDetect (.refl s)).keepsTime
  | decBlockComplete => exact (Answers.execDecBlockComplete (.refl s)).keepsTime
  | syncInEdge => exact (Answers.execSyncInEdge (.refl s)).keepsTime
  | decSyncGo => exact (Answers.execDecSyncGo (.refl s)).keepsTime
  | decSyncReset => exact (Answers.execDecSyncReset (.refl s)).keepsTime
  | decSwapRequest => exact (Answers.execDecSwapRequest (.refl s)).keepsTime
  | decBankSwap => exact (Answers.execDecBankSwap (.refl s)).keepsTime
  | decSetClocks => exact (Answers.execDecSetClocks (.refl s)).keepsTime
  | decOpenChannel => exact (Answers.execDecOpenChannel (.refl s)).keepsTime
  | decCloseChannel => exact (Answers.execDecCloseChannel (.refl s)).keepsTime
  | decSetBuffer => exact (Answers.execDecSetBuffer (.refl s)).keepsTime
  | decSetDetector => exact (Answers.execDecSetDetector (.refl s)).keepsTime
  | decReadDetectors => exact (Answers.execDecReadDetectors (.refl s)).keepsTime
  | decLoadCoef => exact (Answers.execDecLoadCoef (.refl s)).keepsTime
  | decSwapBank => exact (Answers.execDecSwapBank (.refl s)).keepsTime
  | decSync => exact (Answers.execDecSync (.refl s)).keepsTime
  | decStatus => exact (Answers.execDecStatus (.refl s)).keepsTime
  | tdmSlaveFsEdge => exact (Answers.execTdmSlaveFsEdge (.refl s)).keepsTime
  | tdmFsMissing => exact (Answers.execTdmFsMissing (.refl s)).keepsTime
  | tdmClkLost => exact (Answers.execTdmClkLost (.refl s)).keepsTime
  | txSlotFetch => exact (Answers.execTxSlotFetch (.refl s)).keepsTime
  | rxFrameReceive => exact (Answers.execRxFrameReceive (.refl s)).keepsTime
  | tdmFifoRefill => exact (Answers.execTdmFifoRefill (.refl s)).keepsTime
  | tdmFifoDrain => exact (Answers.execTdmFifoDrain (.refl s)).keepsTime
  | tdmTrigGo => exact (Answers.execTdmTrigGo (.refl s)).keepsTime
  | startInEdge => exact (Answers.execStartInEdge (.refl s)).keepsTime
  | tdmTrigger => exact (Answers.execTdmTrigger (.refl s)).keepsTime
  | tdmGoLive => exact (Answers.execTdmGoLive (.refl s)).keepsTime
  | tdmCtrlStop => exact (Answers.execTdmCtrlStop (.refl s)).keepsTime
  | tdmTailEnd => exact (Answers.execTdmTailEnd (.refl s)).keepsTime
  | tdmSilentChange => exact (Answers.execTdmSilentChange (.refl s)).keepsTime
  | tdmZcTimeout => exact (Answers.execTdmZcTimeout (.refl s)).keepsTime
  | muteNChange => exact (Answers.execMuteNChange (.refl s)).keepsTime
  | tdmConfigClock => exact (Answers.execTdmConfigClock (.refl s)).keepsTime
  | tdmConfigDir => exact (Answers.execTdmConfigDir (.refl s)).keepsTime
  | tdmSetSlots => exact (Answers.execTdmSetSlots (.refl s)).keepsTime
  | tdmSetRing => exact (Answers.execTdmSetRing (.refl s)).keepsTime
  | tdmStart => exact (Answers.execTdmStart (.refl s)).keepsTime
  | tdmStop => exact (Answers.execTdmStop (.refl s)).keepsTime
  | tdmSetMute => exact (Answers.execTdmSetMute (.refl s)).keepsTime
  | tdmStatus => exact (Answers.execTdmStatus (.refl s)).keepsTime
  | asrcTrackUpdate => exact (Answers.execAsrcTrackUpdate (.refl s)).keepsTime
  | asrcOutputSample => exact (Answers.execAsrcOutputSample (.refl s)).keepsTime
  | asrcOutwardRead => exact (Answers.execAsrcOutwardRead (.refl s)).keepsTime
  | spdifFrameReceive => exact (Answers.execSpdifFrameReceive (.refl s)).keepsTime
  | spdifLockLoss => exact (Answers.execSpdifLockLoss (.refl s)).keepsTime
  | guardFrameRelease => exact (Answers.execGuardFrameRelease (.refl s)).keepsTime
  | guardRelease => exact (Answers.execGuardRelease (.refl s)).keepsTime
  | asrcOpen => exact (Answers.execAsrcOpen (.refl s)).keepsTime
  | asrcClose => exact (Answers.execAsrcClose (.refl s)).keepsTime
  | asrcStatus => exact (Answers.execAsrcStatus (.refl s)).keepsTime
  | spdifConfig => exact (Answers.execSpdifConfig (.refl s)).keepsTime
  | spdifStatus => exact (Answers.execSpdifStatus (.refl s)).keepsTime
  | guardConfig => exact (Answers.execGuardConfig (.refl s)).keepsTime
  | gustWordReady => exact (Answers.execGustWordReady (.refl s)).keepsTime
  | gustMonitorWindow => exact (Answers.execGustMonitorWindow (.refl s)).keepsTime
  | gustTripClear => exact (Answers.execGustTripClear (.refl s)).keepsTime
  | gustSwapRequest => exact (Answers.execGustSwapRequest (.refl s)).keepsTime
  | gustBankSwap => exact (Answers.execGustBankSwap (.refl s)).keepsTime
  | gustCopyDone => exact (Answers.execGustCopyDone (.refl s)).keepsTime
  | gustCoefWrite => exact (Answers.execGustCoefWrite (.refl s)).keepsTime
  | gustPathWrite => exact (Answers.execGustPathWrite (.refl s)).keepsTime
  | gustLoadGo => exact (Answers.execGustLoadGo (.refl s)).keepsTime
  | gustLoadDone => exact (Answers.execGustLoadDone (.refl s)).keepsTime
  | gustConfig => exact (Answers.execGustConfig (.refl s)).keepsTime
  | gustSetPaths => exact (Answers.execGustSetPaths (.refl s)).keepsTime
  | gustLoadCoef => exact (Answers.execGustLoadCoef (.refl s)).keepsTime
  | gustSwap => exact (Answers.execGustSwap (.refl s)).keepsTime
  | gustBindMarten => exact (Answers.execGustBindMarten (.refl s)).keepsTime
  | gustSetMonitor => exact (Answers.execGustSetMonitor (.refl s)).keepsTime
  | gustClearTrip => exact (Answers.execGustClearTrip (.refl s)).keepsTime
  | gustSetMute => exact (Answers.execGustSetMute (.refl s)).keepsTime
  | gustStatus => exact (Answers.execGustStatus (.refl s)).keepsTime
  | sportBlockComplete => exact (Answers.execSportBlockComplete (.refl s)).keepsTime
  | spiImuIntEdge => exact (Answers.execSpiImuIntEdge (.refl s)).keepsTime
  | imuReadStart => exact (Answers.execImuReadStart (.refl s)).keepsTime
  | imuReadDone => exact (Answers.execImuReadDone (.refl s)).keepsTime
  | wheelTickEdge => exact (Answers.execWheelTickEdge (.refl s)).keepsTime
  | wheelEdgeAccept => exact (Answers.execWheelEdgeAccept (.refl s)).keepsTime
  | egoFilterStep => exact (Answers.execEgoFilterStep (.refl s)).keepsTime
  | doaPush => exact (Answers.execDoaPush (.refl s)).keepsTime
  | foxPublish => exact (Answers.execFoxPublish (.refl s)).keepsTime
  | foxConfig => exact (Answers.execFoxConfig (.refl s)).keepsTime
  | senseSetSync => exact (Answers.execSenseSetSync (.refl s)).keepsTime
  | senseSetSport => exact (Answers.execSenseSetSport (.refl s)).keepsTime
  | senseSetImu => exact (Answers.execSenseSetImu (.refl s)).keepsTime
  | senseSetWheel => exact (Answers.execSenseSetWheel (.refl s)).keepsTime
  | foxSetEgo => exact (Answers.execFoxSetEgo (.refl s)).keepsTime
  | foxSetXform => exact (Answers.execFoxSetXform (.refl s)).keepsTime
  | foxSetFrames => exact (Answers.execFoxSetFrames (.refl s)).keepsTime
  | foxSetTracker => exact (Answers.execFoxSetTracker (.refl s)).keepsTime
  | foxSensorEn => exact (Answers.execFoxSensorEn (.refl s)).keepsTime
  | foxGrant => exact (Answers.execFoxGrant (.refl s)).keepsTime
  | foxObserve => exact (Answers.execFoxObserve (.refl s)).keepsTime
  | foxMeasure => exact (Answers.execFoxMeasure (.refl s)).keepsTime
  | foxSubscribe => exact (Answers.execFoxSubscribe (.refl s)).keepsTime
  | foxReadTracks => exact (Answers.execFoxReadTracks (.refl s)).keepsTime
  | foxStatus => exact (Answers.execFoxStatus (.refl s)).keepsTime
  | martenTimer => exact (Answers.execMartenTimer (.refl s)).keepsTime
  | martenInterruptAccept => exact (Answers.execMartenInterruptAccept (.refl s)).keepsTime
  | farAccessReturn => exact (Answers.execFarAccessReturn (.refl s)).keepsTime
  | martenDmaGo => exact (Answers.execMartenDmaGo (.refl s)).keepsTime
  | martenDmaEnd => exact (Answers.execMartenDmaEnd (.refl s)).keepsTime
  | martenCtrlRun => exact (Answers.execMartenCtrlRun (.refl s)).keepsTime
  | martenCtrlStop => exact (Answers.execMartenCtrlStop (.refl s)).keepsTime
  | martenSignalRaise => exact (Answers.execMartenSignalRaise (.refl s)).keepsTime
  | martenXcoreRaise => exact (Answers.execMartenXcoreRaise (.refl s)).keepsTime
  | martenOpen => exact (Answers.execMartenOpen (.refl s)).keepsTime
  | martenLoadCode => exact (Answers.execMartenLoadCode (.refl s)).keepsTime
  | martenStart => exact (Answers.execMartenStart (.refl s)).keepsTime
  | martenStop => exact (Answers.execMartenStop (.refl s)).keepsTime
  | martenSignal => exact (Answers.execMartenSignal (.refl s)).keepsTime
  | martenBindEvent => exact (Answers.execMartenBindEvent (.refl s)).keepsTime
  | martenDma => exact (Answers.execMartenDma (.refl s)).keepsTime
  | martenStatus => exact (Answers.execMartenStatus (.refl s)).keepsTime
  | martenClose => exact (Answers.execMartenClose (.refl s)).keepsTime
  | mMpy => exact (Answers.execMMpy (.refl s)).keepsTime
  | mMac => exact (Answers.execMMac (.refl s)).keepsTime
  | mMsu => exact (Answers.execMMsu (.refl s)).keepsTime
  | mMpyi => exact (Answers.execMMpyi (.refl s)).keepsTime
  | mMaci => exact (Answers.execMMaci (.refl s)).keepsTime
  | mMsui => exact (Answers.execMMsui (.refl s)).keepsTime
  | mAdda => exact (Answers.execMAdda (.refl s)).keepsTime
  | mSuba => exact (Answers.execMSuba (.refl s)).keepsTime
  | mClra => exact (Answers.execMClra (.refl s)).keepsTime
  | mMova => exact (Answers.execMMova (.refl s)).keepsTime
  | mAsra => exact (Answers.execMAsra (.refl s)).keepsTime
  | mAsla => exact (Answers.execMAsla (.refl s)).keepsTime
  | mNega => exact (Answers.execMNega (.refl s)).keepsTime
  | mAbsa => exact (Answers.execMAbsa (.refl s)).keepsTime
  | mMovr => exact (Answers.execMMovr (.refl s)).keepsTime
  | mVadd => exact (Answers.execMVadd (.refl s)).keepsTime
  | mVsub => exact (Answers.execMVsub (.refl s)).keepsTime
  | mVmax => exact (Answers.execMVmax (.refl s)).keepsTime
  | mVmin => exact (Answers.execMVmin (.refl s)).keepsTime
  | mVabs => exact (Answers.execMVabs (.refl s)).keepsTime
  | mVneg => exact (Answers.execMVneg (.refl s)).keepsTime
  | mVmov => exact (Answers.execMVmov (.refl s)).keepsTime
  | mVand => exact (Answers.execMVand (.refl s)).keepsTime
  | mVor => exact (Answers.execMVor (.refl s)).keepsTime
  | mVxor => exact (Answers.execMVxor (.refl s)).keepsTime
  | mVmaxi => exact (Answers.execMVmaxi (.refl s)).keepsTime
  | mVmini => exact (Answers.execMVmini (.refl s)).keepsTime
  | mLd => exact (Answers.execMLd (.refl s)).keepsTime
  | mLdb => exact (Answers.execMLdb (.refl s)).keepsTime
  | mSt => exact (Answers.execMSt (.refl s)).keepsTime
  | mSta => exact (Answers.execMSta (.refl s)).keepsTime
  | mUpd => exact (Answers.execMUpd (.refl s)).keepsTime
  | mLda => exact (Answers.execMLda (.refl s)).keepsTime
  | mMovi => exact (Answers.execMMovi (.refl s)).keepsTime
  | mAddi => exact (Answers.execMAddi (.refl s)).keepsTime
  | mCmpi => exact (Answers.execMCmpi (.refl s)).keepsTime
  | mFahi => exact (Answers.execMFahi (.refl s)).keepsTime
  | mMovc => exact (Answers.execMMovc (.refl s)).keepsTime
  | mAdd => exact (Answers.execMAdd (.refl s)).keepsTime
  | mSub => exact (Answers.execMSub (.refl s)).keepsTime
  | mCmp => exact (Answers.execMCmp (.refl s)).keepsTime
  | mAnd => exact (Answers.execMAnd (.refl s)).keepsTime
  | mOr => exact (Answers.execMOr (.refl s)).keepsTime
  | mXor => exact (Answers.execMXor (.refl s)).keepsTime
  | mMvvc => exact (Answers.execMMvvc (.refl s)).keepsTime
  | mMvcv => exact (Answers.execMMvcv (.refl s)).keepsTime
  | mCmpv => exact (Answers.execMCmpv (.refl s)).keepsTime
  | mCmpvi => exact (Answers.execMCmpvi (.refl s)).keepsTime
  | mBra => exact (Answers.execMBra (.refl s)).keepsTime
  | mJsr => exact (Answers.execMJsr (.refl s)).keepsTime
  | mRts => exact (Answers.execMRts (.refl s)).keepsTime
  | mRti => exact (Answers.execMRti (.refl s)).keepsTime
  | mDo => exact (Answers.execMDo (.refl s)).keepsTime
  | mDov => exact (Answers.execMDov (.refl s)).keepsTime
  | mRep => exact (Answers.execMRep (.refl s)).keepsTime
  | mRepc => exact (Answers.execMRepc (.refl s)).keepsTime
  | mLeave => exact (Answers.execMLeave (.refl s)).keepsTime
  | mLdf => exact (Answers.execMLdf (.refl s)).keepsTime
  | mStf => exact (Answers.execMStf (.refl s)).keepsTime
  | mWait => exact (Answers.execMWait (.refl s)).keepsTime
  | mIclr => exact (Answers.execMIclr (.refl s)).keepsTime
  | mSetipl => exact (Answers.execMSetipl (.refl s)).keepsTime
  | mSinit => exact (Answers.execMSinit (.refl s)).keepsTime
  | mSred => exact (Answers.execMSred (.refl s)).keepsTime
  | mBkpt => exact (Answers.execMBkpt (.refl s)).keepsTime
  | lynxJobRelease => exact (Answers.execLynxJobRelease (.refl s)).keepsTime
  | lynxTileBoundary => exact (Answers.execLynxTileBoundary (.refl s)).keepsTime
  | lynxJobComplete => exact (Answers.execLynxJobComplete (.refl s)).keepsTime
  | lynxJobDeadline => exact (Answers.execLynxJobDeadline (.refl s)).keepsTime
  | lynxJobPush => exact (Answers.execLynxJobPush (.refl s)).keepsTime
  | lynxLoadProgram => exact (Answers.execLynxLoadProgram (.refl s)).keepsTime
  | lynxUnload => exact (Answers.execLynxUnload (.refl s)).keepsTime
  | lynxStreamBind => exact (Answers.execLynxStreamBind (.refl s)).keepsTime
  | lynxStreamReset => exact (Answers.execLynxStreamReset (.refl s)).keepsTime
  | lynxStreamBindEvents => exact (Answers.execLynxStreamBindEvents (.refl s)).keepsTime
  | lynxRun => exact (Answers.execLynxRun (.refl s)).keepsTime
  | lynxStatus => exact (Answers.execLynxStatus (.refl s)).keepsTime
  | fogOpAdmit => exact (Answers.execFogOpAdmit (.refl s)).keepsTime
  | fogOpEnd => exact (Answers.execFogOpEnd (.refl s)).keepsTime
  | fogExchangeTimeout => exact (Answers.execFogExchangeTimeout (.refl s)).keepsTime
  | fLoad => exact (Answers.execFLoad (.refl s)).keepsTime
  | fStore => exact (Answers.execFStore (.refl s)).keepsTime
  | fEncenc => exact (Answers.execFEncenc (.refl s)).keepsTime
  | fAdd => exact (Answers.execFAdd (.refl s)).keepsTime
  | fSub => exact (Answers.execFSub (.refl s)).keepsTime
  | fMulp => exact (Answers.execFMulp (.refl s)).keepsTime
  | fMulc => exact (Answers.execFMulc (.refl s)).keepsTime
  | fAddc => exact (Answers.execFAddc (.refl s)).keepsTime
  | fMul => exact (Answers.execFMul (.refl s)).keepsTime
  | fRelin => exact (Answers.execFRelin (.refl s)).keepsTime
  | fRescale => exact (Answers.execFRescale (.refl s)).keepsTime
  | fModsw => exact (Answers.execFModsw (.refl s)).keepsTime
  | fRot => exact (Answers.execFRot (.refl s)).keepsTime
  | fConj => exact (Answers.execFConj (.refl s)).keepsTime
  | fLevel => exact (Answers.execFLevel (.refl s)).keepsTime
  | fPoly => exact (Answers.execFPoly (.refl s)).keepsTime
  | fExchange => exact (Answers.execFExchange (.refl s)).keepsTime
  | fogOpPush => exact (Answers.execFogOpPush (.refl s)).keepsTime
  | fogKsRegisterGo => exact (Answers.execFogKsRegisterGo (.refl s)).keepsTime
  | fogKsReleaseGo => exact (Answers.execFogKsReleaseGo (.refl s)).keepsTime
  | fogRetGo => exact (Answers.execFogRetGo (.refl s)).keepsTime
  | fogKeysetRegister => exact (Answers.execFogKeysetRegister (.refl s)).keepsTime
  | fogKeysetRelease => exact (Answers.execFogKeysetRelease (.refl s)).keepsTime
  | fogExchangeRing => exact (Answers.execFogExchangeRing (.refl s)).keepsTime
  | fogEval => exact (Answers.execFogEval (.refl s)).keepsTime
  | fogExchangeReturn => exact (Answers.execFogExchangeReturn (.refl s)).keepsTime
  | fogStatus => exact (Answers.execFogStatus (.refl s)).keepsTime
  | memcScrub => exact (Answers.execMemcScrub (.refl s)).keepsTime
  | memcTrain => exact (Answers.execMemcTrain (.refl s)).keepsTime
  | memcTrainDone => exact (Answers.execMemcTrainDone (.refl s)).keepsTime
  | memAlloc => exact (Answers.execMemAlloc (.refl s)).keepsTime
  | memHostDeclare => exact (Answers.execMemHostDeclare (.refl s)).keepsTime
  | memShare => exact (Answers.execMemShare (.refl s)).keepsTime
  | memUnshare => exact (Answers.execMemUnshare (.refl s)).keepsTime
  | memFree => exact (Answers.execMemFree (.refl s)).keepsTime
  | memCopy => exact (Answers.execMemCopy (.refl s)).keepsTime
  | memStatus => exact (Answers.execMemStatus (.refl s)).keepsTime
  | mboxInTailWrite => exact (Answers.execMboxInTailWrite (.refl s)).keepsTime
  | mboxOutHeadWrite => exact (Answers.execMboxOutHeadWrite (.refl s)).keepsTime
  | mboxDescriptorTake => exact (Answers.execMboxDescriptorTake (.refl s)).keepsTime
  | noticeWrite => exact (Answers.execNoticeWrite (.refl s)).keepsTime
  | ringSqTailWrite => exact (Answers.execRingSqTailWrite (.refl s)).keepsTime
  | ringCqHeadWrite => exact (Answers.execRingCqHeadWrite (.refl s)).keepsTime
  | ringFetch => exact (Answers.execRingFetch (.refl s)).keepsTime
  | completionWrite => exact (Answers.execCompletionWrite (.refl s)).keepsTime
  | ringCoalTimeout => exact (Answers.execRingCoalTimeout (.refl s)).keepsTime
  | ringIrqPendClear => exact (Answers.execRingIrqPendClear (.refl s)).keepsTime
  | mboxWaitTimeout => exact (Answers.execMboxWaitTimeout (.refl s)).keepsTime
  | sessionOpen => exact (Answers.execSessionOpen (.refl s)).keepsTime
  | sessionClose => exact (Answers.execSessionClose (.refl s)).keepsTime
  | sessionInfo => exact (Answers.execSessionInfo (.refl s)).keepsTime
  | ringCreate => exact (Answers.execRingCreate (.refl s)).keepsTime
  | ringDestroy => exact (Answers.execRingDestroy (.refl s)).keepsTime
  | ringConfig => exact (Answers.execRingConfig (.refl s)).keepsTime
  | ringResume => exact (Answers.execRingResume (.refl s)).keepsTime
  | ringStatus => exact (Answers.execRingStatus (.refl s)).keepsTime
  | streamOpen => exact (Answers.execStreamOpen (.refl s)).keepsTime
  | streamClose => exact (Answers.execStreamClose (.refl s)).keepsTime
  | streamRoute => exact (Answers.execStreamRoute (.refl s)).keepsTime
  | routeGlobalMute => exact (Answers.execRouteGlobalMute (.refl s)).keepsTime
  | streamStatus => exact (Answers.execStreamStatus (.refl s)).keepsTime
  | syncAlloc => exact (Answers.execSyncAlloc (.refl s)).keepsTime
  | syncFree => exact (Answers.execSyncFree (.refl s)).keepsTime
  | syncSignal => exact (Answers.execSyncSignal (.refl s)).keepsTime
  | syncAdd => exact (Answers.execSyncAdd (.refl s)).keepsTime
  | syncRead => exact (Answers.execSyncRead (.refl s)).keepsTime
  | syncBindEvent => exact (Answers.execSyncBindEvent (.refl s)).keepsTime
  | syncUnbindEvent => exact (Answers.execSyncUnbindEvent (.refl s)).keepsTime
  | syncShare => exact (Answers.execSyncShare (.refl s)).keepsTime
  | syncObjSignalWrite => exact (Answers.execSyncObjSignalWrite (.refl s)).keepsTime
  | syncAddDeltaWrite => exact (Answers.execSyncAddDeltaWrite (.refl s)).keepsTime
  | syncOwnFreeWrite => exact (Answers.execSyncOwnFreeWrite (.refl s)).keepsTime
  | twinConfig => exact (Answers.execTwinConfig (.refl s)).keepsTime
  | twinAttach => exact (Answers.execTwinAttach (.refl s)).keepsTime
  | twinDetach => exact (Answers.execTwinDetach (.refl s)).keepsTime
  | twinRoleSwap => exact (Answers.execTwinRoleSwap (.refl s)).keepsTime
  | twinBindEvents => exact (Answers.execTwinBindEvents (.refl s)).keepsTime
  | twinStatus => exact (Answers.execTwinStatus (.refl s)).keepsTime
  | twinCtrlAttach => exact (Answers.execTwinCtrlAttach (.refl s)).keepsTime
  | twinCtrlDetach => exact (Answers.execTwinCtrlDetach (.refl s)).keepsTime
  | twinSwapGo => exact (Answers.execTwinSwapGo (.refl s)).keepsTime
  | clockSetRefs => exact (Answers.execClockSetRefs (.refl s)).keepsTime
  | clockForceRef => exact (Answers.execClockForceRef (.refl s)).keepsTime
  | clockStatus => exact (Answers.execClockStatus (.refl s)).keepsTime
  | clockSetMclk => exact (Answers.execClockSetMclk (.refl s)).keepsTime
  | clockSetAlarm => exact (Answers.execClockSetAlarm (.refl s)).keepsTime
  | powerSetState => exact (Answers.execPowerSetState (.refl s)).keepsTime
  | powerSetClocks => exact (Answers.execPowerSetClocks (.refl s)).keepsTime
  | powerStatus => exact (Answers.execPowerStatus (.refl s)).keepsTime
  | powerSetWake => exact (Answers.execPowerSetWake (.refl s)).keepsTime
  | dormouseLoadModel => exact (Answers.execDormouseLoadModel (.refl s)).keepsTime
  | dormouseSetVocab => exact (Answers.execDormouseSetVocab (.refl s)).keepsTime
  | dormouseConfig => exact (Answers.execDormouseConfig (.refl s)).keepsTime
  | dormouseRead => exact (Answers.execDormouseRead (.refl s)).keepsTime
  | deviceInfo => exact (Answers.execDeviceInfo (.refl s)).keepsTime
  | deviceReset => exact (Answers.execDeviceReset (.refl s)).keepsTime
  | rollbackAdvance => exact (Answers.execRollbackAdvance (.refl s)).keepsTime
  | keyRevoke => exact (Answers.execKeyRevoke (.refl s)).keepsTime
  | imageLoad => exact (Answers.execImageLoad (.refl s)).keepsTime
  | watchdogSet => exact (Answers.execWatchdogSet (.refl s)).keepsTime
  | noticeMask => exact (Answers.execNoticeMask (.refl s)).keepsTime
  | nop => exact (Answers.execNop (.refl s)).keepsTime
  | bar2Access => exact (Answers.execBar2Access (.refl s)).keepsTime
  | xlatWrite => exact (Answers.execXlatWrite (.refl s)).keepsTime
  | pciePowerStateChange => exact (Answers.execPciePowerStateChange (.refl s)).keepsTime
  | msixUnmask => exact (Answers.execMsixUnmask (.refl s)).keepsTime
  | hostReadCompletion => exact (Answers.execHostReadCompletion (.refl s)).keepsTime
  | completionTimeout => exact (Answers.execCompletionTimeout (.refl s)).keepsTime
  | functionLevelReset => exact (Answers.execFunctionLevelReset (.refl s)).keepsTime
  | linkDown => exact (Answers.execLinkDown (.refl s)).keepsTime
  | hotReset => exact (Answers.execHotReset (.refl s)).keepsTime
  | portReady => exact (Answers.execPortReady (.refl s)).keepsTime
  | regRead => exact (Answers.execRegRead (.refl s)).keepsTime
  | regWrite => exact (Answers.execRegWrite (.refl s)).keepsTime
  | memRead => exact (Answers.execMemRead (.refl s)).keepsTime
  | memWrite => exact (Answers.execMemWrite (.refl s)).keepsTime
  | status => exact (Answers.execStatus (.refl s)).keepsTime
  | resetEn => exact (Answers.execResetEn (.refl s)).keepsTime
  | reset => exact (Answers.execReset (.refl s)).keepsTime
  | directModeOpen => exact (Answers.execDirectModeOpen (.refl s)).keepsTime
  | directModeClose => exact (Answers.execDirectModeClose (.refl s)).keepsTime
  | twinBeatSend => exact (Answers.execTwinBeatSend (.refl s)).keepsTime
  | twinLiveToggle => exact (Answers.execTwinLiveToggle (.refl s)).keepsTime
  | twinBeatReceive => exact (Answers.execTwinBeatReceive (.refl s)).keepsTime
  | twinBeatJudge => exact (Answers.execTwinBeatJudge (.refl s)).keepsTime
  | twinFrameReceive => exact (Answers.execTwinFrameReceive (.refl s)).keepsTime
  | linkFault => exact (Answers.execLinkFault (.refl s)).keepsTime
  | mirror => exact (Answers.execMirror (.refl s)).keepsTime
  | finish => exact (Answers.execFinish (.refl s)).keepsTime
  | digest => exact (Answers.execDigest (.refl s)).keepsTime
  | snapshot => exact (Answers.execSnapshot (.refl s)).keepsTime
  | control => exact (Answers.execControl (.refl s)).keepsTime
  | twinDigestSend => exact (Answers.execTwinDigestSend (.refl s)).keepsTime
  | ackTimeout => exact (Answers.execAckTimeout (.refl s)).keepsTime
  | journalCommand => exact (Answers.execJournalCommand (.refl s)).keepsTime
  | journalStart => exact (Answers.execJournalStart (.refl s)).keepsTime
  | journalIndex => exact (Answers.execJournalIndex (.refl s)).keepsTime
  | journalHostWrite => exact (Answers.execJournalHostWrite (.refl s)).keepsTime
  | journalHostRead => exact (Answers.execJournalHostRead (.refl s)).keepsTime
  | journalPortEvent => exact (Answers.execJournalPortEvent (.refl s)).keepsTime
  | journalRandom => exact (Answers.execJournalRandom (.refl s)).keepsTime
  | journalSwap => exact (Answers.execJournalSwap (.refl s)).keepsTime
  | roleSwapExecute => exact (Answers.execRoleSwapExecute (.refl s)).keepsTime
  | takeover => exact (Answers.execTakeover (.refl s)).keepsTime
  | twinSyncEdge => exact (Answers.execTwinSyncEdge (.refl s)).keepsTime
  | twinSyncRelease => exact (Answers.execTwinSyncRelease (.refl s)).keepsTime
  | pairingDone => exact (Answers.execPairingDone (.refl s)).keepsTime
  | catchupSnapshot => exact (Answers.execCatchupSnapshot (.refl s)).keepsTime
  | catchupJoin => exact (Answers.execCatchupJoin (.refl s)).keepsTime
  | catchupTimeout => exact (Answers.execCatchupTimeout (.refl s)).keepsTime
  | lineReset => exact (Answers.execLineReset (.refl s)).keepsTime
  | read => exact (Answers.execRead (.refl s)).keepsTime
  | write => exact (Answers.execWrite (.refl s)).keepsTime
  | rdbuf => exact (Answers.execRdbuf (.refl s)).keepsTime
  | debugStatus => exact (Answers.execDebugStatus (.refl s)).keepsTime
  | abort => exact (Answers.execAbort (.refl s)).keepsTime
  | dbgAccessDone => exact (Answers.execDbgAccessDone (.refl s)).keepsTime
  | dbgChallengeNew => exact (Answers.execDbgChallengeNew (.refl s)).keepsTime
  | dbgUnlockGo => exact (Answers.execDbgUnlockGo (.refl s)).keepsTime
  | dbgTokenVerifyDone => exact (Answers.execDbgTokenVerifyDone (.refl s)).keepsTime
  | dbgRelock => exact (Answers.execDbgRelock (.refl s)).keepsTime
  | dbgHalt => exact (Answers.execDbgHalt (.refl s)).keepsTime
  | dbgHaltComplete => exact (Answers.execDbgHaltComplete (.refl s)).keepsTime
  | dbgResume => exact (Answers.execDbgResume (.refl s)).keepsTime
  | dbgStep => exact (Answers.execDbgStep (.refl s)).keepsTime
  | dbgRegdataAccess => exact (Answers.execDbgRegdataAccess (.refl s)).keepsTime
  | trstNAssert => exact (Answers.execTrstNAssert (.refl s)).keepsTime
  | tapExtest => exact (Answers.execTapExtest (.refl s)).keepsTime
  | tapIdcode => exact (Answers.execTapIdcode (.refl s)).keepsTime
  | tapSamplePreload => exact (Answers.execTapSamplePreload (.refl s)).keepsTime
  | tapClamp => exact (Answers.execTapClamp (.refl s)).keepsTime
  | tapHighz => exact (Answers.execTapHighz (.refl s)).keepsTime
  | tapMbist => exact (Answers.execTapMbist (.refl s)).keepsTime
  | tapBypass => exact (Answers.execTapBypass (.refl s)).keepsTime
  | vddLynxCheck => exact (Answers.execVddLynxCheck (.refl s)).keepsTime
  | requalificationRestart => exact (Answers.execRequalificationRestart (.refl s)).keepsTime
  | deviceResetDelayEnd => exact (Answers.execDeviceResetDelayEnd (.refl s)).keepsTime
  | memCopyEnd => exact (Answers.execMemCopyEnd (.refl s)).keepsTime
  | systemPllLock => exact (Answers.execSystemPllLock (.refl s)).keepsTime
  | detachRecordApply => exact (Answers.execDetachRecordApply (.refl s)).keepsTime

theorem time_execPorAssert (h : execPorAssert s = .next t) : t.clk.time = 0 := by
  unfold execPorAssert at h
  injection h with h
  subst h
  unfold setLimit
  split <;> simp [showMuteN, showOtp, State.reset, Clk.reset]

theorem time_exec_clearsTime {c : Instr} (hc : clearsTime c = true) (h : exec c s = .next t) : t.clk.time = 0 := by
  cases c with
  | porAssert | aonBrownout => exact time_execPorAssert h
  | _ => cases hc

theorem twinTimeAdopt_time {x : Nat} (h : execTwinTimeAdopt x s = .next t) (ht : t.clk.time ≠ s.clk.time) :
    s.getF TWIN_STAT_STATE = 1 ∧ s.getF TWIN_STAT_ROLE = 2 ∧ s.twin.adopted = false ∧ t.twin.adopted = true
      ∧ t.clk.time = x % 2 ^ 64 := by
  unfold execTwinTimeAdopt at h
  split at h
  · rename_i hg
    obtain ⟨hs, hr, -, ha, -⟩ := hg
    injection h with h
    subst h
    exact ⟨hs, hr, by simpa using ha, rfl, rfl⟩
  · injection h with h
    exact absurd (h ▸ rfl) ht

theorem time_lt_countTime (s : State) : s.clk.time < (countTime s).clk.time := by
  unfold countTime
  dsimp only
  split <;> omega

theorem time_lt_tick (hp : s.pins.porN = true) : s.clk.time < (tick s).clk.time := by
  have h₁ : Keeps s (clkEndTick s) := (Keeps.refl s).clkEndTick
  have h₂ {u : State} : Keeps u (settleAll (settleCores (twinTick (rateTick (gustTick (tdmTick (decTick (clkTick
      (pwrTick (freshCycle (tagWait u))))))))))) :=
    (Keeps.refl u).tagWait.freshCycle.pwrTick.clkTick.decTick.tdmTick.gustTick.rateTick.twinTick.settleCores.settleAll
  unfold tick
  rw [hp]
  calc s.clk.time = (clkEndTick s).clk.time := h₁.time.symm
    _ < (countTime (clkEndTick s)).clk.time := time_lt_countTime _
    _ = _ := h₂.time.symm

/-- Settles O6: every meaning but those of POR_N and of the adoption keeps device time (`keepsTime_exec`), the
adoption's guard holds what the third clause says, and one edge of the counting clock adds at least one tick
(`time_lt_tick`). -/
theorem deviceTimeIsNeverWritten : Obligations.DeviceTimeIsNeverWritten := by
  refine ⟨fun c s t hc h => time_exec_clearsTime hc h, fun c s t hc ha h => ?_,
    fun x s t h ht => twinTimeAdopt_time h ht, fun s t hq hp h => ?_⟩
  · obtain ⟨u, e, hu⟩ := keepsTime_exec hc ha s
    cases e.symm.trans h
    exact hu
  · rw [step, hq] at h
    cases h
    exact time_lt_tick hp

end Sys2Proof.Machine
end

section
/-! PROOFS. The beats of the twin link (R538 to R540, R550). A twin that leaves SOLO raises TWIN_ROLE, whose event also reaches
the objects of bindings removed in the cycle. Nothing bounds the numbers a state lists there, and past the part's 4,096 objects
(R482) a number can stand for the addresses of the TWIN block. -/

namespace Sys2Proof.Machine

open Sys2Proof.Claims
variable {s t u : State} {p : Nat → Prop}

/-! ### What leaves the twin's state alone -/

/-- The registers that `p` names, the twin's own state and the bindings removed in the cycle are as before. -/
structure KeepsTwin (p : Nat → Prop) (s t : State) : Prop where
  reg : ∀ a, p a → t.reg a = s.reg a
  twin : t.twin = s.twin
  gone : t.cyc.gone = s.cyc.gone

/-- A register of the TWIN block, [0x2011_0000, 0x2012_0000). -/
abbrev inTwinBlock (a : Nat) : Prop := a / 65536 = 0x2011

theorem KeepsTwin.refl (s : State) : KeepsTwin p s s := ⟨fun _ _ => rfl, rfl, rfl⟩

theorem KeepsTwin.trans (h : KeepsTwin p s t) (k : KeepsTwin p t u) : KeepsTwin p s u :=
  ⟨fun a ha => (k.reg a ha).trans (h.reg a ha), k.twin.trans h.twin, k.gone.trans h.gone⟩

theorem KeepsTwin.getF (h : KeepsTwin p s t) {f : Fld} (hf : p f.addr) : t.getF f = s.getF f := by
  rw [State.getF, h.reg _ hf, State.getF]

/-- A fold whose steps, each for an element of the list, keep it. -/
theorem KeepsTwin.foldl {α : Type} {f : State → α → State} {l : List α} (h : KeepsTwin p s t)
    (k : ∀ a ∈ l, ∀ v, KeepsTwin p v (f v a)) : KeepsTwin p s (l.foldl f t) :=
  l.foldlRecOn f h fun v hv a ha => hv.trans (k a ha v)

theorem KeepsTwin.forN {n : Nat} {f : Nat → State → State} (h : KeepsTwin p s t)
    (k : ∀ i < n, ∀ v, KeepsTwin p v (f i v)) : KeepsTwin p s (forN n f t) :=
  .foldl h fun i hi => k i (List.mem_range.mp hi)

theorem KeepsTwin.ite {c : Prop} [Decidable c] {v : State} (h : KeepsTwin p s u) (k : KeepsTwin p s v) :
    KeepsTwin p s (if c then u else v) := by
  split <;> assumption

theorem keepsTwin_setReg {b : Nat} (hb : ¬ p b) (v : Word) (s : State) : KeepsTwin p s (s.setReg b v) :=
  ⟨fun _ ha => State.reg_setReg_ne s (by rintro rfl; exact hb ha) v, rfl, rfl⟩

theorem keepsTwin_setF {f : Fld} (hf : ¬ p f.addr) (v : Nat) (s : State) : KeepsTwin p s (s.setF f v) :=
  keepsTwin_setReg hf _ s

theorem keepsTwin_set64 {b : Nat} (hb : ¬ p b) (hb' : ¬ p (b + 4)) (v : Nat) (s : State) :
    KeepsTwin p s (s.set64 b v) :=
  (keepsTwin_setReg hb _ s).trans (keepsTwin_setReg hb' _ _)

theorem keepsTwin_note (a : Nat) (s : State) : KeepsTwin p s (s.note a) :=
  ⟨fun _ _ => State.reg_note s a _, State.note_twin s a, by unfold State.note; split <;> rfl⟩

theorem keepsTwin_mark (a m : Nat) (s : State) : KeepsTwin p s (s.mark a m) := ⟨fun _ _ => rfl, rfl, rfl⟩

theorem keepsTwin_hitF {f : Fld} (hf : ¬ p f.addr) (v : Nat) (s : State) : KeepsTwin p s (s.hitF f v) :=
  ((keepsTwin_note _ s).trans (keepsTwin_mark _ _ _)).trans (keepsTwin_setF hf _ _)

theorem keepsTwin_hitB {f : Fld} (hf : ¬ p f.addr) (i : Nat) (s : State) : KeepsTwin p s (s.hitB f i) :=
  ((keepsTwin_note _ s).trans (keepsTwin_mark _ _ _)).trans (keepsTwin_setF hf _ _)

theorem keepsTwin_incF {f : Fld} (hf : ¬ p f.addr) (n : Nat) (s : State) : KeepsTwin p s (s.incF f n) :=
  (keepsTwin_note _ s).trans (keepsTwin_setF hf _ _)

/-- What an acknowledgement makes of the records that await one. -/
def acknowledge (q : Nat → Bool) (s : State) : State :=
  { s with twin := { s.twin with unacked := s.twin.unacked.filter (fun e => !q e.2.2) } }

/-- A register other than the SQ_HEAD of a ring, which stands at offset 0x1C of its page. -/
abbrev noHead (a : Nat) : Prop := a % 0x400 ≠ 0x1C

theorem not_noHead_head (r : Nat) : ¬ noHead (RING_SQ_HEAD_HEAD r).addr := by
  simp only [noHead, RING_SQ_HEAD_HEAD, RING_SQ_HEAD]
  omega

theorem keepsTwin_passHeads (q : Nat → Bool) (s : State) : KeepsTwin noHead (acknowledge q s) (passHeads q s) :=
  .foldl (.refl _) fun e _ v => keepsTwin_setF (not_noHead_head e.1) _ v

/-! ### An event reaches no register of the TWIN block through objects of the part -/

theorem keepsTwin_setPort {n : Nat} (hn : n < 10) (x : PortSt) (s : State) : KeepsTwin inTwinBlock s (s.setPort n x) := by
  have hStat : ¬ inTwinBlock (MBOX_STAT n) := by simp only [inTwinBlock, MBOX_STAT]; omega
  have hQueue : KeepsTwin inTwinBlock s
    { s with denrek := { s.denrek with ports := tabPut PortSt.reset n x s.denrek.ports } } := ⟨fun _ _ => rfl, rfl, rfl⟩
  exact hQueue.trans (keepsTwin_setF (f := MBOX_STAT_NOTICES n) hStat _ _)

theorem keepsTwin_notice (code detail : Nat) (s : State) : KeepsTwin inTwinBlock s (s.notice code detail) :=
  .forN (.refl s) fun _ hn v => .ite (keepsTwin_setPort hn _ v) (.refl v)

theorem KeepsTwin.withFaultPin {f : State → State} (h : KeepsTwin inTwinBlock s (f s)) :
    KeepsTwin inTwinBlock s (withFaultPin f s) :=
  .ite (h.trans (keepsTwin_notice _ _ _)) h

theorem keepsTwin_syncPut {i : Nat} (hi : i < 4096) (e : SyncCyc) (s : State) :
    KeepsTwin inTwinBlock s (syncPut i e s) := by
  have hLo : ¬ inTwinBlock (SYNC_OBJ_LO i) := by simp only [inTwinBlock, SYNC_OBJ_LO]; omega
  have hHi : ¬ inTwinBlock (SYNC_OBJ_LO i + 4) := by simp only [inTwinBlock, SYNC_OBJ_LO]; omega
  unfold syncPut when
  extract_lets sum _ s₁ s₂
  have h₁ : KeepsTwin inTwinBlock s s₁ := ⟨fun _ _ => rfl, rfl, rfl⟩
  have h₂ : KeepsTwin inTwinBlock s s₂ := h₁.trans (keepsTwin_set64 hLo hHi _ _)
  exact .ite (h₂.trans ((keepsTwin_hitF (by decide) 1 _).trans (.withFaultPin (keepsTwin_hitF (by decide) 1 _)))) h₂

theorem keepsTwin_raiseSource {n : Nat} (hn : n < 4) (k : Nat) (s : State) :
    KeepsTwin inTwinBlock s (raiseSource n k s) := by
  have hOvr : ¬ inTwinBlock (MARTEN_PERF_HOP_OVR n) := by simp only [inTwinBlock, MARTEN_PERF_HOP_OVR]; omega
  have hCore (c : Core) : KeepsTwin inTwinBlock s (s.setCore n c) := ⟨fun _ _ => rfl, rfl, rfl⟩
  exact .ite ((hCore _).trans ((keepsTwin_hitB (by decide) n _).trans (keepsTwin_incF hOvr 1 _))) (hCore _)

/-- Every binding removed in this cycle was one to an object of the part (R482). -/
def removedObjectsExist (s : State) : Prop := ∀ e ∈ s.cyc.gone, e.2 < 4096

/-- What lists removed bindings takes their objects from 12-bit fields. -/
theorem removedObjectsExist_unbindWhere (h : removedObjectsExist s) (q : Nat × Nat × Nat → Bool) :
    removedObjectsExist (unbindWhere q s) := by
  unfold unbindWhere
  extract_lets off gone
  intro e he
  rw [(KeepsTwin.foldl (p := fun _ => False) (.refl _) fun b _ v => keepsTwin_setReg id 0 v).gone] at he
  rcases List.mem_append.mp he with he | he
  · exact h e he
  · obtain ⟨b, -, rfl⟩ := List.mem_map.mp he
    exact Nat.mod_lt _ (by simp [SYNC_BIND_OBJ])

theorem object_of_bindings_lt {b : Nat × Nat × Nat} (hb : b ∈ bindings s) : b.2.2 < 4096 := by
  obtain ⟨e, -, he⟩ := List.mem_filterMap.mp hb
  split at he
  · cases he
    exact Nat.mod_lt _ (by decide)
  · cases he

theorem keepsTwin_event (h : removedObjectsExist s) (ev : Nat) : KeepsTwin inTwinBlock s (s.event ev) := by
  unfold State.event
  split
  · exact .refl s
  · extract_lets objs gone s₁
    have hObjs : ∀ i ∈ objs ++ gone, i < 4096 := by
      intro i hi
      rcases List.mem_append.mp hi with hi | hi
      · obtain ⟨b, hb, he⟩ := List.mem_filterMap.mp hi
        split at he
        · cases he
          exact object_of_bindings_lt hb
        · cases he
      · obtain ⟨b, hb, he⟩ := List.mem_filterMap.mp hi
        split at he
        · cases he
          exact h b hb
        · cases he
    have h₁ : KeepsTwin inTwinBlock s s₁ := .foldl (.refl s) fun i hi v => keepsTwin_syncPut (hObjs i hi) _ v
    exact .forN h₁ fun n hn v => .forN (.refl v) fun k _ w => .ite (keepsTwin_raiseSource hn k w) (.refl w)

theorem keepsTwin_lowerPorts (s : State) : KeepsTwin inTwinBlock s (lowerPorts s) :=
  .forN (.refl s) fun n hn v =>
    .ite (keepsTwin_setF (by simp only [inTwinBlock, MBOX_STAT_READY, MBOX_STAT]; omega) 0 v) (.refl v)

/-! ### Bits below a stored field -/

/-- Bits below the field stored are as they were. -/
theorem Fld.insert_mod {f : Fld} (h32 : f.lo < 32) (w : Word) (v : Nat) :
    (f.insert w v).toNat % 2 ^ f.lo = w.toNat % 2 ^ f.lo := by
  obtain ⟨a, hi, lo⟩ := f
  simp only [Fld.insert, bitsOf, BitVec.toNat_ofNat] at *
  rw [Nat.mod_mod_of_dvd _ (Nat.pow_dvd_pow 2 (Nat.le_of_lt h32)), Nat.add_mul_mod_self_right]
  generalize w.toNat = x
  rw [Nat.mul_comm]
  exact Nat.sub_mul_mod (Nat.le_trans (Nat.mul_le_mul_left _ (Nat.mod_le _ _)) (Nat.mul_div_le _ _))

/-- A field below the one stored reads as before. -/
theorem Fld.of_insert_below {f g : Fld} (hg : g.lo ≤ g.hi) (hf : g.hi < f.lo) (h32 : f.lo < 32) (w : Word) (v : Nat) :
    g.of (f.insert w v) = g.of w := by
  have hOf (x : Nat) : bitsOf x g.lo (g.hi - g.lo + 1) = x % 2 ^ f.lo % 2 ^ (g.lo + (g.hi - g.lo + 1)) / 2 ^ g.lo := by
    rw [Nat.mod_mod_of_dvd _ (Nat.pow_dvd_pow 2 (by omega)), Nat.pow_add, Nat.mod_mul_right_div_self, bitsOf]
  rw [Fld.of, hOf, Fld.insert_mod h32, ← hOf, Fld.of]

/-! ### A change of state or role -/

/-- The state and the role as the change stores them, with TWIN_ROLE raised. -/
theorem twinState_setTwin {st role : Nat} (h : removedObjectsExist s) (hst : st < 8) :
    twinState (setTwin st role s) = st ∧ (setTwin st role s).twin = s.twin := by
  unfold setTwin
  split
  · rename_i hSame
    exact ⟨hSame.1, rfl⟩
  · extract_lets was s₁ s₂ s₃
    have hStored : twinState s₁ = st := by
      rw [twinState, State.getF, show TWIN_STAT_STATE.addr = TWIN_STAT_ROLE.addr from rfl, State.reg_setF_self,
        Fld.of_insert_below (by decide) (by decide) (by decide)]
      exact (State.getF_setF_self s TWIN_STAT_STATE (by decide) (by decide) st).trans (Nat.mod_eq_of_lt hst)
    have hHit : KeepsTwin (· = TWIN_STAT) s₁ (s₁.hitF TWIN_EVT_ROLE 1) := keepsTwin_hitF (by decide) 1 s₁
    have hEvent : KeepsTwin inTwinBlock (s₁.hitF TWIN_EVT_ROLE 1) s₂ :=
      (keepsTwin_event (fun e he => h e (hHit.gone ▸ he)) 0x220).trans (keepsTwin_notice 7 _ _)
    have hPorts : KeepsTwin inTwinBlock s₂ (lowerPorts s₃) :=
      (KeepsTwin.ite (keepsTwin_setF (by decide) 1 s₂) (.refl s₂)).trans (keepsTwin_lowerPorts s₃)
    have hRest := hEvent.trans hPorts
    refine ⟨?_, hRest.twin.trans hHit.twin⟩
    rw [twinState, hRest.getF rfl, hHit.getF rfl]
    exact hStored

/-! ### A beat in SOLO -/

/-- What a beat slot with a valid CRC leaves of itself (R540). -/
def heardBeat (b role st ack : Nat) (s : State) : State :=
  { s with twin := { s.twin with beat := some (b / 128, role, st), beatAt := s.now, ack := ack } }

/-- In SOLO with AUTO and a preference a beat starts pairing (R550). -/
theorem exec_twinBeatReceive_of_solo (b role st ack fl : Nat) (hSolo : twinState s = 0)
    (hAuto : s.isSet TWIN_CFG_AUTO = true) (hPref : twinPref s ≠ 0) :
    exec (.twinBeatReceive b role st ack fl) s
      = .next (enterPairing (passHeads (fseqPast ack) (heardBeat b role st ack s))) := by
  have hKept := keepsTwin_passHeads (fseqPast ack) (heardBeat b role st ack s)
  have hState : twinState (passHeads (fseqPast ack) (heardBeat b role st ack s)) = 0 :=
    (hKept.getF (f := TWIN_STAT_STATE) (by decide)).trans hSolo
  have hAuto' : (passHeads (fseqPast ack) (heardBeat b role st ack s)).isSet TWIN_CFG_AUTO = true := by
    rw [State.isSet, hKept.getF (by decide)]
    exact hAuto
  have hPref' : twinPref (passHeads (fseqPast ack) (heardBeat b role st ack s)) ≠ 0 := by
    rw [twinPref, hKept.getF (by decide)]
    exact hPref
  exact if_pos ⟨hState, hAuto', hPref'⟩

/-- Pairing begins where every binding removed in the cycle was one to an object of the part. -/
theorem twinState_enterPairing (h : removedObjectsExist s) :
    twinState (enterPairing s) = 1 ∧ (enterPairing s).twin.beat = s.twin.beat
      ∧ (enterPairing s).twin.beatAt = s.twin.beatAt ∧ (enterPairing s).twin.ack = s.twin.ack := by
  unfold enterPairing
  extract_lets _ s₁
  obtain ⟨hState, hTwin⟩ := twinState_setTwin (s := pullSync (s₁.setF TWIN_CTRL_ATTACH 1)) (st := 1) (role := 0) h (by decide)
  rw [show twPAIRING = 1 from rfl, hTwin]
  exact ⟨hState, rfl, rfl, rfl⟩

/-- R540, R550: what O54 says of a beat that reaches SOLO holds where every binding removed in the cycle was one to an object
of the part. -/
theorem runs_twinBeatReceive_of_solo (b role st ack fl : Nat) (h : removedObjectsExist s) (hSolo : twinState s = 0)
    (hAuto : s.isSet TWIN_CFG_AUTO = true) (hPref : twinPref s ≠ 0) :
    Runs (.twinBeatReceive b role st ack fl) s fun t => t.twin.beat = some (b / 128, role, st) ∧ t.twin.beatAt = s.now
      ∧ t.twin.ack = ack ∧ twinState t = 1 := by
  have hKept := keepsTwin_passHeads (fseqPast ack) (heardBeat b role st ack s)
  obtain ⟨hState, hBeat, hAt, hAck⟩ := twinState_enterPairing (s := passHeads (fseqPast ack) (heardBeat b role st ack s))
    (fun e he => h e (hKept.gone ▸ he))
  rw [hKept.twin] at hBeat hAt hAck
  exact ⟨_, exec_twinBeatReceive_of_solo b role st ack fl hSolo hAuto hPref, hBeat, hAt, hAck, hState⟩

/-! ### The refutation -/

/-- A twin in SOLO with AUTO 1 and PREF 1. This cycle removed a binding of TWIN_ROLE to object 0x18000: its value, 0 at the end
of the cycle before, stands for the addresses of TWIN_CFG and TWIN_STAT, and 0x200B_8000 for that of its owner word. -/
def soloWithStrayBinding : State :=
  let s := ((State.reset.setF TWIN_CFG_PREF 1).setF TWIN_CFG_AUTO 1).setF (SYNC_OWN_VALID 0x18000) 1
  { s with cyc := { s.cyc with gone := [(0x220, 0x18000)] }
           denrek := { s.denrek with syncIn := [(0x18000, some ⟨0, [], 0⟩)] } }

/-- TWIN_ROLE increments the stray object, whose high half takes the place of TWIN_STAT. -/
theorem twinState_enterPairing_soloWithStrayBinding :
    twinState (enterPairing (passHeads (fseqPast 0) (heardBeat 128 2 1 0 soloWithStrayBinding))) = 0 := by
  decide +kernel

/-- Refutes O54: the clause of a beat that reaches SOLO bounds no object number among the bindings removed in the cycle, and
TWIN_ROLE at a number past 4,095 can store its value over TWIN_STAT, so the twin stays in SOLO. With such numbers excluded
the clause holds (`runs_twinBeatReceive_of_solo`). -/
theorem not_twinLink : ¬ Obligations.TwinLink := by
  rintro ⟨-, -, -, -, hBeat, -⟩
  have hSolo : twinState soloWithStrayBinding = 0 := by decide +kernel
  have hAuto : soloWithStrayBinding.isSet TWIN_CFG_AUTO = true := by decide +kernel
  have hPref : twinPref soloWithStrayBinding ≠ 0 := by decide +kernel
  obtain ⟨t, ht, -, -, -, hPairing⟩ := hBeat 128 2 1 0 0 soloWithStrayBinding hSolo hAuto hPref
  rw [exec_twinBeatReceive_of_solo 128 2 1 0 0 hSolo hAuto hPref] at ht
  injection ht with ht
  rw [← ht, twinState_enterPairing_soloWithStrayBinding] at hPairing
  exact absurd hPairing (by decide)

end Sys2Proof.Machine
end
